-- ==== Sys2Proof/Word.lean ====
section
/-!
DEFINITION. The word types of the FRV4880: registers hold 16 data bits (R64), memories are byte addressed (R83).
-/

namespace Sys2Proof

/-- The data half of a register (R64). -/
abbrev Word := BitVec 16

/-- A byte of a memory window (R83). -/
abbrev Byte := BitVec 8

end Sys2Proof
end

