-- ==== Sys2Proof/Syntax.lean ====
section
/-!
DEFINITION. The commands and events of the FRV4880: one constructor of `Instr` for each row of spec/opcode_table.json, in the
table's order. The table gives no operands; each constructor carries what its rule says the step is about: the instance,
the words of a frame, the accessor of a write, or what the hardware measured when the event came about.
-/

namespace Sys2Proof

/-- The two ports that issue frames and commands: port 44 and port 45. -/
inductive Port where
  | host | side
  deriving DecidableEq, Repr

/-- The four accessors of the register space (R72). -/
inductive Accessor where
  | host | side | control | gauge
  deriving DecidableEq, Repr

/-- The two cores (R30). -/
inductive Core where
  | control | gauge
  deriving DecidableEq, Repr

/-- The instances with BUF fields (R74, R76). -/
inductive Instance where
  | rail (k : Fin 8) | iso (n : Fin 12) | fe | seq | gauge | tel | mon | flt | sb
  deriving DecidableEq, Repr

/-- The two herd ports, 46 and 47. -/
inductive HerdPort where
  | a | b
  deriving DecidableEq, Repr

/-- A phase that ramps out: a point-of-load phase (R134) or phase 1 of the front end (R169). -/
inductive PhaseRef where
  | pol (n : Fin 16) | fe
  deriving DecidableEq, Repr

/-- The ISW opening causes of R173, in its table's order. -/
inductive IswCause where
  | overVoltage | underVoltage | reverseCurrent | reversePolarity
  deriving DecidableEq, Repr

/-- What made VBUS lost (R184): an ISW opening, or a qualified VBUS outside its window for t_loss. -/
inductive LossCause where
  | opening (c : IswCause) | window
  deriving DecidableEq, Repr

/-- The charger safety causes of R203 that no other row raises. -/
inductive ChgCause where
  | ov | ot | packUv
  deriving DecidableEq, Repr

/-- Wake sources of R97 that WAKE_EVENT covers; the timer is a row of its own. -/
inductive WakeSource where
  | wake | enRun | vbus | sideband | iswOpen (c : IswCause) | gaugeCharge
  deriving DecidableEq, Repr

/-- What the three-margin boot read finds (R407, R408), and what the ROM's first work finds (R63, R448): the physical
words (0-1023) whose three decodes differ or are uncorrectable, how many decodes of valid words were corrected, whether
both balls of each herd port read low, and the failing SRAM rows as (bank, row). -/
structure FuseRead where
  bad : List Nat
  corrected : Nat
  herdALow : Bool
  herdBLow : Bool
  sram : List (Nat × Nat)
  deriving DecidableEq, Repr

/-- One 1 ms clock-measurement window (R39): the deviation of SYS, GAUGE, PWM0, PWM1, FE, ADC and the 64 MHz RC in 10 ppm, and whether
each PLL of SYS, GAUGE, PWM0, PWM1, FE is locked; what stands there for a domain that does not run counts for nothing. -/
structure ClkWindow where
  dev : List Int
  lock : List Bool
  deriving DecidableEq, Repr

/-- Conditions that stand at the end of a scan round and that no channel of R302 carries: rails that skip pulses (R113), rails
and front-end phases whose pulses the peak limit still ends (R144, R168), LDOs in dropout or at their limit (R253, R254), ISO
channels whose pulses ipk ends (R245). -/
structure RoundBits where
  pulseSkip : BitVec 8
  railLim : BitVec 8
  feLim : BitVec 2
  dropout : BitVec 6
  ldoLim : BitVec 6
  isoLim : BitVec 12
  deriving DecidableEq, Repr

/-- One scan round (R302): the 128 channel values in the units of R302 as 16-bit words, the hardware peak readings of the
16 phases (25 mA), the readings of the four sensors of each power-stage die in 0.25 C (R148), and the conditions above. -/
structure ScanRound where
  chan : List Word
  ipk : List Nat
  sensors : List (List Int)
  bits : RoundBits
  deriving DecidableEq, Repr

/-- How a side-band transaction ended (R382, R379, R385): its write part complete at a STOP or repeated START; its write part
ended with too few bytes; its PEC byte mismatched; a second target answered the read part, and this device lost a 1 there. -/
inductive SbEnd where
  | complete | short | badPec | collide
  deriving DecidableEq, Repr

/-- The head of a side-band transaction: the PEC flag of the command byte, how the write part ended, and how many bytes of
the read part the controller clocked. -/
structure SbHead where
  pec : Bool
  ending : SbEnd
  clocked : Nat
  deriving DecidableEq, Repr

/-- A tine that a phase test measured (R441): its number, the on-resistance in 0.01 of its birth value (the worse switch) and
the gate leakage in 10 nA. -/
structure TineReading where
  tine : Nat
  rOn : Nat
  leak : Nat
  deriving DecidableEq, Repr

/-- What a plan run measures (R452, R455): whether R446 started it; the slowdown of the rings in 0.01% (four power-stage dies,
controller), the median trio drift in ppm, the share of RUN time each power-stage die spent hot in 0.1%, for each rail the thermal
slope in percent of its birth slope and the rail's 24 h peak current in A. -/
structure PlanInput where
  byRepair : Bool
  ring : List Nat
  refDrift : Int
  hot : List Nat
  theta : List Nat
  peak : List Nat
  deriving DecidableEq, Repr

/-- A memory word that SECDED flags (R34, R448): an MRAM word of a record area, or a row of an SRAM bank. -/
inductive MemWord where
  | mram (addr : Nat) | sram (bank : Fin 8) (row : Nat)
  deriving DecidableEq, Repr

/-- A STATUS frame (R321-R323): its header, and whether it ran to its 48th clock. -/
structure StatusFrame where
  head : BitVec 32
  full : Bool
  deriving DecidableEq, Repr

/-- What the load-step detector of a rail saw (R138): the size of the sensed error in 0.25 mV (`byError`), or that of the current's
slope in A/us. -/
structure LoadStep where
  rail : Fin 8
  byError : Bool
  x : Nat
  deriving DecidableEq, Repr

/-- A rail of which a phase's pulses ended at the limit in 64 consecutive periods (R144): the phase current at their ends in mA, the
sensed output in mV. -/
structure RailLimit where
  rail : Fin 8
  mA : Nat
  mV : Nat
  deriving DecidableEq, Repr

/-- The same of a front-end phase (R168). -/
structure FeLimit where
  phase : Fin 2
  mA : Nat
  mV : Nat
  deriving DecidableEq, Repr

/-- What follows a comparator's trip (R260, R449): the out-of-turn conversion, and a copy that disagreed with the vote. -/
structure Confirm where
  sample : Word
  odd : Option (Fin 3)
  deriving DecidableEq, Repr

/-- The commands and events: one constructor for each row of spec/opcode_table.json, in its order. -/
inductive Instr where
  /-- VKEEP_VALID (R41): VKEEP rises to 4.5 V out of OFF. -/
  | vkeepValid
  /-- VKEEP_LOW_ASSERT (R42): VKEEP falls to 4.2 V; `mv` is VKEEP in mV for the log entry. -/
  | vkeepLowAssert (mv : Word)
  /-- VKEEP_LOW_RELEASE (R41): VKEEP rises back to 4.5 V. -/
  | vkeepLowRelease (mv : Word)
  /-- VKEEP_LOST (R41): VKEEP falls to 3.0 V. -/
  | vkeepLost
  /-- RESET_N_RECOGNISED (R57). -/
  | resetNRecognised
  /-- RESET_N_RELEASE (R86). -/
  | resetNRelease
  /-- ADDR_STRAP_READ (R54): the ADDR voltage in mV. -/
  | addrStrapRead (mv : Nat)
  /-- FUSE_READ_COMPLETE (R407-R409). -/
  | fuseReadComplete (r : FuseRead)
  /-- EARLY_OUTPUT_START (R411): definition d starts. -/
  | earlyOutputStart (d : Fin 4)
  /-- EARLY_OUTPUT_TIMEOUT (R411): definition d is not power-good in time. -/
  | earlyOutputTimeout (d : Fin 4)
  /-- IMAGE_VERIFIED (R91): the verification of the slot being booted ends; `ok` is the outcome of the hash, key and
  signature checks over the slot's two images (R422). -/
  | imageVerified (ok : Bool)
  /-- BOOT_CORE_TIMEOUT (R91). -/
  | bootCoreTimeout
  /-- BOOT_COMPLETE (R91). -/
  | bootComplete
  /-- WATCHDOG_EXPIRY (R31). -/
  | watchdogExpiry (c : Core)
  /-- CORE_ALIVE (R31). -/
  | coreAlive (c : Core)
  /-- CORE_GRACE_EXPIRY (R100). -/
  | coreGraceExpiry (c : Core)
  /-- CLK_MONITOR_WINDOW (R39). -/
  | clkMonitorWindow (m : ClkWindow)
  /-- XTAL_START (R55). -/
  | xtalStart
  /-- XTAL_STOP (R39). -/
  | xtalStop
  /-- SYNCI_LOCK (R109): the SYNCI frequency in kHz. -/
  | synciLock (khz : Nat)
  /-- SYNCI_LOSS (R110). -/
  | synciLoss
  /-- SYNCI_RELOCK (R110): the SYNCI frequency in kHz. -/
  | synciRelock (khz : Nat)
  /-- DIE_LINK_FAILURE (R18): power-stage die d. -/
  | dieLinkFailure (d : Fin 4)
  /-- DIE_THERMAL_SHUTDOWN (R150). -/
  | dieThermalShutdown (d : Fin 4)
  /-- DIE_THERMAL_RELEASE (R150). -/
  | dieThermalRelease (d : Fin 4)
  /-- RAIL_THERMAL_WARN (R149). -/
  | railThermalWarn (k : Fin 8)
  /-- CONTROLLER_DIE_THERMAL (R151): the hotter sensor of the controller die in degrees C. -/
  | controllerDieThermal (t : Int)
  /-- REGISTER_WRITE (R65). -/
  | registerWrite (a : Accessor) (addr : BitVec 20) (mask data : Word)
  /-- RC_READ (R69): a port reads the register at `addr`. -/
  | rcRead (p : Port) (addr : BitVec 20)
  /-- MULTIWORD_LOW_READ (R80): an accessor reads the word at `addr`. -/
  | multiwordLowRead (a : Accessor) (addr : BitVec 20)
  /-- BUF_COMMIT (R78): a boundary of the instance. -/
  | bufCommit (inst : Instance)
  /-- COMMIT_DISCARD (R77): an accessor writes 1 to the instance's discard bit. -/
  | commitDiscard (a : Accessor) (inst : Instance)
  /-- COMMIT_HOLD (R77): an accessor writes the instance's hold bit. -/
  | commitHold (a : Accessor) (inst : Instance) (hold : Bool)
  /-- STATUS (R321-R323). -/
  | status (f : StatusFrame)
  /-- REG_RD (R321, R325): the header's op and its other 28 bits, the header CRC the host sent, and the data words clocked out. A
  frame with a reserved op (0x0, 0x7-0xF) comes as this row too. -/
  | regRd (op : BitVec 4) (low : BitVec 28) (crc : Word) (clocked : Nat)
  /-- REG_WR (R324): the header, data words, the CRC the host sent, and whether the frame ran to its end. -/
  | regWr (op : BitVec 4) (low : BitVec 28) (data : List (BitVec 32)) (crc : Word) (full : Bool)
  /-- MEM_RD (R325). -/
  | memRd (op : BitVec 4) (low : BitVec 28) (crc : Word) (clocked : Nat)
  /-- MEM_WR (R326). -/
  | memWr (op : BitVec 4) (low : BitVec 28) (data : List (BitVec 32)) (crc : Word) (full : Bool)
  /-- DOORBELL (R327): the header, the CRC the host sent, and whether the frame ran to its end. -/
  | doorbell (head : BitVec 32) (crc : Word) (full : Bool)
  /-- VIO_LOSS (R61). -/
  | vioLoss
  /-- VIO_RETURN (R141): the levels of LDA0-LDA3 found. -/
  | vioReturn (lda : BitVec 4)
  /-- HOST_HB_WRITE (R336). -/
  | hostHbWrite (mask data : Word)
  /-- HEARTBEAT_DEADLINE (R337). -/
  | heartbeatDeadline
  /-- MBX_CMD_PROD_WRITE (R331). -/
  | mbxCmdProdWrite (mask data : Word)
  /-- MBX_RESP_CONS_WRITE (R331). -/
  | mbxRespConsWrite (mask data : Word)
  /-- COMMAND_TAKE (R332): the next posted entry of a port is taken. -/
  | commandTake (p : Port)
  /-- READ (R353): the taken command of port and tag executes. So with every mailbox command below. -/
  | read (p : Port) (tag : BitVec 6)
  /-- WRITE (R354). -/
  | write (p : Port) (tag : BitVec 6)
  /-- ENABLE (R355). -/
  | enable (p : Port) (tag : BitVec 6)
  /-- DISABLE (R355). -/
  | disable (p : Port) (tag : BitVec 6)
  /-- SYS.INFO (R356). -/
  | sysInfo (p : Port) (tag : BitVec 6)
  /-- SYS.HEARTBEAT (R336). -/
  | sysHeartbeat (p : Port) (tag : BitVec 6)
  /-- SYS.RUN (R89). -/
  | sysRun (p : Port) (tag : BitVec 6)
  /-- SYS.STOP (R89). -/
  | sysStop (p : Port) (tag : BitVec 6)
  /-- SYS.SLEEP (R94). -/
  | sysSleep (p : Port) (tag : BitVec 6)
  /-- SYS.SHIP (R99). -/
  | sysShip (p : Port) (tag : BitVec 6)
  /-- SYS.RESET (R86). -/
  | sysReset (p : Port) (tag : BitVec 6)
  /-- SYS.RESUME (R87). -/
  | sysResume (p : Port) (tag : BitVec 6)
  /-- SYS.LEASE (R357). -/
  | sysLease (p : Port) (tag : BitVec 6)
  /-- SYS.SAVE (R358). -/
  | sysSave (p : Port) (tag : BitVec 6)
  /-- FLT.ACK (R290). -/
  | fltAck (p : Port) (tag : BitVec 6)
  /-- FLT.CLEAR (R291). -/
  | fltClear (p : Port) (tag : BitVec 6)
  /-- FLT.RELEASE (R297). -/
  | fltRelease (p : Port) (tag : BitVec 6)
  /-- FLT.UNLATCH (R296). -/
  | fltUnlatch (p : Port) (tag : BitVec 6)
  /-- GAUGE.SAVE (R360). -/
  | gaugeSave (p : Port) (tag : BitVec 6)
  /-- GAUGE.PROFILE (R361). -/
  | gaugeProfile (p : Port) (tag : BitVec 6)
  /-- SEQ.EVENT (R362). -/
  | seqEvent (p : Port) (tag : BitVec 6)
  /-- TEL.SNAPSHOT (R362). -/
  | telSnapshot (p : Port) (tag : BitVec 6)
  /-- TEL.SLOT_READ (R362). -/
  | telSlotRead (p : Port) (tag : BitVec 6)
  /-- LOG.MARK (R362). -/
  | logMark (p : Port) (tag : BitVec 6)
  /-- OTP.PROGRAM (R416): `readBack` is the value every copy reads at the three margins after the pulses. -/
  | otpProgram (p : Port) (tag : BitVec 6) (readBack : Word)
  /-- OTP.LOCK (R363): whether the lock fuse reads back as blown. -/
  | otpLock (p : Port) (tag : BitVec 6) (ok : Bool)
  /-- UPD.BEGIN (R425): whether the key check of R422 passes. -/
  | updBegin (p : Port) (tag : BitVec 6) (keyOk : Bool)
  /-- UPD.DATA (R426). -/
  | updData (p : Port) (tag : BitVec 6)
  /-- UPD.END (R427): whether hash and signature of both bodies pass. -/
  | updEnd (p : Port) (tag : BitVec 6) (sigOk : Bool)
  /-- UPD.ACTIVATE (R430). -/
  | updActivate (p : Port) (tag : BitVec 6)
  /-- UPD.ABORT (R428). -/
  | updAbort (p : Port) (tag : BitVec 6)
  /-- AGE.VETO (R459). -/
  | ageVeto (p : Port) (tag : BitVec 6)
  /-- AGE.APPROVE (R459). -/
  | ageApprove (p : Port) (tag : BitVec 6)
  /-- AGE.PLAN (R460). -/
  | agePlan (p : Port) (tag : BitVec 6)
  /-- HERD.ENUMERATE (R399): the protocol levels of the devices that identify on each port, in the order they survive, whether
  a line of the port is held low, and whether a transfer on it was abandoned after three lost arbitrations (R386). -/
  | herdEnumerate (p : Port) (tag : BitVec 6) (onA onB : List Byte) (lowA lowB lostA lostB : Bool)
  /-- HERD.FORWARD (R400): whether the transfer to the child was abandoned after three lost arbitrations (R386). -/
  | herdForward (p : Port) (tag : BitVec 6) (lost : Bool)
  /-- HERD.LIST (R366). -/
  | herdList (p : Port) (tag : BitVec 6)
  /-- DIRECT.GRANT (R342). -/
  | directGrant (p : Port) (tag : BitVec 6)
  /-- DIRECT.END (R342). -/
  | directEnd (p : Port) (tag : BitVec 6)
  /-- FORWARD_RESPONSE_RECEIVED (R400): the remote entry and payload; `pecOk` false when PEC failed on a hop after the retries. -/
  | forwardResponseReceived (p : Port) (tag : BitVec 6) (entry payload : List Byte) (pecOk : Bool)
  /-- FORWARD_TIMEOUT (R367). -/
  | forwardTimeout (p : Port) (tag : BitVec 6)
  /-- FLT_ACK_WRITE (R290). -/
  | fltAckWrite (a : Accessor) (mask data : Word)
  /-- FLT_SRC_CLEAR (R291): a write to FLT_SRCc_w. -/
  | fltSrcClear (a : Accessor) (c : Fin 16) (w : Fin 4) (mask data : Word)
  /-- FLT_PIN_DRIVE_WRITE (R297). -/
  | fltPinDriveWrite (a : Accessor) (mask data : Word)
  /-- FAULT_N_PULSE_END (R297). -/
  | faultNPulseEnd
  /-- TEL_SNAP_REQ_WRITE (R308). -/
  | telSnapReqWrite (a : Accessor) (mask data : Word)
  /-- LOG_MARK_WRITE (R318). -/
  | logMarkWrite (a : Accessor) (mask data : Word)
  /-- SEQ_EVENT_WRITE (R270). -/
  | seqEventWrite (a : Accessor) (mask data : Word)
  /-- TEL_STR_EN_WRITE (R315). -/
  | telStrEnWrite (a : Accessor) (mask data : Word)
  /-- SB_DS_POP_WRITE (R397). -/
  | sbDsPopWrite (a : Accessor) (mask data : Word)
  /-- CHG_CFG_CHEM_WRITE (R209). -/
  | chgCfgChemWrite (a : Accessor) (mask data : Word)
  /-- RAIL_EN_SET (R122): an accessor sets RAILk_CTRL.en. -/
  | railEnSet (a : Accessor) (k : Fin 8)
  /-- RAIL_EN_CLEAR (R124). -/
  | railEnClear (a : Accessor) (k : Fin 8)
  /-- RAIL_SENSE_CHECK (R120, R122): whether the sense line counts as open, and the pre-bias V_pb in mV. -/
  | railSenseCheck (k : Fin 8) (isOpen : Bool) (vpb : Nat)
  /-- RAIL_SOFTSTART_CHECK (R145): the output at the ramp's midpoint in mV. -/
  | railSoftstartCheck (k : Fin 8) (v : Nat)
  /-- RAIL_HICCUP_RESTART (R145). -/
  | railHiccupRestart (k : Fin 8)
  /-- RAIL_RAMP_COMPLETE (R122). -/
  | railRampComplete (k : Fin 8)
  /-- RAIL_SOFT_STOP_DONE (R124). -/
  | railSoftStopDone (k : Fin 8)
  /-- RAIL_SETPOINT_MOVE_END (R121). -/
  | railSetpointMoveEnd (k : Fin 8)
  /-- LOOP_DERIVATION (R116). -/
  | loopDerivation (k : Fin 8)
  /-- RAIL_COEFF_TIMEOUT (R127). -/
  | railCoeffTimeout (k : Fin 8)
  /-- FE_DERIVATION (R164). -/
  | feDerivation
  /-- SCAN_ROUND_END (R302). -/
  | scanRoundEnd (r : ScanRound)
  /-- PHASE_RAMP_OUT_DONE (R134). -/
  | phaseRampOutDone (p : PhaseRef)
  /-- LOAD_STEP_FIRE (R139). -/
  | loadStepFire (e : LoadStep)
  /-- SHED_INHIBIT_END (R139). -/
  | shedInhibitEnd (k : Fin 8)
  /-- LDA_ASSERT (R140). -/
  | ldaAssert (l : Fin 4)
  /-- LDA_DEASSERT (R141). -/
  | ldaDeassert (l : Fin 4)
  /-- ANNOUNCE_OFFSET_RETURN (R141). -/
  | announceOffsetReturn (k : Fin 8)
  /-- ANNOUNCE_END (R141). -/
  | announceEnd (k : Fin 8)
  /-- RAIL_ILIM_SUSTAINED (R144). -/
  | railIlimSustained (e : RailLimit)
  /-- RAIL_CLAMP_END (R147). -/
  | railClampEnd (k : Fin 8)
  /-- RAIL_UNLOCK (R152). -/
  | railUnlock (k : Fin 8)
  /-- ISO_EN_SET (R243). -/
  | isoEnSet (a : Accessor) (n : Fin 12)
  /-- ISO_EN_CLEAR (R243). -/
  | isoEnClear (a : Accessor) (n : Fin 12)
  /-- ISO_QUEUE_START (R243): the first channel of the start queue leaves WAIT. -/
  | isoQueueStart
  /-- ISO_SOFTSTART_DONE (R243). -/
  | isoSoftstartDone (n : Fin 12)
  /-- ISOPWR_UNDERVOLTAGE (R244). -/
  | isopwrUndervoltage
  /-- ISOPWR_RESTORED (R244). -/
  | isopwrRestored
  /-- ISO_SECONDARY_SHORT (R246). -/
  | isoSecondaryShort (n : Fin 12)
  /-- ISO_OVERLOAD (R246). -/
  | isoOverload (n : Fin 12)
  /-- ISO_OPEN_WINDING (R246): side A or B. -/
  | isoOpenWinding (n : Fin 12) (sideB : Bool)
  /-- ISO_UNLOCK (R246). -/
  | isoUnlock (n : Fin 12)
  /-- LDO_EN_SET (R253): an accessor sets LDOn_CTRL.en. -/
  | ldoEnSet (a : Accessor) (n : Fin 6)
  /-- LDO_EN_CLEAR (R253). -/
  | ldoEnClear (a : Accessor) (n : Fin 6)
  /-- LDO_VSET_WRITE (R253). -/
  | ldoVsetWrite (a : Accessor) (n : Fin 6) (mask data : Word)
  /-- LDO_RAMP_DONE (R253). -/
  | ldoRampDone (n : Fin 6)
  /-- LDO_CURRENT_LIMIT (R254). -/
  | ldoCurrentLimit (n : Fin 6)
  /-- LDO_UNLOCK (R254). -/
  | ldoUnlock (n : Fin 6)
  /-- WARNING_JUDGED (R259): the channel as rail or LDO output j (0-13) or as monitor j, and the side, after the scan round that
  completes the debounce. -/
  | warningJudged (monitor : Bool) (j : Fin 14) (above : Bool)
  /-- COMPARATOR_TRIP (R260, R261, R449): channel, side, and what followed. -/
  | comparatorTrip (c : Fin 28) (above : Bool) (x : Confirm)
  /-- CONVERTER_FAULT_JUDGED (R262): channel and side as in WARNING_JUDGED, after the scan round that completes the debounce. -/
  | converterFaultJudged (monitor : Bool) (j : Fin 14) (above : Bool)
  /-- PG_STABLE (R264): pg_cnt in-window samples. -/
  | pgStable (c : Fin 28)
  /-- PG_FALL (R265). -/
  | pgFall (c : Fin 28)
  /-- EN_RUN_FILTER (R89): the level EN_RUN has held for 1 ms. -/
  | enRunFilter (level : Bool)
  /-- SEQ_STEP_DONE (R271). -/
  | seqStepDone
  /-- SEQ_STEP_TIMEOUT (R272, R273). -/
  | seqStepTimeout
  /-- SEQ_RETRY_REENABLE (R272). -/
  | seqRetryReenable
  /-- SEQ_TABLE_COMPLETE (R268). -/
  | seqTableComplete
  /-- VBUS_QUALIFIED (R183). -/
  | vbusQualified
  /-- ISW_OPENING_CAUSE (R173). -/
  | iswOpeningCause (c : IswCause)
  /-- VBUS_LOSS (R184). -/
  | vbusLoss (c : LossCause)
  /-- HANDOVER_COMPLETE (R187): whether VHB is in regulation, and the time from ISW open in us. -/
  | handoverComplete (inReg : Bool) (us : Nat)
  /-- DWELL_END (R185). -/
  | dwellEnd
  /-- RETURN_MATCH (R190). -/
  | returnMatch
  /-- RETURN_MATCH_TIMEOUT (R191). -/
  | returnMatchTimeout
  /-- ISW_CLOSE_COMPLETE (R172). -/
  | iswCloseComplete
  /-- ISW_CLOSE_TIMEOUT (R172). -/
  | iswCloseTimeout
  /-- HOLDUP_EXHAUSTED (R193). -/
  | holdupExhausted
  /-- DEEP_DISCHARGE_CUTOFF (R195). -/
  | deepDischargeCutoff
  /-- CUTOFF_BATFET_OFF (R195). -/
  | cutoffBatfetOff
  /-- ISW_EN_CLEAR (R185). -/
  | iswEnClear (a : Accessor)
  /-- FE_FWD_EN_SET (R166). -/
  | feFwdEnSet (a : Accessor)
  /-- FE_FWD_EN_CLEAR (R166). -/
  | feFwdEnClear (a : Accessor)
  /-- FE_START_RAMP_DONE (R166). -/
  | feStartRampDone
  /-- FE_STOP_RAMP_DONE (R166). -/
  | feStopRampDone
  /-- FE_CHANGE_DONE (R166). -/
  | feChangeDone
  /-- FE_REGION_CHANGE (R158): the input voltage of the direction averaged over 8 periods, in 10 mV. -/
  | feRegionChange (vin : Nat)
  /-- FE_VSYS_OV (R171). -/
  | feVsysOv
  /-- FE_VHB_OV (R171): whether it is the third event within 100 ms. -/
  | feVhbOv (third : Bool)
  /-- FE_VHB_OV_RELEASE (R171). -/
  | feVhbOvRelease
  /-- FE_VDRV_UV (R171). -/
  | feVdrvUv
  /-- FE_BOOTSTRAP_UV (R171): a skipped turn-on of phase p, and whether it is the fourth in a row. -/
  | feBootstrapUv (p : Fin 2) (fourth : Bool)
  /-- FE_OPEN_PHASE (R171). -/
  | feOpenPhase (p : Fin 2)
  /-- FE_ILIM_SUSTAINED (R168). -/
  | feIlimSustained (e : FeLimit)
  /-- FE_STEP_INHIBIT_END (R170). -/
  | feStepInhibitEnd
  /-- FE_REV_HOLD_END (R170). -/
  | feRevHoldEnd
  /-- FE_UNLOCK (R166). -/
  | feUnlock
  /-- CHG_EN_SET (R198). -/
  | chgEnSet (a : Accessor)
  /-- CHG_EN_CLEAR (R198). -/
  | chgEnClear (a : Accessor)
  /-- CHG_QUAL_DONE (R198): the lowest cell in mV. -/
  | chgQualDone (cell : Nat)
  /-- CHG_PRE_TO_CC (R198). -/
  | chgPreToCc
  /-- CHG_CC_TO_CV (R198). -/
  | chgCcToCv
  /-- CHG_CV_TO_TOPOFF (R198). -/
  | chgCvToTopoff
  /-- CHG_TOPOFF_TO_DONE (R198). -/
  | chgTopoffToDone
  /-- CHG_RECHARGE (R200): whether the voltage criterion or the state-of-charge criterion holds. -/
  | chgRecharge (byVoltage : Bool)
  /-- CHG_SUSPEND (R199): whether NTC0 is outside the charging window. -/
  | chgSuspend (temp : Bool)
  /-- CHG_SUSPEND_END (R198). -/
  | chgSuspendEnd
  /-- CHG_FAULT (R203). -/
  | chgFault (c : ChgCause)
  /-- CHG_SAFETY_TIMER_EXPIRY (R201). -/
  | chgSafetyTimerExpiry
  /-- CHG_FAULT_RECOVER (R198). -/
  | chgFaultRecover
  /-- BALANCE_WINDOW (R202): the bleed window (true) or the measure window begins. -/
  | balanceWindow (bleed : Bool)
  /-- BATTERY_PRESENCE_RISE (R226): NTC1 as the mean of 8 scan rounds, in mV. -/
  | batteryPresenceRise (ntc1 : Nat)
  /-- INSERTION_CHECK (R226): BATS in mV. -/
  | insertionCheck (bats : Nat)
  /-- INSERTION_FIRST_ESTIMATE (R226): the cells in 0.1 mV and the current in 0.1 mA. -/
  | insertionFirstEstimate (cells : List Nat) (cur : Int)
  /-- BATTERY_PRESENCE_LOSS (R228). -/
  | batteryPresenceLoss
  /-- BATTERY_REMOVAL_FAST (R206): VSYS in 10 mV at the removal. -/
  | batteryRemovalFast (vsys : Nat)
  /-- CHARGE_SAMPLE (R210-R213): the sample's mean shunt voltage in nV, and the partial period in us that a change of decimator carried
  into it. -/
  | chargeSample (nV : Int) (carry : Nat)
  /-- GAUGE_FILTER_CYCLE (R218): whether VKEEP_LOW meets the cycle's mirror write (R236). -/
  | gaugeFilterCycle (cut : Bool)
  /-- REST_REACHED (R221). -/
  | restReached
  /-- FAWN_GAUGE_INTERVAL (R220): the sample that closes the interval, as in CHARGE_SAMPLE. -/
  | fawnGaugeInterval (nV : Int) (carry : Nat)
  /-- LEARNED_RECORD_TIMER (R231). -/
  | learnedRecordTimer
  /-- LEARNED_RECORD_WRITE_DONE (R232). -/
  | learnedRecordWriteDone
  /-- IDLE_TIMER_EXPIRY (R94). -/
  | idleTimerExpiry
  /-- EARLY_RAIL_DISCHARGE_TIMEOUT (R95). -/
  | earlyRailDischargeTimeout (d : Fin 4)
  /-- FAWN_ENTRY_COMPLETE (R95). -/
  | fawnEntryComplete
  /-- WAKE_EVENT (R97). -/
  | wakeEvent (w : WakeSource)
  /-- WAKE_TIMER_EXPIRY (R97). -/
  | wakeTimerExpiry
  /-- SHIP_LATCH_ARM (R99). -/
  | shipLatchArm
  /-- SHIP_LATCH_RELEASE (R99). -/
  | shipLatchRelease
  /-- SNAPSHOT_COPY_DONE (R312). -/
  | snapshotCopyDone
  /-- STREAM_RECORD (R314): the end of the dec-th round. -/
  | streamRecord
  /-- SB_REG_WR (R384): the address, and the words with their masks, as the write part carries them. -/
  | sbRegWr (h : SbHead) (addr : BitVec 24) (n : Byte) (words : List (BitVec 32))
  /-- SB_REG_RD (R381). -/
  | sbRegRd (h : SbHead) (addr : BitVec 24) (n : Byte)
  /-- SB_MEM_RD (R381). -/
  | sbMemRd (h : SbHead) (addr : BitVec 24) (n : Byte)
  /-- BUF_WR (R387). -/
  | bufWr (h : SbHead) (off : Word) (n : Byte) (bytes : List Byte)
  /-- BUF_RD (R387). -/
  | bufRd (h : SbHead) (off : Word) (n : Byte)
  /-- MBX_POST (R388). -/
  | mbxPost (h : SbHead) (desc : List Byte)
  /-- MBX_RESP (R389). -/
  | mbxResp (h : SbHead)
  /-- MBX_STAT (R378). -/
  | mbxStat (h : SbHead)
  /-- DS_READ (R397). -/
  | dsRead (h : SbHead)
  /-- STATUS of the side-band (R380). -/
  | sbStatus (h : SbHead)
  /-- ALERT_RESPONSE (R392): whether this device is the lowest-addressed of the alerting ones. -/
  | alertResponse (wins : Bool)
  /-- RELEASE (R399). -/
  | release
  /-- IDENTIFY (R399): whether this device's ID survives the arbitration. -/
  | identify (wins : Bool)
  /-- ASSIGN (R399). -/
  | assign (uid : BitVec 64) (index : BitVec 6)
  /-- SB_BUS_TIMEOUT (R373): whether the transaction's command byte was that of a write (REG_WR, BUF_WR, MBX_POST). -/
  | sbBusTimeout (write : Bool)
  /-- SB_ABORT_ACK (R383): whether the transaction's command byte was that of a write. -/
  | sbAbortAck (write : Bool)
  /-- BLEAT (R393). -/
  | bleat
  /-- BLEAT_READ (R394): whether this device wins the address phase. -/
  | bleatRead (wins : Bool)
  /-- BLEAT_UNANSWERED (R394). -/
  | bleatUnanswered
  /-- HERD_BUS_FAULT (R373): whether the bus clear freed the line. -/
  | herdBusFault (p : HerdPort) (freed : Bool)
  /-- HERD_BUS_CLEAR_RETRY (R373). -/
  | herdBusClearRetry (p : HerdPort) (freed : Bool)
  /-- HERD_CHILD_BLEAT (R397): the child's index and its reason. -/
  | herdChildBleat (p : HerdPort) (index : BitVec 6) (reason : Byte)
  /-- DOWNSTREAM_ENTRY (R397): the DS_READ answer of the child (route, reason), used when its reason is DOWNSTREAM. -/
  | downstreamEntry (route : BitVec 20) (reason : Byte)
  /-- MAILBOX_RESUME (R431). -/
  | mailboxResume
  /-- ACTIVATION_CONFIRMED (R431). -/
  | activationConfirmed
  /-- ROLLBACK_MAILBOX_TIMEOUT (R433). -/
  | rollbackMailboxTimeout
  /-- ROLLBACK_ALIVE_TIMEOUT (R433). -/
  | rollbackAliveTimeout
  /-- TRIAL_BOOT_TIMEOUT (R433). -/
  | trialBootTimeout
  /-- UPD_INACTIVITY_TIMEOUT (R426). -/
  | updInactivityTimeout
  /-- OTP_REREAD (R414): the physical words that fail the three-margin rule, or read differently, at the re-read. -/
  | otpReread (bad : List Nat)
  /-- OTP_REREAD_RETRY (R414). -/
  | otpRereadRetry (bad : List Nat)
  /-- BOOT_TINE_TEST (R442): the test of phase n starts. -/
  | bootTineTest (n : Fin 16)
  /-- RUNTIME_TINE_TEST_START (R443). -/
  | runtimeTineTestStart (n : Fin 16)
  /-- TINE_TEST_DONE (R441). -/
  | tineTestDone (n : Fin 16) (readings : List TineReading)
  /-- COMPARATOR_SELF_TEST (R449): channel, side, copy and whether it passed. -/
  | comparatorSelfTest (c : Fin 28) (above : Bool) (copy : Fin 3) (pass : Bool)
  /-- PLAN_RUN (R454). -/
  | planRun (x : PlanInput)
  /-- PLAN_ITEM_APPLY (R456): the item's place in the PROPOSED plan. -/
  | planItemApply (item : Nat)
  /-- WAKE_SOURCE_ASSERTED (R95): an enabled level source outside FAWN. -/
  | wakeSourceAsserted (w : WakeSource)
  /-- FE_STEP_INHIBIT_START (R170): by the output error (true) or by I_cmd (false). -/
  | feStepInhibitStart (byError : Bool)
  /-- TINE_TEST_OVERDUE (R443). -/
  | tineTestOverdue (n : Fin 16)
  /-- SECDED_ERROR (R34). -/
  | secdedError (m : MemWord) (correctable : Bool)
  deriving DecidableEq, Repr

end Sys2Proof
end

