-- ==== Sys2Proof/Config.lean ====
section
/-!
DEFINITION. What the manual leaves open as a value: constants without a body, so that no proof can see what they are.
`freshWord`, `freshNat`, `freshInt` and `freshRat` are applied to the counter `State.free`, which advances at each use. How a real
result is rounded into a register's unit is stated nowhere; `roundUp` leaves it open between the two units around it.
-/

namespace Sys2Proof.Config

/-- A fresh open word: the raw entropy of an unlatch key (R296), among others (log entry 3). -/
opaque freshWord : Nat → Word

/-- A fresh open natural number, for an open choice among several outcomes. -/
opaque freshNat : Nat → Nat

/-- A fresh open integer. -/
opaque freshInt : Nat → Int

/-- A fresh real value: the fit of R_pol and C_pol of R224, whose procedure the manual does not state. -/
opaque freshRat : Nat → Rat

/-- The built-in open-circuit voltage in mV of a chemistry (0 LFP, 1 NMC), temperature column and point; the manual prints
the LFP column of 25 C only (R217). -/
opaque ocv : Nat → Nat → Nat → Rat

/-- Whether a derived value that is no whole number of its register's unit goes to the unit above it, else to the one below it
(R116, R196, R218 and R234 state no rounding). -/
opaque roundUp : Rat → Bool

/-- The length in us of the year in which R452 counts calendar time. -/
opaque yearUs : Nat

/-- Strap voltages outside every window of R54 give an index the manual does not name. -/
opaque strapIndex : Nat → Nat

end Sys2Proof.Config
end

