-- ==== Sys2Proof/Machine/Real.lean ====
section
/-!
DEFINITION. The real functions of the loop derivation (R116, R163), of the fold-back and of the gauge (R216, R218), over the
rationals. Each cuts its intermediate results to 128 fractional bits, so its error is far below any register's unit (log entry
5); how a result is brought into a register's unit is the open `Config.roundUp`.
-/

namespace Sys2Proof.Machine

/-- Cuts a number to 128 fractional bits. -/
def cut (q : Rat) : Rat := ((q * 2 ^ 128).floor : Rat) / 2 ^ 128

/-- The circle constant to 50 decimal places. -/
def piQ : Rat := 314159265358979323846264338327950288419716939937510 / 10 ^ 50

/-- The largest number whose square does not pass `n`, bit by bit from bit `k - 1` of `r` on. -/
def rootBits : Nat → Nat → Nat → Nat
  | 0, _, r => r
  | k + 1, n, r => rootBits k n (if (r + 2 ^ k) * (r + 2 ^ k) ≤ n then r + 2 ^ k else r)

/-- Square root of a number from 0 to 2^128. -/
def sqrtQ (q : Rat) : Rat := (rootBits 192 (q * 2 ^ 256).floor.toNat 0 : Rat) / 2 ^ 128

/-- `k` terms of the exponential series from the factor x / i on. -/
def expTerms : Nat → Nat → Rat → Rat
  | 0, _, _ => 1
  | k + 1, i, x => cut (1 + x / i * expTerms k (i + 1) x)

/-- Squares a number `k` times. -/
def squared : Nat → Rat → Rat
  | 0, x => x
  | k + 1, x => squared k (cut (x * x))

/-- The exponential function of a number that is not positive. -/
def expQ (x : Rat) : Rat := if x < -128 then 0 else squared 10 (expTerms 24 1 (cut (x / 1024)))

/-- `k` terms of the arc tangent's series in y, the square of its argument, from 1 / i on. -/
def atanTerms : Nat → Nat → Rat → Rat
  | 0, i, _ => 1 / i
  | k + 1, i, y => cut (1 / i - y * atanTerms k (i + 2) y)

/-- The tangent of half the angle whose tangent is x. -/
def halfTan (x : Rat) : Rat := cut (x / (1 + sqrtQ (1 + x * x)))

/-- Arc tangent in degrees of a number from 0 to 1. -/
def atanLow (x : Rat) : Rat :=
  let h := halfTan (halfTan (halfTan x))
  8 * h * atanTerms 30 1 (cut (h * h)) * 180 / piQ

/-- Arc tangent in degrees of a number that is not negative. -/
def atanDeg (x : Rat) : Rat := if x ≤ 1 then atanLow x else 90 - atanLow (1 / x)

/-- `k` terms of the sine's series in y, the square of its argument. -/
def sinTerms : Nat → Nat → Rat → Rat
  | 0, _, _ => 1
  | k + 1, i, y => cut (1 - y / (2 * i * (2 * i + 1) : Nat) * sinTerms k (i + 1) y)

/-- Sine of an angle of at most a right angle, in degrees. -/
def sinDeg (d : Rat) : Rat :=
  let x := cut (d * piQ / 180)
  x * sinTerms 24 1 (cut (x * x))

/-- A real result in a register's unit: exact where it is whole, else one of the two whole numbers around it, by the open choice of
Config (log entry 5). -/
def roundQ (q : Rat) : Int := if q.den = 1 then q.num else q.floor + (if Config.roundUp q then 1 else 0)

end Sys2Proof.Machine
end

