-- ==== Sys2Proof/Machine/Fields.lean ====
section
/-!
DEFINITION. The register fields of the FRV4880, one constant for each field of each field map of spec/, under the
manual's own name: register name, underscore, field name; the arguments are the manual's instance letters.
A field is its register's byte address, its lowest bit, its width and the value it holds when its block leaves reset.
Reset values the manual leaves to the factory, the fuses or the MRAM are the ones of log entry 2.
-/

namespace Sys2Proof.Machine

/-- A register field: byte address, lowest bit, width, reset value (R64, R68; the Reset column of the field maps, R7). -/
structure Fld where
  addr : Nat
  lo : Nat
  w : Nat
  rst : Nat
  deriving DecidableEq, Repr

/-- The key under which a field stands in the field file: its address and its lowest bit. -/
def Fld.key (f : Fld) : Nat := 16 * f.addr + f.lo

namespace Reg

/-! SYS_ID0, 03_register_conventions.md (R83). -/
abbrev SYS_ID0_part_code : Fld := ⟨0x0, 0, 16, 0x04880⟩

/-! SYS_ID1, 03_register_conventions.md (R83). -/
abbrev SYS_ID1_family : Fld := ⟨0x4, 8, 8, 0x1⟩
abbrev SYS_ID1_stepping : Fld := ⟨0x4, 0, 8, 0xB0⟩

/-! SYS_UIDm, 03_register_conventions.md (R83). -/
abbrev SYS_UID_uid (m : Nat) : Fld := ⟨0x8 + 0x4 * m, 0, 16, 0x0⟩

/-! SYS_IFVER, 03_register_conventions.md (R83). -/
abbrev SYS_IFVER_ctl_if : Fld := ⟨0x18, 8, 8, 0x0⟩
abbrev SYS_IFVER_gauge_if : Fld := ⟨0x18, 0, 8, 0x0⟩

/-! SYS_STATE, 03_register_conventions.md (R83). -/
abbrev SYS_STATE_gauge_lost : Fld := ⟨0x1C, 10, 1, 0x0⟩
abbrev SYS_STATE_ctl_lost : Fld := ⟨0x1C, 9, 1, 0x0⟩
abbrev SYS_STATE_host_lost : Fld := ⟨0x1C, 8, 1, 0x0⟩
abbrev SYS_STATE_prev_state : Fld := ⟨0x1C, 4, 4, 0x2⟩
abbrev SYS_STATE_state : Fld := ⟨0x1C, 0, 4, 0x2⟩

/-! SYS_TIMEm, 03_register_conventions.md (R83). -/
abbrev SYS_TIME_time (m : Nat) : Fld := ⟨0x20 + 0x4 * m, 0, 16, 0x0⟩

/-! SYS_RESET_CAUSE, 03_register_conventions.md (R83). -/
abbrev SYS_RESET_CAUSE_fuse_hold : Fld := ⟨0x30, 3, 1, 0x0⟩
abbrev SYS_RESET_CAUSE_cmd : Fld := ⟨0x30, 2, 1, 0x0⟩
abbrev SYS_RESET_CAUSE_reset_n : Fld := ⟨0x30, 1, 1, 0x0⟩
abbrev SYS_RESET_CAUSE_por : Fld := ⟨0x30, 0, 1, 0x1⟩

/-! REG_ERR, 03_register_conventions.md (R83). -/
abbrev REG_ERR_shadow_miss : Fld := ⟨0x34, 8, 1, 0x0⟩
abbrev REG_ERR_wrong_op : Fld := ⟨0x34, 7, 1, 0x0⟩
abbrev REG_ERR_range : Fld := ⟨0x34, 6, 1, 0x0⟩
abbrev REG_ERR_limit : Fld := ⟨0x34, 5, 1, 0x0⟩
abbrev REG_ERR_lease : Fld := ⟨0x34, 4, 1, 0x0⟩
abbrev REG_ERR_not_writable : Fld := ⟨0x34, 3, 1, 0x0⟩
abbrev REG_ERR_reserved_enc : Fld := ⟨0x34, 2, 1, 0x0⟩
abbrev REG_ERR_unmapped : Fld := ⟨0x34, 1, 1, 0x0⟩
abbrev REG_ERR_stopped_only : Fld := ⟨0x34, 0, 1, 0x0⟩

/-! REG_ERR_ADDR0, 03_register_conventions.md (R83). -/
abbrev REG_ERR_ADDR0_addr : Fld := ⟨0x38, 0, 16, 0x0⟩

/-! REG_ERR_ADDR1, 03_register_conventions.md (R83). -/
abbrev REG_ERR_ADDR1_addr : Fld := ⟨0x3C, 0, 4, 0x0⟩

/-! SYS_RUN_CFG, 04_states_and_startup.md (R101). -/
abbrev SYS_RUN_CFG_run_src : Fld := ⟨0x40, 0, 2, 0x0⟩

/-! SYS_RUN_STAT, 04_states_and_startup.md (R101). -/
abbrev SYS_RUN_STAT_act_deferred : Fld := ⟨0x44, 8, 1, 0x0⟩
abbrev SYS_RUN_STAT_activating : Fld := ⟨0x44, 7, 1, 0x0⟩
abbrev SYS_RUN_STAT_ibex : Fld := ⟨0x44, 6, 1, 0x0⟩
abbrev SYS_RUN_STAT_safe : Fld := ⟨0x44, 5, 1, 0x0⟩
abbrev SYS_RUN_STAT_return_state : Fld := ⟨0x44, 4, 1, 0x0⟩
abbrev SYS_RUN_STAT_sleep_refused : Fld := ⟨0x44, 3, 1, 0x0⟩
abbrev SYS_RUN_STAT_up_failed : Fld := ⟨0x44, 2, 1, 0x0⟩
abbrev SYS_RUN_STAT_cmd_run : Fld := ⟨0x44, 1, 1, 0x0⟩
abbrev SYS_RUN_STAT_run_req : Fld := ⟨0x44, 0, 1, 0x0⟩

/-! SYS_SLEEP_CFG, 04_states_and_startup.md (R101). -/
abbrev SYS_SLEEP_CFG_isw_hold : Fld := ⟨0x48, 9, 1, 0x0⟩
abbrev SYS_SLEEP_CFG_auto_sleep : Fld := ⟨0x48, 8, 1, 0x0⟩
abbrev SYS_SLEEP_CFG_t_idle : Fld := ⟨0x48, 0, 8, 0x3C⟩

/-! SYS_WAKE_EN, 04_states_and_startup.md (R101). -/
abbrev SYS_WAKE_EN_vbus : Fld := ⟨0x4C, 2, 1, 0x1⟩
abbrev SYS_WAKE_EN_en_run : Fld := ⟨0x4C, 1, 1, 0x1⟩
abbrev SYS_WAKE_EN_wake : Fld := ⟨0x4C, 0, 1, 0x1⟩

/-! SYS_WAKE_SRC, 04_states_and_startup.md (R101). -/
abbrev SYS_WAKE_SRC_isw_open : Fld := ⟨0x50, 6, 1, 0x0⟩
abbrev SYS_WAKE_SRC_sideband : Fld := ⟨0x50, 5, 1, 0x0⟩
abbrev SYS_WAKE_SRC_gauge : Fld := ⟨0x50, 4, 1, 0x0⟩
abbrev SYS_WAKE_SRC_timer : Fld := ⟨0x50, 3, 1, 0x0⟩
abbrev SYS_WAKE_SRC_vbus : Fld := ⟨0x50, 2, 1, 0x0⟩
abbrev SYS_WAKE_SRC_en_run : Fld := ⟨0x50, 1, 1, 0x0⟩
abbrev SYS_WAKE_SRC_wake : Fld := ⟨0x50, 0, 1, 0x0⟩

/-! SYS_WAKE_VBUS, 04_states_and_startup.md (R101). -/
abbrev SYS_WAKE_VBUS_thr : Fld := ⟨0x54, 0, 9, 0xB4⟩

/-! SYS_WAKE_TIMER, 04_states_and_startup.md (R101). -/
abbrev SYS_WAKE_TIMER_period : Fld := ⟨0x58, 0, 16, 0x0⟩

/-! SYS_WAKE_DQ, 04_states_and_startup.md (R101). -/
abbrev SYS_WAKE_DQ_dq : Fld := ⟨0x5C, 0, 16, 0x0⟩

/-! SYS_BOOT_STAT, 04_states_and_startup.md (R101). -/
abbrev SYS_BOOT_STAT_wake_boot : Fld := ⟨0x60, 5, 1, 0x0⟩
abbrev SYS_BOOT_STAT_early_up : Fld := ⟨0x60, 4, 1, 0x0⟩
abbrev SYS_BOOT_STAT_dead : Fld := ⟨0x60, 3, 1, 0x0⟩
abbrev SYS_BOOT_STAT_recovery : Fld := ⟨0x60, 2, 1, 0x0⟩
abbrev SYS_BOOT_STAT_fallback : Fld := ⟨0x60, 1, 1, 0x0⟩
abbrev SYS_BOOT_STAT_slot : Fld := ⟨0x60, 0, 1, 0x0⟩

/-! SYS_BOOT_TIME, 04_states_and_startup.md (R101). -/
abbrev SYS_BOOT_TIME_time : Fld := ⟨0x64, 0, 16, 0x0⟩

/-! CLK_STAT, 03_register_conventions.md (R83). -/
abbrev CLK_STAT_xtal_seen : Fld := ⟨0x01000, 8, 1, 0x0⟩
abbrev CLK_STAT_aon_xtal : Fld := ⟨0x01000, 7, 1, 0x0⟩
abbrev CLK_STAT_sync_locked : Fld := ⟨0x01000, 6, 1, 0x0⟩
abbrev CLK_STAT_fe_lock : Fld := ⟨0x01000, 5, 1, 0x0⟩
abbrev CLK_STAT_pwm1_lock : Fld := ⟨0x01000, 4, 1, 0x0⟩
abbrev CLK_STAT_pwm0_lock : Fld := ⟨0x01000, 3, 1, 0x0⟩
abbrev CLK_STAT_gauge_lock : Fld := ⟨0x01000, 2, 1, 0x0⟩
abbrev CLK_STAT_sys_lock : Fld := ⟨0x01000, 1, 1, 0x0⟩
abbrev CLK_STAT_rc64_ok : Fld := ⟨0x01000, 0, 1, 0x0⟩

/-! CLK_FAULT, 03_register_conventions.md (R83). -/
abbrev CLK_FAULT_xtal_stop : Fld := ⟨0x01004, 7, 1, 0x0⟩
abbrev CLK_FAULT_rc_aon : Fld := ⟨0x01004, 6, 1, 0x0⟩
abbrev CLK_FAULT_adc : Fld := ⟨0x01004, 5, 1, 0x0⟩
abbrev CLK_FAULT_fe : Fld := ⟨0x01004, 4, 1, 0x0⟩
abbrev CLK_FAULT_pwm1 : Fld := ⟨0x01004, 3, 1, 0x0⟩
abbrev CLK_FAULT_pwm0 : Fld := ⟨0x01004, 2, 1, 0x0⟩
abbrev CLK_FAULT_gauge : Fld := ⟨0x01004, 1, 1, 0x0⟩
abbrev CLK_FAULT_sys : Fld := ⟨0x01004, 0, 1, 0x0⟩

/-! CLK_MEAS_SEL, 03_register_conventions.md (R83). -/
abbrev CLK_MEAS_SEL_domain : Fld := ⟨0x01008, 0, 3, 0x0⟩

/-! CLK_MEAS, 03_register_conventions.md (R83). -/
abbrev CLK_MEAS_dev : Fld := ⟨0x0100C, 0, 16, 0x08000⟩

/-! CLK_SYNC, 03_register_conventions.md (R83). -/
abbrev CLK_SYNC_synco_en : Fld := ⟨0x01010, 1, 1, 0x0⟩
abbrev CLK_SYNC_synci_en : Fld := ⟨0x01010, 0, 1, 0x0⟩

/-! MBX_CMD_PROD, 03_register_conventions.md (R83). -/
abbrev MBX_CMD_PROD_prod : Fld := ⟨0x02000, 0, 7, 0x0⟩

/-! MBX_CMD_CONS, 03_register_conventions.md (R83). -/
abbrev MBX_CMD_CONS_cons : Fld := ⟨0x02004, 0, 7, 0x0⟩

/-! MBX_RESP_PROD, 03_register_conventions.md (R83). -/
abbrev MBX_RESP_PROD_prod : Fld := ⟨0x02008, 0, 7, 0x0⟩

/-! MBX_RESP_CONS, 03_register_conventions.md (R83). -/
abbrev MBX_RESP_CONS_cons : Fld := ⟨0x0200C, 0, 7, 0x0⟩

/-! MBX_STAT, 03_register_conventions.md (R83). -/
abbrev MBX_STAT_paused : Fld := ⟨0x02010, 8, 1, 0x0⟩
abbrev MBX_STAT_ready : Fld := ⟨0x02010, 7, 1, 0x0⟩
abbrev MBX_STAT_in_flight : Fld := ⟨0x02010, 0, 7, 0x0⟩

/-! MBX_ERR, 03_register_conventions.md (R83). -/
abbrev MBX_ERR_bad_cons : Fld := ⟨0x02014, 2, 1, 0x0⟩
abbrev MBX_ERR_tag_busy : Fld := ⟨0x02014, 1, 1, 0x0⟩
abbrev MBX_ERR_bad_prod : Fld := ⟨0x02014, 0, 1, 0x0⟩

/-! FLT_CFG, 12_faults.md (R301). -/
abbrev FLT_CFG_t_fpw : Fld := ⟨0x03000, 4, 8, 0x5⟩
abbrev FLT_CFG_fn_lvl : Fld := ⟨0x03000, 0, 3, 0x2⟩

/-! FLT_PIN, 12_faults.md (R301). -/
abbrev FLT_PIN_pin : Fld := ⟨0x03004, 2, 1, 0x0⟩
abbrev FLT_PIN_pulse : Fld := ⟨0x03004, 1, 1, 0x0⟩
abbrev FLT_PIN_drive : Fld := ⟨0x03004, 0, 1, 0x0⟩

/-! FLT_ACK, 12_faults.md (R301). -/
abbrev FLT_ACK_ack : Fld := ⟨0x03008, 0, 16, 0x0⟩

/-! FLT_UNACK, 12_faults.md (R301). -/
abbrev FLT_UNACK_unack : Fld := ⟨0x0300C, 0, 16, 0x0⟩

/-! FLT_ACTIVE, 12_faults.md (R301). -/
abbrev FLT_ACTIVE_active : Fld := ⟨0x03010, 0, 16, 0x0⟩

/-! FLT_LVLm, 12_faults.md (R301). -/
abbrev FLT_LVL_lvl3 (m : Nat) : Fld := ⟨0x03014 + 0x4 * m, 12, 4, 0xF⟩
abbrev FLT_LVL_lvl2 (m : Nat) : Fld := ⟨0x03014 + 0x4 * m, 8, 4, 0xF⟩
abbrev FLT_LVL_lvl1 (m : Nat) : Fld := ⟨0x03014 + 0x4 * m, 4, 4, 0xF⟩
abbrev FLT_LVL_lvl0 (m : Nat) : Fld := ⟨0x03014 + 0x4 * m, 0, 4, 0xF⟩

/-! FLT_FIRST, 12_faults.md (R301). -/
abbrev FLT_FIRST_valid : Fld := ⟨0x03024, 15, 1, 0x0⟩
abbrev FLT_FIRST_level : Fld := ⟨0x03024, 12, 3, 0x0⟩
abbrev FLT_FIRST_class : Fld := ⟨0x03024, 8, 4, 0x0⟩
abbrev FLT_FIRST_source : Fld := ⟨0x03024, 0, 6, 0x0⟩

/-! FLT_FIRST_Tm, 12_faults.md (R301). -/
abbrev FLT_FIRST_T_time (m : Nat) : Fld := ⟨0x03028 + 0x4 * m, 0, 16, 0x0⟩

/-! FLT_OVF, 12_faults.md (R301). -/
abbrev FLT_OVF_ovf : Fld := ⟨0x03038, 0, 1, 0x0⟩

/-! FLT_COUNT, 12_faults.md (R301). -/
abbrev FLT_COUNT_count : Fld := ⟨0x0303C, 0, 8, 0x0⟩

/-! FLT_CLR_REFUSED, 12_faults.md (R301). -/
abbrev FLT_CLR_REFUSED_count : Fld := ⟨0x03040, 0, 8, 0x0⟩

/-! FLT_LATCH, 12_faults.md (R301). -/
abbrev FLT_LATCH_count : Fld := ⟨0x03044, 1, 1, 0x0⟩
abbrev FLT_LATCH_latched : Fld := ⟨0x03044, 0, 1, 0x0⟩

/-! FLT_UNLATCH_KEY, 12_faults.md (R301). -/
abbrev FLT_UNLATCH_KEY_key : Fld := ⟨0x03048, 0, 16, 0x0⟩

/-! FLT_SRCc_w, 12_faults.md (R301). -/
abbrev FLT_SRC_src (i : Nat) : Fld := ⟨0x03100 + 0x4 * i, 0, 16, 0x0⟩

/-! FLT_GRPm, 12_faults.md (R301). -/
abbrev FLT_GRP_g3 (m : Nat) : Fld := ⟨0x03200 + 0x4 * m, 12, 4, 0x0⟩
abbrev FLT_GRP_g2 (m : Nat) : Fld := ⟨0x03200 + 0x4 * m, 8, 4, 0x0⟩
abbrev FLT_GRP_g1 (m : Nat) : Fld := ⟨0x03200 + 0x4 * m, 4, 4, 0x0⟩
abbrev FLT_GRP_g0 (m : Nat) : Fld := ⟨0x03200 + 0x4 * m, 0, 4, 0x0⟩

/-! FLT_COMMIT, 03_register_conventions.md (R77). -/
abbrev FLT_COMMIT_discard : Fld := ⟨0x037FC, 2, 1, 0x0⟩
abbrev FLT_COMMIT_hold : Fld := ⟨0x037FC, 1, 1, 0x0⟩
abbrev FLT_COMMIT_pending : Fld := ⟨0x037FC, 0, 1, 0x0⟩

/-! SEQ_CFG, 11_sequencing_and_supervision.md (R277). -/
abbrev SEQ_CFG_tmo : Fld := ⟨0x04000, 0, 8, 0x14⟩

/-! SEQ_STAT, 11_sequencing_and_supervision.md (R277). -/
abbrev SEQ_STAT_table : Fld := ⟨0x04004, 14, 2, 0x0⟩
abbrev SEQ_STAT_phase : Fld := ⟨0x04004, 12, 2, 0x0⟩
abbrev SEQ_STAT_step : Fld := ⟨0x04004, 0, 6, 0x0⟩

/-! SEQ_RESULT, 11_sequencing_and_supervision.md (R277). -/
abbrev SEQ_RESULT_table : Fld := ⟨0x04008, 14, 2, 0x0⟩
abbrev SEQ_RESULT_outcome : Fld := ⟨0x04008, 12, 2, 0x0⟩
abbrev SEQ_RESULT_step : Fld := ⟨0x04008, 0, 6, 0x0⟩

/-! SEQ_EVENT, 11_sequencing_and_supervision.md (R277). -/
abbrev SEQ_EVENT_ev : Fld := ⟨0x0400C, 0, 16, 0x0⟩

/-! SEQ_KEEP0, 11_sequencing_and_supervision.md (R277). -/
abbrev SEQ_KEEP0_ldo : Fld := ⟨0x04010, 8, 6, 0x0⟩
abbrev SEQ_KEEP0_rail : Fld := ⟨0x04010, 0, 8, 0x0⟩

/-! SEQ_KEEP1, 11_sequencing_and_supervision.md (R277). -/
abbrev SEQ_KEEP1_isw : Fld := ⟨0x04014, 13, 1, 0x1⟩
abbrev SEQ_KEEP1_fe : Fld := ⟨0x04014, 12, 1, 0x1⟩
abbrev SEQ_KEEP1_iso : Fld := ⟨0x04014, 0, 12, 0x0⟩

/-! SEQ_EARLY0, 11_sequencing_and_supervision.md (R277). -/
abbrev SEQ_EARLY0_ldo : Fld := ⟨0x04018, 8, 6, 0x0⟩
abbrev SEQ_EARLY0_rail : Fld := ⟨0x04018, 0, 8, 0x0⟩

/-! SEQ_NOTES, 11_sequencing_and_supervision.md (R277). -/
abbrev SEQ_NOTES_cont : Fld := ⟨0x0401C, 10, 5, 0x0⟩
abbrev SEQ_NOTES_early : Fld := ⟨0x0401C, 5, 5, 0x0⟩
abbrev SEQ_NOTES_forced : Fld := ⟨0x0401C, 0, 5, 0x0⟩

/-! SEQ_tbl_STEPi_W0, 11_sequencing_and_supervision.md (R277). -/
abbrev SEQ_STEP_W0_op (i : Nat) : Fld := ⟨0x04100 + 0x8 * i, 12, 4, 0x0⟩
abbrev SEQ_STEP_W0_idx (i : Nat) : Fld := ⟨0x04100 + 0x8 * i, 8, 4, 0x0⟩
abbrev SEQ_STEP_W0_policy (i : Nat) : Fld := ⟨0x04100 + 0x8 * i, 6, 2, 0x0⟩
abbrev SEQ_STEP_W0_tmo (i : Nat) : Fld := ⟨0x04100 + 0x8 * i, 0, 6, 0x0⟩

/-! SEQ_tbl_STEPi_W1, 11_sequencing_and_supervision.md (R277). -/
abbrev SEQ_STEP_W1_cond (i : Nat) : Fld := ⟨0x04104 + 0x8 * i, 13, 3, 0x0⟩
abbrev SEQ_STEP_W1_arg (i : Nat) : Fld := ⟨0x04104 + 0x8 * i, 0, 13, 0x0⟩

/-! SEQ_COMMIT, 03_register_conventions.md (R77). -/
abbrev SEQ_COMMIT_discard : Fld := ⟨0x047FC, 2, 1, 0x0⟩
abbrev SEQ_COMMIT_hold : Fld := ⟨0x047FC, 1, 1, 0x0⟩
abbrev SEQ_COMMIT_pending : Fld := ⟨0x047FC, 0, 1, 0x0⟩

/-! TEL_SNAP_REQ, 13_telemetry_and_log.md (R317). -/
abbrev TEL_SNAP_REQ_copy : Fld := ⟨0x05000, 1, 1, 0x0⟩
abbrev TEL_SNAP_REQ_req : Fld := ⟨0x05000, 0, 1, 0x0⟩

/-! TEL_SNAP_STAT, 13_telemetry_and_log.md (R317). -/
abbrev TEL_SNAP_STAT_busy : Fld := ⟨0x05004, 15, 1, 0x0⟩
abbrev TEL_SNAP_STAT_queued : Fld := ⟨0x05004, 10, 5, 0x0⟩
abbrev TEL_SNAP_STAT_count : Fld := ⟨0x05004, 5, 5, 0x0⟩
abbrev TEL_SNAP_STAT_newest : Fld := ⟨0x05004, 0, 4, 0x0⟩

/-! TEL_SNAP_EVT, 13_telemetry_and_log.md (R317). -/
abbrev TEL_SNAP_EVT_lost : Fld := ⟨0x05008, 2, 1, 0x0⟩
abbrev TEL_SNAP_EVT_skipped : Fld := ⟨0x05008, 1, 1, 0x0⟩
abbrev TEL_SNAP_EVT_abandoned : Fld := ⟨0x05008, 0, 1, 0x0⟩

/-! TEL_SLOT_CFG, 13_telemetry_and_log.md (R317). -/
abbrev TEL_SLOT_CFG_lock : Fld := ⟨0x0500C, 0, 8, 0x0⟩

/-! TEL_SLOT_STAT, 13_telemetry_and_log.md (R317). -/
abbrev TEL_SLOT_STAT_valid : Fld := ⟨0x05010, 8, 8, 0x0⟩
abbrev TEL_SLOT_STAT_newest : Fld := ⟨0x05010, 0, 3, 0x0⟩

/-! TEL_STR_CTRL, 13_telemetry_and_log.md (R317). -/
abbrev TEL_STR_CTRL_en : Fld := ⟨0x05014, 0, 1, 0x0⟩

/-! TEL_STR_SELm, 13_telemetry_and_log.md (R317). -/
abbrev TEL_STR_SEL_sel (m : Nat) : Fld := ⟨0x05020 + 0x4 * m, 0, 16, 0x0⟩

/-! TEL_STR_DEC, 13_telemetry_and_log.md (R317). -/
abbrev TEL_STR_DEC_mode : Fld := ⟨0x05040, 8, 2, 0x0⟩
abbrev TEL_STR_DEC_dec : Fld := ⟨0x05040, 0, 8, 0x1⟩

/-! TEL_STR_THR, 13_telemetry_and_log.md (R317). -/
abbrev TEL_STR_THR_thr : Fld := ⟨0x05044, 0, 7, 0x40⟩

/-! TEL_STR_PROD, 13_telemetry_and_log.md (R317). -/
abbrev TEL_STR_PROD_wrap : Fld := ⟨0x05048, 15, 1, 0x0⟩
abbrev TEL_STR_PROD_off : Fld := ⟨0x05048, 0, 15, 0x0⟩

/-! TEL_STR_CONS, 13_telemetry_and_log.md (R317). -/
abbrev TEL_STR_CONS_wrap : Fld := ⟨0x0504C, 15, 1, 0x0⟩
abbrev TEL_STR_CONS_off : Fld := ⟨0x0504C, 0, 15, 0x0⟩

/-! TEL_STR_STAT, 13_telemetry_and_log.md (R317). -/
abbrev TEL_STR_STAT_ovf : Fld := ⟨0x05050, 8, 8, 0x0⟩
abbrev TEL_STR_STAT_rec_len : Fld := ⟨0x05050, 0, 8, 0x8⟩

/-! TEL_CHc, 13_telemetry_and_log.md (R317). -/
abbrev TEL_CH_val (c : Nat) : Fld := ⟨0x05100 + 0x4 * c, 0, 16, 0x08000⟩

/-! TEL_COMMIT, 03_register_conventions.md (R77). -/
abbrev TEL_COMMIT_discard : Fld := ⟨0x057FC, 2, 1, 0x0⟩
abbrev TEL_COMMIT_hold : Fld := ⟨0x057FC, 1, 1, 0x0⟩
abbrev TEL_COMMIT_pending : Fld := ⟨0x057FC, 0, 1, 0x0⟩

/-! LOG_SEQm, 13_telemetry_and_log.md (R318). -/
abbrev LOG_SEQ_seq (m : Nat) : Fld := ⟨0x06000 + 0x4 * m, 0, 16, 0x0⟩

/-! LOG_OLDESTm, 13_telemetry_and_log.md (R318). -/
abbrev LOG_OLDEST_seq (m : Nat) : Fld := ⟨0x06008 + 0x4 * m, 0, 16, 0x0⟩

/-! LOG_MARK, 13_telemetry_and_log.md (R318). -/
abbrev LOG_MARK_data : Fld := ⟨0x06010, 0, 16, 0x0⟩

/-! LOG_STAT, 13_telemetry_and_log.md (R318). -/
abbrev LOG_STAT_wrapped : Fld := ⟨0x06014, 0, 1, 0x0⟩

/-! OTP_STAT, 17_otp.md (R419). -/
abbrev OTP_STAT_pend_crit : Fld := ⟨0x08000, 8, 1, 0x0⟩
abbrev OTP_STAT_inval : Fld := ⟨0x08000, 0, 8, 0x0⟩

/-! OTP_LOCK, 17_otp.md (R419). -/
abbrev OTP_LOCK_rlock : Fld := ⟨0x08004, 8, 8, 0x0⟩
abbrev OTP_LOCK_wlock : Fld := ⟨0x08004, 0, 8, 0x0⟩

/-! OTP_RT, 17_otp.md (R419). -/
abbrev OTP_RT_mism : Fld := ⟨0x08008, 0, 8, 0x0⟩

/-! OTP_RT_AGE, 17_otp.md (R419). -/
abbrev OTP_RT_AGE_hours : Fld := ⟨0x0800C, 0, 16, 0x0⟩

/-! OTP_CORR, 17_otp.md (R419). -/
abbrev OTP_CORR_count : Fld := ⟨0x08010, 0, 8, 0x0⟩

/-! OTP_HOLD, 17_otp.md (R419). -/
abbrev OTP_HOLD_valid : Fld := ⟨0x08014, 15, 1, 0x0⟩
abbrev OTP_HOLD_region : Fld := ⟨0x08014, 12, 1, 0x0⟩
abbrev OTP_HOLD_word : Fld := ⟨0x08014, 0, 6, 0x0⟩

/-! OTP_REPAIR, 17_otp.md (R419). -/
abbrev OTP_REPAIR_used : Fld := ⟨0x08018, 0, 6, 0x0⟩

/-! AGE_CFG, 19_ageing_and_self_repair.md (R462). -/
abbrev AGE_CFG_approve : Fld := ⟨0x09000, 1, 1, 0x0⟩
abbrev AGE_CFG_plan_en : Fld := ⟨0x09000, 0, 1, 0x1⟩

/-! AGE_STAT, 19_ageing_and_self_repair.md (R462). -/
abbrev AGE_STAT_hold_short : Fld := ⟨0x09004, 4, 1, 0x0⟩
abbrev AGE_STAT_waiting_stop : Fld := ⟨0x09004, 3, 1, 0x0⟩
abbrev AGE_STAT_awaits : Fld := ⟨0x09004, 2, 1, 0x0⟩
abbrev AGE_STAT_proposed : Fld := ⟨0x09004, 1, 1, 0x0⟩
abbrev AGE_STAT_running : Fld := ⟨0x09004, 0, 1, 0x0⟩

/-! AGE_PLAN_ID, 19_ageing_and_self_repair.md (R462). -/
abbrev AGE_PLAN_ID_live : Fld := ⟨0x09008, 0, 16, 0x0⟩

/-! AGE_PROP, 19_ageing_and_self_repair.md (R462). -/
abbrev AGE_PROP_id : Fld := ⟨0x0900C, 0, 16, 0x0⟩

/-! AGE_DUE, 19_ageing_and_self_repair.md (R462). -/
abbrev AGE_DUE_s : Fld := ⟨0x09010, 0, 16, 0x0⟩

/-! AGE_HOLD, 19_ageing_and_self_repair.md (R462). -/
abbrev AGE_HOLD_t_req : Fld := ⟨0x09014, 8, 8, 0x0⟩
abbrev AGE_HOLD_soc_min : Fld := ⟨0x09014, 0, 8, 0x1E⟩

/-! AGE_REFCORR, 19_ageing_and_self_repair.md (R462). -/
abbrev AGE_REFCORR_corr : Fld := ⟨0x09018, 0, 16, 0x0⟩

/-! AGE_TRIO, 19_ageing_and_self_repair.md (R462). -/
abbrev AGE_TRIO_excl : Fld := ⟨0x0901C, 0, 3, 0x0⟩

/-! AGE_HOURSm, 19_ageing_and_self_repair.md (R462). -/
abbrev AGE_HOURS_hours (m : Nat) : Fld := ⟨0x09020 + 0x4 * m, 0, 16, 0x0⟩

/-! AGE_LIFE, 19_ageing_and_self_repair.md (R462). -/
abbrev AGE_LIFE_life : Fld := ⟨0x09028, 0, 16, 0x0⟩

/-! AGE_RINGd, 19_ageing_and_self_repair.md (R462). -/
abbrev AGE_RING_slow (d : Nat) : Fld := ⟨0x09030 + 0x4 * d, 0, 16, 0x0⟩

/-! AGE_HIST, 19_ageing_and_self_repair.md (R462). -/
abbrev AGE_HIST_page : Fld := ⟨0x09044, 0, 7, 0x0⟩

/-! AGE_PHn, 19_ageing_and_self_repair.md (R462). -/
abbrev AGE_PH_busy (n : Nat) : Fld := ⟨0x09100 + 0x4 * n, 15, 1, 0x0⟩
abbrev AGE_PH_overdue (n : Nat) : Fld := ⟨0x09100 + 0x4 * n, 14, 1, 0x0⟩
abbrev AGE_PH_aborts (n : Nat) : Fld := ⟨0x09100 + 0x4 * n, 10, 4, 0x0⟩
abbrev AGE_PH_spares (n : Nat) : Fld := ⟨0x09100 + 0x4 * n, 6, 3, 4⟩
abbrev AGE_PH_retired (n : Nat) : Fld := ⟨0x09100 + 0x4 * n, 0, 6, 0x0⟩

/-! AGE_CMPs, 19_ageing_and_self_repair.md (R462). -/
abbrev AGE_CMP_ret_ov (s : Nat) : Fld := ⟨0x09200 + 0x4 * s, 3, 3, 0x0⟩
abbrev AGE_CMP_ret_uv (s : Nat) : Fld := ⟨0x09200 + 0x4 * s, 0, 3, 0x0⟩

/-! AGE_SRAMb, 19_ageing_and_self_repair.md (R462). -/
abbrev AGE_SRAM_unrep (b : Nat) : Fld := ⟨0x09300 + 0x4 * b, 8, 1, 0x0⟩
abbrev AGE_SRAM_used (b : Nat) : Fld := ⟨0x09300 + 0x4 * b, 0, 5, 0x0⟩

/-! UPD_STAT, 18_firmware_update.md (R439). -/
abbrev UPD_STAT_deferred : Fld := ⟨0x0A000, 11, 1, 0x0⟩
abbrev UPD_STAT_verified : Fld := ⟨0x0A000, 10, 1, 0x0⟩
abbrev UPD_STAT_port : Fld := ⟨0x0A000, 9, 1, 0x0⟩
abbrev UPD_STAT_type : Fld := ⟨0x0A000, 7, 2, 0x0⟩
abbrev UPD_STAT_target : Fld := ⟨0x0A000, 6, 1, 0x0⟩
abbrev UPD_STAT_state : Fld := ⟨0x0A000, 0, 2, 0x0⟩

/-! UPD_RESULT, 18_firmware_update.md (R439). -/
abbrev UPD_RESULT_outcome : Fld := ⟨0x0A004, 0, 4, 0x0⟩

/-! UPD_RXm, 18_firmware_update.md (R439). -/
abbrev UPD_RX_bytes (m : Nat) : Fld := ⟨0x0A008 + 0x4 * m, 0, 16, 0x0⟩

/-! UPD_SEL, 18_firmware_update.md (R439). -/
abbrev UPD_SEL_herd_lvl : Fld := ⟨0x0A010, 8, 8, 0x0⟩
abbrev UPD_SEL_b_valid : Fld := ⟨0x0A010, 4, 1, 0x0⟩
abbrev UPD_SEL_a_valid : Fld := ⟨0x0A010, 3, 1, 0x0⟩
abbrev UPD_SEL_count : Fld := ⟨0x0A010, 2, 1, 0x0⟩
abbrev UPD_SEL_trial : Fld := ⟨0x0A010, 1, 1, 0x0⟩
abbrev UPD_SEL_active : Fld := ⟨0x0A010, 0, 1, 0x0⟩

/-! UPD_VERs_t_w, 18_firmware_update.md (R439). -/
abbrev UPD_VER_hi (i : Nat) : Fld := ⟨0x0A020 + 0x4 * i, 8, 8, 0x0⟩
abbrev UPD_VER_lo (i : Nat) : Fld := ⟨0x0A020 + 0x4 * i, 0, 8, 0x0⟩

/-! POL_PHn_STAT, 05_pol_control.md (R126). -/
abbrev POL_PH_STAT_rail (n : Nat) : Fld := ⟨0x10000 + 0x100 * n, 12, 4, 0x0⟩
abbrev POL_PH_STAT_grouped (n : Nat) : Fld := ⟨0x10000 + 0x100 * n, 11, 1, 0x0⟩
abbrev POL_PH_STAT_switching (n : Nat) : Fld := ⟨0x10000 + 0x100 * n, 10, 1, 0x0⟩
abbrev POL_PH_STAT_in_service (n : Nat) : Fld := ⟨0x10000 + 0x100 * n, 9, 1, 0x1⟩
abbrev POL_PH_STAT_de (n : Nat) : Fld := ⟨0x10000 + 0x100 * n, 8, 1, 0x0⟩
abbrev POL_PH_STAT_n_active (n : Nat) : Fld := ⟨0x10000 + 0x100 * n, 0, 6, 32⟩

/-! POL_PHn_TMAPm, 05_pol_control.md (R126). -/
abbrev POL_PH_TMAP_map (n m : Nat) : Fld := ⟨0x10004 + 0x100 * n + 0x4 * m, 0, 16, if m < 2 then 0xFFFF else 0⟩

/-! POL_PHn_TRETm, 05_pol_control.md (R126). -/
abbrev POL_PH_TRET_retired (n m : Nat) : Fld := ⟨0x10010 + 0x100 * n + 0x4 * m, 0, 16, 0x0⟩

/-! POL_PHn_IAVG, 05_pol_control.md (R126). -/
abbrev POL_PH_IAVG_iavg (n : Nat) : Fld := ⟨0x1001C + 0x100 * n, 0, 16, 0x0⟩

/-! POL_PHn_IPK, 05_pol_control.md (R126). -/
abbrev POL_PH_IPK_ipk (n : Nat) : Fld := ⟨0x10020 + 0x100 * n, 0, 10, 0x0⟩

/-! POL_PHn_DIE, 06_pol_dynamics.md (R153). -/
abbrev POL_PH_DIE_shut (n : Nat) : Fld := ⟨0x10024 + 0x100 * n, 12, 1, 0x0⟩
abbrev POL_PH_DIE_excl (n : Nat) : Fld := ⟨0x10024 + 0x100 * n, 11, 1, 0x0⟩
abbrev POL_PH_DIE_temp (n : Nat) : Fld := ⟨0x10024 + 0x100 * n, 0, 11, 0x0⟩

/-! RAILk_GROUP, 05_pol_control.md (R127). -/
abbrev RAIL_GROUP_valid (k : Nat) : Fld := ⟨0x11000 + 0x100 * k, 8, 1, 0x0⟩
abbrev RAIL_GROUP_last (k : Nat) : Fld := ⟨0x11000 + 0x100 * k, 4, 4, 0x0⟩
abbrev RAIL_GROUP_first (k : Nat) : Fld := ⟨0x11000 + 0x100 * k, 0, 4, 0x0⟩

/-! RAILk_FSW, 05_pol_control.md (R127). -/
abbrev RAIL_FSW_sync_mult (k : Nat) : Fld := ⟨0x11004 + 0x100 * k, 9, 2, 0x0⟩
abbrev RAIL_FSW_fsw (k : Nat) : Fld := ⟨0x11004 + 0x100 * k, 0, 9, 0x64⟩

/-! RAILk_CTRL, 05_pol_control.md (R127). -/
abbrev RAIL_CTRL_direct_loop (k : Nat) : Fld := ⟨0x11008 + 0x100 * k, 4, 1, 0x0⟩
abbrev RAIL_CTRL_graze_en (k : Nat) : Fld := ⟨0x11008 + 0x100 * k, 3, 1, 0x1⟩
abbrev RAIL_CTRL_soft_stop (k : Nat) : Fld := ⟨0x11008 + 0x100 * k, 2, 1, 0x0⟩
abbrev RAIL_CTRL_dis_en (k : Nat) : Fld := ⟨0x11008 + 0x100 * k, 1, 1, 0x1⟩
abbrev RAIL_CTRL_en (k : Nat) : Fld := ⟨0x11008 + 0x100 * k, 0, 1, 0x0⟩

/-! RAILk_VSET, 05_pol_control.md (R127). -/
abbrev RAIL_VSET_vset (k : Nat) : Fld := ⟨0x1100C + 0x100 * k, 0, 12, 0x3E8⟩

/-! RAILk_RAMP, 05_pol_control.md (R127). -/
abbrev RAIL_RAMP_t_ss (k : Nat) : Fld := ⟨0x11010 + 0x100 * k, 8, 8, 0xA⟩
abbrev RAIL_RAMP_slew (k : Nat) : Fld := ⟨0x11010 + 0x100 * k, 0, 8, 0xA⟩

/-! RAILk_L, 05_pol_control.md (R127). -/
abbrev RAIL_L_l_nh (k : Nat) : Fld := ⟨0x11014 + 0x100 * k, 0, 16, 0x96⟩

/-! RAILk_C, 05_pol_control.md (R127). -/
abbrev RAIL_C_c_uf (k : Nat) : Fld := ⟨0x11018 + 0x100 * k, 0, 16, 0x1D6⟩

/-! RAILk_ESR, 05_pol_control.md (R127). -/
abbrev RAIL_ESR_esr (k : Nat) : Fld := ⟨0x1101C + 0x100 * k, 0, 16, 0x0⟩

/-! RAILk_LOOP, 05_pol_control.md (R127). -/
abbrev RAIL_LOOP_fc (k : Nat) : Fld := ⟨0x11020 + 0x100 * k, 8, 8, 0x0⟩
abbrev RAIL_LOOP_pm (k : Nat) : Fld := ⟨0x11020 + 0x100 * k, 0, 8, 0x3C⟩

/-! RAILk_SLOPE, 05_pol_control.md (R127). -/
abbrev RAIL_SLOPE_k_slope (k : Nat) : Fld := ⟨0x11024 + 0x100 * k, 0, 7, 0x20⟩

/-! RAILk_ILIM, 05_pol_control.md (R127). -/
abbrev RAIL_ILIM_ilim (k : Nat) : Fld := ⟨0x11028 + 0x100 * k, 0, 8, 0xC8⟩

/-! RAILk_KP, 05_pol_control.md (R127). -/
abbrev RAIL_KP_kp (k : Nat) : Fld := ⟨0x1102C + 0x100 * k, 0, 16, 0x0⟩

/-! RAILk_FI, 05_pol_control.md (R127). -/
abbrev RAIL_FI_fi (k : Nat) : Fld := ⟨0x11030 + 0x100 * k, 0, 16, 0x0⟩

/-! RAILk_FZ, 05_pol_control.md (R127). -/
abbrev RAIL_FZ_fz (k : Nat) : Fld := ⟨0x11034 + 0x100 * k, 0, 16, 0x0⟩

/-! RAILk_FP, 05_pol_control.md (R127). -/
abbrev RAIL_FP_fp (k : Nat) : Fld := ⟨0x11038 + 0x100 * k, 0, 16, 0x0⟩

/-! RAILk_LOOP_STAT, 05_pol_control.md (R127). -/
abbrev RAIL_LOOP_STAT_pm_ach (k : Nat) : Fld := ⟨0x1103C + 0x100 * k, 8, 8, 0x0⟩
abbrev RAIL_LOOP_STAT_stale (k : Nat) : Fld := ⟨0x1103C + 0x100 * k, 3, 1, 0x0⟩
abbrev RAIL_LOOP_STAT_fc_clamped (k : Nat) : Fld := ⟨0x1103C + 0x100 * k, 2, 1, 0x0⟩
abbrev RAIL_LOOP_STAT_infeasible (k : Nat) : Fld := ⟨0x1103C + 0x100 * k, 1, 1, 0x0⟩
abbrev RAIL_LOOP_STAT_src (k : Nat) : Fld := ⟨0x1103C + 0x100 * k, 0, 1, 0x0⟩

/-! RAILk_SHED, 05_pol_control.md (R127). -/
abbrev RAIL_SHED_i_add (k : Nat) : Fld := ⟨0x11040 + 0x100 * k, 8, 8, 0x3C⟩
abbrev RAIL_SHED_i_shed (k : Nat) : Fld := ⟨0x11040 + 0x100 * k, 0, 8, 0x2A⟩

/-! RAILk_LIGHT, 05_pol_control.md (R127). -/
abbrev RAIL_LIGHT_max_n (k : Nat) : Fld := ⟨0x11044 + 0x100 * k, 8, 5, 0x0⟩
abbrev RAIL_LIGHT_i_de (k : Nat) : Fld := ⟨0x11044 + 0x100 * k, 0, 8, 0xF⟩

/-! RAILk_STEP, 05_pol_control.md (R127). -/
abbrev RAIL_STEP_didt (k : Nat) : Fld := ⟨0x11048 + 0x100 * k, 0, 8, 0x32⟩

/-! RAILk_LDA, 05_pol_control.md (R127). -/
abbrev RAIL_LDA_map (k : Nat) : Fld := ⟨0x1104C + 0x100 * k, 5, 4, 0x0⟩
abbrev RAIL_LDA_offset (k : Nat) : Fld := ⟨0x1104C + 0x100 * k, 0, 5, 0x0⟩

/-! RAILk_PROT, 05_pol_control.md (R127). -/
abbrev RAIL_PROT_retries (k : Nat) : Fld := ⟨0x11050 + 0x100 * k, 8, 3, 0x3⟩
abbrev RAIL_PROT_derate (k : Nat) : Fld := ⟨0x11050 + 0x100 * k, 0, 8, 0x14⟩

/-! RAILk_STAT, 05_pol_control.md (R127). -/
abbrev RAIL_STAT_state (k : Nat) : Fld := ⟨0x11054 + 0x100 * k, 13, 3, 0x0⟩
abbrev RAIL_STAT_regime (k : Nat) : Fld := ⟨0x11054 + 0x100 * k, 11, 2, 0x0⟩
abbrev RAIL_STAT_n_active (k : Nat) : Fld := ⟨0x11054 + 0x100 * k, 6, 5, 0x0⟩
abbrev RAIL_STAT_pulse_skip (k : Nat) : Fld := ⟨0x11054 + 0x100 * k, 5, 1, 0x0⟩
abbrev RAIL_STAT_prebias (k : Nat) : Fld := ⟨0x11054 + 0x100 * k, 4, 1, 0x0⟩
abbrev RAIL_STAT_sense_open (k : Nat) : Fld := ⟨0x11054 + 0x100 * k, 3, 1, 0x0⟩
abbrev RAIL_STAT_ceiling (k : Nat) : Fld := ⟨0x11054 + 0x100 * k, 2, 1, 0x0⟩
abbrev RAIL_STAT_announce (k : Nat) : Fld := ⟨0x11054 + 0x100 * k, 1, 1, 0x0⟩
abbrev RAIL_STAT_derated (k : Nat) : Fld := ⟨0x11054 + 0x100 * k, 0, 1, 0x0⟩

/-! RAILk_STAT2, 05_pol_control.md (R127). -/
abbrev RAIL_STAT2_retry_cnt (k : Nat) : Fld := ⟨0x11058 + 0x100 * k, 8, 3, 0x0⟩
abbrev RAIL_STAT2_n_service (k : Nat) : Fld := ⟨0x11058 + 0x100 * k, 0, 5, 0x0⟩

/-! RAILk_TGT, 05_pol_control.md (R127). -/
abbrev RAIL_TGT_v_tgt (k : Nat) : Fld := ⟨0x1105C + 0x100 * k, 0, 12, 0x0⟩

/-! RAILk_IOUT, 05_pol_control.md (R127). -/
abbrev RAIL_IOUT_iout (k : Nat) : Fld := ⟨0x11060 + 0x100 * k, 0, 16, 0x0⟩

/-! RAILk_THERM, 06_pol_dynamics.md (R154). -/
abbrev RAIL_THERM_warn (k : Nat) : Fld := ⟨0x11064 + 0x100 * k, 0, 8, 0x87⟩

/-! RAILk_DYN, 06_pol_dynamics.md (R154). -/
abbrev RAIL_DYN_ilim_active (k : Nat) : Fld := ⟨0x11068 + 0x100 * k, 5, 1, 0x0⟩
abbrev RAIL_DYN_ovclamp (k : Nat) : Fld := ⟨0x11068 + 0x100 * k, 4, 1, 0x0⟩
abbrev RAIL_DYN_inhibit (k : Nat) : Fld := ⟨0x11068 + 0x100 * k, 3, 1, 0x0⟩
abbrev RAIL_DYN_ramp_out (k : Nat) : Fld := ⟨0x11068 + 0x100 * k, 2, 1, 0x0⟩
abbrev RAIL_DYN_ann_offset (k : Nat) : Fld := ⟨0x11068 + 0x100 * k, 1, 1, 0x0⟩
abbrev RAIL_DYN_held (k : Nat) : Fld := ⟨0x11068 + 0x100 * k, 0, 1, 0x0⟩

/-! RAILk_EVT, 06_pol_dynamics.md (R154). -/
abbrev RAIL_EVT_step_cnt (k : Nat) : Fld := ⟨0x1106C + 0x100 * k, 8, 8, 0x0⟩
abbrev RAIL_EVT_ann_cnt (k : Nat) : Fld := ⟨0x1106C + 0x100 * k, 0, 8, 0x0⟩

/-! RAIL_COMMIT, 03_register_conventions.md (R77). -/
abbrev RAIL_COMMIT_discard (k : Nat) : Fld := ⟨0x110FC + 0x100 * k, 2, 1, 0x0⟩
abbrev RAIL_COMMIT_hold (k : Nat) : Fld := ⟨0x110FC + 0x100 * k, 1, 1, 0x0⟩
abbrev RAIL_COMMIT_pending (k : Nat) : Fld := ⟨0x110FC + 0x100 * k, 0, 1, 0x0⟩

/-! FE_CTRL, 07_front_end.md (R179). -/
abbrev FE_CTRL_direct_loop : Fld := ⟨0x14000, 2, 1, 0x0⟩
abbrev FE_CTRL_graze_en : Fld := ⟨0x14000, 1, 1, 0x1⟩
abbrev FE_CTRL_fwd_en : Fld := ⟨0x14000, 0, 1, 0x0⟩

/-! FE_STAT, 07_front_end.md (R179). -/
abbrev FE_STAT_state : Fld := ⟨0x14004, 13, 3, 0x0⟩
abbrev FE_STAT_region : Fld := ⟨0x14004, 11, 2, 0x0⟩
abbrev FE_STAT_loop : Fld := ⟨0x14004, 7, 4, 0x0⟩
abbrev FE_STAT_n_active : Fld := ⟨0x14004, 5, 2, 0x0⟩
abbrev FE_STAT_de : Fld := ⟨0x14004, 4, 1, 0x0⟩
abbrev FE_STAT_ilim_active : Fld := ⟨0x14004, 3, 1, 0x0⟩
abbrev FE_STAT_held : Fld := ⟨0x14004, 2, 1, 0x0⟩
abbrev FE_STAT_ph_out : Fld := ⟨0x14004, 0, 2, 0x0⟩

/-! FE_FSW, 07_front_end.md (R179). -/
abbrev FE_FSW_dt : Fld := ⟨0x14008, 9, 7, 0x14⟩
abbrev FE_FSW_fsw : Fld := ⟨0x14008, 0, 9, 0xC8⟩

/-! FE_RS, 07_front_end.md (R179). -/
abbrev FE_RS_rs : Fld := ⟨0x1400C, 0, 8, 0x50⟩

/-! FE_L, 07_front_end.md (R179). -/
abbrev FE_L_l : Fld := ⟨0x14010, 0, 16, 0x14A⟩

/-! FE_C, 07_front_end.md (R179). -/
abbrev FE_C_c_vhb : Fld := ⟨0x14014, 8, 8, 0x18⟩
abbrev FE_C_c_sys : Fld := ⟨0x14014, 0, 8, 0x28⟩

/-! FE_LOOP, 07_front_end.md (R179). -/
abbrev FE_LOOP_fc : Fld := ⟨0x14018, 8, 8, 0x0⟩
abbrev FE_LOOP_pm : Fld := ⟨0x14018, 0, 8, 0x3C⟩

/-! FE_SLOPE, 07_front_end.md (R179). -/
abbrev FE_SLOPE_k_slope : Fld := ⟨0x1401C, 0, 7, 0x20⟩

/-! FE_ILIM, 07_front_end.md (R179). -/
abbrev FE_ILIM_ipk : Fld := ⟨0x14020, 0, 8, 0x8C⟩

/-! FE_IIN, 07_front_end.md (R179). -/
abbrev FE_IIN_iin : Fld := ⟨0x14024, 0, 10, 0xC8⟩

/-! FE_REV_VHB, 07_front_end.md (R179). -/
abbrev FE_REV_VHB_vhb : Fld := ⟨0x14028, 0, 12, 0x960⟩

/-! FE_REV_LIM, 07_front_end.md (R179). -/
abbrev FE_REV_LIM_idis : Fld := ⟨0x1402C, 8, 8, 0x64⟩
abbrev FE_REV_LIM_plim : Fld := ⟨0x1402C, 0, 8, 0x78⟩

/-! FE_REV_UVF, 07_front_end.md (R179). -/
abbrev FE_REV_UVF_uvf : Fld := ⟨0x14030, 0, 12, 0xAF0⟩

/-! FE_LIGHT, 07_front_end.md (R179). -/
abbrev FE_LIGHT_i_add : Fld := ⟨0x14034, 8, 8, 0x14⟩
abbrev FE_LIGHT_i_shed : Fld := ⟨0x14034, 0, 8, 0xE⟩

/-! FE_DE, 07_front_end.md (R179). -/
abbrev FE_DE_i_de : Fld := ⟨0x14038, 0, 8, 0x1E⟩

/-! FE_VBUS, 07_front_end.md (R179). -/
abbrev FE_VBUS_uv : Fld := ⟨0x1403C, 0, 8, 0x50⟩

/-! FE_ISW, 07_front_end.md (R179). -/
abbrev FE_ISW_t_close : Fld := ⟨0x14040, 8, 8, 0x64⟩
abbrev FE_ISW_slew : Fld := ⟨0x14040, 0, 8, 0xA⟩

/-! FE_VSYS_TGT, 07_front_end.md (R179). -/
abbrev FE_VSYS_TGT_tgt : Fld := ⟨0x14044, 0, 11, 0x0⟩

/-! FE_KPf, 07_front_end.md (R179). -/
abbrev FE_KP_kp (f : Nat) : Fld := ⟨0x14050 + 0x10 * f, 0, 16, 0x0⟩

/-! FE_FIf, 07_front_end.md (R179). -/
abbrev FE_FI_fi (f : Nat) : Fld := ⟨0x14054 + 0x10 * f, 0, 16, 0x0⟩

/-! FE_FZf, 07_front_end.md (R179). -/
abbrev FE_FZ_fz (f : Nat) : Fld := ⟨0x14058 + 0x10 * f, 0, 16, 0x0⟩

/-! FE_FPf, 07_front_end.md (R179). -/
abbrev FE_FP_fp (f : Nat) : Fld := ⟨0x1405C + 0x10 * f, 0, 16, 0x0⟩

/-! FE_LOOP_STATf, 07_front_end.md (R179). -/
abbrev FE_LOOP_STAT_pm_ach (f : Nat) : Fld := ⟨0x14070 + 0x4 * f, 8, 8, 0x0⟩
abbrev FE_LOOP_STAT_stale (f : Nat) : Fld := ⟨0x14070 + 0x4 * f, 3, 1, 0x0⟩
abbrev FE_LOOP_STAT_fc_clamped (f : Nat) : Fld := ⟨0x14070 + 0x4 * f, 2, 1, 0x0⟩
abbrev FE_LOOP_STAT_infeasible (f : Nat) : Fld := ⟨0x14070 + 0x4 * f, 1, 1, 0x0⟩
abbrev FE_LOOP_STAT_src (f : Nat) : Fld := ⟨0x14070 + 0x4 * f, 0, 1, 0x0⟩

/-! FE_FLT, 07_front_end.md (R179). -/
abbrev FE_FLT_vbus_rev : Fld := ⟨0x14078, 9, 1, 0x0⟩
abbrev FE_FLT_isw_slow : Fld := ⟨0x14078, 8, 1, 0x0⟩
abbrev FE_FLT_vbus_ov : Fld := ⟨0x14078, 7, 1, 0x0⟩
abbrev FE_FLT_ph1_open : Fld := ⟨0x14078, 6, 1, 0x0⟩
abbrev FE_FLT_ph0_open : Fld := ⟨0x14078, 5, 1, 0x0⟩
abbrev FE_FLT_vdrv_uv : Fld := ⟨0x14078, 4, 1, 0x0⟩
abbrev FE_FLT_bs_uv : Fld := ⟨0x14078, 3, 1, 0x0⟩
abbrev FE_FLT_vhb_ov : Fld := ⟨0x14078, 2, 1, 0x0⟩
abbrev FE_FLT_vsys_ov : Fld := ⟨0x14078, 1, 1, 0x0⟩
abbrev FE_FLT_ilim_sust : Fld := ⟨0x14078, 0, 1, 0x0⟩

/-! FE_MEASm, 07_front_end.md (R179). -/
abbrev FE_MEAS_val (m : Nat) : Fld := ⟨0x14080 + 0x4 * m, 0, 16, 0x0⟩

/-! FE_COMMIT, 03_register_conventions.md (R77). -/
abbrev FE_COMMIT_discard : Fld := ⟨0x147FC, 2, 1, 0x0⟩
abbrev FE_COMMIT_hold : Fld := ⟨0x147FC, 1, 1, 0x0⟩
abbrev FE_COMMIT_pending : Fld := ⟨0x147FC, 0, 1, 0x0⟩

/-! PATH_CTRL, 08_power_path_and_charging.md (R208). -/
abbrev PATH_CTRL_ibex_en : Fld := ⟨0x15000, 1, 1, 0x1⟩
abbrev PATH_CTRL_isw_en : Fld := ⟨0x15000, 0, 1, 0x1⟩

/-! PATH_STAT, 08_power_path_and_charging.md (R208). -/
abbrev PATH_STAT_dwell : Fld := ⟨0x15004, 10, 1, 0x0⟩
abbrev PATH_STAT_vbus_qual : Fld := ⟨0x15004, 9, 1, 0x0⟩
abbrev PATH_STAT_isw_closed : Fld := ⟨0x15004, 8, 1, 0x0⟩
abbrev PATH_STAT_bf_mode : Fld := ⟨0x15004, 6, 2, 0x0⟩
abbrev PATH_STAT_batt_present : Fld := ⟨0x15004, 5, 1, 0x0⟩
abbrev PATH_STAT_vhb_reg : Fld := ⟨0x15004, 4, 1, 0x0⟩
abbrev PATH_STAT_mode : Fld := ⟨0x15004, 0, 3, 0x0⟩

/-! PATH_VBUS_LO, 08_power_path_and_charging.md (R208). -/
abbrev PATH_VBUS_LO_lo : Fld := ⟨0x15008, 0, 10, 0xB4⟩

/-! PATH_VBUS_HI, 08_power_path_and_charging.md (R208). -/
abbrev PATH_VBUS_HI_hi : Fld := ⟨0x1500C, 0, 10, 0x258⟩

/-! PATH_QUAL, 08_power_path_and_charging.md (R208). -/
abbrev PATH_QUAL_t_loss : Fld := ⟨0x15010, 8, 8, 0x14⟩
abbrev PATH_QUAL_t_qual : Fld := ⟨0x15010, 0, 8, 0xA⟩

/-! PATH_IBEX, 08_power_path_and_charging.md (R208). -/
abbrev PATH_IBEX_vhb_end : Fld := ⟨0x15014, 0, 9, 0xA0⟩

/-! PATH_RET, 08_power_path_and_charging.md (R208). -/
abbrev PATH_RET_t_match : Fld := ⟨0x15018, 8, 8, 0x14⟩
abbrev PATH_RET_slew : Fld := ⟨0x15018, 0, 8, 0x32⟩

/-! PATH_CUT, 08_power_path_and_charging.md (R208). -/
abbrev PATH_CUT_v_cut : Fld := ⟨0x1501C, 0, 12, 0x9C4⟩

/-! PATH_FLT, 08_power_path_and_charging.md (R208). -/
abbrev PATH_FLT_cutoff : Fld := ⟨0x15020, 3, 1, 0x0⟩
abbrev PATH_FLT_hold_exh : Fld := ⟨0x15020, 2, 1, 0x0⟩
abbrev PATH_FLT_match_fail : Fld := ⟨0x15020, 1, 1, 0x0⟩
abbrev PATH_FLT_ho_slow : Fld := ⟨0x15020, 0, 1, 0x0⟩

/-! PATH_EVT, 08_power_path_and_charging.md (R208). -/
abbrev PATH_EVT_handovers : Fld := ⟨0x15024, 8, 8, 0x0⟩
abbrev PATH_EVT_returns : Fld := ⟨0x15024, 0, 8, 0x0⟩

/-! PATH_HO_TIME, 08_power_path_and_charging.md (R208). -/
abbrev PATH_HO_TIME_t : Fld := ⟨0x15028, 0, 16, 0x0⟩

/-! CHG_CTRL, 08_power_path_and_charging.md (R209). -/
abbrev CHG_CTRL_bal_en : Fld := ⟨0x16000, 1, 1, 0x1⟩
abbrev CHG_CTRL_en : Fld := ⟨0x16000, 0, 1, 0x0⟩

/-! CHG_CFG, 08_power_path_and_charging.md (R209). -/
abbrev CHG_CFG_cap : Fld := ⟨0x16004, 8, 8, 0x28⟩
abbrev CHG_CFG_cells : Fld := ⟨0x16004, 2, 1, 0x1⟩
abbrev CHG_CFG_chem : Fld := ⟨0x16004, 0, 2, 0x0⟩

/-! CHG_RSH, 08_power_path_and_charging.md (R209). -/
abbrev CHG_RSH_rsh : Fld := ⟨0x16008, 0, 7, 0x14⟩

/-! CHG_VCV, 08_power_path_and_charging.md (R209). -/
abbrev CHG_VCV_vcv : Fld := ⟨0x1600C, 0, 13, 0xDDE⟩

/-! CHG_ICC, 08_power_path_and_charging.md (R209). -/
abbrev CHG_ICC_icc : Fld := ⟨0x16010, 0, 9, 0x64⟩

/-! CHG_ITERM, 08_power_path_and_charging.md (R209). -/
abbrev CHG_ITERM_iterm : Fld := ⟨0x16014, 0, 10, 0x0⟩

/-! CHG_TOPOFF, 08_power_path_and_charging.md (R209). -/
abbrev CHG_TOPOFF_bal_delta : Fld := ⟨0x16018, 8, 8, 0xF⟩
abbrev CHG_TOPOFF_t_topoff : Fld := ⟨0x16018, 0, 7, 0x1E⟩

/-! CHG_VPRE, 08_power_path_and_charging.md (R209). -/
abbrev CHG_VPRE_vpre : Fld := ⟨0x1601C, 0, 12, 0xA28⟩

/-! CHG_RECH, 08_power_path_and_charging.md (R209). -/
abbrev CHG_RECH_soc : Fld := ⟨0x16020, 8, 7, 0x5F⟩
abbrev CHG_RECH_dv : Fld := ⟨0x16020, 0, 8, 0x14⟩

/-! CHG_TEMP, 08_power_path_and_charging.md (R209). -/
abbrev CHG_TEMP_t_hi : Fld := ⟨0x16024, 8, 8, 0x2D⟩
abbrev CHG_TEMP_t_lo : Fld := ⟨0x16024, 0, 8, 0x0⟩

/-! CHG_TEMP2, 08_power_path_and_charging.md (R209). -/
abbrev CHG_TEMP2_t_ot : Fld := ⟨0x16028, 8, 8, 0x3C⟩
abbrev CHG_TEMP2_t_half : Fld := ⟨0x16028, 0, 8, 0xA⟩

/-! CHG_TIMER, 08_power_path_and_charging.md (R209). -/
abbrev CHG_TIMER_pre : Fld := ⟨0x1602C, 11, 5, 0x6⟩
abbrev CHG_TIMER_cv : Fld := ⟨0x1602C, 6, 5, 0xC⟩
abbrev CHG_TIMER_cc : Fld := ⟨0x1602C, 0, 6, 0x24⟩

/-! CHG_VSYS, 08_power_path_and_charging.md (R209). -/
abbrev CHG_VSYS_v_abs : Fld := ⟨0x16030, 8, 8, 0x84⟩
abbrev CHG_VSYS_headroom : Fld := ⟨0x16030, 0, 6, 0x14⟩

/-! CHG_STAT, 08_power_path_and_charging.md (R209). -/
abbrev CHG_STAT_rech_evt : Fld := ⟨0x16034, 15, 1, 0x0⟩
abbrev CHG_STAT_done_evt : Fld := ⟨0x16034, 14, 1, 0x0⟩
abbrev CHG_STAT_phase_evt : Fld := ⟨0x16034, 13, 1, 0x0⟩
abbrev CHG_STAT_susp_temp : Fld := ⟨0x16034, 12, 1, 0x0⟩
abbrev CHG_STAT_susp_source : Fld := ⟨0x16034, 11, 1, 0x0⟩
abbrev CHG_STAT_susp_ibex : Fld := ⟨0x16034, 10, 1, 0x0⟩
abbrev CHG_STAT_susp_safe : Fld := ⟨0x16034, 9, 1, 0x0⟩
abbrev CHG_STAT_balancing : Fld := ⟨0x16034, 8, 1, 0x0⟩
abbrev CHG_STAT_t_derate : Fld := ⟨0x16034, 7, 1, 0x0⟩
abbrev CHG_STAT_phase : Fld := ⟨0x16034, 0, 4, 0x0⟩

/-! CHG_FLT, 08_power_path_and_charging.md (R209). -/
abbrev CHG_FLT_removed : Fld := ⟨0x16038, 4, 1, 0x0⟩
abbrev CHG_FLT_pack_uv : Fld := ⟨0x16038, 3, 1, 0x0⟩
abbrev CHG_FLT_timer : Fld := ⟨0x16038, 2, 1, 0x0⟩
abbrev CHG_FLT_ot : Fld := ⟨0x16038, 1, 1, 0x0⟩
abbrev CHG_FLT_ov : Fld := ⟨0x16038, 0, 1, 0x0⟩

/-! CHG_TGT, 08_power_path_and_charging.md (R209). -/
abbrev CHG_TGT_i_tgt : Fld := ⟨0x1603C, 0, 10, 0x0⟩

/-! GAUGE_CTRL, 09_battery_gauge.md (R237). -/
abbrev GAUGE_CTRL_learn_en : Fld := ⟨0x17000, 0, 1, 0x1⟩

/-! GAUGE_FLAGS, 09_battery_gauge.md (R237). -/
abbrev GAUGE_FLAGS_over_range : Fld := ⟨0x17004, 7, 1, 0x0⟩
abbrev GAUGE_FLAGS_t_sub : Fld := ⟨0x17004, 6, 1, 0x0⟩
abbrev GAUGE_FLAGS_settling : Fld := ⟨0x17004, 5, 1, 0x0⟩
abbrev GAUGE_FLAGS_stale : Fld := ⟨0x17004, 4, 1, 0x1⟩
abbrev GAUGE_FLAGS_absent : Fld := ⟨0x17004, 3, 1, 0x1⟩
abbrev GAUGE_FLAGS_disputed : Fld := ⟨0x17004, 2, 1, 0x0⟩
abbrev GAUGE_FLAGS_anchored : Fld := ⟨0x17004, 1, 1, 0x0⟩
abbrev GAUGE_FLAGS_rest : Fld := ⟨0x17004, 0, 1, 0x0⟩

/-! GAUGE_EVT, 09_battery_gauge.md (R237). -/
abbrev GAUGE_EVT_learn_rej : Fld := ⟨0x17008, 7, 1, 0x0⟩
abbrev GAUGE_EVT_learn_acc : Fld := ⟨0x17008, 6, 1, 0x0⟩
abbrev GAUGE_EVT_save_fail : Fld := ⟨0x17008, 5, 1, 0x0⟩
abbrev GAUGE_EVT_remove : Fld := ⟨0x17008, 4, 1, 0x0⟩
abbrev GAUGE_EVT_insert : Fld := ⟨0x17008, 3, 1, 0x0⟩
abbrev GAUGE_EVT_dispute : Fld := ⟨0x17008, 2, 1, 0x0⟩
abbrev GAUGE_EVT_anchor_rej : Fld := ⟨0x17008, 1, 1, 0x0⟩
abbrev GAUGE_EVT_anchor_acc : Fld := ⟨0x17008, 0, 1, 0x0⟩

/-! GAUGE_SOC, 09_battery_gauge.md (R237). -/
abbrev GAUGE_SOC_soc : Fld := ⟨0x1700C, 0, 16, 0x0FFFF⟩

/-! GAUGE_UNC, 09_battery_gauge.md (R237). -/
abbrev GAUGE_UNC_unc : Fld := ⟨0x17010, 0, 16, 0x0FFFF⟩

/-! GAUGE_RM, 09_battery_gauge.md (R237). -/
abbrev GAUGE_RM_rm : Fld := ⟨0x17014, 0, 16, 0x0FFFF⟩

/-! GAUGE_FCC, 09_battery_gauge.md (R237). -/
abbrev GAUGE_FCC_fcc : Fld := ⟨0x17018, 0, 16, 0x0FFFF⟩

/-! GAUGE_SOH, 09_battery_gauge.md (R237). -/
abbrev GAUGE_SOH_soh : Fld := ⟨0x1701C, 0, 16, 0x0FFFF⟩

/-! GAUGE_RSER, 09_battery_gauge.md (R237). -/
abbrev GAUGE_RSER_rser : Fld := ⟨0x17020, 0, 16, 0x0FFFF⟩

/-! GAUGE_CYC, 09_battery_gauge.md (R237). -/
abbrev GAUGE_CYC_cycles : Fld := ⟨0x17024, 0, 16, 0x0FFFF⟩

/-! GAUGE_HOLD, 09_battery_gauge.md (R237). -/
abbrev GAUGE_HOLD_t : Fld := ⟨0x17028, 0, 16, 0x0FFFF⟩

/-! GAUGE_CNT_SOC, 09_battery_gauge.md (R237). -/
abbrev GAUGE_CNT_SOC_soc : Fld := ⟨0x1702C, 0, 16, 0x0FFFF⟩

/-! GAUGE_CELLSOCm, 09_battery_gauge.md (R237). -/
abbrev GAUGE_CELLSOC_soc (m : Nat) : Fld := ⟨0x17030 + 0x4 * m, 0, 16, 0x0FFFF⟩

/-! GAUGE_CELLm, 09_battery_gauge.md (R237). -/
abbrev GAUGE_CELL_v (m : Nat) : Fld := ⟨0x17040 + 0x4 * m, 0, 16, 0x0⟩

/-! GAUGE_TEMP, 09_battery_gauge.md (R237). -/
abbrev GAUGE_TEMP_t : Fld := ⟨0x17050, 0, 16, 0x0⟩

/-! GAUGE_IBATm, 09_battery_gauge.md (R237). -/
abbrev GAUGE_IBAT_i (m : Nat) : Fld := ⟨0x17054 + 0x4 * m, 0, 16, 0x0⟩

/-! GAUGE_Qm, 09_battery_gauge.md (R237). -/
abbrev GAUGE_Q_q (m : Nat) : Fld := ⟨0x1705C + 0x4 * m, 0, 16, 0x0⟩

/-! GAUGE_PACK, 09_battery_gauge.md (R237). -/
abbrev GAUGE_PACK_tag : Fld := ⟨0x1706C, 5, 11, 0x0⟩
abbrev GAUGE_PACK_id_valid : Fld := ⟨0x1706C, 4, 1, 0x0⟩
abbrev GAUGE_PACK_code : Fld := ⟨0x1706C, 0, 4, 0x0⟩

/-! GAUGE_REST, 09_battery_gauge.md (R237). -/
abbrev GAUGE_REST_t_rest : Fld := ⟨0x17070, 0, 9, 0x14⟩

/-! GAUGE_LEARN, 09_battery_gauge.md (R237). -/
abbrev GAUGE_LEARN_min_dsoc : Fld := ⟨0x17074, 8, 8, 0x28⟩
abbrev GAUGE_LEARN_w : Fld := ⟨0x17074, 0, 8, 0x19⟩

/-! GAUGE_HOLDP, 09_battery_gauge.md (R237). -/
abbrev GAUGE_HOLDP_eta : Fld := ⟨0x17078, 8, 8, 0x5F⟩
abbrev GAUGE_HOLDP_p_vhb : Fld := ⟨0x17078, 0, 8, 0x0⟩

/-! GAUGE_STORE, 09_battery_gauge.md (R237). -/
abbrev GAUGE_STORE_cause : Fld := ⟨0x1707C, 8, 8, 0x0⟩
abbrev GAUGE_STORE_pending : Fld := ⟨0x1707C, 3, 1, 0x0⟩
abbrev GAUGE_STORE_b_valid : Fld := ⟨0x1707C, 2, 1, 0x0⟩
abbrev GAUGE_STORE_a_valid : Fld := ⟨0x1707C, 1, 1, 0x0⟩
abbrev GAUGE_STORE_newest : Fld := ⟨0x1707C, 0, 1, 0x0⟩

/-! GAUGE_COMMIT, 03_register_conventions.md (R77). -/
abbrev GAUGE_COMMIT_discard : Fld := ⟨0x177FC, 2, 1, 0x0⟩
abbrev GAUGE_COMMIT_hold : Fld := ⟨0x177FC, 1, 1, 0x0⟩
abbrev GAUGE_COMMIT_pending : Fld := ⟨0x177FC, 0, 1, 0x0⟩

/-! ISOn_CTRL, 10_isolated_bias_and_ldos.md (R250). -/
abbrev ISO_CTRL_en (n : Nat) : Fld := ⟨0x18000 + 0x80 * n, 0, 1, 0x0⟩

/-! ISOn_FREQ, 10_isolated_bias_and_ldos.md (R250). -/
abbrev ISO_FREQ_spread (n : Nat) : Fld := ⟨0x18004 + 0x80 * n, 10, 1, 0x1⟩
abbrev ISO_FREQ_fsw (n : Nat) : Fld := ⟨0x18004 + 0x80 * n, 0, 10, 0x190⟩

/-! ISOn_TIME, 10_isolated_bias_and_ldos.md (R250). -/
abbrev ISO_TIME_t_ss (n : Nat) : Fld := ⟨0x18008 + 0x80 * n, 8, 4, 0x2⟩
abbrev ISO_TIME_dt (n : Nat) : Fld := ⟨0x18008 + 0x80 * n, 0, 7, 0xA⟩

/-! ISOn_SUP, 10_isolated_bias_and_ldos.md (R250). -/
abbrev ISO_SUP_ipk (n : Nat) : Fld := ⟨0x1800C + 0x80 * n, 8, 8, 0x50⟩
abbrev ISO_SUP_p_max (n : Nat) : Fld := ⟨0x1800C + 0x80 * n, 0, 8, 0x24⟩

/-! ISOn_MON, 10_isolated_bias_and_ldos.md (R250). -/
abbrev ISO_MON_map_en (n : Nat) : Fld := ⟨0x18010 + 0x80 * n, 4, 1, 0x0⟩
abbrev ISO_MON_mon (n : Nat) : Fld := ⟨0x18010 + 0x80 * n, 0, 4, 0x0⟩

/-! ISOn_STAT, 10_isolated_bias_and_ldos.md (R250). -/
abbrev ISO_STAT_ilim (n : Nat) : Fld := ⟨0x18014 + 0x80 * n, 3, 1, 0x0⟩
abbrev ISO_STAT_state (n : Nat) : Fld := ⟨0x18014 + 0x80 * n, 0, 3, 0x0⟩

/-! ISOn_FLT, 10_isolated_bias_and_ldos.md (R250). -/
abbrev ISO_FLT_mon (n : Nat) : Fld := ⟨0x18018 + 0x80 * n, 4, 1, 0x0⟩
abbrev ISO_FLT_open_b (n : Nat) : Fld := ⟨0x18018 + 0x80 * n, 3, 1, 0x0⟩
abbrev ISO_FLT_open_a (n : Nat) : Fld := ⟨0x18018 + 0x80 * n, 2, 1, 0x0⟩
abbrev ISO_FLT_ovl (n : Nat) : Fld := ⟨0x18018 + 0x80 * n, 1, 1, 0x0⟩
abbrev ISO_FLT_short (n : Nat) : Fld := ⟨0x18018 + 0x80 * n, 0, 1, 0x0⟩

/-! ISOn_MEAS, 10_isolated_bias_and_ldos.md (R250). -/
abbrev ISO_MEAS_p_in (n : Nat) : Fld := ⟨0x1801C + 0x80 * n, 0, 16, 0x0⟩

/-! ISO_COMMIT, 03_register_conventions.md (R77). -/
abbrev ISO_COMMIT_discard (n : Nat) : Fld := ⟨0x1807C + 0x80 * n, 2, 1, 0x0⟩
abbrev ISO_COMMIT_hold (n : Nat) : Fld := ⟨0x1807C + 0x80 * n, 1, 1, 0x0⟩
abbrev ISO_COMMIT_pending (n : Nat) : Fld := ⟨0x1807C + 0x80 * n, 0, 1, 0x0⟩

/-! LDOn_CTRL, 10_isolated_bias_and_ldos.md (R255). -/
abbrev LDO_CTRL_ss (n : Nat) : Fld := ⟨0x19000 + 0x10 * n, 8, 8, 0xA⟩
abbrev LDO_CTRL_dis_en (n : Nat) : Fld := ⟨0x19000 + 0x10 * n, 1, 1, 0x1⟩
abbrev LDO_CTRL_en (n : Nat) : Fld := ⟨0x19000 + 0x10 * n, 0, 1, 0x0⟩

/-! LDOn_VSET, 10_isolated_bias_and_ldos.md (R255). -/
abbrev LDO_VSET_vset (n : Nat) : Fld := ⟨0x19004 + 0x10 * n, 0, 12, 0x708⟩

/-! LDOn_STAT, 10_isolated_bias_and_ldos.md (R255). -/
abbrev LDO_STAT_dropout (n : Nat) : Fld := ⟨0x19008 + 0x10 * n, 3, 1, 0x0⟩
abbrev LDO_STAT_ilim (n : Nat) : Fld := ⟨0x19008 + 0x10 * n, 2, 1, 0x0⟩
abbrev LDO_STAT_state (n : Nat) : Fld := ⟨0x19008 + 0x10 * n, 0, 2, 0x0⟩

/-! LDOn_IOUT, 10_isolated_bias_and_ldos.md (R255). -/
abbrev LDO_IOUT_iout (n : Nat) : Fld := ⟨0x1900C + 0x10 * n, 0, 16, 0x0⟩

/-! MON_CHs_CFG, 11_sequencing_and_supervision.md (R278). -/
abbrev MON_CH_CFG_en (s : Nat) : Fld := ⟨0x1A000 + 0x20 * s, 3, 1, if s < 14 then 1 else 0⟩
abbrev MON_CH_CFG_pg_win (s : Nat) : Fld := ⟨0x1A000 + 0x20 * s, 2, 1, 0x0⟩
abbrev MON_CH_CFG_ov_lvl (s : Nat) : Fld := ⟨0x1A000 + 0x20 * s, 1, 1, 0x0⟩
abbrev MON_CH_CFG_uv_lvl (s : Nat) : Fld := ⟨0x1A000 + 0x20 * s, 0, 1, 0x0⟩

/-! MON_CHs_WARN, 11_sequencing_and_supervision.md (R278). -/
abbrev MON_CH_WARN_ov (s : Nat) : Fld := ⟨0x1A004 + 0x20 * s, 8, 8, 0xC⟩
abbrev MON_CH_WARN_uv (s : Nat) : Fld := ⟨0x1A004 + 0x20 * s, 0, 8, 0xC⟩

/-! MON_CHs_FWIN, 11_sequencing_and_supervision.md (R278). -/
abbrev MON_CH_FWIN_ov (s : Nat) : Fld := ⟨0x1A008 + 0x20 * s, 8, 8, 0x20⟩
abbrev MON_CH_FWIN_uv (s : Nat) : Fld := ⟨0x1A008 + 0x20 * s, 0, 8, 0x18⟩

/-! MON_CHs_PG, 11_sequencing_and_supervision.md (R278). -/
abbrev MON_CH_PG_pg_cnt (s : Nat) : Fld := ⟨0x1A00C + 0x20 * s, 0, 8, 0x10⟩

/-! MON_CHs_FILT, 11_sequencing_and_supervision.md (R278). -/
abbrev MON_CH_FILT_filt (s : Nat) : Fld := ⟨0x1A010 + 0x20 * s, 8, 7, 0xA⟩
abbrev MON_CH_FILT_db (s : Nat) : Fld := ⟨0x1A010 + 0x20 * s, 0, 4, 0x4⟩

/-! MON_CHs_NOM, 11_sequencing_and_supervision.md (R278). -/
abbrev MON_CH_NOM_nom (s : Nat) : Fld := ⟨0x1A014 + 0x20 * s, 0, 12, 0x3E8⟩

/-! MON_CHs_STAT, 11_sequencing_and_supervision.md (R278). -/
abbrev MON_CH_STAT_chat (s : Nat) : Fld := ⟨0x1A018 + 0x20 * s, 8, 8, 0x0⟩
abbrev MON_CH_STAT_armed_ov (s : Nat) : Fld := ⟨0x1A018 + 0x20 * s, 5, 1, 0x0⟩
abbrev MON_CH_STAT_armed_uv (s : Nat) : Fld := ⟨0x1A018 + 0x20 * s, 4, 1, 0x0⟩
abbrev MON_CH_STAT_pg (s : Nat) : Fld := ⟨0x1A018 + 0x20 * s, 3, 1, 0x0⟩
abbrev MON_CH_STAT_in_win (s : Nat) : Fld := ⟨0x1A018 + 0x20 * s, 2, 1, 0x0⟩
abbrev MON_CH_STAT_warn_hi (s : Nat) : Fld := ⟨0x1A018 + 0x20 * s, 1, 1, 0x0⟩
abbrev MON_CH_STAT_warn_lo (s : Nat) : Fld := ⟨0x1A018 + 0x20 * s, 0, 1, 0x0⟩

/-! MON_CHs_FLT, 11_sequencing_and_supervision.md (R278). -/
abbrev MON_CH_FLT_missed (s : Nat) : Fld := ⟨0x1A01C + 0x20 * s, 5, 1, 0x0⟩
abbrev MON_CH_FLT_unconf (s : Nat) : Fld := ⟨0x1A01C + 0x20 * s, 4, 1, 0x0⟩
abbrev MON_CH_FLT_ov_flt (s : Nat) : Fld := ⟨0x1A01C + 0x20 * s, 3, 1, 0x0⟩
abbrev MON_CH_FLT_uv_flt (s : Nat) : Fld := ⟨0x1A01C + 0x20 * s, 2, 1, 0x0⟩
abbrev MON_CH_FLT_ov_warn (s : Nat) : Fld := ⟨0x1A01C + 0x20 * s, 1, 1, 0x0⟩
abbrev MON_CH_FLT_uv_warn (s : Nat) : Fld := ⟨0x1A01C + 0x20 * s, 0, 1, 0x0⟩

/-! MON_PGj_CFG, 11_sequencing_and_supervision.md (R279). -/
abbrev MON_PG_CFG_pin (j : Nat) : Fld := ⟨0x1A400 + 0x10 * j, 3, 1, 0x0⟩
abbrev MON_PG_CFG_level (j : Nat) : Fld := ⟨0x1A400 + 0x10 * j, 2, 1, 0x0⟩
abbrev MON_PG_CFG_mode (j : Nat) : Fld := ⟨0x1A400 + 0x10 * j, 0, 2, 0x0⟩

/-! MON_PGj_MAPm, 11_sequencing_and_supervision.md (R279). -/
abbrev MON_PG_MAP_map (j m : Nat) : Fld := ⟨0x1A404 + 0x10 * j + 0x4 * m, 0, 16, 0x0⟩

/-! MON_COMMIT, 03_register_conventions.md (R77). -/
abbrev MON_COMMIT_discard : Fld := ⟨0x1A7FC, 2, 1, 0x0⟩
abbrev MON_COMMIT_hold : Fld := ⟨0x1A7FC, 1, 1, 0x0⟩
abbrev MON_COMMIT_pending : Fld := ⟨0x1A7FC, 0, 1, 0x0⟩

/-! SB_ADDR, 16_sideband_and_herds.md (R403). -/
abbrev SB_ADDR_src : Fld := ⟨0x1C000, 6, 2, 0x0⟩
abbrev SB_ADDR_index : Fld := ⟨0x1C000, 0, 6, 0x0⟩

/-! SB_CFG, 16_sideband_and_herds.md (R403). -/
abbrev SB_CFG_bleat_pec : Fld := ⟨0x1C004, 5, 1, 0x0⟩
abbrev SB_CFG_pec_req : Fld := ⟨0x1C004, 4, 1, 0x0⟩
abbrev SB_CFG_ara_en : Fld := ⟨0x1C004, 3, 1, 0x1⟩
abbrev SB_CFG_enum_en : Fld := ⟨0x1C004, 2, 1, 0x1⟩
abbrev SB_CFG_alert_en : Fld := ⟨0x1C004, 1, 1, 0x1⟩
abbrev SB_CFG_bleat_en : Fld := ⟨0x1C004, 0, 1, 0x0⟩

/-! SB_REQ, 16_sideband_and_herds.md (R403). -/
abbrev SB_REQ_req : Fld := ⟨0x1C008, 0, 8, 0x0⟩

/-! SB_REQ_EN, 16_sideband_and_herds.md (R403). -/
abbrev SB_REQ_EN_lvl : Fld := ⟨0x1C00C, 8, 3, 0x1⟩
abbrev SB_REQ_EN_en : Fld := ⟨0x1C00C, 0, 8, 0x27⟩

/-! SB_STAT, 16_sideband_and_herds.md (R403). -/
abbrev SB_STAT_bleat_fail : Fld := ⟨0x1C010, 3, 1, 0x0⟩
abbrev SB_STAT_bridge : Fld := ⟨0x1C010, 2, 1, 0x0⟩
abbrev SB_STAT_alert : Fld := ⟨0x1C010, 1, 1, 0x0⟩
abbrev SB_STAT_in_xfer : Fld := ⟨0x1C010, 0, 1, 0x0⟩

/-! SB_ERR, 16_sideband_and_herds.md (R403). -/
abbrev SB_ERR_collide : Fld := ⟨0x1C014, 7, 1, 0x0⟩
abbrev SB_ERR_tag : Fld := ⟨0x1C014, 6, 1, 0x0⟩
abbrev SB_ERR_len : Fld := ⟨0x1C014, 5, 1, 0x0⟩
abbrev SB_ERR_abort_ack : Fld := ⟨0x1C014, 4, 1, 0x0⟩
abbrev SB_ERR_bad_cmd : Fld := ⟨0x1C014, 3, 1, 0x0⟩
abbrev SB_ERR_pec : Fld := ⟨0x1C014, 2, 1, 0x0⟩
abbrev SB_ERR_timeout : Fld := ⟨0x1C014, 1, 1, 0x0⟩

/-! SB_MBX, 16_sideband_and_herds.md (R403). -/
abbrev SB_MBX_ready : Fld := ⟨0x1C018, 7, 1, 0x0⟩
abbrev SB_MBX_resp : Fld := ⟨0x1C018, 4, 3, 0x0⟩
abbrev SB_MBX_busy : Fld := ⟨0x1C018, 0, 4, 0x0⟩

/-! SB_HERD_CFG, 16_sideband_and_herds.md (R403). -/
abbrev SB_HERD_CFG_spd_b : Fld := ⟨0x1C020, 3, 2, 0x2⟩
abbrev SB_HERD_CFG_spd_a : Fld := ⟨0x1C020, 1, 2, 0x2⟩
abbrev SB_HERD_CFG_bridge_en : Fld := ⟨0x1C020, 0, 1, 0x1⟩

/-! SB_HERD_STAT, 16_sideband_and_herds.md (R403). -/
abbrev SB_HERD_STAT_cnt_b : Fld := ⟨0x1C024, 10, 6, 0x0⟩
abbrev SB_HERD_STAT_cnt_a : Fld := ⟨0x1C024, 4, 6, 0x0⟩
abbrev SB_HERD_STAT_fault_b : Fld := ⟨0x1C024, 3, 1, 0x0⟩
abbrev SB_HERD_STAT_fault_a : Fld := ⟨0x1C024, 2, 1, 0x0⟩
abbrev SB_HERD_STAT_pres_b : Fld := ⟨0x1C024, 1, 1, 0x0⟩
abbrev SB_HERD_STAT_pres_a : Fld := ⟨0x1C024, 0, 1, 0x0⟩

/-! SB_DS0, 16_sideband_and_herds.md (R403). -/
abbrev SB_DS0_route : Fld := ⟨0x1C030, 0, 16, 0x0⟩

/-! SB_DS1, 16_sideband_and_herds.md (R403). -/
abbrev SB_DS1_reason : Fld := ⟨0x1C034, 8, 8, 0x0⟩
abbrev SB_DS1_route : Fld := ⟨0x1C034, 0, 4, 0x0⟩

/-! SB_DS_POP, 16_sideband_and_herds.md (R403). -/
abbrev SB_DS_POP_pop : Fld := ⟨0x1C038, 0, 1, 0x0⟩

/-! SB_DS_STAT, 16_sideband_and_herds.md (R403). -/
abbrev SB_DS_STAT_drops : Fld := ⟨0x1C03C, 8, 8, 0x0⟩
abbrev SB_DS_STAT_entries : Fld := ⟨0x1C03C, 0, 5, 0x0⟩

/-! SB_CHILDi, 16_sideband_and_herds.md (R403). -/
abbrev SB_CHILD_valid (i : Nat) : Fld := ⟨0x1C100 + 0x4 * i, 15, 1, 0x0⟩
abbrev SB_CHILD_level (i : Nat) : Fld := ⟨0x1C100 + 0x4 * i, 0, 8, 0x0⟩

/-! SB_COMMIT, 03_register_conventions.md (R77). -/
abbrev SB_COMMIT_discard : Fld := ⟨0x1C7FC, 2, 1, 0x0⟩
abbrev SB_COMMIT_hold : Fld := ⟨0x1C7FC, 1, 1, 0x0⟩
abbrev SB_COMMIT_pending : Fld := ⟨0x1C7FC, 0, 1, 0x0⟩

/-! HOST_HB, 03_register_conventions.md (R83). -/
abbrev HOST_HB_beat : Fld := ⟨0x1D000, 0, 16, 0x0⟩

/-! HOST_HB_CFG, 03_register_conventions.md (R83). -/
abbrev HOST_HB_CFG_t_hb : Fld := ⟨0x1D004, 0, 10, 0x64⟩

/-! HOST_INT_STAT, 03_register_conventions.md (R83). -/
abbrev HOST_INT_STAT_lease : Fld := ⟨0x1D008, 10, 1, 0x0⟩
abbrev HOST_INT_STAT_state : Fld := ⟨0x1D008, 9, 1, 0x0⟩
abbrev HOST_INT_STAT_herd : Fld := ⟨0x1D008, 8, 1, 0x0⟩
abbrev HOST_INT_STAT_upd : Fld := ⟨0x1D008, 7, 1, 0x0⟩
abbrev HOST_INT_STAT_age : Fld := ⟨0x1D008, 6, 1, 0x0⟩
abbrev HOST_INT_STAT_tel : Fld := ⟨0x1D008, 5, 1, 0x0⟩
abbrev HOST_INT_STAT_seq : Fld := ⟨0x1D008, 4, 1, 0x0⟩
abbrev HOST_INT_STAT_gauge : Fld := ⟨0x1D008, 3, 1, 0x0⟩
abbrev HOST_INT_STAT_chg : Fld := ⟨0x1D008, 2, 1, 0x0⟩
abbrev HOST_INT_STAT_flt : Fld := ⟨0x1D008, 1, 1, 0x0⟩
abbrev HOST_INT_STAT_mbx : Fld := ⟨0x1D008, 0, 1, 0x0⟩

/-! HOST_INT_EN, 03_register_conventions.md (R83). -/
abbrev HOST_INT_EN_en : Fld := ⟨0x1D00C, 0, 11, 0x3⟩

/-! HOST_STAT, 03_register_conventions.md (R83). -/
abbrev HOST_STAT_vio_ok : Fld := ⟨0x1D010, 3, 1, 0x0⟩
abbrev HOST_STAT_direct : Fld := ⟨0x1D010, 2, 1, 0x0⟩
abbrev HOST_STAT_sb_authority : Fld := ⟨0x1D010, 1, 1, 0x0⟩
abbrev HOST_STAT_host_lost : Fld := ⟨0x1D010, 0, 1, 0x0⟩

/-! HOST_CRC_ERR, 03_register_conventions.md (R83). -/
abbrev HOST_CRC_ERR_count : Fld := ⟨0x1D014, 0, 8, 0x0⟩

/-! HOST_LEASE, 14_host_port_and_mailboxes.md (R344). -/
abbrev HOST_LEASE_lease : Fld := ⟨0x1D018, 0, 16, 0x0⟩

/-! HOST_LEASE_FUSE, 14_host_port_and_mailboxes.md (R344). -/
abbrev HOST_LEASE_FUSE_fused : Fld := ⟨0x1D01C, 0, 16, 0x0⟩

/-! HOST_ARB, 14_host_port_and_mailboxes.md (R344). -/
abbrev HOST_ARB_sup_sb : Fld := ⟨0x1D020, 8, 8, 0x0⟩
abbrev HOST_ARB_sup_host : Fld := ⟨0x1D020, 0, 8, 0x0⟩

/-! HOST_HB_DUE, 14_host_port_and_mailboxes.md (R344). -/
abbrev HOST_HB_DUE_armed : Fld := ⟨0x1D024, 15, 1, 0x0⟩
abbrev HOST_HB_DUE_left : Fld := ⟨0x1D024, 0, 11, 0x0⟩

end Reg

end Sys2Proof.Machine
end

