-- ==== Sys2Proof/Machine/State.lean ====
section
/-!
DEFINITION. The state of the FRV4880: register fields, memories, fuses, the hidden state its rules name, and the queue of
waiting commands. Plain data throughout. `State.reset` is the machine right after VKEEP valid (R41, R84, R93).
-/

namespace Sys2Proof.Machine

/-- Why a step stops without a next state. -/
inductive Fault where
  /-- Raised by a command whose operand lists have a length no wire, scan round or descriptor can carry (WellFormed).
  Safe: the hardware never meets such a command. -/
  | illFormed
  deriving DecidableEq, Repr

/-- Why a command has no meaning here. -/
inductive Refusal where
  /-- A command without a meaning yet; raised by an arm of `exec` only. Safe. -/
  | notModelled (mnemonic : String)
  deriving DecidableEq, Repr

/-- What every meaning answers. -/
abbrev Out (σ : Type) := Host.Outcome σ Fault Refusal

/-- A sparse file of numbers by key, keys strictly rising; an unlisted key reads as its default. -/
abbrev Cells := List (Nat × Nat)

/-- A sparse byte memory in canonical form: addresses strictly rising, no byte 0 listed; an unlisted byte reads 0 (log
entry 4). -/
abbrev Mem := List Host.Cell

/-- The three kinds of BOOT (R93). -/
inductive BootKind where
  | powerUp | reset | wake
  deriving DecidableEq, Repr

/-- How far a BOOT has come (R91): the fuse read, the verification of a slot (whether it is the fallback), the start of the
cores from a slot, the dead hold of R92, or done. -/
inductive BootStage where
  | fuses | verify (slot : Bool) (second : Bool) | cores (slot : Bool) (second : Bool) | dead | done
  deriving DecidableEq, Repr

/-- Ship mode (R99). -/
inductive Ship where
  | off | requested | latched | armed
  deriving DecidableEq, Repr

/-- A FAWN entry sequence in progress (R95): whether it serves SYS.SHIP, the early outputs whose discharge is awaited, and the
last edge of run_req that fell into it (R89). -/
structure Sleep where
  ship : Bool
  discharging : List (Fin 4)
  edge : Option Bool := none
  deriving DecidableEq, Repr

/-- Supply, reset, boot and sleep. -/
structure Sys where
  /-- VKEEP is valid: the device is out of OFF. -/
  vkeep : Bool := true
  /-- VKEEP_LOW is asserted (R41). -/
  vkeepLow : Bool := false
  /-- RESET_N is recognised and not yet released (R57). -/
  resetHeld : Bool := false
  /-- The fuse-integrity hold (R409). -/
  fuseHold : Bool := false
  /-- A fuse-integrity hold preceded this boot (SYS_RESET_CAUSE.fuse_hold is set when the next read passes). -/
  heldBefore : Bool := false
  kind : BootKind := .powerUp
  stage : BootStage := .fuses
  /-- Device time of the origin of R91. -/
  origin : Nat := 0
  /-- The held ADDR index (R54); none until it is read. -/
  strap : Option Nat := none
  /-- The cores that are alive: control, gauge. -/
  ctlAlive : Bool := false
  gaugeAlive : Bool := false
  /-- The one warm restart of each core since VKEEP came up has been used (R31). -/
  ctlRestarted : Bool := false
  gaugeRestarted : Bool := false
  /-- A core that has been started and is not alive yet: at BOOT, by its warm restart, or by an activation (R31, R91, R431). -/
  ctlStarting : Bool := false
  gaugeStarting : Bool := false
  /-- The grace time of each core runs (R31). -/
  ctlGrace : Bool := false
  gaugeGrace : Bool := false
  /-- The filtered level of EN_RUN (R89). -/
  pinReq : Bool := false
  /-- The state under SAFE, IBEX and ACTIVATE is RUN (R85, R90). -/
  run : Bool := false
  /-- SYS.RESET waits for the DOWN table (R86). -/
  resetAfterDown : Bool := false
  sleep : Option Sleep := none
  ship : Ship := .off
  /-- Level wake sources asserted now: WAKE, EN_RUN, VBUS (R94). -/
  wakePin : Bool := false
  wakeEnRun : Bool := false
  wakeVbus : Bool := false
  /-- Early outputs (R411): the definitions started, those power-good, and whether the sequencer has stopped. -/
  earlyUp : List Nat := []
  earlyGood : List Nat := []
  earlyStopped : Bool := false
  /-- Device time of FAWN entry. -/
  fawnSince : Nat := 0
  /-- GAUGE_Q at FAWN entry, and the FAWN charge total at the last interval's close, in uAs (R97, R220). -/
  fawnQ0 : Int := 0
  fawnQ : Int := 0
  /-- The host's next heartbeat deadline; none while disarmed (R336). -/
  hbDue : Option Nat := none
  /-- VIO stands at or above 1.5 V (R61). -/
  vio : Bool := false
  /-- The LDA pins that read asserted, one bit a pin (R140, R141). -/
  lda : Nat := 0
  /-- The presence of HERD-A and HERD-B as decided since VKEEP came up or RESET_N was asserted (R63). -/
  herd : Option (Bool × Bool) := none
  deriving DecidableEq, Repr

/-- Clocks (R39, R55, R109): the crystal runs; f_SYNCI in kHz while it is valid, and the frequency last locked to; the last
deviations measured (10 ppm), in the order of CLK_MEAS_SEL. -/
structure Clk where
  xtalRuns : Bool := false
  synci : Option Nat := none
  synciLast : Nat := 0
  dev : List (Option Int) := []
  deriving DecidableEq, Repr

/-- One accessor's own registers (R73, R80, R81): REG_ERR, the address of the first refusal, the read shadow with the
address it is tagged with, and the write shadow: higher words written (address, data, mask) of the value at an address. -/
structure AccSt where
  err : Word := 0
  errAddr : Nat := 0
  readShadow : Option (Nat × List Word) := none
  writeShadow : Option (Nat × List (Nat × Word × Word)) := none
  deriving DecidableEq, Repr

/-- A collector status (R280): class, source, kept level, and the registered time of nothing else. -/
structure Status where
  cls : Nat
  src : Nat
  lvl : Nat
  deriving DecidableEq, Repr

/-- An event that leaves JUDGE (R280): class, source, own level, its cause's number, and the values its log entry
carries (R307): the channel value at judgement and the threshold, 0x8000 where there is none. -/
structure Ev where
  cls : Nat
  src : Nat
  lvl : Nat
  cause : Nat := 0
  value : Word := 0x8000
  thr : Word := 0x8000
  deriving DecidableEq, Repr

/-- The fault collector (chapter 12). -/
structure Flt where
  /-- Statuses that are set. -/
  stats : List Status := []
  /-- Lasting causes present now (R292), as class, source, cause. -/
  causes : List (Nat × Nat × Nat) := []
  /-- Events raised and not yet classified. -/
  evs : List Ev := []
  /-- FLT_FIRST has been read by a port since it latched (R289). -/
  firstRead : Bool := false
  /-- Device time and port of the first accepted FLT.UNLATCH (R295). -/
  unlatchAt : Option (Nat × Port) := none
  /-- A release of FAULT_N waits for the end of the pulse (R297). -/
  releaseHeld : Bool := false
  deriving DecidableEq, Repr

/-- A posted side-band descriptor: tag, its 32 bytes, the stamp (R340), and the full authority it keeps when the host returns
in the tick of the stamp, as a lease mask (R343). -/
structure SidePost where
  tag : Nat
  desc : List Byte
  stamp : Nat
  auth : Nat
  deriving DecidableEq, Repr

/-- What a taken command waits for before its response: a snapshot's round that has not started, or runs; the learned-record
write in progress, or the one that follows it; a remote entry. -/
inductive Wait where
  | none | snapshot | inRound | gaugeSave | gaugeNext | forward
  deriving DecidableEq, Repr

/-- A command taken and not complete (R332, R333). -/
structure Taken where
  port : Port
  tag : Nat
  opcode : Nat
  force : Bool
  ptr : Bool
  rptr : Bool
  raddr : Nat
  rcap : Nat
  cookie : Nat
  payload : List Byte
  stamp : Nat
  auth : Nat
  /-- Device time of the take. -/
  tookAt : Nat := 0
  wait : Wait := .none
  deriving DecidableEq, Repr

/-- The loser of an arbitration that has not been taken yet: its port and tag, the winner's port and tag (R340). -/
structure Lost where
  port : Port
  tag : Nat
  wport : Port
  wtag : Nat
  deriving DecidableEq, Repr

/-- A side-band response entry that waits to be read (R389): tag, the 32 bytes of R330. -/
structure SideResp where
  tag : Nat
  entry : List Byte
  deriving DecidableEq, Repr

/-- The mailboxes (chapter 14, R388). -/
structure Mbx where
  /-- Stamps of the host's posted entries, oldest first; the first belongs to the entry at MBX_CMD_CONS. -/
  hostStamps : List Nat := []
  /-- Side-band descriptors that wait to be taken (R388). -/
  sidePosts : List SidePost := []
  /-- Commands taken and not complete (R332, R333). -/
  taken : List Taken := []
  /-- Losers of an arbitration that have not been taken yet (R340). -/
  lost : List Lost := []
  /-- Response entries that wait for the side-band (R389). -/
  sideResps : List SideResp := []
  /-- Result of the previous host frame (R323): 0 OK, 1 refusals, 2 not applied, 3 none since BOOT. -/
  prev : Nat := 3
  /-- Frames accepted since BOOT, modulo 256. -/
  fcnt : Nat := 0
  deriving DecidableEq, Repr

/-- What the sequencer is doing beyond SEQ_STAT (chapter 11). -/
structure SeqSt where
  /-- Chatter count of the step's wait (R271). -/
  chat : Nat := 0
  /-- Device time of the step's action. -/
  since : Nat := 0
  /-- The step's RETRY has been used (R272). -/
  retried : Bool := false
  /-- run_req has fallen since UP started (R89). -/
  fell : Bool := false
  /-- run_req has risen since the fall that DOWN serves (R89). -/
  rose : Bool := false
  /-- The table's last step is over: the table is complete and awaits SEQ_TABLE_COMPLETE. -/
  ended : Bool := false
  /-- The SAFE table and the post-SAFE shutdown have run since SAFE was entered (R268, R274). -/
  safeDone : Bool := false
  deriving DecidableEq, Repr

/-- A step of a rail's start (R122): nothing, the sense check awaited, the midpoint check of R145 awaited, or past it. -/
inductive Start where
  | idle | sense | ramp | checked
  deriving DecidableEq, Repr

/-- A rail beyond its registers (chapters 5 and 6). -/
structure RailSt where
  start : Start := .idle
  /-- V_start of the running start in mV. -/
  vstart : Nat := 0
  /-- The start waits for derived coefficients (R127). -/
  waitCoeff : Bool := false
  /-- The start waits for the end of a phase test (R442). -/
  waitTest : Bool := false
  /-- The rail has entered RAMP since BOOT (R118). -/
  ramped : Bool := false
  /-- A setpoint move and its 200 us tail run (R121). -/
  move : Bool := false
  /-- The phase that ramps out (R134). -/
  rampOut : Option Nat := none
  /-- t_last of R132; none before the first decision, and kept over a stop and a new start (DESIGN CHOICE, log entry 41). -/
  tLast : Option Nat := none
  /-- The pin whose announce put the offset into V_tgt (R140, R141). -/
  annPin : Option Nat := none
  /-- The announce offset in V_tgt, in mV. -/
  offset : Nat := 0
  /-- A start above the setpoint holds at zero current until the output has fallen to vset (R123). -/
  hold0 : Bool := false
  /-- The staged coefficients come from host writes, not from a derivation (R119). -/
  direct : Bool := false
  /-- The discharge path is on; it was forced (R124, R273). -/
  discharge : Bool := false
  forced : Bool := false
  deriving DecidableEq, Repr

/-- An LDO beyond its registers (R253): the present target in mV and the discharge path. -/
structure LdoSt where
  target : Nat := 0
  discharge : Bool := false
  forced : Bool := false
  deriving DecidableEq, Repr

/-- A supervisor channel beyond its registers (R258, R264): a MON channel's below-side windows are armed; the running
power-good count; the comparator of each side (below, above) stands tripped. -/
structure MonSt where
  uvArmed : Bool := false
  cnt : Nat := 0
  tripLo : Bool := false
  tripHi : Bool := false
  /-- A sample lay beyond the power-good window on this side, and none since lies 0.5% of N inside it (R257, R264). -/
  outLo : Bool := false
  outHi : Bool := false
  /-- Latest sample lies below 10% of nominal (R270). -/
  low : Bool := true
  /-- Samples in a row beyond the warning and the fault threshold of each side (R259, R262), and outside the power-good window of a
  stable power-good (R265). -/
  warnLo : Nat := 0
  warnHi : Nat := 0
  fltLo : Nat := 0
  fltHi : Nat := 0
  outN : Nat := 0
  /-- The windows whose present cause has raised its event, as (fault, above) (R262). -/
  judged : List (Bool × Bool) := []
  deriving DecidableEq, Repr

/-- A snapshot waiting for the end of its round (R308, R309): trigger, status words already sampled after the action, copy. -/
structure SnapReq where
  trigger : Nat
  words : Option (List Byte)
  copy : Bool
  /-- Sequence number of the triggering log entry, for R313. -/
  logSeq : Nat
  deriving DecidableEq, Repr

/-- A snapshot copy (R312): snapshot seq, the log sequence number it ends at, and the slot once it runs. -/
structure Copy where
  seq : Nat
  logSeq : Nat
  slot : Option Nat
  deriving DecidableEq, Repr

/-- Telemetry (chapter 13). -/
structure Tel where
  snapSeq : Nat := 0
  /-- A request that waits for the next round to start, with its copy flag (R308). -/
  req : Option Bool := none
  snap : Option SnapReq := none
  copies : List Copy := []
  /-- The copy that VKEEP_LOW abandoned and its slot (R313). -/
  abandoned : List Copy := []
  /-- Rounds accumulated for the stream record: start time of the first, and the channel words of each. -/
  strStart : Nat := 0
  strRounds : List (List Word) := []
  deriving DecidableEq, Repr

/-- Fuses (chapter 17): programmed logical words by key 256·region + index, the boot-latched EARLY and SAFETY words, the
invalid non-critical words of the last boot read, and the keys programmed since BOOT. -/
structure Otp where
  words : Cells := []
  latch : Cells := []
  invalid : List Nat := []
  fresh : List Nat := []
  wlock : Nat := 0x03
  rlock : Nat := 0
  /-- Device time in us counted toward the next hour of OTP_RT_AGE; an abandoned or unconfirmed re-read awaits its retry
  (R414). -/
  us : Nat := 0
  retry : Bool := false
  deriving DecidableEq, Repr

/-- The front end beyond its registers (chapter 7). -/
structure FeSt where
  /-- The FE_FLT bits that locked it off (R166). -/
  lockBits : List Fld := []
  /-- A REV order waits for the end of CHANGE (R192). -/
  revOrdered : Bool := false
  /-- Phase 1 ramps out (R169). -/
  rampOut : Bool := false
  /-- The 2 ms step inhibit runs (R170); the 2 ms after entry to REV run. -/
  inhibit : Bool := false
  revHold : Bool := false
  /-- Switching stands still for a VHB over-voltage in REV (R171). -/
  ovStop : Bool := false
  /-- t_last of R132 as R169 reads it. -/
  tLast : Option Nat := none
  /-- The staged coefficients come from host writes, not from a derivation (R119, R164). -/
  direct : Bool := false
  /-- V_sys_tgt of the start ramp in mV, while in FWD_START (R167). -/
  startTgt : Option Nat := none
  /-- The slope ramp S_e in A/us, and the V_in in mV it was computed from (R160). -/
  slope : Rat := 0
  slopeVin : Int := 0
  deriving DecidableEq, Repr

/-- The power path beyond its registers (chapter 8). -/
structure PathSt where
  /-- Opening causes of R173 present. -/
  opening : List IswCause := []
  /-- ISW is being closed; `true`: a slewed close (R172). -/
  closing : Option Bool := none
  /-- REV has ended for a slewed return (R191). -/
  slewed : Bool := false
  /-- The moving REV target of a return, or of an abandoned one, in 0.1 mV (R190, R192). -/
  revTgt : Option Nat := none
  /-- ISW is held closed by the charge pump in FAWN (R95, R96). -/
  held : Bool := false
  /-- Deep-discharge cut-off: BATFET is to open (R195). -/
  cutPending : Bool := false
  /-- BATFET stays off after the cut-off opened it, or before the 100 ms after presence are over (R195, R206). -/
  bfBlocked : Bool := false
  /-- V_sys_tgt on its way to CHG_VSYS.v_abs after a removal while charging, in mV (R206). -/
  removedTgt : Option Nat := none
  deriving DecidableEq, Repr

/-- The charger beyond its registers: the causes of R203 that are present, as bits of CHG_FLT; the cells whose sinks are
allowed to bleed (R202). -/
structure ChgSt where
  bleeding : List Nat := []
  deriving DecidableEq, Repr

/-- One entry of a bridge's raw queue (R397): the herd port, the child's index and its reason. -/
structure RawBleat where
  port : HerdPort
  index : Nat
  reason : Nat
  deriving DecidableEq, Repr

/-- The side-band port and the herds (chapter 16): an Alert Response win is outstanding (R392); consecutive unanswered
bleats (R394); the bleat pulse has been sent and awaits a START; the result of the previous write transaction (R380); the
device has been assigned and stops answering IDENTIFY (R399); the raw queue, the child reasons of it that wait for their
DS_READ, and the downstream entries as (route, reason) (R397); the herd bus clears under way (R373); the response a
controller read but has not consumed. -/
structure SbSt where
  win : Bool := false
  unanswered : Nat := 0
  pulsed : Bool := false
  prev : Nat := 3
  raw : List RawBleat := []
  ds : List (Nat × Nat) := []
  deriving DecidableEq, Repr

/-! The gauge (chapter 9). -/

/-- A cell of the gauge (R218): s, sigma, s_cnt and sigma_cnt in %, V_p in mV, H. -/
structure CellSt where
  s : Rat
  sig : Rat
  sc : Rat
  sigc : Rat
  vp : Rat
  h : Rat
  deriving DecidableEq, Repr

/-- The learned values (R224, R227): Q_full in mAh, R_ser and R_pol in uOhm at 25 C, C_pol in F, the OCV offsets of the
five columns in mV, cycles, throughput in mAh, and accepted capacity updates. -/
structure Learned where
  qFull : Rat := 0
  rser : Rat := 0
  rpol : Rat := 0
  cpol : Rat := 0
  dOcv : List Rat := []
  cycles : Nat := 0
  thru : Rat := 0
  learnN : Nat := 0
  deriving DecidableEq, Repr

/-- The last accepted anchor since insertion (R222, R224): s_a of each cell in %, the sigma_cnt it left, GAUGE_Q then in uAs, and
whether a dispute has occurred since. -/
structure Anchor where
  soc : List Rat
  left : List Rat
  q : Int
  disputed : Bool
  deriving DecidableEq, Repr

/-- How far an insertion has come (R226). -/
inductive InsStage where
  | none | counting | settling | estimated
  deriving DecidableEq, Repr

/-- The state mirror of R229: beside what the rule lists, the device time of its writing, the anchor and the dispute that the learning
of R224 and the flags of R222 and R223 rest on, and whether the estimate was still unsettled (log entry 42). -/
structure Mirror where
  cells : List CellSt
  q : Int
  learned : Learned
  code : Nat
  fmt : Nat
  at_ : Nat
  anchor : Option Anchor
  disputed : Bool
  settling : Bool
  deriving DecidableEq, Repr

/-- What selects a cell profile (R217): the custom profile, the chemistry and the capacity in Ah. -/
structure ProfSel where
  custom : Option (List Byte) := none
  chem : Nat := 0
  cap : Nat := 0
  deriving DecidableEq, Repr

/-- What the filter window in progress has collected (R212-R214): the sum of its current samples in 0.1 mA and their number, the
charge of its clipped samples in uAs, the sums of the cell samples in 0.25 mV and the number of their rounds, and whether a cell
sample was invalid. -/
structure Window where
  iSum : Int := 0
  iN : Nat := 0
  clipQ : Nat := 0
  clipped : Bool := false
  cellSum : List Int := []
  cellN : Nat := 0
  bad : Bool := false
  deriving DecidableEq, Repr

/-- A learned-record write in progress (R231, R232): bank B or A, its cause, the 128 bytes. -/
structure RecWrite where
  bankB : Bool
  cause : Nat
  bytes : List Byte
  deriving DecidableEq, Repr

/-- The gauge core's own state. -/
structure Gauge where
  /-- The cells of the model (R218) and the learned values (R224, R227). -/
  cells : List CellSt := []
  learned : Learned := {}
  /-- The outputs of R234 are valid. -/
  valid : Bool := false
  /-- How far an insertion has come (R226). -/
  ins : InsStage := .none
  /-- A cold start combines the record's per-cell charge with the first estimate (R229). -/
  cold : Bool := false
  /-- An anchor candidate is due in the next filter cycle; the rest period has had its candidate (R222). -/
  anchorDue : Bool := false
  candTaken : Bool := false
  anchor : Option Anchor := none
  /-- GAUGE_Q at the end of the last filter cycle. -/
  qLast : Int := 0
  /-- The filter window in progress. -/
  win : Window := {}
  /-- The second in progress of R221: the sum of its samples and their number. -/
  secSum : Int := 0
  secN : Nat := 0
  /-- Seconds of rest in a row, the threshold latched at FAWN entry in 0.1 mA, and the largest sample of the FAWN interval (R221). -/
  restS : Nat := 0
  fawnThr : Nat := 0
  intMax : Nat := 0
  /-- The samples of the last 5 s that are higher, and lower, than every later one, newest first: time and 0.1 mA (R219). -/
  curHi : List (Nat × Int) := []
  curLo : List (Nat × Int) := []
  /-- A current step of at least C/4 that awaits the cell samples after it: the step in 0.1 mA, and the sum of the cells before it in
  0.25 mV (R224). -/
  stepDue : Option (Int × Int) := none
  /-- The profile in force, and the tag of the pack identity (R217, R225). -/
  inForce : ProfSel := {}
  idTag : Nat := 0
  /-- The estimate under way follows a change of profile, not an insertion (R236). -/
  reprofiled : Bool := false
  /-- How long the last FAWN lasted in us (R220). -/
  fawnUs : Nat := 0
  /-- Filter cycles in a row at C/4 or more, and whether 60 s of it precede the rest (R224). -/
  heavy : Nat := 0
  loaded : Bool := false
  /-- The learned-record write in progress (R231, R232). -/
  writing : Option RecWrite := none
  /-- The latest trigger that waits behind the write in progress, with the record's content then (R231, R236). -/
  waiting : Option (Nat × List Byte) := none
  /-- The state mirror (R229). -/
  mirror : Option Mirror := none
  /-- GAUGE_EVT.save_fail is set at the next run (R236). -/
  failDue : Bool := false
  /-- The first filter cycle of a wake boot is still to come (R222, R229). -/
  atWake : Bool := false
  /-- A changed profile or CHG_CFG is taken at the next filter cycle (R217, R236). -/
  profileDue : Bool := false
  deriving DecidableEq, Repr

/-! Update (chapter 18). -/

/-- The boot selector (R429); slot B is true. -/
structure Sel where
  active : Bool
  trial : Bool
  count : Bool
  deriving DecidableEq, Repr

/-- An activation or rollback in progress (R431, R433): the previous and the target slot, the cores that restart and those
of them that are alive, whether the mailbox has resumed, and for a rollback its outcome. -/
structure Act where
  prev : Bool
  target : Bool
  ctl : Bool
  gauge : Bool
  ctlUp : Bool
  gaugeUp : Bool
  resumed : Bool
  back : Option Nat
  deriving DecidableEq, Repr

/-- The update engine: the header of the image being received, the running slot (none in RECOVERY), the activation in
progress, and whether the 2 s rule of a trial boot runs (R433). -/
structure Upd where
  hdr : List Byte := []
  running : Option Bool := none
  act : Option Act := none
  trial : Bool := false
  /-- Slots whose verification failed at this boot. -/
  failed : List Bool := []
  deriving DecidableEq, Repr

/-! Self-repair, ageing and planning (chapter 19). -/

/-- An item of a plan (R455, R456, R460): kind, instance, class, state, base, target, and the device time at which it is
due, none when it waits for approval. -/
structure PlanItem where
  kind : Nat
  inst : Nat
  cls : Nat
  state : Nat
  base : Int
  value : Int
  due : Option Nat
  deriving DecidableEq, Repr

/-- A plan record (R460). -/
structure Plan where
  id : Nat
  time : Nat
  items : List PlanItem
  deriving DecidableEq, Repr

/-- Beyond the AGE registers: SRAM rows with a corrected error at a device time, as (bank, row, time), and rows marked for repair
(R448); the phases under test (R441), those of them under a run-time test (R466), the phases the boot test has done since BOOT (R442), the phase
ramped out for a test; governed fields whose items were discarded (R459); whether a boot run has taken place; device time in
RUN or IBEX toward the next 0.1 h, in us; sides of channels with copies that disagreed; the reference majority of R451. -/
structure AgeSt where
  testing : List Nat := []
  live : List Nat := []
  bootDone : List Nat := []
  prop : Option Plan := none
  discarded : List (Nat × Nat) := []
  bootRun : Bool := false
  rowErrs : List (Nat × Nat × Nat) := []
  marked : List (Nat × Nat) := []
  runUs : Nat := 0
  /-- The mean on-resistance of a phase's active tines at its last test, in 0.01 of birth (R455). -/
  wear : List (Nat × Nat) := []
  /-- When a comparator copy disagreed with the voted output (R449): channel, above, copy, device time. -/
  disagreed : List (Nat × Bool × Nat × Nat) := []
  /-- Bases that wait for the release of VKEEP_LOW, by field key (R36, R457). -/
  basesDue : List (Nat × Nat) := []
  deriving DecidableEq, Repr

/-- What MRAM keeps in records whose place or layout the manual does not give (log entry 7): the persistent configuration
store by resource (R358), the custom profile (R361), the boot selector (R429), the live plan with its bases by field key
(R457) and the last plan id, the repair mirror's records (R447), calendar time in us (R452), and the number of the next ageing
history record (R453). -/
structure Nv where
  /-- The persistent configuration store by resource (R358), the custom profile (R361), the boot selector (R429). -/
  store : List (Nat × List (Fld × Nat)) := []
  profile : Option (List Byte) := none
  sel : Option Sel := none
  /-- The other bank of the boot selector: the selector before the last write (R429). -/
  selPrev : Option Sel := none
  /-- The live plan, the bases of the governed fields by key, and the last plan id (R457, R458, R460). -/
  live : Option Plan := none
  bases : List (Nat × Nat) := []
  planId : Nat := 0
  /-- The records of the repair mirror (R447). -/
  repair : List Nat := []
  /-- Calendar time in us (R452). -/
  calUs : Nat := 0
  /-- The number of the next ageing history record (R453). -/
  histNext : Nat := 0
  /-- MRAM byte addresses of words with an uncorrectable error (R34). -/
  bad : List Nat := []
  deriving DecidableEq, Repr

/-- The whole machine. -/
structure State where
  sys : Sys := {}
  /-- Device time in us (R13), and in FAWN whether the next tick is the longer one. -/
  time : Nat := 0
  half : Bool := false
  clk : Clk := {}
  /-- Register fields that differ from their Reset value, by `Fld.key`. -/
  fields : Cells := []
  /-- Staged BUF fields with their staged values, by rising key (R75). -/
  staged : List (Fld × Nat) := []
  accHost : AccSt := {}
  accSide : AccSt := {}
  accCtl : AccSt := {}
  accGauge : AccSt := {}
  flt : Flt := {}
  mbx : Mbx := {}
  seq : SeqSt := {}
  rails : List RailSt := List.replicate 8 {}
  /-- The ISO start queue, first first (R243). -/
  isoQueue : List Nat := []
  ldos : List LdoSt := List.replicate 6 {}
  mons : List MonSt := List.replicate 28 {}
  fe : FeSt := {}
  path : PathSt := {}
  chg : ChgSt := {}
  tel : Tel := {}
  otp : Otp := {}
  sb : SbSt := {}
  gauge : Gauge := {}
  upd : Upd := {}
  age : AgeSt := {}
  nv : Nv := {}
  /-- Leases the host granted (R339). -/
  granted : Nat := 0
  /-- The next log sequence number (R304). -/
  logNext : Nat := 0
  /-- Memory windows 0x40000-0x71FFF (R82). -/
  win : Mem := []
  /-- The side-band buffer, 4 KB (R387). -/
  sbBuf : Mem := []
  /-- MRAM, 2 MB (R33). -/
  mram : Mem := []
  /-- What HSDO and SBDA last carried back. -/
  spiOut : List Word := []
  sbOut : List Byte := []
  /-- The model's own counter of free values drawn (log entry 3). -/
  free : Nat := 0
  /-- The queue of waiting commands, first in, first out. -/
  pending : List Instr := []
  deriving DecidableEq, Repr

/-- The machine right after VKEEP valid: BOOT, device time 0, every register at its Reset value (R41, R93). -/
def State.reset : State := {}

end Sys2Proof.Machine
end

