-- ==== Sys2Proof/Machine/Ops.lean ====
section
/-!
DEFINITION. The named operations over register fields, memories, the log, device time and the raising of events. Every
meaning changes the machine through them.
-/

namespace Sys2Proof.Machine

/-! Sparse files. -/

/-- The number under key `k`, or the default. -/
def cellGet (k d : Nat) : Cells → Nat
  | [] => d
  | (a, v) :: r => if a = k then v else cellGet k d r

/-- Puts `v` under key `k`, keeping the keys rising; a value equal to the default is not listed. -/
def cellSet (k v d : Nat) : Cells → Cells
  | [] => if v = d then [] else [(k, v)]
  | (a, w) :: r =>
    if a < k then (a, w) :: cellSet k v d r
    else if a = k then (if v = d then r else (k, v) :: r)
    else (if v = d then (a, w) :: r else (k, v) :: (a, w) :: r)

/-- The keys of a file rise strictly. -/
def Cells.wf : Cells → Bool
  | [] => true
  | [_] => true
  | (a, _) :: (b, w) :: r => decide (a < b) && Cells.wf ((b, w) :: r)

/-- The byte at address `a`. -/
def memGet (a : Nat) : Mem → Byte
  | [] => 0
  | (b, v) :: r => if b = a then v else memGet a r

/-- Stores one byte, keeping the canonical form. -/
def memSet (a : Nat) (v : Byte) : Mem → Mem
  | [] => if v = 0 then [] else [(a, v)]
  | (b, w) :: r =>
    if b < a then (b, w) :: memSet a v r
    else if b = a then (if v = 0 then r else (a, v) :: r)
    else (if v = 0 then (b, w) :: r else (a, v) :: (b, w) :: r)

/-- The canonical form of a memory: addresses strictly rising, no byte 0 listed. -/
def Memory.wf : Mem → Bool
  | [] => true
  | [(_, v)] => v != 0
  | (a, v) :: (b, w) :: r => decide (a < b) && v != 0 && Memory.wf ((b, w) :: r)

/-- `n` bytes from address `a`. -/
def memRead (a n : Nat) (m : Mem) : List Byte :=
  (List.range n).map fun i => memGet (a + i) m

/-- Stores a list of bytes at rising addresses. -/
def memWrite (a : Nat) : List Byte → Mem → Mem
  | [], m => m
  | b :: r, m => memWrite (a + 1) r (memSet a b m)

/-- `n` bytes of `v`, least significant first (R10). -/
def leBytes : Nat → Nat → List Byte
  | 0, _ => []
  | n + 1, v => BitVec.ofNat 8 v :: leBytes n (v / 256)

/-- The number that little-endian bytes spell (R10). -/
def leNat : List Byte → Nat
  | [] => 0
  | b :: r => b.toNat + 256 * leNat r

/-- Bit `i` of a number. -/
def bitOf (v i : Nat) : Bool := v / 2 ^ i % 2 = 1

/-- Bits [lo + w - 1 : lo] of a number. -/
def bitsOf (v lo w : Nat) : Nat := v / 2 ^ lo % 2 ^ w

/-- The two's complement value of a `w`-bit number (R9). -/
def signed (w v : Nat) : Int := if v < 2 ^ (w - 1) then (v : Int) else (v : Int) - 2 ^ w

/-- The `w`-bit two's complement code of an integer. -/
def unsigned (w : Nat) (i : Int) : Nat := (i % 2 ^ w).toNat

/-! Register fields. -/

/-- A field's live value. -/
def State.getF (s : State) (f : Fld) : Nat := cellGet f.key f.rst s.fields

/-- Sets a field's live value, cut to the field's width. -/
def State.setF (s : State) (f : Fld) (v : Nat) : State :=
  { s with fields := cellSet f.key (v % 2 ^ f.w) f.rst s.fields }

/-- A one-bit field as a flag. -/
def State.bit (s : State) (f : Fld) : Bool := s.getF f != 0

/-- Sets a one-bit field. -/
def State.setB (s : State) (f : Fld) (b : Bool) : State := s.setF f b.toNat

/-- A two's complement field. -/
def State.getI (s : State) (f : Fld) : Int := signed f.w (s.getF f)

/-- Sets a two's complement field. -/
def State.setI (s : State) (f : Fld) (i : Int) : State := s.setF f (unsigned f.w i)

/-- Counts once in a field that saturates at its highest value. -/
def State.count (s : State) (f : Fld) : State :=
  if s.getF f + 1 < 2 ^ f.w then s.setF f (s.getF f + 1) else s

/-- Sets or clears bit `i` of a field. -/
def State.setBitOf (s : State) (f : Fld) (i : Nat) (b : Bool) : State :=
  if bitOf (s.getF f) i = b then s
  else if b then s.setF f (s.getF f + 2 ^ i) else s.setF f (s.getF f - 2 ^ i)

/-- A field's staged value: its own copy where one is staged, else the live value (R75). -/
def State.getStaged (s : State) (f : Fld) : Nat :=
  ((s.staged.find? fun p => p.1.key == f.key).map (·.2)).getD (s.getF f)

/-- Puts a value into a field's staging copy, keeping the keys rising. -/
def stageSet (f : Fld) (v : Nat) : List (Fld × Nat) → List (Fld × Nat)
  | [] => [(f, v)]
  | (g, w) :: r =>
    if g.key < f.key then (g, w) :: stageSet f v r
    else if g.key = f.key then (f, v) :: r
    else (f, v) :: (g, w) :: r

/-- The keys of the staging copies rise strictly. -/
def Staged.wf : List (Fld × Nat) → Bool
  | [] => true
  | [_] => true
  | (f, _) :: (g, w) :: r => decide (f.key < g.key) && Staged.wf ((g, w) :: r)

/-- Sets several fields in order. -/
def State.setMany (s : State) (l : List (Fld × Nat)) : State := l.foldl (fun t p => t.setF p.1 p.2) s

/-! Parts of the state. -/

def State.updSys (s : State) (g : Sys → Sys) : State := { s with sys := g s.sys }
def State.updFlt (s : State) (g : Flt → Flt) : State := { s with flt := g s.flt }
def State.updMbx (s : State) (g : Mbx → Mbx) : State := { s with mbx := g s.mbx }
def State.updSeq (s : State) (g : SeqSt → SeqSt) : State := { s with seq := g s.seq }
def State.updTel (s : State) (g : Tel → Tel) : State := { s with tel := g s.tel }
def State.updFe (s : State) (g : FeSt → FeSt) : State := { s with fe := g s.fe }
def State.updPath (s : State) (g : PathSt → PathSt) : State := { s with path := g s.path }
def State.updChg (s : State) (g : ChgSt → ChgSt) : State := { s with chg := g s.chg }
def State.updOtp (s : State) (g : Otp → Otp) : State := { s with otp := g s.otp }
def State.rail (s : State) (k : Nat) : RailSt := s.rails.getD k {}
def State.updRail (s : State) (k : Nat) (g : RailSt → RailSt) : State := { s with rails := s.rails.modify k g }
def State.ldo (s : State) (n : Nat) : LdoSt := s.ldos.getD n {}
def State.updLdo (s : State) (n : Nat) (g : LdoSt → LdoSt) : State := { s with ldos := s.ldos.modify n g }
def State.mon (s : State) (c : Nat) : MonSt := s.mons.getD c {}
def State.updMon (s : State) (c : Nat) (g : MonSt → MonSt) : State := { s with mons := s.mons.modify c g }

/-- An accessor's own registers. -/
def State.acc (s : State) : Accessor → AccSt
  | .host => s.accHost
  | .side => s.accSide
  | .control => s.accCtl
  | .gauge => s.accGauge

def State.updAcc (s : State) (a : Accessor) (g : AccSt → AccSt) : State :=
  match a with
  | .host => { s with accHost := g s.accHost }
  | .side => { s with accSide := g s.accSide }
  | .control => { s with accCtl := g s.accCtl }
  | .gauge => { s with accGauge := g s.accGauge }

/-- Applies a change to every number of a list in turn. -/
def State.each (s : State) (l : List Nat) (g : Nat → State → State) : State := l.foldl (fun t i => g i t) s

/-- Draws one free value (log entry 3). -/
def State.draw (s : State) : State := { s with free := s.free + 1 }

/-! Device states (R84, R85). -/

/-- The codes of SYS_STATE.state. -/
abbrev stFAWN : Nat := 1
abbrev stBOOT : Nat := 2
abbrev stSTANDBY : Nat := 3
abbrev stRUN : Nat := 4
abbrev stIBEX : Nat := 5
abbrev stSAFE : Nat := 6
abbrev stRECOVERY : Nat := 7
abbrev stACTIVATE : Nat := 8

/-- SYS_STATE.state. -/
def State.st (s : State) : Nat := s.getF Reg.SYS_STATE_state

/-- The state is one of a list of codes. -/
def State.stIn (s : State) (l : List Nat) : Bool := l.contains s.st

/-- The device is powered, out of reset and out of the fuse hold: its functions run (R56, R57, R409). -/
def State.live (s : State) : Bool := s.sys.vkeep && !s.sys.resetHeld && !s.sys.fuseHold

/-- The ROM or an image runs: ports answer in full (R320). -/
def State.romUp (s : State) : Bool := s.live && s.st != stFAWN && s.sys.stage != .fuses

/-! The log (R304-R307). -/

/-- Cuts or pads a list of bytes to `n`. -/
def padTo (n : Nat) (l : List Byte) : List Byte := (l ++ List.replicate n 0).take n

/-- Appends one entry of 32 bytes (R305, R306). -/
def State.logAt (s : State) (time kind code : Nat) (data : List Byte) : State :=
  { s with
    win := memWrite (0x60000 + 32 * (s.logNext % 2048))
      (leBytes 8 time ++ leBytes 4 s.logNext ++ leBytes 1 kind ++ leBytes 1 s.st ++ leBytes 2 code ++ padTo 16 data) s.win
    logNext := s.logNext + 1 }

/-- Appends one entry at the present device time. -/
def State.log (s : State) (kind code : Nat) (data : List Byte) : State := s.logAt s.time kind code data

/-! Side-band requests (R390). -/

/-- Bits of SB_REQ.req. -/
abbrev rqFAULT : Nat := 0
abbrev rqRESP : Nat := 1
abbrev rqSTATE : Nat := 2
abbrev rqHOST : Nat := 3
abbrev rqLEASE : Nat := 4
abbrev rqDOWNSTREAM : Nat := 5
abbrev rqUPD : Nat := 6
abbrev rqGAUGE : Nat := 7

/-- A reason of SB_REQ is set; an enabled bit that goes from 0 to 1 ends an Alert Response win (R392), and lets a device
bleat again that had stopped after 8 unanswered bleats (R394). -/
def State.request (s : State) (b : Nat) : State :=
  if bitOf (s.getF Reg.SB_REQ_req) b then s
  else
    let s := s.setBitOf Reg.SB_REQ_req b true
    if bitOf (s.getF Reg.SB_REQ_EN_en) b then
      { s with sb := { s.sb with win := false, unanswered := if 8 ≤ s.sb.unanswered then 0 else s.sb.unanswered } }
    else s

/-! Changes of the device state (R85). -/

/-- The word of a register that has these fields. -/
def State.wordOf (s : State) (l : List Fld) : Nat := l.foldl (fun w f => w + s.getF f * 2 ^ f.lo) 0

/-- SYS_RUN_STAT as a word. -/
def State.runStat (s : State) : Nat :=
  s.wordOf [Reg.SYS_RUN_STAT_act_deferred, Reg.SYS_RUN_STAT_activating, Reg.SYS_RUN_STAT_ibex, Reg.SYS_RUN_STAT_safe,
    Reg.SYS_RUN_STAT_return_state, Reg.SYS_RUN_STAT_sleep_refused, Reg.SYS_RUN_STAT_up_failed, Reg.SYS_RUN_STAT_cmd_run,
    Reg.SYS_RUN_STAT_run_req]

/-- A change of SYS_STATE.state: the old code goes to prev_state, HOST_INT_STAT.state is set, a kind 0x02 entry is written
(R85, R307). -/
def State.setState (s : State) (n : Nat) : State :=
  if s.st = n then s
  else
    let old := s.st
    let s := (s.setF Reg.SYS_STATE_prev_state old).setF Reg.SYS_STATE_state n
    ((s.setB Reg.HOST_INT_STAT_state true).request rqSTATE).log 0x02 (16 * old + n) (leBytes 2 s.runStat)

/-- FAULT_N follows drive and the pulse (R297); in FAWN and BOOT it keeps its level (R56). -/
def State.followPin (s : State) : State :=
  if s.stIn [stFAWN, stBOOT] then s else s.setB Reg.FLT_PIN_pin (s.bit Reg.FLT_PIN_drive || s.bit Reg.FLT_PIN_pulse)

/-- The code R85 shows while the device is in one of its five overlapping states. -/
def State.shown (s : State) : Nat :=
  if s.bit Reg.SYS_RUN_STAT_safe then stSAFE
  else if s.bit Reg.SYS_RUN_STAT_ibex then stIBEX
  else if s.bit Reg.SYS_RUN_STAT_activating then stACTIVATE
  else if s.sys.run then stRUN else stSTANDBY

/-- Brings SYS_STATE.state to what R85 shows. -/
def State.refresh (s : State) : State :=
  if s.stIn [stSTANDBY, stRUN, stIBEX, stSAFE, stACTIVATE] then s.setState s.shown else s

/-- Sets the state under IBEX and ACTIVATE, and with it the return state (R90). -/
def State.setRun (s : State) (r : Bool) : State :=
  ((s.updSys fun y => { y with run := r }).setB Reg.SYS_RUN_STAT_return_state r).refresh

/-! Raising events (R280, R292). -/

/-- Raises an event of a judgement without a lasting cause: each occurrence is an event. None is judged before the ROM runs,
in FAWN or in a hold (R298, R316). -/
def State.raise (s : State) (e : Ev) : State :=
  if s.romUp then s.updFlt fun f => { f with evs := f.evs ++ [e] } else s

/-- A lasting cause is present. -/
def State.present (s : State) (cls src cause : Nat) : Bool := s.flt.causes.contains (cls, src, cause)

/-- Raises an event of a lasting cause: none while the cause is already present (R280). -/
def State.raiseLasting (s : State) (e : Ev) : State :=
  if s.present e.cls e.src e.cause || !s.romUp then s
  else s.updFlt fun f => { f with evs := f.evs ++ [e], causes := f.causes ++ [(e.cls, e.src, e.cause)] }

/-- A lasting cause ends. -/
def State.endCause (s : State) (cls src cause : Nat) : State :=
  s.updFlt fun f => { f with causes := f.causes.filter (· != (cls, src, cause)) }

/-- Whether some cause is present on a source (R291). -/
def State.causeOn (s : State) (cls src : Nat) : Bool := s.flt.causes.any fun c => c.1 == cls && c.2.1 == src

/-- Class codes of R280. -/
abbrev cRAILV : Nat := 0x0
abbrev cRAILI : Nat := 0x1
abbrev cTHERM : Nat := 0x2
abbrev cFE : Nat := 0x3
abbrev cPATH : Nat := 0x4
abbrev cCHG : Nat := 0x5
abbrev cGAUGE : Nat := 0x6
abbrev cISO : Nat := 0x7
abbrev cSEQ : Nat := 0x8
abbrev cCLK : Nat := 0x9
abbrev cMEM : Nat := 0xA
abbrev cFUSE : Nat := 0xB
abbrev cCOMM : Nat := 0xC
abbrev cCORE : Nat := 0xD
abbrev cREF : Nat := 0xE
abbrev cTINE : Nat := 0xF

/-- The kept level of a status, none while it is clear. -/
def State.statusLvl (s : State) (cls src : Nat) : Option Nat :=
  (s.flt.stats.find? fun x => x.cls == cls && x.src == src).map (·.lvl)

/-- A status is set at a level of at least `l`. -/
def State.statusAt (s : State) (cls src l : Nat) : Bool := s.flt.stats.any fun x => x.cls == cls && x.src == src && l ≤ x.lvl

/-! Measured channels (R302, R303). -/

/-- The last value of a telemetry channel, none while it is invalid. -/
def State.chan (s : State) (c : Nat) : Option Int :=
  let v := s.getF (Reg.TEL_CH_val c)
  if v = 0x8000 then none else some (signed 16 v)

/-- A channel of 2 mV units in mV, 0 while invalid. -/
def State.mv2 (s : State) (c : Nat) : Int := 2 * (s.chan c).getD 0

/-! The boot-latched fuses (R410-R413). -/

/-- SAFETY word `i` as the boot read latched it. -/
def State.safety (s : State) (i : Nat) : Nat := cellGet (0x300 + i) 0 s.otp.latch

/-- EARLY word `i` as the boot read latched it. -/
def State.early (s : State) (i : Nat) : Nat := cellGet (0x200 + i) 0 s.otp.latch

/-- A ceiling of R412: the word's value where valid, else the default. -/
def State.ceiling (s : State) (i dflt : Nat) : Nat :=
  let w := s.safety i
  if bitOf w 15 then bitsOf w 0 15 else dflt

/-- The lease mask granted by fuse (R339, R413). -/
def State.leaseFuse (s : State) : Nat := bitsOf (s.safety 0x22) 0 15

end Sys2Proof.Machine
end

