-- ==== Sys2Proof/Machine/Crc.lean ====
section
/-!
DEFINITION. The check computations: CRC-16/CCITT-FALSE of host frames (R322), CRC-8 of the side-band (R379) and CRC-32 of
records (R232).
-/

namespace Sys2Proof.Machine

/-- Applies a step n times. -/
def iter (f : Nat → Nat) : Nat → Nat → Nat
  | 0, x => x
  | n + 1, x => iter f n (f x)

/-- CRC-16/CCITT-FALSE: polynomial 0x1021, initial value 0xFFFF (R322). -/
def crc16 (bs : List Byte) : Nat :=
  bs.foldl (fun c b => iter (fun x => if 0x8000 ≤ x then Nat.xor (2 * x % 0x10000) 0x1021 else 2 * x) 8
    (Nat.xor c (b.toNat * 256))) 0xFFFF

/-- CRC-8: polynomial 0x07, initial value 0 (R379). -/
def crc8 (bs : List Byte) : Nat :=
  bs.foldl (fun c b => iter (fun x => if 0x80 ≤ x then Nat.xor (2 * x % 0x100) 0x07 else 2 * x) 8 (Nat.xor c b.toNat)) 0

/-- CRC-32: polynomial 0x04C11DB7 reflected, initial value and final XOR 0xFFFFFFFF (R232). -/
def crc32 (bs : List Byte) : Nat :=
  Nat.xor 0xFFFFFFFF (bs.foldl (fun c b =>
    iter (fun x => if x % 2 = 1 then Nat.xor (x / 2) 0xEDB88320 else x / 2) 8 (Nat.xor c b.toNat)) 0xFFFFFFFF)

/-- The bytes of a 32-bit word, most significant first, as CRC-16 takes them (R322). -/
def beWord (w : Nat) : List Byte := [BitVec.ofNat 8 (w / 0x1000000), BitVec.ofNat 8 (w / 0x10000), BitVec.ofNat 8 (w / 0x100), BitVec.ofNat 8 w]

/-- Bitwise NOT of a 32-bit number, as commit words hold it (R36). -/
def not32 (v : Nat) : Nat := 0xFFFFFFFF - v % 0x100000000

/-- Any MRAM word with an uncorrectable error lies in a region (R34). -/
def State.mramBad (s : State) (a n : Nat) : Bool := s.nv.bad.any fun x => decide (a ≤ x) && decide (x < a + n)

/-- The byte addresses of the MRAM areas, in the order of R33 (log entry 7). -/
abbrev mSLOT : Nat := 0xC0000
abbrev mGAUGE : Nat := 0x180000
abbrev mSNAP : Nat := 0x181000
abbrev mSTORE : Nat := 0x189000
abbrev mREPAIR : Nat := 0x199000
abbrev mHIST : Nat := 0x19A000

/-- A little-endian number in MRAM. -/
def State.mramNat (s : State) (a n : Nat) : Nat := leNat (memRead a n s.mram)

end Sys2Proof.Machine
end

