-- ==== Sys2Proof/Machine/Image.lean ====
section
/-!
DEFINITION. Firmware images in MRAM (R420-R423): where an area stands, what a header holds, the checks a header passes
without its signature, and when a slot is committed.
-/

namespace Sys2Proof.Machine

/-- Where a slot's image area begins; slot B and the GAUGE area are `true` (R33, R420). -/
def areaBase (slot gauge : Bool) : Nat := (if slot then 0xC0000 else 0) + (if gauge then 0x80000 else 0)
def areaSize (gauge : Bool) : Nat := if gauge then 0x40000 else 0x80000

/-- The largest body of an area (R420), and of an image type 1 CONTROL, 2 GAUGE, 3 PACKAGE (R422). -/
def largestBody (gauge : Bool) : Nat := areaSize gauge - 260
def largestOf (type : Nat) : Nat := if type = 1 then largestBody false else if type = 2 then largestBody true else 786424

/-- A little-endian number in a header. -/
def hdrU (h : List Byte) (o n : Nat) : Nat := leNat ((h.drop o).take n)

/-- Fields of a header (R422). -/
def hdrType (h : List Byte) : Nat := hdrU h 0x04 1
def hdrKey (h : List Byte) : Nat := hdrU h 0x05 1
def hdrMajor (h : List Byte) : Nat := hdrU h 0x08 1
def hdrMinor (h : List Byte) : Nat := hdrU h 0x09 1
def hdrPatch (h : List Byte) : Nat := hdrU h 0x0A 1
def hdrHerd (h : List Byte) : Nat := hdrU h 0x0B 1
def hdrIf (h : List Byte) : Nat := hdrU h 0x0C 1
def hdrOld (h : List Byte) : Nat := hdrU h 0x0D 1
def hdrPMin (h : List Byte) : Nat := hdrU h 0x0E 1
def hdrPMax (h : List Byte) : Nat := hdrU h 0x0F 1
def hdrLen (h : List Byte) : Nat := hdrU h 0x10 4
def hdrFmt (h : List Byte) : Nat := hdrU h 0x14 1
def hdrCrc (h : List Byte) : Nat := hdrU h 0xFC 4

/-- The first check of R425: CRC, magic, type, part, reserved bytes and ranges. -/
def hdrForm (h : List Byte) : Bool :=
  hdrCrc h == crc32 (h.take 0xFC) && hdrU h 0 4 == 0x49565246 && decide (1 ≤ hdrType h) && decide (hdrType h ≤ 3)
    && hdrU h 0x06 2 == 0x4880 && ((h.drop 0x15).take 3).all (· == 0) && ((h.drop 0xB8).take 68).all (· == 0)
    && decide (hdrOld h ≤ hdrIf h) && decide (hdrPMin h ≤ hdrPMax h)

/-- Image X accepts image Y (R423). -/
def accepts (x y : List Byte) : Bool := decide (hdrOld y ≤ hdrPMax x) && decide (hdrPMin x ≤ hdrIf y)

/-- A compatible pair (R423). -/
def pairOk (c g : List Byte) : Bool := accepts c g && accepts g c

/-- A KEYS slot is usable (R405). -/
def State.keyUsable (s : State) (i : Nat) : Bool :=
  let ks := (List.range 16).map fun j => 256 * 4 + 16 * i + j
  decide (i < 4) && !ks.any (s.otp.invalid.contains ·) && ks.any (fun k => cellGet k 0 s.otp.words != 0) && s.safety (0x25 + i) = 0

/-- The version of a header stands at or above the fused floor of its type (R413). -/
def State.aboveFloor (s : State) (h : List Byte) : Bool :=
  let f := s.safety (if hdrType h = 2 then 0x24 else 0x23)
  decide (f ≤ 256 * hdrMajor h + hdrMinor h)

/-- The header stored in an area. -/
def State.header (s : State) (slot gauge : Bool) : List Byte := memRead (areaBase slot gauge) 256 s.mram

/-- The commit word of an area matches its header (R420). -/
def State.committed (s : State) (slot gauge : Bool) : Bool :=
  s.mramNat (areaBase slot gauge + areaSize gauge - 4) 4 == not32 (hdrCrc (s.header slot gauge))

/-- An area holds a committed image that passes the header checks of R425. -/
def State.areaOk (s : State) (slot gauge : Bool) : Bool :=
  let h := s.header slot gauge
  s.committed slot gauge && hdrForm h && hdrType h == (if gauge then 2 else 1) && s.keyUsable (hdrKey h) && s.aboveFloor h
    && decide (hdrLen h ≤ largestBody gauge)

/-- A slot is valid as far as its headers, commit words and keys say, and unless its verification failed at this boot
(R420); the signature checks themselves are the outcome that IMAGE_VERIFIED and UPD.END bring. -/
def State.slotOk (s : State) (slot : Bool) : Bool :=
  s.areaOk slot false && s.areaOk slot true && pairOk (s.header slot false) (s.header slot true) && !s.upd.failed.contains slot

/-- Clears the commit word of an area: the area reads invalid (R420). -/
def State.uncommit (s : State) (slot gauge : Bool) : State :=
  { s with mram := memWrite (areaBase slot gauge + areaSize gauge - 4) (leBytes 4 0) s.mram }

/-- Clears both commit words of a slot. -/
def State.uncommitSlot (s : State) (slot : Bool) : State := (s.uncommit slot false).uncommit slot true

/-- Writes the commit word of an area. -/
def State.commitArea (s : State) (slot gauge : Bool) : State :=
  { s with mram := memWrite (areaBase slot gauge + areaSize gauge - 4) (leBytes 4 (not32 (hdrCrc (s.header slot gauge)))) s.mram }

/-- The selector in force (R429). -/
def State.selector (s : State) : Sel := s.nv.sel.getD ⟨false, false, false⟩

end Sys2Proof.Machine
end

