-- ==== Sys2Proof/Machine/RegMap.lean ====
section
/-!
DEFINITION. The register map (03_register_conventions.md, R64-R83 and every field map): which register stands at an
address, its fields, their access codes (R68), their stated ranges and reserved encodings (R8, R73), and which registers
the host may write outside direct mode (R342).
-/

namespace Sys2Proof.Machine

/-- The access codes of R68. -/
inductive Acc where
  | rw | ro | wo | w1c | rc | buf | stop
  deriving DecidableEq, Repr

/-- One field of a register: place, access code, reset value, stated range (inclusive; `sgn`: the field is two's
complement), whether 0 stands outside the range as a value of its own, reserved encodings, and whether the field is
described as host-writable only in direct mode (R338, R342). -/
structure FieldInfo where
  lo : Nat
  w : Nat
  acc : Acc
  rst : Nat
  rlo : Int := 0
  rhi : Int := 65535
  sgn : Bool := false
  zero : Bool := false
  resv : List Nat := []
  direct : Bool := false
  deriving DecidableEq, Repr

/-- A register, or a row of registers `stride` bytes apart, at an offset of its block. -/
structure RegInfo where
  off : Nat
  stride : Nat := 4
  count : Nat := 1
  hostW : Bool := false
  fields : List FieldInfo
  deriving DecidableEq, Repr

namespace RegMap

def sysRegs0 : List RegInfo := [
  { off := 0x0, fields := [
      { lo := 0, w := 16, acc := .ro, rst := 0x04880 }] },
  { off := 0x4, fields := [
      { lo := 8, w := 8, acc := .ro, rst := 0x1 },
      { lo := 0, w := 8, acc := .ro, rst := 0xB0 }] },
  { off := 0x8, stride := 0x4, count := 4, fields := [
      { lo := 0, w := 16, acc := .ro, rst := 0x0 }] },
  { off := 0x18, fields := [
      { lo := 8, w := 8, acc := .ro, rst := 0x0 },
      { lo := 0, w := 8, acc := .ro, rst := 0x0 }] },
  { off := 0x1C, fields := [
      { lo := 10, w := 1, acc := .ro, rst := 0x0 },
      { lo := 9, w := 1, acc := .ro, rst := 0x0 },
      { lo := 8, w := 1, acc := .ro, rst := 0x0 },
      { lo := 4, w := 4, acc := .ro, rst := 0x2 },
      { lo := 0, w := 4, acc := .ro, rst := 0x2 }] },
  { off := 0x20, stride := 0x4, count := 4, fields := [
      { lo := 0, w := 16, acc := .ro, rst := 0x0 }] },
  { off := 0x30, fields := [
      { lo := 3, w := 1, acc := .w1c, rst := 0x0 },
      { lo := 2, w := 1, acc := .w1c, rst := 0x0 },
      { lo := 1, w := 1, acc := .w1c, rst := 0x0 },
      { lo := 0, w := 1, acc := .w1c, rst := 0x1 }] },
  { off := 0x34, hostW := true, fields := [
      { lo := 8, w := 1, acc := .w1c, rst := 0x0 },
      { lo := 7, w := 1, acc := .w1c, rst := 0x0 },
      { lo := 6, w := 1, acc := .w1c, rst := 0x0 },
      { lo := 5, w := 1, acc := .w1c, rst := 0x0 },
      { lo := 4, w := 1, acc := .w1c, rst := 0x0 },
      { lo := 3, w := 1, acc := .w1c, rst := 0x0 },
      { lo := 2, w := 1, acc := .w1c, rst := 0x0 },
      { lo := 1, w := 1, acc := .w1c, rst := 0x0 },
      { lo := 0, w := 1, acc := .w1c, rst := 0x0 }] },
  { off := 0x38, fields := [
      { lo := 0, w := 16, acc := .ro, rst := 0x0 }] },
  { off := 0x3C, fields := [
      { lo := 0, w := 4, acc := .ro, rst := 0x0 }] },
  { off := 0x40, fields := [
      { lo := 0, w := 2, acc := .rw, rst := 0x0, resv := [3] }] },
  { off := 0x44, fields := [
      { lo := 8, w := 1, acc := .ro, rst := 0x0 },
      { lo := 7, w := 1, acc := .ro, rst := 0x0 },
      { lo := 6, w := 1, acc := .ro, rst := 0x0 },
      { lo := 5, w := 1, acc := .ro, rst := 0x0 },
      { lo := 4, w := 1, acc := .ro, rst := 0x0 },
      { lo := 3, w := 1, acc := .w1c, rst := 0x0 },
      { lo := 2, w := 1, acc := .w1c, rst := 0x0 },
      { lo := 1, w := 1, acc := .ro, rst := 0x0 },
      { lo := 0, w := 1, acc := .ro, rst := 0x0 }] }]

def sysRegs1 : List RegInfo := [
  { off := 0x48, fields := [
      { lo := 9, w := 1, acc := .rw, rst := 0x0 },
      { lo := 8, w := 1, acc := .rw, rst := 0x0 },
      { lo := 0, w := 8, acc := .rw, rst := 0x3C, rlo := 1, rhi := 255 }] },
  { off := 0x4C, fields := [
      { lo := 2, w := 1, acc := .rw, rst := 0x1 },
      { lo := 1, w := 1, acc := .rw, rst := 0x1 },
      { lo := 0, w := 1, acc := .rw, rst := 0x1 }] },
  { off := 0x50, fields := [
      { lo := 6, w := 1, acc := .w1c, rst := 0x0 },
      { lo := 5, w := 1, acc := .w1c, rst := 0x0 },
      { lo := 4, w := 1, acc := .w1c, rst := 0x0 },
      { lo := 3, w := 1, acc := .w1c, rst := 0x0 },
      { lo := 2, w := 1, acc := .w1c, rst := 0x0 },
      { lo := 1, w := 1, acc := .w1c, rst := 0x0 },
      { lo := 0, w := 1, acc := .w1c, rst := 0x0 }] },
  { off := 0x54, fields := [
      { lo := 0, w := 9, acc := .rw, rst := 0xB4, rlo := 80, rhi := 300 }] },
  { off := 0x58, fields := [
      { lo := 0, w := 16, acc := .rw, rst := 0x0 }] },
  { off := 0x5C, fields := [
      { lo := 0, w := 16, acc := .rw, rst := 0x0 }] },
  { off := 0x60, fields := [
      { lo := 5, w := 1, acc := .ro, rst := 0x0 },
      { lo := 4, w := 1, acc := .ro, rst := 0x0 },
      { lo := 3, w := 1, acc := .ro, rst := 0x0 },
      { lo := 2, w := 1, acc := .ro, rst := 0x0 },
      { lo := 1, w := 1, acc := .w1c, rst := 0x0 },
      { lo := 0, w := 1, acc := .ro, rst := 0x0 }] },
  { off := 0x64, fields := [
      { lo := 0, w := 16, acc := .ro, rst := 0x0 }] }]

def sysRegs : List RegInfo := sysRegs0 ++ sysRegs1

def clkRegs : List RegInfo := [
  { off := 0x0, fields := [
      { lo := 8, w := 1, acc := .ro, rst := 0x0 },
      { lo := 7, w := 1, acc := .ro, rst := 0x0 },
      { lo := 6, w := 1, acc := .ro, rst := 0x0 },
      { lo := 5, w := 1, acc := .ro, rst := 0x0 },
      { lo := 4, w := 1, acc := .ro, rst := 0x0 },
      { lo := 3, w := 1, acc := .ro, rst := 0x0 },
      { lo := 2, w := 1, acc := .ro, rst := 0x0 },
      { lo := 1, w := 1, acc := .ro, rst := 0x0 },
      { lo := 0, w := 1, acc := .ro, rst := 0x0 }] },
  { off := 0x4, fields := [
      { lo := 7, w := 1, acc := .w1c, rst := 0x0 },
      { lo := 6, w := 1, acc := .w1c, rst := 0x0 },
      { lo := 5, w := 1, acc := .w1c, rst := 0x0 },
      { lo := 4, w := 1, acc := .w1c, rst := 0x0 },
      { lo := 3, w := 1, acc := .w1c, rst := 0x0 },
      { lo := 2, w := 1, acc := .w1c, rst := 0x0 },
      { lo := 1, w := 1, acc := .w1c, rst := 0x0 },
      { lo := 0, w := 1, acc := .w1c, rst := 0x0 }] },
  { off := 0x8, fields := [
      { lo := 0, w := 3, acc := .rw, rst := 0x0, resv := [7] }] },
  { off := 0xC, fields := [
      { lo := 0, w := 16, acc := .ro, rst := 0x08000 }] },
  { off := 0x10, fields := [
      { lo := 1, w := 1, acc := .rw, rst := 0x0 },
      { lo := 0, w := 1, acc := .stop, rst := 0x0 }] }]

def mbxRegs : List RegInfo := [
  { off := 0x0, hostW := true, fields := [
      { lo := 0, w := 7, acc := .rw, rst := 0x0 }] },
  { off := 0x4, fields := [
      { lo := 0, w := 7, acc := .ro, rst := 0x0 }] },
  { off := 0x8, fields := [
      { lo := 0, w := 7, acc := .ro, rst := 0x0 }] },
  { off := 0xC, hostW := true, fields := [
      { lo := 0, w := 7, acc := .rw, rst := 0x0 }] },
  { off := 0x10, fields := [
      { lo := 8, w := 1, acc := .ro, rst := 0x0 },
      { lo := 7, w := 1, acc := .ro, rst := 0x0 },
      { lo := 0, w := 7, acc := .ro, rst := 0x0 }] },
  { off := 0x14, fields := [
      { lo := 2, w := 1, acc := .w1c, rst := 0x0 },
      { lo := 1, w := 1, acc := .w1c, rst := 0x0 },
      { lo := 0, w := 1, acc := .w1c, rst := 0x0 }] }]

def fltRegs0 : List RegInfo := [
  { off := 0x0, fields := [
      { lo := 4, w := 8, acc := .buf, rst := 0x5, rlo := 1, rhi := 100 },
      { lo := 0, w := 3, acc := .buf, rst := 0x2, resv := [0, 6, 7] }] },
  { off := 0x4, fields := [
      { lo := 2, w := 1, acc := .ro, rst := 0x0 },
      { lo := 1, w := 1, acc := .ro, rst := 0x0 },
      { lo := 0, w := 1, acc := .rw, rst := 0x0, direct := true }] },
  { off := 0x8, hostW := true, fields := [
      { lo := 0, w := 16, acc := .wo, rst := 0x0 }] },
  { off := 0xC, fields := [
      { lo := 0, w := 16, acc := .ro, rst := 0x0 }] },
  { off := 0x10, fields := [
      { lo := 0, w := 16, acc := .ro, rst := 0x0 }] },
  { off := 0x14, stride := 0x4, count := 4, fields := [
      { lo := 12, w := 4, acc := .ro, rst := 0xF },
      { lo := 8, w := 4, acc := .ro, rst := 0xF },
      { lo := 4, w := 4, acc := .ro, rst := 0xF },
      { lo := 0, w := 4, acc := .ro, rst := 0xF }] },
  { off := 0x24, fields := [
      { lo := 15, w := 1, acc := .ro, rst := 0x0 },
      { lo := 12, w := 3, acc := .ro, rst := 0x0 },
      { lo := 8, w := 4, acc := .ro, rst := 0x0 },
      { lo := 0, w := 6, acc := .ro, rst := 0x0 }] },
  { off := 0x28, stride := 0x4, count := 4, fields := [
      { lo := 0, w := 16, acc := .ro, rst := 0x0 }] },
  { off := 0x38, fields := [
      { lo := 0, w := 1, acc := .ro, rst := 0x0 }] },
  { off := 0x3C, fields := [
      { lo := 0, w := 8, acc := .ro, rst := 0x0 }] },
  { off := 0x40, fields := [
      { lo := 0, w := 8, acc := .rc, rst := 0x0 }] },
  { off := 0x44, fields := [
      { lo := 1, w := 1, acc := .ro, rst := 0x0 },
      { lo := 0, w := 1, acc := .ro, rst := 0x0 }] }]

def fltRegs1 : List RegInfo := [
  { off := 0x48, fields := [
      { lo := 0, w := 16, acc := .ro, rst := 0x0 }] },
  { off := 0x100, stride := 0x4, count := 64, fields := [
      { lo := 0, w := 16, acc := .w1c, rst := 0x0, direct := true }] },
  { off := 0x200, stride := 0x4, count := 10, fields := [
      { lo := 12, w := 4, acc := .buf, rst := 0x0 },
      { lo := 8, w := 4, acc := .buf, rst := 0x0 },
      { lo := 4, w := 4, acc := .buf, rst := 0x0 },
      { lo := 0, w := 4, acc := .buf, rst := 0x0 }] },
  { off := 0x7FC, fields := [
      { lo := 2, w := 1, acc := .wo, rst := 0x0 },
      { lo := 1, w := 1, acc := .rw, rst := 0x0 },
      { lo := 0, w := 1, acc := .ro, rst := 0x0 }] }]

def fltRegs : List RegInfo := fltRegs0 ++ fltRegs1

def seqRegs : List RegInfo := [
  { off := 0x0, fields := [
      { lo := 0, w := 8, acc := .buf, rst := 0x14, rlo := 1, rhi := 255 }] },
  { off := 0x4, fields := [
      { lo := 14, w := 2, acc := .ro, rst := 0x0 },
      { lo := 12, w := 2, acc := .ro, rst := 0x0 },
      { lo := 0, w := 6, acc := .ro, rst := 0x0 }] },
  { off := 0x8, fields := [
      { lo := 14, w := 2, acc := .ro, rst := 0x0 },
      { lo := 12, w := 2, acc := .ro, rst := 0x0 },
      { lo := 0, w := 6, acc := .ro, rst := 0x0 }] },
  { off := 0xC, hostW := true, fields := [
      { lo := 0, w := 16, acc := .rw, rst := 0x0 }] },
  { off := 0x10, fields := [
      { lo := 8, w := 6, acc := .rw, rst := 0x0 },
      { lo := 0, w := 8, acc := .rw, rst := 0x0 }] },
  { off := 0x14, fields := [
      { lo := 13, w := 1, acc := .rw, rst := 0x1 },
      { lo := 12, w := 1, acc := .rw, rst := 0x1 },
      { lo := 0, w := 12, acc := .rw, rst := 0x0 }] },
  { off := 0x18, fields := [
      { lo := 8, w := 6, acc := .ro, rst := 0x0 },
      { lo := 0, w := 8, acc := .ro, rst := 0x0 }] },
  { off := 0x1C, fields := [
      { lo := 10, w := 5, acc := .rc, rst := 0x0 },
      { lo := 5, w := 5, acc := .rc, rst := 0x0 },
      { lo := 0, w := 5, acc := .rc, rst := 0x0 }] },
  { off := 0x100, stride := 0x8, count := 192, fields := [
      { lo := 12, w := 4, acc := .stop, rst := 0x0, resv := [14, 15] },
      { lo := 8, w := 4, acc := .stop, rst := 0x0 },
      { lo := 6, w := 2, acc := .stop, rst := 0x0, resv := [3] },
      { lo := 0, w := 6, acc := .stop, rst := 0x0, resv := [32] }] },
  { off := 0x104, stride := 0x8, count := 192, fields := [
      { lo := 13, w := 3, acc := .stop, rst := 0x0, resv := [5, 6, 7] },
      { lo := 0, w := 13, acc := .stop, rst := 0x0 }] },
  { off := 0x7FC, fields := [
      { lo := 2, w := 1, acc := .wo, rst := 0x0 },
      { lo := 1, w := 1, acc := .rw, rst := 0x0 },
      { lo := 0, w := 1, acc := .ro, rst := 0x0 }] }]

def telRegs0 : List RegInfo := [
  { off := 0x0, hostW := true, fields := [
      { lo := 1, w := 1, acc := .wo, rst := 0x0 },
      { lo := 0, w := 1, acc := .wo, rst := 0x0 }] },
  { off := 0x4, fields := [
      { lo := 15, w := 1, acc := .ro, rst := 0x0 },
      { lo := 10, w := 5, acc := .ro, rst := 0x0 },
      { lo := 5, w := 5, acc := .ro, rst := 0x0 },
      { lo := 0, w := 4, acc := .ro, rst := 0x0 }] },
  { off := 0x8, fields := [
      { lo := 2, w := 1, acc := .w1c, rst := 0x0 },
      { lo := 1, w := 1, acc := .w1c, rst := 0x0 },
      { lo := 0, w := 1, acc := .w1c, rst := 0x0 }] },
  { off := 0xC, fields := [
      { lo := 0, w := 8, acc := .rw, rst := 0x0 }] },
  { off := 0x10, fields := [
      { lo := 8, w := 8, acc := .ro, rst := 0x0 },
      { lo := 0, w := 3, acc := .ro, rst := 0x0 }] },
  { off := 0x14, fields := [
      { lo := 0, w := 1, acc := .rw, rst := 0x0 }] },
  { off := 0x20, stride := 0x4, count := 8, fields := [
      { lo := 0, w := 16, acc := .stop, rst := 0x0 }] },
  { off := 0x40, fields := [
      { lo := 8, w := 2, acc := .stop, rst := 0x0, resv := [3] },
      { lo := 0, w := 8, acc := .stop, rst := 0x1, rlo := 1, rhi := 255 }] },
  { off := 0x44, fields := [
      { lo := 0, w := 7, acc := .buf, rst := 0x40, rlo := 1, rhi := 127 }] },
  { off := 0x48, fields := [
      { lo := 15, w := 1, acc := .ro, rst := 0x0 },
      { lo := 0, w := 15, acc := .ro, rst := 0x0 }] },
  { off := 0x4C, hostW := true, fields := [
      { lo := 15, w := 1, acc := .rw, rst := 0x0 },
      { lo := 0, w := 15, acc := .rw, rst := 0x0 }] },
  { off := 0x50, fields := [
      { lo := 8, w := 8, acc := .rc, rst := 0x0 },
      { lo := 0, w := 8, acc := .ro, rst := 0x8 }] }]

def telRegs1 : List RegInfo := [
  { off := 0x100, stride := 0x4, count := 128, fields := [
      { lo := 0, w := 16, acc := .ro, rst := 0x08000 }] },
  { off := 0x7FC, fields := [
      { lo := 2, w := 1, acc := .wo, rst := 0x0 },
      { lo := 1, w := 1, acc := .rw, rst := 0x0 },
      { lo := 0, w := 1, acc := .ro, rst := 0x0 }] }]

def telRegs : List RegInfo := telRegs0 ++ telRegs1

def logRegs : List RegInfo := [
  { off := 0x0, stride := 0x4, count := 2, fields := [
      { lo := 0, w := 16, acc := .ro, rst := 0x0 }] },
  { off := 0x8, stride := 0x4, count := 2, fields := [
      { lo := 0, w := 16, acc := .ro, rst := 0x0 }] },
  { off := 0x10, hostW := true, fields := [
      { lo := 0, w := 16, acc := .wo, rst := 0x0 }] },
  { off := 0x14, fields := [
      { lo := 0, w := 1, acc := .ro, rst := 0x0 }] }]

def otpRegs0 : List RegInfo := [
  { off := 0x0, fields := [
      { lo := 8, w := 1, acc := .ro, rst := 0x0 },
      { lo := 0, w := 8, acc := .ro, rst := 0x0 }] },
  { off := 0x4, fields := [
      { lo := 8, w := 8, acc := .ro, rst := 0x0 },
      { lo := 0, w := 8, acc := .ro, rst := 0x0 }] },
  { off := 0x8, fields := [
      { lo := 0, w := 8, acc := .w1c, rst := 0x0 }] },
  { off := 0xC, fields := [
      { lo := 0, w := 16, acc := .ro, rst := 0x0 }] },
  { off := 0x10, fields := [
      { lo := 0, w := 8, acc := .ro, rst := 0x0 }] },
  { off := 0x14, fields := [
      { lo := 15, w := 1, acc := .w1c, rst := 0x0 },
      { lo := 12, w := 1, acc := .ro, rst := 0x0 },
      { lo := 0, w := 6, acc := .ro, rst := 0x0 }] },
  { off := 0x18, fields := [
      { lo := 0, w := 6, acc := .ro, rst := 0x0 }] }]

/-- The region windows of R419. -/
def otpRegs1 : List RegInfo := [{ off := 0x100, stride := 0x4, count := 896, fields := [{ lo := 0, w := 16, acc := .ro, rst := 0x0 }] }]

def otpRegs : List RegInfo := otpRegs0 ++ otpRegs1

def ageRegs0 : List RegInfo := [
  { off := 0x0, fields := [
      { lo := 1, w := 1, acc := .rw, rst := 0x0 },
      { lo := 0, w := 1, acc := .rw, rst := 0x1 }] },
  { off := 0x4, fields := [
      { lo := 4, w := 1, acc := .ro, rst := 0x0 },
      { lo := 3, w := 1, acc := .ro, rst := 0x0 },
      { lo := 2, w := 1, acc := .ro, rst := 0x0 },
      { lo := 1, w := 1, acc := .ro, rst := 0x0 },
      { lo := 0, w := 1, acc := .ro, rst := 0x0 }] },
  { off := 0x8, fields := [
      { lo := 0, w := 16, acc := .ro, rst := 0x0 }] },
  { off := 0xC, fields := [
      { lo := 0, w := 16, acc := .ro, rst := 0x0 }] },
  { off := 0x10, fields := [
      { lo := 0, w := 16, acc := .ro, rst := 0x0 }] },
  { off := 0x14, fields := [
      { lo := 8, w := 8, acc := .rw, rst := 0x0 },
      { lo := 0, w := 8, acc := .rw, rst := 0x1E, rlo := 5, rhi := 100 }] },
  { off := 0x18, fields := [
      { lo := 0, w := 16, acc := .ro, rst := 0x0 }] },
  { off := 0x1C, fields := [
      { lo := 0, w := 3, acc := .ro, rst := 0x0 }] },
  { off := 0x20, stride := 0x4, count := 2, fields := [
      { lo := 0, w := 16, acc := .ro, rst := 0x0 }] },
  { off := 0x28, fields := [
      { lo := 0, w := 16, acc := .ro, rst := 0x0 }] },
  { off := 0x30, stride := 0x4, count := 5, fields := [
      { lo := 0, w := 16, acc := .ro, rst := 0x0 }] },
  { off := 0x44, fields := [
      { lo := 0, w := 7, acc := .rw, rst := 0x0 }] }]

def ageRegs1 : List RegInfo := [
  { off := 0x100, stride := 0x4, count := 16, fields := [
      { lo := 15, w := 1, acc := .ro, rst := 0x0 },
      { lo := 14, w := 1, acc := .ro, rst := 0x0 },
      { lo := 10, w := 4, acc := .ro, rst := 0x0 },
      { lo := 6, w := 3, acc := .ro, rst := 4 },
      { lo := 0, w := 6, acc := .ro, rst := 0x0 }] },
  { off := 0x200, stride := 0x4, count := 28, fields := [
      { lo := 3, w := 3, acc := .ro, rst := 0x0 },
      { lo := 0, w := 3, acc := .ro, rst := 0x0 }] },
  { off := 0x300, stride := 0x4, count := 8, fields := [
      { lo := 8, w := 1, acc := .ro, rst := 0x0 },
      { lo := 0, w := 5, acc := .ro, rst := 0x0 }] }]

/-- The history window (R462). -/
def ageRegs2 : List RegInfo := [{ off := 0x800, stride := 0x4, count := 512, fields := [{ lo := 0, w := 16, acc := .ro, rst := 0x0 }] }]

def ageRegs : List RegInfo := ageRegs0 ++ ageRegs1 ++ ageRegs2

def updRegs : List RegInfo := [
  { off := 0x0, fields := [
      { lo := 11, w := 1, acc := .ro, rst := 0x0 },
      { lo := 10, w := 1, acc := .ro, rst := 0x0 },
      { lo := 9, w := 1, acc := .ro, rst := 0x0 },
      { lo := 7, w := 2, acc := .ro, rst := 0x0 },
      { lo := 6, w := 1, acc := .ro, rst := 0x0 },
      { lo := 0, w := 2, acc := .ro, rst := 0x0 }] },
  { off := 0x4, fields := [
      { lo := 0, w := 4, acc := .ro, rst := 0x0 }] },
  { off := 0x8, stride := 0x4, count := 2, fields := [
      { lo := 0, w := 16, acc := .ro, rst := 0x0 }] },
  { off := 0x10, fields := [
      { lo := 8, w := 8, acc := .ro, rst := 0x0 },
      { lo := 4, w := 1, acc := .ro, rst := 0x0 },
      { lo := 3, w := 1, acc := .ro, rst := 0x0 },
      { lo := 2, w := 1, acc := .ro, rst := 0x0 },
      { lo := 1, w := 1, acc := .ro, rst := 0x0 },
      { lo := 0, w := 1, acc := .ro, rst := 0x0 }] },
  { off := 0x20, stride := 0x4, count := 8, fields := [
      { lo := 8, w := 8, acc := .ro, rst := 0x0 },
      { lo := 0, w := 8, acc := .ro, rst := 0x0 }] }]

def phaseRegs : List RegInfo := [
  { off := 0x0, fields := [
      { lo := 12, w := 4, acc := .ro, rst := 0x0 },
      { lo := 11, w := 1, acc := .ro, rst := 0x0 },
      { lo := 10, w := 1, acc := .ro, rst := 0x0 },
      { lo := 9, w := 1, acc := .ro, rst := 0x1 },
      { lo := 8, w := 1, acc := .ro, rst := 0x0 },
      { lo := 0, w := 6, acc := .ro, rst := 32 }] },
  { off := 0x4, stride := 0x4, count := 2, fields := [
      { lo := 0, w := 16, acc := .stop, rst := 0xFFFF }] },
  { off := 0xC, fields := [
      { lo := 0, w := 16, acc := .stop, rst := 0 }] },
  { off := 0x10, stride := 0x4, count := 3, fields := [
      { lo := 0, w := 16, acc := .ro, rst := 0x0 }] },
  { off := 0x1C, fields := [
      { lo := 0, w := 16, acc := .ro, rst := 0x0 }] },
  { off := 0x20, fields := [
      { lo := 0, w := 10, acc := .ro, rst := 0x0 }] },
  { off := 0x24, fields := [
      { lo := 12, w := 1, acc := .ro, rst := 0x0 },
      { lo := 11, w := 1, acc := .ro, rst := 0x0 },
      { lo := 0, w := 11, acc := .ro, rst := 0x0 }] }]

def railRegs0 : List RegInfo := [
  { off := 0x0, fields := [
      { lo := 8, w := 1, acc := .stop, rst := 0x0 },
      { lo := 4, w := 4, acc := .stop, rst := 0x0 },
      { lo := 0, w := 4, acc := .stop, rst := 0x0 }] },
  { off := 0x4, fields := [
      { lo := 9, w := 2, acc := .stop, rst := 0x0 },
      { lo := 0, w := 9, acc := .stop, rst := 0x64, rlo := 50, rhi := 300 }] },
  { off := 0x8, fields := [
      { lo := 4, w := 1, acc := .rw, rst := 0x0, direct := true },
      { lo := 3, w := 1, acc := .rw, rst := 0x1 },
      { lo := 2, w := 1, acc := .rw, rst := 0x0 },
      { lo := 1, w := 1, acc := .rw, rst := 0x1 },
      { lo := 0, w := 1, acc := .rw, rst := 0x0 }] },
  { off := 0xC, fields := [
      { lo := 0, w := 12, acc := .buf, rst := 0x3E8, rlo := 400, rhi := 3600 }] },
  { off := 0x10, fields := [
      { lo := 8, w := 8, acc := .buf, rst := 0xA, rlo := 1, rhi := 200 },
      { lo := 0, w := 8, acc := .buf, rst := 0xA, rlo := 1, rhi := 255 }] },
  { off := 0x14, fields := [
      { lo := 0, w := 16, acc := .buf, rst := 0x96, rlo := 20, rhi := 2000 }] },
  { off := 0x18, fields := [
      { lo := 0, w := 16, acc := .buf, rst := 0x1D6, rlo := 10, rhi := 65535 }] },
  { off := 0x1C, fields := [
      { lo := 0, w := 16, acc := .buf, rst := 0x0 }] },
  { off := 0x20, fields := [
      { lo := 8, w := 8, acc := .buf, rst := 0x0, rlo := 5, rhi := 200, zero := true },
      { lo := 0, w := 8, acc := .buf, rst := 0x3C, rlo := 45, rhi := 75 }] },
  { off := 0x24, fields := [
      { lo := 0, w := 7, acc := .buf, rst := 0x20, rlo := 16, rhi := 96 }] },
  { off := 0x28, fields := [
      { lo := 0, w := 8, acc := .buf, rst := 0xC8, rlo := 10, rhi := 200 }] },
  { off := 0x2C, fields := [
      { lo := 0, w := 16, acc := .buf, rst := 0x0 }] }]

def railRegs1 : List RegInfo := [
  { off := 0x30, fields := [
      { lo := 0, w := 16, acc := .buf, rst := 0x0, rlo := 1, rhi := 65535 }] },
  { off := 0x34, fields := [
      { lo := 0, w := 16, acc := .buf, rst := 0x0 }] },
  { off := 0x38, fields := [
      { lo := 0, w := 16, acc := .buf, rst := 0x0 }] },
  { off := 0x3C, fields := [
      { lo := 8, w := 8, acc := .ro, rst := 0x0 },
      { lo := 3, w := 1, acc := .ro, rst := 0x0 },
      { lo := 2, w := 1, acc := .ro, rst := 0x0 },
      { lo := 1, w := 1, acc := .ro, rst := 0x0 },
      { lo := 0, w := 1, acc := .ro, rst := 0x0 }] },
  { off := 0x40, fields := [
      { lo := 8, w := 8, acc := .buf, rst := 0x3C },
      { lo := 0, w := 8, acc := .buf, rst := 0x2A }] },
  { off := 0x44, fields := [
      { lo := 8, w := 5, acc := .buf, rst := 0x0, rlo := 1, rhi := 16, zero := true },
      { lo := 0, w := 8, acc := .buf, rst := 0xF }] },
  { off := 0x48, fields := [
      { lo := 0, w := 8, acc := .buf, rst := 0x32, rlo := 1, rhi := 255 }] },
  { off := 0x4C, fields := [
      { lo := 5, w := 4, acc := .buf, rst := 0x0 },
      { lo := 0, w := 5, acc := .buf, rst := 0x0, rlo := 0, rhi := 20 }] },
  { off := 0x50, fields := [
      { lo := 8, w := 3, acc := .buf, rst := 0x3 },
      { lo := 0, w := 8, acc := .buf, rst := 0x14, rlo := 5, rhi := 50 }] },
  { off := 0x54, fields := [
      { lo := 13, w := 3, acc := .ro, rst := 0x0 },
      { lo := 11, w := 2, acc := .ro, rst := 0x0 },
      { lo := 6, w := 5, acc := .ro, rst := 0x0 },
      { lo := 5, w := 1, acc := .ro, rst := 0x0 },
      { lo := 4, w := 1, acc := .ro, rst := 0x0 },
      { lo := 3, w := 1, acc := .ro, rst := 0x0 },
      { lo := 2, w := 1, acc := .ro, rst := 0x0 },
      { lo := 1, w := 1, acc := .ro, rst := 0x0 },
      { lo := 0, w := 1, acc := .ro, rst := 0x0 }] },
  { off := 0x58, fields := [
      { lo := 8, w := 3, acc := .ro, rst := 0x0 },
      { lo := 0, w := 5, acc := .ro, rst := 0x0 }] },
  { off := 0x5C, fields := [
      { lo := 0, w := 12, acc := .ro, rst := 0x0 }] }]

def railRegs2 : List RegInfo := [
  { off := 0x60, fields := [
      { lo := 0, w := 16, acc := .ro, rst := 0x0 }] },
  { off := 0x64, fields := [
      { lo := 0, w := 8, acc := .buf, rst := 0x87, rlo := 100, rhi := 145 }] },
  { off := 0x68, fields := [
      { lo := 5, w := 1, acc := .ro, rst := 0x0 },
      { lo := 4, w := 1, acc := .ro, rst := 0x0 },
      { lo := 3, w := 1, acc := .ro, rst := 0x0 },
      { lo := 2, w := 1, acc := .ro, rst := 0x0 },
      { lo := 1, w := 1, acc := .ro, rst := 0x0 },
      { lo := 0, w := 1, acc := .ro, rst := 0x0 }] },
  { off := 0x6C, fields := [
      { lo := 8, w := 8, acc := .rc, rst := 0x0 },
      { lo := 0, w := 8, acc := .rc, rst := 0x0 }] },
  { off := 0xFC, fields := [
      { lo := 2, w := 1, acc := .wo, rst := 0x0 },
      { lo := 1, w := 1, acc := .rw, rst := 0x0 },
      { lo := 0, w := 1, acc := .ro, rst := 0x0 }] }]

def railRegs : List RegInfo := railRegs0 ++ railRegs1 ++ railRegs2

def feRegs0 : List RegInfo := [
  { off := 0x0, fields := [
      { lo := 2, w := 1, acc := .rw, rst := 0x0, direct := true },
      { lo := 1, w := 1, acc := .rw, rst := 0x1 },
      { lo := 0, w := 1, acc := .rw, rst := 0x0 }] },
  { off := 0x4, fields := [
      { lo := 13, w := 3, acc := .ro, rst := 0x0 },
      { lo := 11, w := 2, acc := .ro, rst := 0x0 },
      { lo := 7, w := 4, acc := .ro, rst := 0x0 },
      { lo := 5, w := 2, acc := .ro, rst := 0x0 },
      { lo := 4, w := 1, acc := .ro, rst := 0x0 },
      { lo := 3, w := 1, acc := .ro, rst := 0x0 },
      { lo := 2, w := 1, acc := .ro, rst := 0x0 },
      { lo := 0, w := 2, acc := .ro, rst := 0x0 }] },
  { off := 0x8, fields := [
      { lo := 9, w := 7, acc := .stop, rst := 0x14, rlo := 5, rhi := 50 },
      { lo := 0, w := 9, acc := .stop, rst := 0xC8, rlo := 100, rhi := 400 }] },
  { off := 0xC, fields := [
      { lo := 0, w := 8, acc := .stop, rst := 0x50, rlo := 20, rhi := 200 }] },
  { off := 0x10, fields := [
      { lo := 0, w := 16, acc := .buf, rst := 0x14A, rlo := 50, rhi := 2000 }] },
  { off := 0x14, fields := [
      { lo := 8, w := 8, acc := .buf, rst := 0x18, rlo := 2, rhi := 255 },
      { lo := 0, w := 8, acc := .buf, rst := 0x28, rlo := 2, rhi := 255 }] },
  { off := 0x18, fields := [
      { lo := 8, w := 8, acc := .buf, rst := 0x0, rlo := 1, rhi := 200, zero := true },
      { lo := 0, w := 8, acc := .buf, rst := 0x3C, rlo := 45, rhi := 75 }] },
  { off := 0x1C, fields := [
      { lo := 0, w := 7, acc := .buf, rst := 0x20, rlo := 16, rhi := 96 }] },
  { off := 0x20, fields := [
      { lo := 0, w := 8, acc := .buf, rst := 0x8C, rlo := 20, rhi := 150 }] },
  { off := 0x24, fields := [
      { lo := 0, w := 10, acc := .buf, rst := 0xC8, rlo := 10, rhi := 800 }] },
  { off := 0x28, fields := [
      { lo := 0, w := 12, acc := .buf, rst := 0x960, rlo := 1800, rhi := 3200 }] },
  { off := 0x2C, fields := [
      { lo := 8, w := 8, acc := .buf, rst := 0x64, rlo := 1, rhi := 250 },
      { lo := 0, w := 8, acc := .buf, rst := 0x78, rlo := 10, rhi := 120 }] }]

def feRegs1 : List RegInfo := [
  { off := 0x30, fields := [
      { lo := 0, w := 12, acc := .buf, rst := 0xAF0, rlo := 2000, rhi := 3400 }] },
  { off := 0x34, fields := [
      { lo := 8, w := 8, acc := .buf, rst := 0x14 },
      { lo := 0, w := 8, acc := .buf, rst := 0xE }] },
  { off := 0x38, fields := [
      { lo := 0, w := 8, acc := .buf, rst := 0x1E }] },
  { off := 0x3C, fields := [
      { lo := 0, w := 8, acc := .rw, rst := 0x50, rlo := 70, rhi := 200 }] },
  { off := 0x40, fields := [
      { lo := 8, w := 8, acc := .rw, rst := 0x64, rlo := 10, rhi := 255 },
      { lo := 0, w := 8, acc := .rw, rst := 0xA, rlo := 1, rhi := 100 }] },
  { off := 0x44, fields := [
      { lo := 0, w := 11, acc := .ro, rst := 0x0 }] },
  { off := 0x50, stride := 0x10, count := 2, fields := [
      { lo := 0, w := 16, acc := .buf, rst := 0x0 }] },
  { off := 0x54, stride := 0x10, count := 2, fields := [
      { lo := 0, w := 16, acc := .buf, rst := 0x0 }] },
  { off := 0x58, stride := 0x10, count := 2, fields := [
      { lo := 0, w := 16, acc := .buf, rst := 0x0 }] },
  { off := 0x5C, stride := 0x10, count := 2, fields := [
      { lo := 0, w := 16, acc := .buf, rst := 0x0 }] },
  { off := 0x70, stride := 0x4, count := 2, fields := [
      { lo := 8, w := 8, acc := .ro, rst := 0x0 },
      { lo := 3, w := 1, acc := .ro, rst := 0x0 },
      { lo := 2, w := 1, acc := .ro, rst := 0x0 },
      { lo := 1, w := 1, acc := .ro, rst := 0x0 },
      { lo := 0, w := 1, acc := .ro, rst := 0x0 }] },
  { off := 0x78, fields := [
      { lo := 9, w := 1, acc := .w1c, rst := 0x0 },
      { lo := 8, w := 1, acc := .w1c, rst := 0x0 },
      { lo := 7, w := 1, acc := .w1c, rst := 0x0 },
      { lo := 6, w := 1, acc := .w1c, rst := 0x0 },
      { lo := 5, w := 1, acc := .w1c, rst := 0x0 },
      { lo := 4, w := 1, acc := .w1c, rst := 0x0 },
      { lo := 3, w := 1, acc := .w1c, rst := 0x0 },
      { lo := 2, w := 1, acc := .w1c, rst := 0x0 },
      { lo := 1, w := 1, acc := .w1c, rst := 0x0 },
      { lo := 0, w := 1, acc := .w1c, rst := 0x0 }] }]

def feRegs2 : List RegInfo := [
  { off := 0x80, stride := 0x4, count := 6, fields := [
      { lo := 0, w := 16, acc := .ro, rst := 0x0 }] },
  { off := 0x7FC, fields := [
      { lo := 2, w := 1, acc := .wo, rst := 0x0 },
      { lo := 1, w := 1, acc := .rw, rst := 0x0 },
      { lo := 0, w := 1, acc := .ro, rst := 0x0 }] }]

def feRegs : List RegInfo := feRegs0 ++ feRegs1 ++ feRegs2

def pathRegs : List RegInfo := [
  { off := 0x0, fields := [
      { lo := 1, w := 1, acc := .rw, rst := 0x1 },
      { lo := 0, w := 1, acc := .rw, rst := 0x1 }] },
  { off := 0x4, fields := [
      { lo := 10, w := 1, acc := .ro, rst := 0x0 },
      { lo := 9, w := 1, acc := .ro, rst := 0x0 },
      { lo := 8, w := 1, acc := .ro, rst := 0x0 },
      { lo := 6, w := 2, acc := .ro, rst := 0x0 },
      { lo := 5, w := 1, acc := .ro, rst := 0x0 },
      { lo := 4, w := 1, acc := .ro, rst := 0x0 },
      { lo := 0, w := 3, acc := .ro, rst := 0x0 }] },
  { off := 0x8, fields := [
      { lo := 0, w := 10, acc := .rw, rst := 0xB4, rlo := 80, rhi := 300 }] },
  { off := 0xC, fields := [
      { lo := 0, w := 10, acc := .rw, rst := 0x258, rlo := 200, rhi := 600 }] },
  { off := 0x10, fields := [
      { lo := 8, w := 8, acc := .rw, rst := 0x14, rlo := 5, rhi := 255 },
      { lo := 0, w := 8, acc := .rw, rst := 0xA, rlo := 1, rhi := 255 }] },
  { off := 0x14, fields := [
      { lo := 0, w := 9, acc := .rw, rst := 0xA0, rlo := 100, rhi := 300 }] },
  { off := 0x18, fields := [
      { lo := 8, w := 8, acc := .rw, rst := 0x14, rlo := 5, rhi := 255 },
      { lo := 0, w := 8, acc := .rw, rst := 0x32, rlo := 10, rhi := 100 }] },
  { off := 0x1C, fields := [
      { lo := 0, w := 12, acc := .rw, rst := 0x9C4, rlo := 2000, rhi := 3200 }] },
  { off := 0x20, fields := [
      { lo := 3, w := 1, acc := .w1c, rst := 0x0 },
      { lo := 2, w := 1, acc := .w1c, rst := 0x0 },
      { lo := 1, w := 1, acc := .w1c, rst := 0x0 },
      { lo := 0, w := 1, acc := .w1c, rst := 0x0 }] },
  { off := 0x24, fields := [
      { lo := 8, w := 8, acc := .rc, rst := 0x0 },
      { lo := 0, w := 8, acc := .rc, rst := 0x0 }] },
  { off := 0x28, fields := [
      { lo := 0, w := 16, acc := .ro, rst := 0x0 }] }]

def chgRegs0 : List RegInfo := [
  { off := 0x0, fields := [
      { lo := 1, w := 1, acc := .rw, rst := 0x1 },
      { lo := 0, w := 1, acc := .rw, rst := 0x0 }] },
  { off := 0x4, fields := [
      { lo := 8, w := 8, acc := .stop, rst := 0x28, rlo := 2, rhi := 60 },
      { lo := 2, w := 1, acc := .stop, rst := 0x1 },
      { lo := 0, w := 2, acc := .stop, rst := 0x0, resv := [2, 3] }] },
  { off := 0x8, fields := [
      { lo := 0, w := 7, acc := .stop, rst := 0x14, rlo := 10, rhi := 100 }] },
  { off := 0xC, fields := [
      { lo := 0, w := 13, acc := .rw, rst := 0xDDE, rlo := 3450, rhi := 4200 }] },
  { off := 0x10, fields := [
      { lo := 0, w := 9, acc := .rw, rst := 0x64, rlo := 10, rhi := 300 }] },
  { off := 0x14, fields := [
      { lo := 0, w := 10, acc := .rw, rst := 0x0, rlo := 10, rhi := 1000, zero := true }] },
  { off := 0x18, fields := [
      { lo := 8, w := 8, acc := .rw, rst := 0xF, rlo := 5, rhi := 100 },
      { lo := 0, w := 7, acc := .rw, rst := 0x1E, rlo := 0, rhi := 120 }] },
  { off := 0x1C, fields := [
      { lo := 0, w := 12, acc := .rw, rst := 0xA28, rlo := 2000, rhi := 3200 }] },
  { off := 0x20, fields := [
      { lo := 8, w := 7, acc := .rw, rst := 0x5F, rlo := 50, rhi := 99, zero := true },
      { lo := 0, w := 8, acc := .rw, rst := 0x14, rlo := 10, rhi := 100 }] },
  { off := 0x24, fields := [
      { lo := 8, w := 8, acc := .rw, rst := 0x2D, rlo := 20, rhi := 60 },
      { lo := 0, w := 8, acc := .rw, rst := 0x0, rlo := (-20), rhi := 20, sgn := true }] },
  { off := 0x28, fields := [
      { lo := 8, w := 8, acc := .rw, rst := 0x3C, rlo := 45, rhi := 80 },
      { lo := 0, w := 8, acc := .rw, rst := 0xA, rlo := (-20), rhi := 60, sgn := true }] },
  { off := 0x2C, fields := [
      { lo := 11, w := 5, acc := .rw, rst := 0x6, rlo := 1, rhi := 31 },
      { lo := 6, w := 5, acc := .rw, rst := 0xC, rlo := 1, rhi := 31 },
      { lo := 0, w := 6, acc := .rw, rst := 0x24, rlo := 1, rhi := 63 }] }]

def chgRegs1 : List RegInfo := [
  { off := 0x30, fields := [
      { lo := 8, w := 8, acc := .rw, rst := 0x84, rlo := 100, rhi := 170 },
      { lo := 0, w := 6, acc := .rw, rst := 0x14, rlo := 5, rhi := 50 }] },
  { off := 0x34, fields := [
      { lo := 15, w := 1, acc := .w1c, rst := 0x0 },
      { lo := 14, w := 1, acc := .w1c, rst := 0x0 },
      { lo := 13, w := 1, acc := .w1c, rst := 0x0 },
      { lo := 12, w := 1, acc := .ro, rst := 0x0 },
      { lo := 11, w := 1, acc := .ro, rst := 0x0 },
      { lo := 10, w := 1, acc := .ro, rst := 0x0 },
      { lo := 9, w := 1, acc := .ro, rst := 0x0 },
      { lo := 8, w := 1, acc := .ro, rst := 0x0 },
      { lo := 7, w := 1, acc := .ro, rst := 0x0 },
      { lo := 0, w := 4, acc := .ro, rst := 0x0 }] },
  { off := 0x38, fields := [
      { lo := 4, w := 1, acc := .rc, rst := 0x0 },
      { lo := 3, w := 1, acc := .rc, rst := 0x0 },
      { lo := 2, w := 1, acc := .rc, rst := 0x0 },
      { lo := 1, w := 1, acc := .rc, rst := 0x0 },
      { lo := 0, w := 1, acc := .rc, rst := 0x0 }] },
  { off := 0x3C, fields := [
      { lo := 0, w := 10, acc := .ro, rst := 0x0 }] }]

def chgRegs : List RegInfo := chgRegs0 ++ chgRegs1

def gaugeRegs0 : List RegInfo := [
  { off := 0x0, fields := [
      { lo := 0, w := 1, acc := .rw, rst := 0x1 }] },
  { off := 0x4, fields := [
      { lo := 7, w := 1, acc := .ro, rst := 0x0 },
      { lo := 6, w := 1, acc := .ro, rst := 0x0 },
      { lo := 5, w := 1, acc := .ro, rst := 0x0 },
      { lo := 4, w := 1, acc := .ro, rst := 0x1 },
      { lo := 3, w := 1, acc := .ro, rst := 0x1 },
      { lo := 2, w := 1, acc := .ro, rst := 0x0 },
      { lo := 1, w := 1, acc := .ro, rst := 0x0 },
      { lo := 0, w := 1, acc := .ro, rst := 0x0 }] },
  { off := 0x8, fields := [
      { lo := 7, w := 1, acc := .w1c, rst := 0x0 },
      { lo := 6, w := 1, acc := .w1c, rst := 0x0 },
      { lo := 5, w := 1, acc := .w1c, rst := 0x0 },
      { lo := 4, w := 1, acc := .w1c, rst := 0x0 },
      { lo := 3, w := 1, acc := .w1c, rst := 0x0 },
      { lo := 2, w := 1, acc := .w1c, rst := 0x0 },
      { lo := 1, w := 1, acc := .w1c, rst := 0x0 },
      { lo := 0, w := 1, acc := .w1c, rst := 0x0 }] },
  { off := 0xC, fields := [
      { lo := 0, w := 16, acc := .ro, rst := 0x0FFFF }] },
  { off := 0x10, fields := [
      { lo := 0, w := 16, acc := .ro, rst := 0x0FFFF }] },
  { off := 0x14, fields := [
      { lo := 0, w := 16, acc := .ro, rst := 0x0FFFF }] },
  { off := 0x18, fields := [
      { lo := 0, w := 16, acc := .ro, rst := 0x0FFFF }] },
  { off := 0x1C, fields := [
      { lo := 0, w := 16, acc := .ro, rst := 0x0FFFF }] },
  { off := 0x20, fields := [
      { lo := 0, w := 16, acc := .ro, rst := 0x0FFFF }] },
  { off := 0x24, fields := [
      { lo := 0, w := 16, acc := .ro, rst := 0x0FFFF }] },
  { off := 0x28, fields := [
      { lo := 0, w := 16, acc := .ro, rst := 0x0FFFF }] },
  { off := 0x2C, fields := [
      { lo := 0, w := 16, acc := .ro, rst := 0x0FFFF }] }]

def gaugeRegs1 : List RegInfo := [
  { off := 0x30, stride := 0x4, count := 4, fields := [
      { lo := 0, w := 16, acc := .ro, rst := 0x0FFFF }] },
  { off := 0x40, stride := 0x4, count := 4, fields := [
      { lo := 0, w := 16, acc := .ro, rst := 0x0 }] },
  { off := 0x50, fields := [
      { lo := 0, w := 16, acc := .ro, rst := 0x0 }] },
  { off := 0x54, stride := 0x4, count := 2, fields := [
      { lo := 0, w := 16, acc := .ro, rst := 0x0 }] },
  { off := 0x5C, stride := 0x4, count := 4, fields := [
      { lo := 0, w := 16, acc := .ro, rst := 0x0 }] },
  { off := 0x6C, fields := [
      { lo := 5, w := 11, acc := .rw, rst := 0x0 },
      { lo := 4, w := 1, acc := .ro, rst := 0x0 },
      { lo := 0, w := 4, acc := .ro, rst := 0x0 }] },
  { off := 0x70, fields := [
      { lo := 0, w := 9, acc := .buf, rst := 0x14, rlo := 1, rhi := 480 }] },
  { off := 0x74, fields := [
      { lo := 8, w := 8, acc := .buf, rst := 0x28, rlo := 20, rhi := 90 },
      { lo := 0, w := 8, acc := .buf, rst := 0x19, rlo := 5, rhi := 100 }] },
  { off := 0x78, fields := [
      { lo := 8, w := 8, acc := .buf, rst := 0x5F, rlo := 50, rhi := 100 },
      { lo := 0, w := 8, acc := .buf, rst := 0x0 }] },
  { off := 0x7C, fields := [
      { lo := 8, w := 8, acc := .ro, rst := 0x0 },
      { lo := 3, w := 1, acc := .ro, rst := 0x0 },
      { lo := 2, w := 1, acc := .ro, rst := 0x0 },
      { lo := 1, w := 1, acc := .ro, rst := 0x0 },
      { lo := 0, w := 1, acc := .ro, rst := 0x0 }] },
  { off := 0x7FC, fields := [
      { lo := 2, w := 1, acc := .wo, rst := 0x0 },
      { lo := 1, w := 1, acc := .rw, rst := 0x0 },
      { lo := 0, w := 1, acc := .ro, rst := 0x0 }] }]

def gaugeRegs : List RegInfo := gaugeRegs0 ++ gaugeRegs1

def isoRegs : List RegInfo := [
  { off := 0x0, fields := [
      { lo := 0, w := 1, acc := .rw, rst := 0x0 }] },
  { off := 0x4, fields := [
      { lo := 10, w := 1, acc := .buf, rst := 0x1 },
      { lo := 0, w := 10, acc := .buf, rst := 0x190, rlo := 100, rhi := 800 }] },
  { off := 0x8, fields := [
      { lo := 8, w := 4, acc := .buf, rst := 0x2, rlo := 1, rhi := 10 },
      { lo := 0, w := 7, acc := .buf, rst := 0xA, rlo := 4, rhi := 100 }] },
  { off := 0xC, fields := [
      { lo := 8, w := 8, acc := .buf, rst := 0x50, rlo := 20, rhi := 100 },
      { lo := 0, w := 8, acc := .buf, rst := 0x24, rlo := 5, rhi := 40 }] },
  { off := 0x10, fields := [
      { lo := 4, w := 1, acc := .rw, rst := 0x0 },
      { lo := 0, w := 4, acc := .rw, rst := 0x0, resv := [14, 15] }] },
  { off := 0x14, fields := [
      { lo := 3, w := 1, acc := .ro, rst := 0x0 },
      { lo := 0, w := 3, acc := .ro, rst := 0x0 }] },
  { off := 0x18, fields := [
      { lo := 4, w := 1, acc := .w1c, rst := 0x0 },
      { lo := 3, w := 1, acc := .w1c, rst := 0x0 },
      { lo := 2, w := 1, acc := .w1c, rst := 0x0 },
      { lo := 1, w := 1, acc := .w1c, rst := 0x0 },
      { lo := 0, w := 1, acc := .w1c, rst := 0x0 }] },
  { off := 0x1C, fields := [
      { lo := 0, w := 16, acc := .ro, rst := 0x0 }] },
  { off := 0x7C, fields := [
      { lo := 2, w := 1, acc := .wo, rst := 0x0 },
      { lo := 1, w := 1, acc := .rw, rst := 0x0 },
      { lo := 0, w := 1, acc := .ro, rst := 0x0 }] }]

def ldoRegs : List RegInfo := [
  { off := 0x0, fields := [
      { lo := 8, w := 8, acc := .rw, rst := 0xA, rlo := 1, rhi := 50 },
      { lo := 1, w := 1, acc := .rw, rst := 0x1 },
      { lo := 0, w := 1, acc := .rw, rst := 0x0 }] },
  { off := 0x4, fields := [
      { lo := 0, w := 12, acc := .rw, rst := 0x708, rlo := 600, rhi := 3600 }] },
  { off := 0x8, fields := [
      { lo := 3, w := 1, acc := .ro, rst := 0x0 },
      { lo := 2, w := 1, acc := .ro, rst := 0x0 },
      { lo := 0, w := 2, acc := .ro, rst := 0x0 }] },
  { off := 0xC, fields := [
      { lo := 0, w := 16, acc := .ro, rst := 0x0 }] }]

def monChRegs : List RegInfo := [
  { off := 0x0, fields := [
      { lo := 3, w := 1, acc := .buf, rst := 0x1 },
      { lo := 2, w := 1, acc := .buf, rst := 0x0 },
      { lo := 1, w := 1, acc := .buf, rst := 0x0 },
      { lo := 0, w := 1, acc := .buf, rst := 0x0 }] },
  { off := 0x4, fields := [
      { lo := 8, w := 8, acc := .buf, rst := 0xC, rlo := 1, rhi := 40 },
      { lo := 0, w := 8, acc := .buf, rst := 0xC, rlo := 1, rhi := 40 }] },
  { off := 0x8, fields := [
      { lo := 8, w := 8, acc := .buf, rst := 0x20, rlo := 2, rhi := 80 },
      { lo := 0, w := 8, acc := .buf, rst := 0x18, rlo := 2, rhi := 80 }] },
  { off := 0xC, fields := [
      { lo := 0, w := 8, acc := .buf, rst := 0x10, rlo := 1, rhi := 255 }] },
  { off := 0x10, fields := [
      { lo := 8, w := 7, acc := .buf, rst := 0xA, rlo := 2, rhi := 80 },
      { lo := 0, w := 4, acc := .buf, rst := 0x4, rlo := 1, rhi := 15 }] },
  { off := 0x14, fields := [
      { lo := 0, w := 12, acc := .buf, rst := 0x3E8, rlo := 100, rhi := 3900 }] },
  { off := 0x18, fields := [
      { lo := 8, w := 8, acc := .rc, rst := 0x0 },
      { lo := 5, w := 1, acc := .ro, rst := 0x0 },
      { lo := 4, w := 1, acc := .ro, rst := 0x0 },
      { lo := 3, w := 1, acc := .ro, rst := 0x0 },
      { lo := 2, w := 1, acc := .ro, rst := 0x0 },
      { lo := 1, w := 1, acc := .ro, rst := 0x0 },
      { lo := 0, w := 1, acc := .ro, rst := 0x0 }] },
  { off := 0x1C, fields := [
      { lo := 5, w := 1, acc := .w1c, rst := 0x0 },
      { lo := 4, w := 1, acc := .w1c, rst := 0x0 },
      { lo := 3, w := 1, acc := .w1c, rst := 0x0 },
      { lo := 2, w := 1, acc := .w1c, rst := 0x0 },
      { lo := 1, w := 1, acc := .w1c, rst := 0x0 },
      { lo := 0, w := 1, acc := .w1c, rst := 0x0 }] }]

def monPgRegs : List RegInfo := [
  { off := 0x0, fields := [
      { lo := 3, w := 1, acc := .ro, rst := 0x0 },
      { lo := 2, w := 1, acc := .rw, rst := 0x0 },
      { lo := 0, w := 2, acc := .rw, rst := 0x0 }] },
  { off := 0x4, stride := 0x4, count := 3, fields := [
      { lo := 0, w := 16, acc := .rw, rst := 0x0 }] }]

def monBlkRegs : List RegInfo := [
  { off := 0x0, fields := [
      { lo := 2, w := 1, acc := .wo, rst := 0x0 },
      { lo := 1, w := 1, acc := .rw, rst := 0x0 },
      { lo := 0, w := 1, acc := .ro, rst := 0x0 }] }]

def sbRegs0 : List RegInfo := [
  { off := 0x0, fields := [
      { lo := 6, w := 2, acc := .ro, rst := 0x0 },
      { lo := 0, w := 6, acc := .ro, rst := 0x0 }] },
  { off := 0x4, fields := [
      { lo := 5, w := 1, acc := .buf, rst := 0x0 },
      { lo := 4, w := 1, acc := .buf, rst := 0x0 },
      { lo := 3, w := 1, acc := .buf, rst := 0x1 },
      { lo := 2, w := 1, acc := .buf, rst := 0x1 },
      { lo := 1, w := 1, acc := .buf, rst := 0x1 },
      { lo := 0, w := 1, acc := .buf, rst := 0x0 }] },
  { off := 0x8, fields := [
      { lo := 0, w := 8, acc := .w1c, rst := 0x0 }] },
  { off := 0xC, fields := [
      { lo := 8, w := 3, acc := .rw, rst := 0x1, resv := [0, 6, 7] },
      { lo := 0, w := 8, acc := .rw, rst := 0x27 }] },
  { off := 0x10, fields := [
      { lo := 3, w := 1, acc := .w1c, rst := 0x0 },
      { lo := 2, w := 1, acc := .ro, rst := 0x0 },
      { lo := 1, w := 1, acc := .ro, rst := 0x0 },
      { lo := 0, w := 1, acc := .ro, rst := 0x0 }] },
  { off := 0x14, fields := [
      { lo := 7, w := 1, acc := .w1c, rst := 0x0 },
      { lo := 6, w := 1, acc := .w1c, rst := 0x0 },
      { lo := 5, w := 1, acc := .w1c, rst := 0x0 },
      { lo := 4, w := 1, acc := .w1c, rst := 0x0 },
      { lo := 3, w := 1, acc := .w1c, rst := 0x0 },
      { lo := 2, w := 1, acc := .w1c, rst := 0x0 },
      { lo := 1, w := 1, acc := .w1c, rst := 0x0 }] },
  { off := 0x18, fields := [
      { lo := 7, w := 1, acc := .ro, rst := 0x0 },
      { lo := 4, w := 3, acc := .ro, rst := 0x0 },
      { lo := 0, w := 4, acc := .ro, rst := 0x0 }] },
  { off := 0x20, fields := [
      { lo := 3, w := 2, acc := .rw, rst := 0x2, resv := [3] },
      { lo := 1, w := 2, acc := .rw, rst := 0x2, resv := [3] },
      { lo := 0, w := 1, acc := .rw, rst := 0x1 }] },
  { off := 0x24, fields := [
      { lo := 10, w := 6, acc := .ro, rst := 0x0 },
      { lo := 4, w := 6, acc := .ro, rst := 0x0 },
      { lo := 3, w := 1, acc := .ro, rst := 0x0 },
      { lo := 2, w := 1, acc := .ro, rst := 0x0 },
      { lo := 1, w := 1, acc := .ro, rst := 0x0 },
      { lo := 0, w := 1, acc := .ro, rst := 0x0 }] },
  { off := 0x30, fields := [
      { lo := 0, w := 16, acc := .ro, rst := 0x0 }] },
  { off := 0x34, fields := [
      { lo := 8, w := 8, acc := .ro, rst := 0x0 },
      { lo := 0, w := 4, acc := .ro, rst := 0x0 }] },
  { off := 0x38, fields := [
      { lo := 0, w := 1, acc := .wo, rst := 0x0 }] }]

def sbRegs1 : List RegInfo := [
  { off := 0x3C, fields := [
      { lo := 8, w := 8, acc := .rc, rst := 0x0 },
      { lo := 0, w := 5, acc := .ro, rst := 0x0 }] },
  { off := 0x100, stride := 0x4, count := 64, fields := [
      { lo := 15, w := 1, acc := .ro, rst := 0x0 },
      { lo := 0, w := 8, acc := .ro, rst := 0x0 }] },
  { off := 0x7FC, fields := [
      { lo := 2, w := 1, acc := .wo, rst := 0x0 },
      { lo := 1, w := 1, acc := .rw, rst := 0x0 },
      { lo := 0, w := 1, acc := .ro, rst := 0x0 }] }]

def sbRegs : List RegInfo := sbRegs0 ++ sbRegs1

def hostRegs : List RegInfo := [
  { off := 0x0, hostW := true, fields := [
      { lo := 0, w := 16, acc := .rw, rst := 0x0 }] },
  { off := 0x4, fields := [
      { lo := 0, w := 10, acc := .rw, rst := 0x64, rlo := 10, rhi := 1000 }] },
  { off := 0x8, hostW := true, fields := [
      { lo := 10, w := 1, acc := .w1c, rst := 0x0 },
      { lo := 9, w := 1, acc := .w1c, rst := 0x0 },
      { lo := 8, w := 1, acc := .w1c, rst := 0x0 },
      { lo := 7, w := 1, acc := .w1c, rst := 0x0 },
      { lo := 6, w := 1, acc := .w1c, rst := 0x0 },
      { lo := 5, w := 1, acc := .w1c, rst := 0x0 },
      { lo := 4, w := 1, acc := .w1c, rst := 0x0 },
      { lo := 3, w := 1, acc := .w1c, rst := 0x0 },
      { lo := 2, w := 1, acc := .w1c, rst := 0x0 },
      { lo := 1, w := 1, acc := .w1c, rst := 0x0 },
      { lo := 0, w := 1, acc := .w1c, rst := 0x0 }] },
  { off := 0xC, hostW := true, fields := [
      { lo := 0, w := 11, acc := .rw, rst := 0x3 }] },
  { off := 0x10, fields := [
      { lo := 3, w := 1, acc := .ro, rst := 0x0 },
      { lo := 2, w := 1, acc := .ro, rst := 0x0 },
      { lo := 1, w := 1, acc := .ro, rst := 0x0 },
      { lo := 0, w := 1, acc := .ro, rst := 0x0 }] },
  { off := 0x14, fields := [
      { lo := 0, w := 8, acc := .rc, rst := 0x0 }] },
  { off := 0x18, fields := [
      { lo := 0, w := 16, acc := .ro, rst := 0x0 }] },
  { off := 0x1C, fields := [
      { lo := 0, w := 16, acc := .ro, rst := 0x0 }] },
  { off := 0x20, fields := [
      { lo := 8, w := 8, acc := .rc, rst := 0x0 },
      { lo := 0, w := 8, acc := .rc, rst := 0x0 }] },
  { off := 0x24, fields := [
      { lo := 15, w := 1, acc := .ro, rst := 0x0 },
      { lo := 0, w := 11, acc := .ro, rst := 0x0 }] }]

end RegMap

end Sys2Proof.Machine
end

