-- ==== Sys2Proof/Machine/Outputs.lean ====
section
/-!
DEFINITION. Starting, stopping and locking the point-of-load rails, the LDOs and the ISO channels (R122-R127, R145, R152,
R243-R246, R253, R254), as operations that every row and the fault reaction share.
-/

namespace Sys2Proof.Machine

/-! Power-good and supervision causes (R257, R258, R265). -/

/-- The monitor mapped to channel n, as its supervisor channel (R247). -/
def State.isoMon (s : State) (n : Nat) : Option Nat :=
  if s.bit (Reg.ISO_MON_map_en n) then some (14 + s.getF (Reg.ISO_MON_mon n)) else none

/-- Chatter of channel c counts for the step that waits on it, or on an ISO channel whose power-good it is (R271). -/
def State.stepChatter (s : State) (c : Nat) : State :=
  let i := 64 * (s.getF Reg.SEQ_STAT_table - 1) + s.getF Reg.SEQ_STAT_step
  let arg := s.getF (Reg.SEQ_STEP_W1_arg i)
  if s.getF Reg.SEQ_STAT_table != 0 && s.getF (Reg.SEQ_STEP_W1_cond i) == 1
      && (arg == c || decide (28 ≤ arg) && decide (arg < 40) && s.isoMon (arg - 28) == some c) then
    s.updSeq fun q => { q with chat := min 255 (q.chat + 1) }
  else s

/-- A stable power-good falls: it counts as chatter of the channel, and of the step that waits on it (R265, R271). -/
def State.pgFall (s : State) (c : Nat) : State :=
  if s.bit (Reg.MON_CH_STAT_pg c) then
    let s := (s.setB (Reg.MON_CH_STAT_pg c) false).count (Reg.MON_CH_STAT_chat c)
    (s.updMon c fun m => { m with cnt := 0, outN := 0 }).stepChatter c
  else s.updMon c fun m => { m with cnt := 0 }

/-- The causes of a channel's below side end when its windows disarm (log entry 10). -/
def State.disarmLo (s : State) (c : Nat) : State :=
  ((s.endCause cRAILV c 0).endCause cRAILV c 2).updMon c fun m =>
    { m with tripLo := false, warnLo := 0, fltLo := 0, judged := m.judged.filter (·.2) }

/-- The causes of a channel's above side end when its windows disarm (log entry 10). -/
def State.disarmHi (s : State) (c : Nat) : State :=
  ((s.endCause cRAILV c 1).endCause cRAILV c 3).updMon c fun m =>
    { m with tripHi := false, warnHi := 0, fltHi := 0, judged := m.judged.filter (!·.2) }

/-! Which outputs may run (R84, R92, R242, R286, R410, R464). -/

/-- Word i of early definition d. -/
def State.earlyWord (s : State) (d i : Nat) : Nat := s.early (10 * d + i)

/-- Header fields of early definition d: valid, kind (0 rail, 1 LDO, 2 ISO), index, recovery-permitted. -/
def State.earlyValid (s : State) (d : Nat) : Bool := bitOf (s.earlyWord d 0) 15
def State.earlyKind (s : State) (d : Nat) : Nat := bitsOf (s.earlyWord d 0) 12 3
def State.earlyIdx (s : State) (d : Nat) : Nat := bitsOf (s.earlyWord d 0) 8 4
def State.earlyRec (s : State) (d : Nat) : Bool := bitOf (s.earlyWord d 0) 7

/-- The five states of R85 that overlap, in which every output follows its enable. -/
def State.service (s : State) : Bool := s.stIn [stSTANDBY, stRUN, stIBEX, stSAFE, stACTIVATE]

/-- Every output is held off (R286). -/
def State.latched (s : State) : Bool := s.bit Reg.FLT_LATCH_latched

/-- Output `idx` of `count` of a kind may start: in BOOT it must be an early output that has been started, in RECOVERY one that is
flagged recovery-permitted too, and no ISO channel runs there (R92, R242, R286, R464). -/
def State.outRuns (s : State) (kind count idx : Nat) : Bool :=
  s.romUp && s.sys.stage != .dead && !s.latched
    && (s.service || s.sys.earlyUp.any fun d =>
          s.earlyKind d == kind && s.earlyIdx d % count == idx && (s.st != stRECOVERY || s.earlyRec d && kind != 2))

/-! Rails. -/

/-- RAILk_STAT.state codes (R127). -/
abbrev rOFF : Nat := 0
abbrev rRAMP : Nat := 1
abbrev rON : Nat := 2
abbrev rSTOPPING : Nat := 3
abbrev rHICCUP : Nat := 4
abbrev rLOCKED : Nat := 5

def State.railState (s : State) (k : Nat) : Nat := s.getF (Reg.RAIL_STAT_state k)

/-- A rail is stopped in OFF and LOCKED_OFF (R107). -/
def State.railStopped (s : State) (k : Nat) : Bool := s.railState k == rOFF || s.railState k == rLOCKED

/-- The phases of rail k's range (R106). -/
def State.phasesOf (s : State) (k : Nat) : List Nat :=
  if s.bit (Reg.RAIL_GROUP_valid k) then
    (List.range 16).filter fun n => decide (s.getF (Reg.RAIL_GROUP_first k) ≤ n) && decide (n ≤ s.getF (Reg.RAIL_GROUP_last k))
  else []

/-- The rail's phases in service, lowest first (R106). -/
def State.servicePhases (s : State) (k : Nat) : List Nat :=
  (s.phasesOf k).filter fun n => s.bit (Reg.POL_PH_STAT_in_service n)

/-- The phase ceiling n_max (R128). -/
def State.nMax (s : State) (k : Nat) : Nat :=
  let n := (s.servicePhases k).length
  if s.getF (Reg.RAIL_LIGHT_max_n k) = 0 then n else min n (s.getF (Reg.RAIL_LIGHT_max_n k))

/-- The rail that holds phase n, if any. -/
def State.railOf (s : State) (n : Nat) : Option Nat := (List.range 8).find? fun k => (s.phasesOf k).contains n

/-- Makes the m lowest phases in service the switching ones (R130); none switches in the zero-current hold (R123). -/
def State.setSwitching (s : State) (k m : Nat) : State :=
  let on := if (s.rail k).hold0 then [] else (s.servicePhases k).take m
  (s.setF (Reg.RAIL_STAT_n_active k) on.length).each (s.phasesOf k) fun n t =>
    t.setB (Reg.POL_PH_STAT_switching n) (on.contains n)

/-- The rail's regime follows from m, n_max and diode emulation (R129). -/
def State.setRegime (s : State) (k : Nat) : State :=
  let m := s.getF (Reg.RAIL_STAT_n_active k)
  let de := (s.phasesOf k).any fun n => s.bit (Reg.POL_PH_STAT_de n)
  s.setF (Reg.RAIL_STAT_regime k)
    (if s.railState k != rON || m = 0 then 0 else if m = 1 && de then 2 else if m < s.nMax k then 1 else 0)

/-- A rail that is ON is held at n_max phases in continuous conduction (R131). -/
def State.railHeld (s : State) (k : Nat) : Bool :=
  s.railState k == rON && (s.bit (Reg.RAIL_STAT_announce k) || s.bit (Reg.RAIL_DYN_inhibit k) || (s.rail k).move
    || !s.bit (Reg.RAIL_CTRL_graze_en k))

/-- Takes every phase of the rail out of diode emulation. -/
def State.leaveDe (s : State) (k : Nat) : State :=
  s.each (s.phasesOf k) fun n t => t.setB (Reg.POL_PH_STAT_de n) false

/-- A new RAILk_STAT.state; leaving ON ends power-good and disarms the below side, LOCKED_OFF disarms the above side (R258,
R265). -/
def State.setRailState (s : State) (k v : Nat) : State :=
  let was := s.railState k
  let s := s.setF (Reg.RAIL_STAT_state k) v
  let s := if was = rON && v != rON then (s.pgFall k).disarmLo k else s
  if v = rLOCKED then s.disarmHi k else s

/-- All tines of the rail off; everything that runs only while it switches ends. -/
def State.railQuiet (s : State) (k : Nat) : State :=
  let s := (s.leaveDe k).setSwitching k 0
  let s := s.setMany [(Reg.RAIL_STAT_n_active k, 0), (Reg.RAIL_STAT_regime k, 0), (Reg.RAIL_STAT_pulse_skip k, 0),
    (Reg.RAIL_STAT_announce k, 0), (Reg.RAIL_DYN_ilim_active k, 0), (Reg.RAIL_DYN_inhibit k, 0),
    (Reg.RAIL_DYN_ramp_out k, 0), (Reg.RAIL_DYN_ann_offset k, 0), (Reg.RAIL_TGT_v_tgt k, 0)]
  (s.endCause cRAILI k 1).updRail k fun r =>
    { r with start := .idle, waitCoeff := false, move := false, rampOut := none, annPin := none, offset := 0, hold0 := false }

/-- The rail reaches OFF: its discharge path follows dis_en (R124). -/
def State.railToOff (s : State) (k : Nat) : State :=
  ((s.railQuiet k).setRailState k rOFF).updRail k fun r => { r with discharge := s.bit (Reg.RAIL_CTRL_dis_en k) || r.forced }

/-- The rail goes to LOCKED_OFF (R283). -/
def State.railLock (s : State) (k : Nat) : State := (s.railQuiet k).setRailState k rLOCKED

/-- No status at L3 or above stands on a source whose L3 action locks rail k off (R152). -/
def State.railFree (s : State) (k : Nat) : Bool :=
  !(s.statusAt cRAILV k 3 || s.statusAt cRAILI k 3 || s.statusAt cTHERM k 3
    || (s.phasesOf k).any (fun n => s.statusAt cTHERM (32 + n / 4) 3 || s.statusAt cCLK (if n < 8 then 2 else 3) 3))

/-- A rail in LOCKED_OFF moves to OFF once en is 0, the clamp is over and its sources are free (R152). -/
def State.railRelease (s : State) (k : Nat) : State :=
  if s.railState k == rLOCKED && !s.bit (Reg.RAIL_CTRL_en k) && !s.bit (Reg.RAIL_DYN_ovclamp k) && s.railFree k then
    s.railToOff k
  else s

/-- A rail is locked off at its start without a lasting cause: RAILV at L3 (R120, R127). -/
def State.railRefuse (s : State) (k : Nat) : State :=
  (s.railLock k).raise { cls := cRAILV, src := k, lvl := 3, cause := 4 }

/-- The origin of a start: RAMP with the sense check ahead (R122). -/
def State.railBegin (s : State) (k : Nat) : State :=
  let first := !(s.rail k).ramped && !s.bit (Reg.RAIL_CTRL_direct_loop k)
  let s := (s.setRailState k rRAMP).setMany
    [(Reg.RAIL_STAT_prebias k, 0), (Reg.RAIL_STAT_sense_open k, 0)]
  let s := if first then s.setB (Reg.RAIL_LOOP_STAT_stale k) true else s
  s.updRail k fun r => { r with start := .sense, waitCoeff := false, discharge := false, forced := false, ramped := true }

/-- What RAILk_CTRL.en becoming 1 does (R122, R125, R127). -/
def State.railStart (s : State) (k : Nat) : State :=
  if !s.outRuns 0 8 k then s
  else if s.railState k = rSTOPPING then
    (s.setRailState k rRAMP).updRail k fun r => { r with start := .ramp, vstart := s.getF (Reg.RAIL_TGT_v_tgt k) }
  else if s.railState k = rOFF && s.bit (Reg.RAIL_GROUP_valid k) then
    if (s.phasesOf k).any fun n => s.age.testing.contains n then s.updRail k fun r => { r with waitTest := true }
    else if s.getF (Reg.RAIL_FI_fi k) != 0 then
      (s.setF (Reg.RAIL_STAT2_retry_cnt k) 0).railBegin k
    else if s.bit (Reg.RAIL_CTRL_direct_loop k) then s.railRefuse k
    else (s.setB (Reg.RAIL_LOOP_STAT_stale k) true).updRail k fun r => { r with waitCoeff := true }
  else s

/-- A test of phase n ends or is abandoned: the phase is free again, and a rail that waited for it starts (R442, R444). -/
def State.endTest (s : State) (n : Nat) : State :=
  let s := { s with age := { s.age with testing := s.age.testing.filter (· != n), live := s.age.live.filter (· != n) } }.setB (Reg.AGE_PH_busy n) false
  match s.railOf n with
  | some k => if (s.rail k).waitTest then (s.updRail k fun r => { r with waitTest := false }).railStart k else s
  | none => s

/-- The tests of phases in a list are abandoned (R444). -/
def State.abandon (s : State) (ps : List Nat) : State :=
  s.each (s.age.testing.filter fun n => ps.contains n) fun n t =>
    (if t.getF (Reg.AGE_PH_aborts n) < 15 then t.setF (Reg.AGE_PH_aborts n) (t.getF (Reg.AGE_PH_aborts n) + 1) else t).endTest n

/-- The tests of the rail's phases are abandoned because the phases are needed (R444). -/
def State.abandonTests (s : State) (k : Nat) : State := s.abandon (s.phasesOf k)

/-- What RAILk_CTRL.en becoming 0 does (R124, R125, R145). -/
def State.railStop (s : State) (k : Nat) : State :=
  let st := s.railState k
  let s := if st = rON || st = rRAMP then s.abandonTests k else s
  if st = rLOCKED then s
  else if st = rOFF then s.updRail k fun r => { r with waitCoeff := false, waitTest := false }
  else if st = rHICCUP || !s.bit (Reg.RAIL_CTRL_soft_stop k) then s.railToOff k
  else if st = rSTOPPING then s
  else
    let s := s.updRail k fun r => { r with hold0 := false }
    let s := (s.leaveDe k).setSwitching k (s.servicePhases k).length
    let s := s.setMany [(Reg.RAIL_STAT_regime k, 0), (Reg.RAIL_STAT_announce k, 0), (Reg.RAIL_DYN_ilim_active k, 0),
      (Reg.RAIL_DYN_inhibit k, 0), (Reg.RAIL_DYN_ramp_out k, 0), (Reg.RAIL_DYN_ann_offset k, 0)]
    ((s.endCause cRAILI k 1).setRailState k rSTOPPING).updRail k fun r =>
      { r with start := .idle, move := false, rampOut := none, annPin := none, offset := 0 }

/-- A rail enters ON with V_tgt at the setpoint (R122, R123). -/
def State.railOn (s : State) (k : Nat) : State :=
  ((s.setF (Reg.RAIL_TGT_v_tgt k) (s.getF (Reg.RAIL_VSET_vset k))).setRailState k rON).updRail k fun r =>
    { r with start := .idle }

/-! LDOs (R253, R254). -/

abbrev lOFF : Nat := 0
abbrev lRAMP : Nat := 1
abbrev lON : Nat := 2
abbrev lLOCKED : Nat := 3

def State.ldoState (s : State) (n : Nat) : Nat := s.getF (Reg.LDO_STAT_state n)

/-- A new LDOn_STAT.state; its supervisor channel is 8 + n (R256). -/
def State.setLdoState (s : State) (n v : Nat) : State :=
  let was := s.ldoState n
  let s := s.setF (Reg.LDO_STAT_state n) v
  let s := if was = lON && v != lON then (s.pgFall (8 + n)).disarmLo (8 + n) else s
  if v = lLOCKED then s.disarmHi (8 + n) else s

/-- The pass device turns off: OFF, with the discharge of dis_en. -/
def State.ldoToOff (s : State) (n : Nat) : State :=
  ((s.setLdoState n lOFF).setMany [(Reg.LDO_STAT_dropout n, 0), (Reg.LDO_STAT_ilim n, 0)]).updLdo n fun l =>
    { l with target := 0, discharge := s.bit (Reg.LDO_CTRL_dis_en n) || l.forced }

def State.ldoLock (s : State) (n : Nat) : State :=
  ((s.setLdoState n lLOCKED).setMany [(Reg.LDO_STAT_dropout n, 0), (Reg.LDO_STAT_ilim n, 0)]).updLdo n fun l =>
    { l with target := 0 }

/-- An LDO in LOCKED_OFF moves to OFF once en is 0 and neither source stands at L3 or above (R254). -/
def State.ldoRelease (s : State) (n : Nat) : State :=
  if s.ldoState n == lLOCKED && !s.bit (Reg.LDO_CTRL_en n) && !s.statusAt cRAILI (8 + n) 3 && !s.statusAt cRAILV (8 + n) 3 then
    s.ldoToOff n
  else s

def State.ldoStart (s : State) (n : Nat) : State :=
  if !s.outRuns 1 6 n || s.ldoState n != lOFF then s
  else (s.setLdoState n lRAMP).updLdo n fun l => { l with discharge := false, forced := false }

def State.ldoStop (s : State) (n : Nat) : State :=
  if s.ldoState n = lLOCKED || s.ldoState n = lOFF then s else s.ldoToOff n

/-! ISO channels (R242-R246). -/

abbrev iOFF : Nat := 0
abbrev iWAIT : Nat := 1
abbrev iSS : Nat := 2
abbrev iON : Nat := 3
abbrev iPAUSED : Nat := 4
abbrev iLOCKED : Nat := 5

def State.isoState (s : State) (n : Nat) : Nat := s.getF (Reg.ISO_STAT_state n)

/-- A new ISOn_STAT.state; a channel in another state than WAIT is not in the start queue, and its mapped monitor is armed
below only in ON and above from SS onward (R243, R247). -/
def State.setIsoState (s : State) (n v : Nat) : State :=
  let s := s.setF (Reg.ISO_STAT_state n) v
  let q := s.isoQueue.filter (· != n)
  let s := { s with isoQueue := if v = iWAIT then q ++ [n] else q }
  match s.isoMon n with
  | none => s
  | some c =>
    let s := if v = iON then s else (s.disarmLo c).endCause cISO n 5
    if v = iON || v = iSS then s else ((s.disarmHi c).endCause cISO n 4).endCause cISO n 6

/-- A channel in LOCKED_OFF moves to OFF once en is 0 and its ISO status is clear (R246). -/
def State.isoRelease (s : State) (n : Nat) : State :=
  if s.isoState n == iLOCKED && !s.bit (Reg.ISO_CTRL_en n) && (s.statusLvl cISO n).isNone then s.setIsoState n iOFF else s

/-- What ISOn_CTRL.en becoming 1 does: the channel waits, or is paused while ISOPWR is low (R243, R249). -/
def State.isoStart (s : State) (n : Nat) : State :=
  if !s.outRuns 2 12 n || s.isoState n != iOFF then s
  else s.setIsoState n (if s.present cISO 12 0 then iPAUSED else iWAIT)

def State.isoStop (s : State) (n : Nat) : State :=
  if s.isoState n = iLOCKED || s.isoState n = iOFF then s else s.setIsoState n iOFF

/-! Phases and rails after a change of grouping or service (R106, R118, R125). -/

/-- Writes the grouping fields of every phase and the service count of every rail; a rail whose count changes derives
again (R118). -/
def State.regroup (s : State) : State :=
  let s := s.each (List.range 16) fun n t =>
    match t.railOf n with
    | some k => t.setMany [(Reg.POL_PH_STAT_rail n, k), (Reg.POL_PH_STAT_grouped n, 1)]
    | none => t.setMany [(Reg.POL_PH_STAT_rail n, 0), (Reg.POL_PH_STAT_grouped n, 0)]
  s.each (List.range 8) fun k t =>
    let n := (t.servicePhases k).length
    if t.getF (Reg.RAIL_STAT2_n_service k) = n then t
    else
      let t := (t.setF (Reg.RAIL_STAT2_n_service k) n).setRegime k
      if t.bit (Reg.RAIL_CTRL_direct_loop k) then t
      else t.setB (Reg.RAIL_LOOP_STAT_stale k) true

end Sys2Proof.Machine
end

