-- ==== Sys2Proof/Machine/Power.lean ====
section
/-!
DEFINITION. The front end, the power path, BATFET and the charger as operations every row and the fault reaction share
(chapters 7 and 8).
-/

namespace Sys2Proof.Machine

/-! Codes. -/

/-- FE_STAT.state (R165). -/
abbrev feOFF : Nat := 0
abbrev feFWD_START : Nat := 1
abbrev feFWD : Nat := 2
abbrev feREV : Nat := 3
abbrev feCHANGE : Nat := 4
abbrev feSTOPPING : Nat := 5
abbrev feLOCKED : Nat := 6

/-- PATH_STAT.mode (R186). -/
abbrev pOPEN : Nat := 0
abbrev pBUS : Nat := 1
abbrev pHANDOVER : Nat := 2
abbrev pHOLD : Nat := 3
abbrev pRETURN : Nat := 4

/-- CHG_STAT.phase (R197). -/
abbrev gOFF : Nat := 0
abbrev gQUAL : Nat := 1
abbrev gPRE : Nat := 2
abbrev gCC : Nat := 3
abbrev gCV : Nat := 4
abbrev gTOPOFF : Nat := 5
abbrev gDONE : Nat := 6
abbrev gSUSPEND : Nat := 7
abbrev gFAULT : Nat := 8

def State.feState (s : State) : Nat := s.getF Reg.FE_STAT_state
def State.pathMode (s : State) : Nat := s.getF Reg.PATH_STAT_mode
def State.chgPhase (s : State) : Nat := s.getF Reg.CHG_STAT_phase
def State.feIn (s : State) (l : List Nat) : Bool := l.contains s.feState
def State.chgIn (s : State) (l : List Nat) : Bool := l.contains s.chgPhase

/-- The front end is stopped in OFF and LOCKED_OFF (R165). -/
def State.feStopped (s : State) : Bool := s.feIn [feOFF, feLOCKED]

/-- Battery cell count n (R196). -/
def State.cells (s : State) : Nat := 3 + s.getF Reg.CHG_CFG_cells

/-- GAUGE_IBAT in 0.1 mA. -/
def State.iBat (s : State) : Int := signed 32 (s.getF (Reg.GAUGE_IBAT_i 0) + 65536 * s.getF (Reg.GAUGE_IBAT_i 1))

/-! BATFET (R182). -/

/-- The mode of R182, its rows in order. -/
def State.batfetMode (s : State) : Nat :=
  if !s.live || s.st = stFAWN || s.sys.stage = .fuses || s.sys.stage = .dead || s.sys.sleep.isSome then 0
  else if s.path.bfBlocked || s.bit Reg.PATH_FLT_cutoff && !s.path.cutPending || !s.bit Reg.PATH_STAT_batt_present then 0
  else if s.chgIn [gPRE, gCC, gCV, gTOPOFF] then 2 else 1

/-- Brings PATH_STAT.bf_mode to R182. -/
def State.batfet (s : State) : State := s.setF Reg.PATH_STAT_bf_mode s.batfetMode

/-! Charger targets (R196) and phases (R198). -/

/-- f_T in halves: 1 while NTC0 is below t_half, else 2. -/
def State.fT (s : State) : Nat := if s.bit Reg.CHG_STAT_t_derate then 1 else 2

/-- I_chg_tgt in 0.1 A (R196). -/
def State.chgCurrent (s : State) : Rat :=
  let i : Rat := (s.getF Reg.CHG_ICC_icc * s.fT : Nat) / 2
  if !s.bit Reg.PATH_STAT_batt_present then 0
  else if s.chgPhase = gPRE then i / 20 else if s.chgIn [gCC, gCV, gTOPOFF] then i else 0

/-- V_bat_tgt in mV, while it is in the selector (R196). -/
def State.vbatTarget (s : State) : Option Nat :=
  if s.bit Reg.PATH_STAT_batt_present && s.chgIn [gCV, gTOPOFF] then some (s.cells * s.getF Reg.CHG_VCV_vcv) else none

/-- The clamp of V_sys_tgt, in 10 mV (R161). -/
def clampVsys (v : Rat) : Int := max 1000 (min 1700 (roundQ v))

/-- The charger's V_sys_tgt in 10 mV (R161, R196, R206). -/
def State.chargerVsys (s : State) : Int :=
  clampVsys <|
    match s.path.removedTgt with
    | some v => (v : Rat) / 10
    | none =>
      if !s.bit Reg.PATH_STAT_batt_present then (10 * s.getF Reg.CHG_VSYS_v_abs : Nat)
      else if s.chgIn [gPRE, gCC, gCV, gTOPOFF] then ((s.cells * s.getF Reg.CHG_VCV_vcv + 300 : Nat) : Rat) / 10
      else (s.mv2 32 : Rat) / 10 + (s.getF Reg.CHG_VSYS_headroom : Nat)

/-- V_sys_tgt in 10 mV: in FWD_START that of the start ramp, else the charger's (R161, R167). -/
def State.vsysTarget (s : State) : Int :=
  match s.fe.startTgt with
  | some v => clampVsys ((v : Rat) / 10)
  | none => s.chargerVsys

/-- Brings CHG_TGT and FE_VSYS_TGT to the charger's targets. -/
def State.retarget (s : State) : State :=
  (s.setF Reg.CHG_TGT_i_tgt (roundQ s.chgCurrent).toNat).setF Reg.FE_VSYS_TGT_tgt s.vsysTarget.toNat

/-! The front end's selector and slope ramp (R160, R161, R167, R190). -/

/-- The codes of FE_STAT.loop that may win: the terms in the selector, or the peak limit; in STOPPING the command ramps to 0 by
itself. -/
def State.feTerms (s : State) : List Nat :=
  let fwd := [1, 4, 5] ++ (if s.vbatTarget.isSome then [2] else [])
    ++ (if s.bit Reg.PATH_STAT_batt_present && s.chgIn [gPRE, gCC, gCV, gTOPOFF] then [3] else [])
  match s.feState with
  | 1 => [1, 4, 5]
  | 2 => fwd
  | 3 => [6, 7, 8, 9, 5]
  | 5 => 0 :: fwd
  | _ => [0]

/-- Which term wins is not stated by any event: one of those in the selector, free (log entry 6). -/
def State.fePick (s : State) : State :=
  let l := s.feTerms
  (s.setF Reg.FE_STAT_loop (l.getD (Config.freshNat s.free % l.length) 0)).draw

/-- The output target of the present direction in 10 mV: V_sys_tgt, or the REV target, which moves in a return (R161, R190). -/
def State.feTarget (s : State) : Rat :=
  if s.feState = feREV then
    match s.path.revTgt with
    | some v => (v : Rat) / 100
    | none => s.getF Reg.FE_REV_VHB_vhb
  else s.getF Reg.FE_VSYS_TGT_tgt

/-- The measured input voltage of the present direction in mV (R156). -/
def State.feVin (s : State) : Int := if s.feState = feREV then s.mv2 33 else s.mv2 34

/-- Computes S_e = k_slope x s_d from the target, the input and the region (R160). -/
def State.feSlope (s : State) : State :=
  let vin := s.feVin
  let vout := s.feTarget / 100
  let drop := if s.getF Reg.FE_STAT_region = 2 then vout - vin / 1000 else vout
  s.updFe fun f =>
    { f with slope := (s.getF Reg.FE_SLOPE_k_slope : Rat) / 64 * drop / ((s.getF Reg.FE_L_l : Rat) / 100), slopeVin := vin }

/-- S_e is computed again once V_in has moved by more than 2% (R160). -/
def State.feSlopeMoved (s : State) : State :=
  if s.feIn [feFWD_START, feFWD, feREV, feSTOPPING] && decide (s.fe.slopeVin.natAbs < 50 * (s.feVin - s.fe.slopeVin).natAbs) then s.feSlope
  else s

/-- A change of charger phase (R198, R205). -/
def State.setChgPhase (s : State) (p : Nat) : State :=
  if s.chgPhase = p then s
  else
    let s := s.setMany [(Reg.CHG_STAT_phase, p), (Reg.CHG_STAT_phase_evt, 1), (Reg.HOST_INT_STAT_chg, 1)]
    let s := if p = gDONE then s.setB Reg.CHG_STAT_done_evt true else s
    let s := if p = gTOPOFF then s else (s.setB Reg.CHG_STAT_balancing false).updChg fun c => { c with bleeding := [] }
    let s := s.batfet.retarget
    if s.feIn [feFWD, feSTOPPING] then s.fePick else s

/-- Suspend reasons source, ibex and safe from the state, temp from its bit (R199). -/
def State.suspSource (s : State) : Bool := s.pathMode != pBUS || !s.feIn [feFWD_START, feFWD]
def State.suspIbex (s : State) : Bool := [pHANDOVER, pHOLD, pRETURN].contains s.pathMode
def State.suspSafe (s : State) : Bool := s.st = stSAFE
def State.suspended (s : State) : Bool := s.suspSource || s.suspIbex || s.suspSafe || s.bit Reg.CHG_STAT_susp_temp

/-- A cause of R203 stands, or the cut-off holds the charger in FAULT (R195, R203). -/
def State.chgBarred (s : State) : Bool := s.causeOn cCHG 0 || s.bit Reg.PATH_FLT_cutoff

/-- A standing cause takes an active charger to FAULT, else a suspend reason that holds takes it to SUSPEND (R198). -/
def State.chgEval (s : State) : State :=
  if s.chgIn [gQUAL, gPRE, gCC, gCV, gTOPOFF, gSUSPEND] && s.chgBarred then s.setChgPhase gFAULT
  else if s.chgIn [gQUAL, gPRE, gCC, gCV, gTOPOFF] && s.suspended then s.setChgPhase gSUSPEND else s

/-- What CHG_CTRL.en becoming 1 does: OFF to QUAL, and in the same cycle to FAULT or SUSPEND where R198 says so (R195, R207). -/
def State.chgStart (s : State) : State :=
  if s.chgPhase = gOFF && s.service then (s.setChgPhase gQUAL).chgEval else s

/-- What CHG_CTRL.en becoming 0 does; the timer cause of R203 ends with it. -/
def State.chgStop (s : State) : State := ((s.endCause cCHG 0 2).setChgPhase gOFF)

/-- The charger goes to FAULT (R203, R283). -/
def State.chgToFault (s : State) : State :=
  if s.chgIn [gQUAL, gPRE, gCC, gCV, gTOPOFF, gSUSPEND] then s.setChgPhase gFAULT else s

/-! The front end (R165, R166). -/

/-- The front end's phases in service (R171). -/
def State.feService (s : State) : Nat := 2 - (if bitOf (s.getF Reg.FE_STAT_ph_out) 0 then 1 else 0)
  - (if bitOf (s.getF Reg.FE_STAT_ph_out) 1 then 1 else 0)

/-- A phase out of service for an open-phase event returns once its bit is clear, while the front end is stopped (R171); the
sets are then derived again (R164). -/
def State.fePhases (s : State) : State :=
  let out := s.getF Reg.FE_STAT_ph_out
  let keep := (if bitOf out 0 && s.bit Reg.FE_FLT_ph0_open then 1 else 0) + (if bitOf out 1 && s.bit Reg.FE_FLT_ph1_open then 2 else 0)
  if !s.feStopped || keep = out then s
  else
    let t := s.setF Reg.FE_STAT_ph_out keep
    if t.bit Reg.FE_CTRL_direct_loop then t else t.setMany [(Reg.FE_LOOP_STAT_stale 0, 1), (Reg.FE_LOOP_STAT_stale 1, 1)]

/-- A new FE_STAT.state. A stopped front end switches no phase; one in FWD_START runs in diode emulation, although R170 names the
state among those in continuous conduction (R167; DESIGN CHOICE, log entry 43). -/
def State.setFe (s : State) (v : Nat) : State :=
  let s := (s.setF Reg.FE_STAT_state v).updFe fun f => { f with
    rampOut := false, inhibit := f.inhibit && v != feOFF && v != feLOCKED, revHold := v = feREV, ovStop := false, tLast := none,
    startTgt := if v = feFWD_START then some (s.mv2 33).toNat else none }
  let s := if v = feREV then s else s.updPath fun p => { p with revTgt := none }
  let s :=
    if v = feOFF || v = feLOCKED || v = feCHANGE then
      ((s.setMany [(Reg.FE_STAT_n_active, 0), (Reg.FE_STAT_loop, 0), (Reg.FE_STAT_de, 0), (Reg.FE_STAT_ilim_active, 0)]).endCause
        cFE 0 0).endCause cFE 1 0
    else (s.setMany [(Reg.FE_STAT_n_active, s.feService), (Reg.FE_STAT_de, (decide (v = feFWD_START)).toNat)]).fePick
  let s := s.retarget.fePhases
  (if v = feOFF || v = feLOCKED || v = feCHANGE then s else s.feSlope).chgEval

/-- The region chosen directly from M on a start (R158): the target and the input in 10 mV. -/
def startRegion (target vin : Int) : Nat :=
  if target * 100 > vin * 120 then 2 else if target * 100 > vin * 85 then 1 else 0

/-- A start in FWD once all conditions of R166 hold; a set without coefficients raises FE at L3 instead (R164). -/
def State.feTryStart (s : State) : State :=
  if s.feState = feOFF && s.bit Reg.FE_CTRL_fwd_en && s.bit Reg.PATH_STAT_isw_closed && s.pathMode = pBUS && !s.latched
      && s.service && s.live && s.sys.sleep.isNone
      && decide ((s.getF Reg.FE_VBUS_uv * 100 + 500 : Int) ≤ s.mv2 34)
      && !(s.flt.stats.any fun x => x.cls == cFE) then
    if s.getF (Reg.FE_FI_fi 0) = 0 then s.raise { cls := cFE, src := 2, lvl := 3, cause := 12 }
    else (s.setF Reg.FE_STAT_region (startRegion (clampVsys (s.mv2 33 / 10)) (s.mv2 34 / 10))).setFe feFWD_START
  else s

/-- A start in REV ordered by the path (R166, R187). -/
def State.feRev (s : State) : State :=
  if s.getF (Reg.FE_FI_fi 1) = 0 then s.raise { cls := cFE, src := 2, lvl := 3, cause := 12 }
  else (s.setF Reg.FE_STAT_region (startRegion (s.getF Reg.FE_REV_VHB_vhb) (s.mv2 33 / 10))).setFe feREV

/-- What FE_CTRL.fwd_en becoming 0 does (R166). -/
def State.feStop (s : State) : State := if s.feIn [feFWD_START, feFWD] then s.setFe feSTOPPING else s

/-! The power path. -/

/-- What an ISW opening cause reports (R173): over-voltage and reverse polarity their FE_FLT bit and FE at L1, source 3. -/
def State.reportOpening (s : State) : IswCause → State
  | .overVoltage => (s.setB Reg.FE_FLT_vbus_ov true).raiseLasting { cls := cFE, src := 3, lvl := 1, cause := 7 }
  | .reversePolarity => (s.setB Reg.FE_FLT_vbus_rev true).raiseLasting { cls := cFE, src := 3, lvl := 1, cause := 9 }
  | _ => s

/-- PATH_STAT as a word. -/
def State.pathStat (s : State) : Nat :=
  s.wordOf [Reg.PATH_STAT_dwell, Reg.PATH_STAT_vbus_qual, Reg.PATH_STAT_isw_closed, Reg.PATH_STAT_bf_mode,
    Reg.PATH_STAT_batt_present, Reg.PATH_STAT_vhb_reg, Reg.PATH_STAT_mode]

/-- A kind 0x06 entry with the opening causes of R307: at the start of a hand-over (R187), the end of a return, an opening of ISW
and a change of presence. -/
def State.pathLog (s : State) (cause : Nat) : State :=
  s.log 0x06 s.pathMode (leBytes 2 s.pathStat ++ leBytes 2 cause)

/-- A new mode of the path (R186); the charger's reasons follow. -/
def State.setPath (s : State) (m : Nat) : State := (s.setF Reg.PATH_STAT_mode m).chgEval

/-- ISW opens: a front end in FWD stops with it (R166). -/
def State.openIsw (s : State) : State :=
  let s := (s.setB Reg.PATH_STAT_isw_closed false).updPath fun p => { p with closing := none, held := false }
  if s.feIn [feFWD_START, feFWD, feSTOPPING] then s.setFe feOFF else s

/-- The hold-up ends into the return state (R90, R193). -/
def State.endIbex (s : State) : State :=
  if s.bit Reg.SYS_RUN_STAT_ibex then
    ((s.setB Reg.SYS_RUN_STAT_ibex false).updPath fun p => { p with slewed := false }).refresh
  else s

/-- Orders ISW closed under R185: fully at once, or by a slewed close (R172). -/
def State.orderClose (s : State) : State :=
  if s.path.opening.isEmpty then s.updPath fun p => { p with closing := some (decide (s.mv2 35 - s.mv2 34 > 1000)) } else s

/-- The path closes ISW in OPEN when R185 allows it. -/
def State.tryClose (s : State) : State :=
  if s.live && s.sys.stage != .dead && s.pathMode = pOPEN && s.bit Reg.PATH_CTRL_isw_en && s.bit Reg.PATH_STAT_vbus_qual && !s.bit Reg.PATH_STAT_dwell
      && s.path.closing.isNone && !s.latched && s.sys.sleep.isNone
      && s.stIn [stBOOT, stSTANDBY, stRUN, stIBEX, stSAFE, stACTIVATE, stRECOVERY] then s.orderClose
  else s

/-- The slewed close of a slewed return, once no cause holds it off (R173, R191). -/
def State.slewedClose (s : State) : State :=
  if s.pathMode = pRETURN && s.path.slewed && s.path.closing.isNone && !s.bit Reg.PATH_STAT_isw_closed && s.path.opening.isEmpty then
    s.updPath fun p => { p with closing := some true }
  else s

/-- In HOLD a qualified VBUS and an ended dwell start the return (R190); a cleared isw_en holds it off (R207). -/
def State.tryReturn (s : State) : State :=
  if s.pathMode = pHOLD && s.bit Reg.PATH_STAT_vbus_qual && !s.bit Reg.PATH_STAT_dwell && s.bit Reg.PATH_CTRL_isw_en then
    (s.setPath pRETURN).updPath fun p => { p with slewed := false, revTgt := some (p.revTgt.getD (100 * s.getF Reg.FE_REV_VHB_vhb)) }
  else s

/-- Whether a loss starts a hand-over into hold-up (R187). -/
def State.holdsUp (s : State) : Bool :=
  s.bit Reg.PATH_CTRL_ibex_en && s.stIn [stSTANDBY, stRUN, stIBEX, stACTIVATE] && s.bit Reg.PATH_STAT_batt_present
    && s.feState != feLOCKED && !s.latched

/-- A hand-over into hold-up (R187); where it does not apply it counts and is logged all the same, completes into OPEN, and the
minimum dwell runs from there (R188, R189). Qualification begins again when it has completed (R189). -/
def State.handover (s : State) (cause : Nat) : State :=
  let hold := s.holdsUp
  let s := ((((s.setB Reg.PATH_STAT_vbus_qual false).setPath pHANDOVER).count Reg.PATH_EVT_handovers).pathLog cause).openIsw
  if hold then
    if s.feState = feCHANGE then s.updFe fun f => { f with revOrdered := true } else s.feRev
  else
    let s := if s.feIn [feREV, feCHANGE] then s.setFe feOFF else s
    ((s.setPath pOPEN).setB Reg.PATH_STAT_dwell true).endIbex

/-- What a loss does in each mode of the path (R187-R189, R192); a clearing of isw_en takes the same route (R185). -/
def State.loss (s : State) (cause : Nat) : State :=
  if s.pathMode = pBUS then s.handover cause
  else if s.pathMode = pRETURN then
    if s.path.closing.isSome || s.bit Reg.PATH_STAT_isw_closed || s.feState = feCHANGE then s.handover cause
    else
      let s := (s.setPath pHOLD).setB Reg.PATH_STAT_vbus_qual false
      if s.path.slewed then (s.updPath fun p => { p with slewed := false }).feRev else s
  else if s.bit Reg.PATH_STAT_isw_closed || s.path.closing.isSome then s.openIsw.pathLog cause
  else s

/-- The front end is locked off (R166, R283); a hold-up ends with it, with ISW open (R186, R193). In FAWN, BOOT and RECOVERY it is
in OFF and stays there (R165). -/
def State.feLock (s : State) (bits : List Fld) : State :=
  if !s.service then s
  else
    let s := (s.setFe feLOCKED).updFe fun f =>
      { f with lockBits := f.lockBits ++ bits.filter (fun b => !f.lockBits.contains b), revOrdered := false }
    if [pHANDOVER, pHOLD, pRETURN].contains s.pathMode then
      let s := if s.pathMode = pHANDOVER then s.setB Reg.PATH_STAT_dwell true else s
      let s := if s.bit Reg.PATH_STAT_isw_closed then s.openIsw.pathLog 0x20 else s.openIsw
      ((s.setPath pOPEN).updPath fun p => { p with slewed := false }).endIbex.tryClose
    else s

/-- Opens ISW at once and ends whatever the path was doing (R285, R57). -/
def State.pathOff (s : State) (cause : Nat) : State :=
  let was := s.bit Reg.PATH_STAT_isw_closed
  let s := (s.openIsw.setPath pOPEN).endIbex
  if was then s.pathLog cause else s

/-! Enables of the outputs (R269, R284, R350). -/

/-- An output with an enable field. -/
inductive OutRef where
  | rail (k : Nat) | ldo (n : Nat) | iso (n : Nat) | fe | isw | chg
  deriving DecidableEq, Repr

def OutRef.field : OutRef → Fld
  | .rail k => Reg.RAIL_CTRL_en k
  | .ldo n => Reg.LDO_CTRL_en n
  | .iso n => Reg.ISO_CTRL_en n
  | .fe => Reg.FE_CTRL_fwd_en
  | .isw => Reg.PATH_CTRL_isw_en
  | .chg => Reg.CHG_CTRL_en

/-- Sets an enable field; the output then follows its own chapter. -/
def State.enOn (s : State) (o : OutRef) : State :=
  let was := s.bit o.field
  let s := s.setB o.field true
  match o with
  | .rail k => if was then s else s.railStart k
  | .ldo n => if was then s else s.ldoStart n
  | .iso n => if was then s else s.isoStart n
  | .fe => s.feTryStart
  | .isw => s.tryClose.tryReturn
  | .chg => if was then s else s.chgStart

/-- Clears an enable field; the output then follows its own chapter. -/
def State.enOff (s : State) (o : OutRef) : State :=
  let was := s.bit o.field
  let s := s.setB o.field false
  match o with
  | .rail k => s.railStop k
  | .ldo n => s.ldoStop n
  | .iso n => s.isoStop n
  | .fe => s.feStop
  | .isw => if was then s.loss 0x20 else s
  | .chg => s.chgStop

end Sys2Proof.Machine
end

