-- ==== Sys2Proof/Machine/Staging.lean ====
section
/-!
DEFINITION. Buffered fields: staging, boundaries, commit and discard (R74-R78), and what a commit starts in its block
(R118, R121, R127, R164).
-/

namespace Sys2Proof.Machine

/-- The instances with BUF fields, in address order. -/
def allInstances : List Instance :=
  [.flt, .seq, .tel] ++ (List.finRange 8).map .rail ++ [.fe, .gauge] ++ (List.finRange 12).map .iso ++ [.mon, .sb]

/-- The live window of an instance: base and size (R74). -/
def instRange : Instance → Nat × Nat
  | .rail k => (0x11000 + 0x100 * k.val, 0x100)
  | .iso n => (0x18000 + 0x80 * n.val, 0x80)
  | .fe => (0x14000, 0x800)
  | .seq => (0x4000, 0x800)
  | .gauge => (0x17000, 0x800)
  | .tel => (0x5000, 0x800)
  | .mon => (0x1A000, 0x800)
  | .flt => (0x3000, 0x800)
  | .sb => (0x1C000, 0x800)

/-- The commit register of an instance: its address is the last word of the live window (R77). -/
def commitAddr (i : Instance) : Nat := (instRange i).1 + (instRange i).2 - 4

def pendingF (i : Instance) : Fld := ⟨commitAddr i, 0, 1, 0⟩
def holdF (i : Instance) : Fld := ⟨commitAddr i, 1, 1, 0⟩

/-- A field lies in the live window of an instance. -/
def inInst (i : Instance) (f : Fld) : Bool :=
  decide ((instRange i).1 ≤ f.addr) && decide (f.addr < (instRange i).1 + (instRange i).2)

/-- Whether an instance runs, so that a boundary is still to come (R76, R230). -/
def State.instRuns (s : State) : Instance → Bool
  | .rail k => !s.railStopped k && s.railState k != rHICCUP && (s.rail k).start != .sense
  | .iso n => s.isoState n = iSS || s.isoState n = iON
  | .fe => s.feIn [feFWD_START, feFWD, feREV, feSTOPPING]
  | .seq => s.getF Reg.SEQ_STAT_table != 0
  | .sb => s.bit Reg.SB_STAT_in_xfer
  | .gauge => s.sys.gaugeAlive
  | _ => true

/-- All n_max phases switch in continuous conduction, and a ramp-out is aborted: its phase takes the full reference again, above
n_max too (R131, R132, R139). -/
def State.addAll (s : State) (k : Nat) : State :=
  let s := (s.leaveDe k).setSwitching k (max (s.getF (Reg.RAIL_STAT_n_active k)) (s.nMax k))
  ((s.setB (Reg.RAIL_DYN_ramp_out k) false).updRail k fun r => { r with rampOut := none }).setRegime k

/-- A front end held in continuous conduction with all phases in service (R170); not while it stands still for an over-voltage
(R171), and in FWD_START in diode emulation (R167). -/
def State.feAddAll (s : State) : State :=
  if s.feIn [feFWD_START, feFWD, feREV, feSTOPPING] && !s.fe.ovStop then
    (s.setMany [(Reg.FE_STAT_n_active, s.feService), (Reg.FE_STAT_de, (decide (s.feState = feFWD_START)).toNat)]).updFe fun f =>
      { f with rampOut := false }
  else s

/-- Filled bytes of the stream ring, and whether they reach the threshold (R315). -/
def State.strFilled (s : State) : Nat :=
  let p := 32768 * s.getF Reg.TEL_STR_PROD_wrap + s.getF Reg.TEL_STR_PROD_off
  let c := 32768 * s.getF Reg.TEL_STR_CONS_wrap + s.getF Reg.TEL_STR_CONS_off
  (p + 65536 - c) % 65536
def State.strReached (s : State) : Bool := decide (256 * s.getF Reg.TEL_STR_THR_thr ≤ s.strFilled)

/-- What the commit of these fields starts in the block, `b` being the state before it. -/
def State.afterCommit (s b : State) (i : Instance) (fs : List Fld) : State :=
  let has (l : List Fld) : Bool := fs.any fun f => l.any fun g => g.key == f.key
  match i with
  | .rail k =>
    let k := k.val
    let s :=
      if has [Reg.RAIL_VSET_vset k] && b.getF (Reg.RAIL_VSET_vset k) != s.getF (Reg.RAIL_VSET_vset k) && s.railState k = rON then
        (s.addAll k).updRail k fun r => { r with move := true }
      else s
    let s :=
      if has [Reg.RAIL_C_c_uf k, Reg.RAIL_ESR_esr k, Reg.RAIL_LOOP_fc k, Reg.RAIL_LOOP_pm k]
          && !s.bit (Reg.RAIL_CTRL_direct_loop k) then s.setB (Reg.RAIL_LOOP_STAT_stale k) true
      else s
    let s :=
      if has [Reg.RAIL_LIGHT_max_n k] then (if s.railHeld k && s.getF (Reg.RAIL_STAT_n_active k) < s.nMax k then s.addAll k else s.setRegime k)
      else s
    if has [Reg.RAIL_KP_kp k, Reg.RAIL_FI_fi k, Reg.RAIL_FZ_fz k, Reg.RAIL_FP_fp k] then
      let s := s.setB (Reg.RAIL_LOOP_STAT_src k) (s.rail k).direct
      if (s.rail k).waitCoeff && s.getF (Reg.RAIL_FI_fi k) != 0 then
        (s.updRail k fun r => { r with waitCoeff := false }).railStart k
      else s
    else s
  | .fe =>
    let s :=
      if has [Reg.FE_L_l, Reg.FE_C_c_vhb, Reg.FE_C_c_sys, Reg.FE_LOOP_fc, Reg.FE_LOOP_pm, Reg.FE_IIN_iin, Reg.FE_REV_VHB_vhb,
          Reg.FE_REV_LIM_idis, Reg.FE_REV_LIM_plim] && !s.bit Reg.FE_CTRL_direct_loop then
        s.setMany [(Reg.FE_LOOP_STAT_stale 0, 1), (Reg.FE_LOOP_STAT_stale 1, 1)]
      else s
    let s := if has [Reg.FE_L_l, Reg.FE_SLOPE_k_slope] then s.feSlope else s
    s.each [0, 1] fun f t =>
      if has [Reg.FE_KP_kp f, Reg.FE_FI_fi f, Reg.FE_FZ_fz f, Reg.FE_FP_fp f] then
        t.setB (Reg.FE_LOOP_STAT_src f) t.fe.direct
      else t
  | .tel => if !b.strReached && s.strReached then s.setB Reg.HOST_INT_STAT_tel true else s
  | .mon =>
    s.each (List.range 28) fun c t =>
      if b.bit (Reg.MON_CH_CFG_en c) && !t.bit (Reg.MON_CH_CFG_en c) then
        (((t.pgFall c).disarmLo c).disarmHi c).updMon c fun m => { m with uvArmed := false }
      else t
  | _ => s

/-- A boundary of an instance: everything staged becomes live in one cycle, and a kind 0x03 entry is written (R78). -/
def State.commit (s : State) (i : Instance) : State :=
  if s.bit (holdF i) || !s.bit (pendingF i) then s
  else
    let mine := s.staged.filter fun p => inInst i p.1
    let t := { s with staged := s.staged.filter fun p => !inInst i p.1 }
    let t := (t.setMany mine).setB (pendingF i) false
    let first := (mine.head?.map fun p => p.1.addr - (instRange i).1).getD 0
    (t.log 0x03 ((instRange i).1 / 16) (leBytes 2 first)).afterCommit s i (mine.map (·.1))

/-- A commit at once where the instance has no boundary to wait for (R76). -/
def State.commitIdle (s : State) (i : Instance) : State := if s.instRuns i then s else s.commit i

/-- Copies every live value over its staged value (R77). -/
def State.discard (s : State) (i : Instance) : State :=
  { s with staged := s.staged.filter fun p => !inInst i p.1 }.setB (pendingF i) false

/-- Stages one field (R75). -/
def State.stage (s : State) (i : Instance) (f : Fld) (v : Nat) : State :=
  { s with staged := stageSet f (v % 2 ^ f.w) s.staged }.setB (pendingF i) true

end Sys2Proof.Machine
end

