-- ==== Sys2Proof/Machine/Sequencer.lean ====
section
/-!
DEFINITION. The sequencer's operations (R268-R275): starting a table, entering a step, ending and aborting a table, and
the abandoning of a FAWN entry sequence (R95).
-/

namespace Sys2Proof.Machine

/-- Step index into the table registers: 64 times the table (UP 0, DOWN 1, SAFE 2) plus the step. -/
def State.seqIdx (s : State) : Nat := 64 * (s.getF Reg.SEQ_STAT_table - 1) + s.getF Reg.SEQ_STAT_step

/-- The output a step's op and index name, with the level it sets (R269). -/
def seqTarget (op idx : Nat) : Option (OutRef × Bool) :=
  match op with
  | 2 => some (.rail (idx % 8), true)
  | 3 => some (.rail (idx % 8), false)
  | 4 => some (.ldo idx, true)
  | 5 => some (.ldo idx, false)
  | 6 => some (.iso idx, true)
  | 7 => some (.iso idx, false)
  | 8 => some (.fe, true)
  | 9 => some (.fe, false)
  | 10 => some (.isw, true)
  | 11 => some (.isw, false)
  | _ => none

/-- The action of step i of the table registers (R267, R269). -/
def State.seqAction (s : State) (i : Nat) : State :=
  let op := s.getF (Reg.SEQ_STEP_W0_op i)
  let idx := s.getF (Reg.SEQ_STEP_W0_idx i)
  match seqTarget op idx with
  | some (o, true) => s.enOn o
  | some (o, false) => s.enOff o
  | none =>
    if (op = 12 || op = 13) && s.getF (Reg.MON_PG_CFG_mode idx) = 2 then s.setB (Reg.MON_PG_CFG_pin idx) (op = 13) else s

/-- Enters step i: staged SEQ fields commit, the action is applied; END or step 64 ends the table (R271). -/
def State.seqEnter (s : State) (i : Nat) : State :=
  let s := s.commit .seq
  if i = 64 then s.updSeq fun q => { q with ended := true }
  else
    let s := (s.setMany [(Reg.SEQ_STAT_step, i), (Reg.SEQ_STAT_phase, 1)]).updSeq fun q =>
      { q with chat := 0, since := s.time, retried := false }
    let j := s.seqIdx
    if s.getF (Reg.SEQ_STEP_W0_op j) = 0 then s.updSeq fun q => { q with ended := true } else s.seqAction j

/-- Below-side windows of MON channels disarm while DOWN or SAFE runs (R258). -/
def State.monDisarm (s : State) : State :=
  s.each (List.range' 14 14) fun c t => (t.disarmLo c).updMon c fun m => { m with uvArmed := false }

/-- After DOWN or SAFE a monitor arms at once if its power-good is stable (R258). -/
def State.monRearm (s : State) : State :=
  s.each (List.range' 14 14) fun c t => t.updMon c fun m => { m with uvArmed := t.bit (Reg.MON_CH_STAT_pg c) }

/-- Starts a table: 1 UP, 2 DOWN, 3 SAFE (R268). While the L5 latch is set none starts (R286). -/
def State.seqStart (s : State) (t : Nat) : State :=
  if s.latched then s
  else
    let s := s.setMany [(Reg.SEQ_STAT_table, t), (Reg.SEQ_EVENT_ev, 0), (Reg.SEQ_EARLY0_ldo, 0), (Reg.SEQ_EARLY0_rail, 0)]
    let s := s.updSeq fun q => { q with ended := false, fell := false, rose := false }
    (if t = 1 then s else s.monDisarm).seqEnter 0

/-- A table ends: SEQ_RESULT and the interrupt (R268). Outcome 0 completed, 1 failed, 2 aborted. -/
def State.seqEnd (s : State) (outcome : Nat) : State :=
  let t := s.getF Reg.SEQ_STAT_table
  let s := s.setMany [(Reg.SEQ_RESULT_table, t), (Reg.SEQ_RESULT_outcome, outcome),
    (Reg.SEQ_RESULT_step, s.getF Reg.SEQ_STAT_step), (Reg.HOST_INT_STAT_seq, 1), (Reg.SEQ_STAT_table, 0),
    (Reg.SEQ_STAT_phase, 0), (Reg.SEQ_STAT_step, 0)]
  let s := s.updSeq fun q => { q with ended := false, chat := 0, retried := false }
  if t = 2 || t = 3 then s.monRearm else s

/-- The kind 0x04 entry of a step (R307): outcome 0 met, 1 timeout, 2 aborted. -/
def State.seqLog (s : State) (outcome : Nat) : State :=
  s.log 0x04 (s.getF Reg.SEQ_STAT_table * 0x4000 + outcome * 0x1000 + s.getF Reg.SEQ_STAT_step)
    (leBytes 1 s.seq.chat ++ leBytes 1 (s.getF (Reg.SEQ_STEP_W0_op s.seqIdx)) ++ leBytes 2 ((s.time - s.seq.since) / 10))

/-- Aborts a running table at once: the step in progress is abandoned (R268). -/
def State.seqAbort (s : State) : State :=
  if s.getF Reg.SEQ_STAT_table = 0 then s else (s.seqLog 2).seqEnd 2

/-- Abandons a FAWN entry sequence: charger, front end, ISW and BATFET resume (R95). -/
def State.abortSleep (s : State) : State :=
  if s.sys.sleep.isNone then s
  else
    let s := (s.updSys fun y => { y with sleep := none, ship := .off }).updPath fun p => { p with held := false }
    let s := if s.bit Reg.CHG_CTRL_en then s.chgStart else s
    (s.tryClose.feTryStart).batfet

/-- Entry to SAFE: a running UP or DOWN and a FAWN entry are aborted, the SAFE table runs in their place (R87, R268).
A SYS.RESET that waited for the aborted DOWN is dropped (DESIGN CHOICE, log entry 45). -/
def State.enterSafe (s : State) : State :=
  if s.bit Reg.SYS_RUN_STAT_safe || !s.stIn [stSTANDBY, stRUN, stIBEX, stACTIVATE] then s
  else
    let s := (s.seqAbort.abortSleep).setMany [(Reg.SYS_RUN_STAT_safe, 1), (Reg.SYS_RUN_STAT_act_deferred, 0), (Reg.UPD_STAT_deferred, 0)]
    let s := (s.updSeq fun q => { q with safeDone := false }).updSys fun y => { y with resetAfterDown := false }
    ((s.refresh).chgEval).seqStart 3

end Sys2Proof.Machine
end

