-- ==== Sys2Proof/Machine/Regs.lean ====
section
/-!
DEFINITION. Finding registers by address (R64, R82), the fields that are computed rather than stored, and reading words.
-/

namespace Sys2Proof.Machine

/-! Lookup. -/

/-- The first register of a list that stands at an offset. -/
def findReg (off : Nat) : List RegInfo → Option RegInfo
  | [] => none
  | r :: rest =>
    if r.off ≤ off && (off - r.off) % r.stride = 0 && decide ((off - r.off) / r.stride < r.count) then some r
    else findReg off rest

/-- A live register's description at a byte address (R82); none in a gap or outside every block. -/
def regAt (a : Nat) : Option RegInfo :=
  let o := a % 0x1000
  match a / 0x1000 with
  | 0x00 => findReg o RegMap.sysRegs
  | 0x01 => findReg o RegMap.clkRegs
  | 0x02 => findReg o RegMap.mbxRegs
  | 0x03 => findReg o RegMap.fltRegs
  | 0x04 => findReg o RegMap.seqRegs
  | 0x05 => findReg o RegMap.telRegs
  | 0x06 => findReg o RegMap.logRegs
  | 0x08 => findReg o RegMap.otpRegs
  | 0x09 => findReg o RegMap.ageRegs
  | 0x0A => findReg o RegMap.updRegs
  | 0x10 => findReg (o % 0x100) RegMap.phaseRegs
  | 0x11 => if o < 0x800 then findReg (o % 0x100) RegMap.railRegs else none
  | 0x14 => findReg o RegMap.feRegs
  | 0x15 => findReg o RegMap.pathRegs
  | 0x16 => findReg o RegMap.chgRegs
  | 0x17 => findReg o RegMap.gaugeRegs
  | 0x18 => if o < 0x600 then findReg (o % 0x80) RegMap.isoRegs else none
  | 0x19 => if o < 0x60 then findReg (o % 0x10) RegMap.ldoRegs else none
  | 0x1A =>
    if o < 0x380 then findReg (o % 0x20) RegMap.monChRegs
    else if 0x400 ≤ o && o < 0x480 then findReg (o % 0x10) RegMap.monPgRegs
    else if o = 0x7FC then findReg 0 RegMap.monBlkRegs else none
  | 0x1C => findReg o RegMap.sbRegs
  | 0x1D => findReg o RegMap.hostRegs
  | _ => none

/-- The instance whose live window holds an address (R74). -/
def instAt (a : Nat) : Option Instance :=
  let o := a % 0x1000
  match a / 0x1000 with
  | 0x11 => if o < 0x800 then some (.rail (Fin.ofNat 8 (o / 0x100))) else none
  | 0x18 => if o < 0x600 then some (.iso (Fin.ofNat 12 (o / 0x80))) else none
  | 0x14 => if o < 0x800 then some .fe else none
  | 0x04 => if o < 0x800 then some .seq else none
  | 0x17 => if o < 0x800 then some .gauge else none
  | 0x05 => if o < 0x800 then some .tel else none
  | 0x1A => if o < 0x800 then some .mon else none
  | 0x03 => if o < 0x800 then some .flt else none
  | 0x1C => if o < 0x800 then some .sb else none
  | _ => none

/-- The live address that a staging address mirrors (R74, R75). -/
def stagingOf (a : Nat) : Option Nat := if 0x800 ≤ a && (instAt (a - 0x800)).isSome then some (a - 0x800) else none

/-- The fields of a register as they stand at this address: some bits are reserved only in some instances (R104, R266,
R278), and some Reset values depend on the instance. -/
def fieldsAt (a : Nat) : List (Fld × FieldInfo) :=
  match regAt a with
  | none => []
  | some r =>
    let mon := 0x1A000 ≤ a && a < 0x1A380
    let tmap := 0x10000 ≤ a && a < 0x11000 && (a % 0x100 = 0xC || a % 0x100 = 0x18)
    let pgm := 0x1A400 ≤ a && a < 0x1A480 && a % 0x10 = 0xC
    let fs := if mon && a % 0x20 = 0x14 && a < 0x1A000 + 0x20 * 14 then [] else r.fields
    fs.map fun f =>
      let w := if tmap then 4 else if pgm then 8 else f.w
      let rst :=
        if mon && a % 0x20 = 0 && f.lo = 3 && 0x1A000 + 0x20 * 14 ≤ a then 0
        else if 0x10000 ≤ a && a < 0x11000 && a % 0x100 = 0xC then 0
        else f.rst
      (⟨a, f.lo, w, rst⟩, { f with w := w, rst := rst })

/-- The multi-word values (R80): low address and number of words of the value that holds an address. SB_DS0 and SB_DS1, two words
that the spec does not call a multi-word value, are read live (DESIGN CHOICE, log entry 44). -/
def multiword (a : Nat) : Option (Nat × Nat) :=
  let at_ (b n : Nat) : Option (Nat × Nat) := if b ≤ a && a < b + 4 * n then some (b, n) else none
  if a < 0x1000 then (at_ 0x8 4).orElse fun _ => (at_ 0x20 4).orElse fun _ => at_ 0x38 2
  else if a / 0x1000 = 0x03 then at_ 0x3028 4
  else if a / 0x1000 = 0x06 then (at_ 0x6000 2).orElse fun _ => at_ 0x6008 2
  else if a / 0x1000 = 0x09 then at_ 0x9020 2
  else if a / 0x1000 = 0x0A then at_ 0xA008 2
  else if a / 0x1000 = 0x10 then
    let b := a / 0x100 * 0x100
    (at_ (b + 0x4) 3).orElse fun _ => at_ (b + 0x10) 3
  else if a / 0x1000 = 0x17 then (at_ 0x17054 2).orElse fun _ => at_ 0x1705C 4
  else if 0x1A400 ≤ a && a < 0x1A480 then at_ (a / 0x10 * 0x10 + 4) 3
  else none

/-! Arming and power-good (R258, R264, R266). -/

/-- The ISO channel a monitor input is mapped to (R247); c is its supervisor channel. -/
def State.isoOfMon (s : State) (c : Nat) : Option Nat := (List.range 12).find? fun n => s.isoMon n == some c

/-- The below-side windows of channel c are armed (R258). -/
def State.armedLo (s : State) (c : Nat) : Bool :=
  s.bit (Reg.MON_CH_CFG_en c) &&
    (if c < 8 then s.railState c == rON
     else if c < 14 then s.ldoState (c - 8) == lON
     else match s.isoOfMon c with
      | some n => s.isoState n == iON
      | none => (s.mon c).uvArmed)

/-- The above-side windows of channel c are armed (R258). -/
def State.armedHi (s : State) (c : Nat) : Bool :=
  s.bit (Reg.MON_CH_CFG_en c) &&
    (if c < 8 then s.railState c != rLOCKED && s.bit (Reg.RAIL_GROUP_valid c)
     else if c < 14 then s.ldoState (c - 8) != lLOCKED
     else match s.isoOfMon c with
      | some n => s.isoState n == iON || s.isoState n == iSS
      | none => true)

/-- The cause of a window as class, source and cause number: RAILV of the channel, or ISO of the channel a monitor is mapped to
(R246, R263). The fault window's two sides share one cause of ISO. -/
def State.windowKey (s : State) (c : Nat) (fault above : Bool) : Nat × Nat × Nat :=
  match (if c < 14 then none else s.isoOfMon c) with
  | some n => (cISO, n, if fault then 4 else if above then 6 else 5)
  | none => (cRAILV, c, (if fault then 2 else 0) + above.toNat)

/-- The cause of a window is present. -/
def State.windowCause (s : State) (c : Nat) (fault above : Bool) : Bool := s.flt.causes.contains (s.windowKey c fault above)

/-- The channel is in its counting state (R264). -/
def State.counting (s : State) (c : Nat) : Bool :=
  s.bit (Reg.MON_CH_CFG_en c) &&
    (if c < 8 then s.railState c == rON else if c < 14 then s.ldoState (c - 8) == lON else true)

/-- The power-good of source i of R266: supervisor channels 0-27, ISO channels 28-39. -/
def State.pgOf (s : State) (i : Nat) : Bool :=
  if i < 28 then s.bit (Reg.MON_CH_STAT_pg i)
  else
    let n := i - 28
    match s.isoMon n with
    | some c => s.bit (Reg.MON_CH_STAT_pg c)
    | none => s.isoState n == iON && (s.statusLvl cISO n).isNone

/-- The sources mapped to pin j, as a number of 40 bits. -/
def State.pgMap (s : State) (j : Nat) : Nat :=
  s.getF (Reg.MON_PG_MAP_map j 0) + 65536 * s.getF (Reg.MON_PG_MAP_map j 1) + 65536 ^ 2 * s.getF (Reg.MON_PG_MAP_map j 2)

/-- Whether pin PGj is released (R266); every pin is released in reset (R56). -/
def State.pgPin (s : State) (j : Nat) : Bool :=
  if !s.live then true
  else match s.getF (Reg.MON_PG_CFG_mode j) with
    | 0 => true
    | 1 => s.st != stFAWN && s.pgMap j != 0 && (List.range 40).all fun i => !bitOf (s.pgMap j) i || s.pgOf i
    | 2 => s.st != stFAWN && s.st != stBOOT && s.bit (Reg.MON_PG_CFG_pin j)
    | _ => s.st != stFAWN && s.bit (Reg.MON_PG_CFG_level j)

/-- The front end is held (R170). -/
def State.feHeld (s : State) : Bool :=
  !s.bit Reg.FE_CTRL_graze_en || s.feIn [feFWD_START, feSTOPPING, feCHANGE] || s.fe.revHold || s.fe.inhibit

/-! The collector's derived words. -/

/-- FLT_SRCc_w from the statuses that are set. -/
def State.srcWord (s : State) (c w : Nat) : Nat :=
  s.flt.stats.foldl (fun a x => if x.cls = c && x.src / 16 = w then a + 2 ^ (x.src % 16) else a) 0

/-- FLT_ACTIVE. -/
def State.active (s : State) : Nat :=
  (List.range 16).foldl (fun a c => if s.flt.stats.any fun x => x.cls == c then a + 2 ^ c else a) 0

/-- The highest level among the statuses of a class, 0xF where none is set (FLT_LVLm). -/
def State.classLvl (s : State) (c : Nat) : Nat :=
  let m := s.flt.stats.foldl (fun a x => if x.cls = c then max a x.lvl else a) 0
  if m = 0 then 0xF else m

/-- The highest level among all statuses, 0 where none is set (R323). -/
def State.topLvl (s : State) : Nat := s.flt.stats.foldl (fun a x => max a x.lvl) 0

/-! Leases, interrupts and side-band request lines. -/

/-- HOST_LEASE: every resource while the host is lost, else the fused and the granted leases (R337, R339). -/
def State.leases (s : State) : Nat :=
  if s.bit Reg.SYS_STATE_host_lost then 0x7FFF else s.leaseFuse ||| s.granted

/-- INT_N is asserted (HOST_INT_STAT); released in FAWN, BOOT, reset and the fuse hold (R56). -/
def State.intN (s : State) : Bool :=
  s.live && s.st != stFAWN && s.st != stBOOT &&
  (s.wordOf [Reg.HOST_INT_STAT_lease, Reg.HOST_INT_STAT_state, Reg.HOST_INT_STAT_herd, Reg.HOST_INT_STAT_upd,
    Reg.HOST_INT_STAT_age, Reg.HOST_INT_STAT_tel, Reg.HOST_INT_STAT_seq, Reg.HOST_INT_STAT_gauge, Reg.HOST_INT_STAT_chg,
    Reg.HOST_INT_STAT_flt, Reg.HOST_INT_STAT_mbx] &&& s.getF Reg.HOST_INT_EN_en) != 0

/-- An enabled side-band reason is pending. -/
def State.requesting (s : State) : Bool := (s.getF Reg.SB_REQ_req &&& s.getF Reg.SB_REQ_EN_en) != 0

/-- SBALERT_N is asserted (R391, R392). -/
def State.sbAlert (s : State) : Bool :=
  s.live && !s.stIn [stFAWN, stBOOT, stRECOVERY] && !s.bit Reg.SB_CFG_bleat_en && s.bit Reg.SB_CFG_alert_en && s.requesting && !s.sb.win

/-! OTP and MRAM views. -/

/-- The number of logical words of an OTP region (R404). -/
def otpWords (r : Nat) : Nat :=
  match r with
  | 0 => 128 | 1 => 32 | 2 => 64 | 3 => 64 | 4 => 64 | 5 => 256 | 6 => 256 | _ => 32

/-- The region and logical word of a window address (R419). -/
def otpAt (a : Nat) : Option (Nat × Nat) :=
  let w (r b : Nat) : Option (Nat × Nat) := if b ≤ a && a < b + 4 * otpWords r then some (r, (a - b) / 4) else none
  (w 0 0x8100).orElse fun _ => (w 1 0x8300).orElse fun _ => (w 2 0x8380).orElse fun _ => (w 3 0x8480).orElse fun _ =>
    (w 4 0x8580).orElse fun _ => (w 5 0x8680).orElse fun _ => (w 6 0x8A80).orElse fun _ => w 7 0x8E80

/-- What the factory programs into IDENT beside the unique ID (R404). -/
def otpFactory (key : Nat) : Nat := if key = 0x104 then 0x4880 else if key = 0x105 then 0x01B0 else 0

/-- The programmed value of a logical word. -/
def State.fuse (s : State) (r i : Nat) : Nat := cellGet (256 * r + i) (otpFactory (256 * r + i)) s.otp.words

/-- A logical word as its hardware users see it: critical words from the latch, invalid words as unprogrammed (R408, R410). -/
def State.otpUse (s : State) (r i : Nat) : Nat :=
  if r = 2 || r = 3 then cellGet (256 * r + i) 0 s.otp.latch
  else if s.otp.invalid.contains (256 * r + i) then 0 else s.fuse r i

/-- A window word (R406, R408, R416). -/
def State.otpWindow (s : State) (r i : Nat) : Nat := if bitOf s.otp.rlock r then 0 else s.otpUse r i

/-- The slot seq of snapshot slot i, none where its commit word is not NOT seq (R313), or an uncorrectable word lies in it (R34). -/
def State.slotSeq (s : State) (i : Nat) : Option Nat :=
  let b := mSNAP + 0x1000 * i
  let q := s.mramNat (b + 0xFE0) 4
  if s.mramNat (b + 0xFFC) 4 = 0xFFFFFFFF - q && q != 0 && !s.mramBad b 0x1000 then some q else none

/-- Snapshot slots that are valid, and the one with the highest seq (TEL_SLOT_STAT). -/
def State.slotValid (s : State) : Nat := (List.range 8).foldl (fun a i => if (s.slotSeq i).isSome then a + 2 ^ i else a) 0
def State.slotNewest (s : State) : Nat :=
  ((List.range 8).foldl (fun (p : Nat × Nat) i =>
    match s.slotSeq i with
    | some q => if p.2 < q then (i, q) else p
    | none => p) (0, 0)).1

/-- The channels selected for streaming (R314). -/
def State.strChans (s : State) : List Nat :=
  (List.range 128).filter fun c => bitOf (s.getF (Reg.TEL_STR_SEL_sel (c / 16))) (c % 16)

/-- The length of a stream record (R314, TEL_STR_STAT.rec_len). -/
def State.recLen (s : State) : Nat := (8 + 2 * s.strChans.length + 3) / 4 * 4

/-! Fields that are computed when they are read. -/

/-- The valid snapshots in the volatile ring: at most 16, the newest of them (R310, R311, TEL_SNAP_STAT). -/
def State.snapEntry (s : State) (j : Nat) : Bool :=
  let b := 0x70000 + 0x200 * j
  leNat (memRead (b + 0xFC) 4 s.win) == not32 (leNat (memRead b 4 s.win))
def State.snapCount (s : State) : Nat := ((List.range 16).filter s.snapEntry).length

/-- Commands taken and not yet consumed (MBX_STAT.in_flight): entries passed by MBX_CMD_CONS whose responses the host has not
consumed. -/
def State.inFlight (s : State) : Nat := (s.getF Reg.MBX_CMD_CONS_cons + 128 - s.getF Reg.MBX_RESP_CONS_cons) % 128

/-- The tags of the side-band that are in flight or unconsumed (SB_MBX.busy). -/
def State.sideTags (s : State) : List Nat :=
  s.mbx.sidePosts.map (·.tag) ++ (s.mbx.taken.filter fun c => c.port == .side).map (·.tag) ++ s.mbx.sideResps.map (·.tag)
def State.sideBusy (s : State) : Nat := (List.range 4).foldl (fun a t => if s.sideTags.contains t then a + 2 ^ t else a) 0

/-- ms to the heartbeat deadline, saturating (HOST_HB_DUE). -/
def State.hbLeft (s : State) : Nat := match s.sys.hbDue with | some d => min 2047 ((d - s.time) / 1000) | none => 0

/-- The heartbeat deadline has passed (R336): a heartbeat at the deadline itself still counts (R343). -/
def State.hbPassed (s : State) : Bool := match s.sys.hbDue with | some d => decide (d < s.time) | none => false

/-- Direct mode is in force for a write (R342); a host loss of the same cycle comes first (R470). -/
def State.directMode (s : State) : Bool := s.bit Reg.HOST_STAT_direct && !s.hbPassed

/-- The bridge role (R396, R465): a herd port has been found present and the role is enabled; in FAWN the herd ports are released. -/
def State.bridge (s : State) : Bool :=
  s.st != stFAWN && s.bit Reg.SB_HERD_CFG_bridge_en && (s.bit Reg.SB_HERD_STAT_pres_a || s.bit Reg.SB_HERD_STAT_pres_b)

/-- Whether a clock domain runs, in the order of CLK_MEAS_SEL (R38): PWM0 and PWM1 while one of their phases switches, FE while the front
end or an ISO channel runs, the others in every state but OFF and FAWN. -/
def State.clockRuns (s : State) (i : Nat) : Bool :=
  let on (ps : List Nat) : Bool := ps.any fun n => s.bit (Reg.POL_PH_STAT_switching n)
  s.sys.vkeep && s.st != stFAWN &&
    match i with
    | 2 => on (List.range' 0 8)
    | 3 => on (List.range' 8 8)
    | 4 => !s.feStopped || (List.range 12).any fun n => s.isoState n == iSS || s.isoState n == iON
    | _ => true

/-- The present value of a field of the SYS, CLK, MBX and FLT blocks. -/
def State.nowLow (s : State) (f : Fld) : Nat :=
  let a := f.addr
  if 0x8 ≤ a && a < 0x18 then s.fuse 1 ((a - 0x8) / 4)
  else if 0x20 ≤ a && a < 0x30 then s.time / 65536 ^ ((a - 0x20) / 4) % 65536
  else if a = 0x100C then (match s.clk.dev.getD (s.getF Reg.CLK_MEAS_SEL_domain) none with
    | some d => if s.clockRuns (s.getF Reg.CLK_MEAS_SEL_domain) then unsigned 16 d else 0x8000
    | none => 0x8000)
  else if f = Reg.MBX_STAT_in_flight then s.inFlight
  else if a = 0x3010 then s.active
  else if 0x3014 ≤ a && a < 0x3024 then s.classLvl ((a - 0x3014) / 4 * 4 + f.lo / 4)
  else if 0x3100 ≤ a && a < 0x3200 then s.srcWord ((a - 0x3100) / 16) ((a - 0x3100) / 4 % 4)
  else s.getF f

/-- An item still waits: pending, or for its rail to stop (R458, R460). -/
def PlanItem.waits (x : PlanItem) : Bool := x.state = 0 || x.state = 2

/-- Seconds to the next application of a plan: 0 none, 0xFFFF approval only (R460). -/
def State.planDue (s : State) (p : Plan) : Nat :=
  let w := p.items.filter fun x => x.state == 0
  match (w.filterMap (·.due)).foldl (fun (a : Option Nat) d => match a with | some b => some (min b d) | none => some d) none with
  | some d => min 0xFFFE ((d - s.time) / 1000000)
  | none => if w.isEmpty then 0 else 0xFFFF

/-- Some item of the PROPOSED plan satisfies a test. -/
def State.anyItem (s : State) (g : PlanItem → Bool) : Bool :=
  match s.age.prop with | some p => p.items.any g | none => false

/-- The present value of a field of the TEL, LOG, OTP, AGE and UPD blocks. -/
def State.nowStore (s : State) (f : Fld) : Nat :=
  let a := f.addr
  let sel := s.selector
  if f = Reg.TEL_SNAP_STAT_busy then (s.tel.copies.any fun c => c.slot.isSome).toNat
  else if f = Reg.TEL_SNAP_STAT_queued then min 16 (s.tel.copies.filter fun c => c.slot.isNone).length
  else if f = Reg.TEL_SNAP_STAT_count then s.snapCount
  else if f = Reg.TEL_SNAP_STAT_newest then (s.tel.snapSeq - 1) % 16
  else if f = Reg.TEL_SLOT_STAT_valid then s.slotValid
  else if f = Reg.TEL_SLOT_STAT_newest then s.slotNewest
  else if f = Reg.TEL_STR_STAT_rec_len then s.recLen
  else if 0x6000 ≤ a && a < 0x6008 then s.logNext / 65536 ^ ((a - 0x6000) / 4) % 65536
  else if 0x6008 ≤ a && a < 0x6010 then (s.logNext - 2048) / 65536 ^ ((a - 0x6008) / 4) % 65536
  else if a = 0x6014 then (decide (2048 < s.logNext)).toNat
  else if f = Reg.OTP_LOCK_rlock then s.otp.rlock
  else if f = Reg.OTP_LOCK_wlock then s.otp.wlock
  else if 0x8100 ≤ a && a < 0x8F00 then (match otpAt a with | some (r, i) => s.otpWindow r i | none => 0)
  else if 0x9800 ≤ a && a < 0xA000 then
    s.mramNat (mHIST + 2048 * s.getF Reg.AGE_HIST_page + (a - 0x9800)) 2
  else if f = Reg.AGE_STAT_waiting_stop then (s.anyItem fun x => x.state == 2).toNat
  else if f = Reg.AGE_STAT_awaits then (s.anyItem fun x => x.state == 0 && x.due.isNone).toNat
  else if f = Reg.AGE_STAT_proposed then s.age.prop.isSome.toNat
  else if f = Reg.AGE_PLAN_ID_live then (match s.nv.live with | some p => p.id | none => 0)
  else if f = Reg.AGE_PROP_id then (match s.age.prop with | some p => p.id | none => 0)
  else if f = Reg.AGE_DUE_s then (match s.age.prop with | some p => s.planDue p | none => 0)
  else if f = Reg.UPD_SEL_b_valid then (s.slotOk true).toNat
  else if f = Reg.UPD_SEL_a_valid then (s.slotOk false).toNat
  else if f = Reg.UPD_SEL_count then sel.count.toNat
  else if f = Reg.UPD_SEL_trial then sel.trial.toNat
  else if f = Reg.UPD_SEL_active then sel.active.toNat
  else if f = Reg.UPD_SEL_herd_lvl then 
    (if s.st = stRECOVERY then 1 else match s.upd.running with | some b => hdrHerd (s.header b false) | none => 0)
  else if 0xA020 ≤ a && a < 0xA040 then
    let i := (a - 0xA020) / 4
    let slot := decide (4 ≤ i)
    let gauge := decide (2 ≤ i % 4)
    let h := s.header slot gauge
    if !s.areaOk slot gauge then 0
    else if i % 2 = 0 then (if f.lo = 8 then hdrMajor h else hdrMinor h)
    else if f.lo = 8 then hdrPatch h else hdrIf h
  else s.getF f

/-- The present value of a field of the rails, the front end, the charger, the monitors, the SB and the HOST block. -/
def State.nowHigh (s : State) (f : Fld) : Nat :=
  let a := f.addr
  if 0x11000 ≤ a && a < 0x11800 then
    let k := (a - 0x11000) / 0x100
    if f = Reg.RAIL_STAT_ceiling k then (decide (s.nMax k < (s.servicePhases k).length)).toNat
    else if f = Reg.RAIL_DYN_held k then (s.railHeld k).toNat
    else s.getF f
  else if f = Reg.FE_STAT_held then s.feHeld.toNat
  else if f = Reg.CHG_STAT_susp_source then s.suspSource.toNat
  else if f = Reg.CHG_STAT_susp_ibex then s.suspIbex.toNat
  else if f = Reg.CHG_STAT_susp_safe then s.suspSafe.toNat
  else if 0x1A000 ≤ a && a < 0x1A380 then
    let c := (a - 0x1A000) / 0x20
    if f = Reg.MON_CH_STAT_armed_ov c then (s.armedHi c).toNat
    else if f = Reg.MON_CH_STAT_armed_uv c then (s.armedLo c).toNat
    else if f = Reg.MON_CH_STAT_warn_hi c then (s.windowCause c false true).toNat
    else if f = Reg.MON_CH_STAT_warn_lo c then (s.windowCause c false false).toNat
    else s.getF f
  else if 0x1A400 ≤ a && a < 0x1A480 && a % 0x10 = 0 && f.lo = 3 then (s.pgPin ((a - 0x1A400) / 0x10)).toNat
  else if f = Reg.SB_STAT_alert then s.sbAlert.toNat
  else if f = Reg.SB_STAT_bridge then s.bridge.toNat
  else if f = Reg.SB_MBX_ready then s.getF Reg.MBX_STAT_ready
  else if f = Reg.SB_MBX_resp then s.mbx.sideResps.length
  else if f = Reg.SB_MBX_busy then s.sideBusy
  else if f = Reg.SB_DS0_route then (match s.sb.ds with | (r, _) :: _ => r % 65536 | [] => 0)
  else if f = Reg.SB_DS1_route then (match s.sb.ds with | (r, _) :: _ => r / 65536 | [] => 0)
  else if f = Reg.SB_DS1_reason then (match s.sb.ds with | (_, x) :: _ => x | [] => 0)
  else if f = Reg.SB_DS_STAT_entries then s.sb.ds.length
  else if f = Reg.HOST_STAT_vio_ok then s.sys.vio.toNat
  else if f = Reg.HOST_STAT_sb_authority then s.getF Reg.SYS_STATE_host_lost
  else if f = Reg.HOST_STAT_host_lost then s.getF Reg.SYS_STATE_host_lost
  else if f = Reg.HOST_LEASE_lease then s.leases
  else if f = Reg.HOST_LEASE_FUSE_fused then s.leaseFuse
  else if f = Reg.HOST_HB_DUE_armed then s.sys.hbDue.isSome.toNat
  else if f = Reg.HOST_HB_DUE_left then s.hbLeft
  else s.getF f

/-- The present value of a field, stored or computed. -/
def State.now (s : State) (f : Fld) : Nat :=
  if f.addr < 0x5000 then s.nowLow f else if f.addr < 0xB000 then s.nowStore f else s.nowHigh f

end Sys2Proof.Machine
end

