-- ==== Sys2Proof/Machine/Early.lean ====
section
/-!
DEFINITION. The early outputs that EARLY fuses define (R410, R411) and the tine map of a phase (R104, R440, R445), as
operations the boot rows and the supervision rows share.
-/

namespace Sys2Proof.Machine

/-! Early outputs (R410). -/

/-- Further header fields of definition d: PG pin, pg_en. -/
def State.earlyPin (s : State) (d : Nat) : Nat := bitsOf (s.earlyWord d 0) 4 3
def State.earlyPgEn (s : State) (d : Nat) : Bool := bitOf (s.earlyWord d 0) 3

/-- The valid definitions, ascending. -/
def State.earlyDefs (s : State) : List Nat := (List.range 4).filter s.earlyValid

/-- The output of definition d. -/
def State.earlyOut (s : State) (d : Nat) : Option OutRef :=
  match s.earlyKind d with
  | 0 => some (.rail (s.earlyIdx d % 8))
  | 1 => some (.ldo (s.earlyIdx d % 6))
  | 2 => some (.iso (s.earlyIdx d % 12))
  | _ => none

/-- The power-good source of R266 that stands for definition d. -/
def State.earlySource (s : State) (d : Nat) : Nat :=
  match s.earlyKind d with
  | 0 => s.earlyIdx d % 8
  | 1 => 8 + s.earlyIdx d % 6
  | _ => 28 + s.earlyIdx d % 12

/-- Started early outputs that are power-good count; once all are, SYS_BOOT_STAT.early_up is set (R411). -/
def State.earlyPg (s : State) : State :=
  if s.sys.earlyStopped then s
  else
    let new := s.sys.earlyUp.filter fun d => !s.sys.earlyGood.contains d && s.pgOf (s.earlySource d)
    if new.isEmpty then s
    else
      let t := s.updSys fun y => { y with earlyGood := y.earlyGood ++ new }
      if t.earlyDefs.all fun d => t.sys.earlyGood.contains d then t.setB Reg.SYS_BOOT_STAT_early_up true else t

/-- What starts definition d: its registers, its PG pin, its enable (R411). -/
def State.earlyStart (s : State) (d : Nat) : State :=
  let w := s.earlyWord d
  let k := s.earlyIdx d
  let t :=
    match s.earlyKind d with
    | 0 =>
      let k := k % 8
      ((s.setMany [(Reg.RAIL_GROUP_first k, bitsOf (w 1) 0 4), (Reg.RAIL_GROUP_last k, bitsOf (w 1) 4 4), (Reg.RAIL_GROUP_valid k, 1),
        (Reg.RAIL_RAMP_t_ss k, bitsOf (w 1) 8 8), (Reg.RAIL_VSET_vset k, w 2), (Reg.RAIL_FSW_fsw k, bitsOf (w 3) 0 9),
        (Reg.RAIL_ILIM_ilim k, bitsOf (w 4) 0 8), (Reg.RAIL_KP_kp k, w 5), (Reg.RAIL_FI_fi k, w 6), (Reg.RAIL_FZ_fz k, w 7),
        (Reg.RAIL_FP_fp k, w 8), (Reg.RAIL_CTRL_direct_loop k, 0)]).regroup)
    | 1 =>
      let k := k % 6
      s.setMany [(Reg.LDO_CTRL_ss k, bitsOf (w 1) 8 8), (Reg.LDO_VSET_vset k, w 2)]
    | 2 =>
      let k := k % 12
      s.setMany [(Reg.ISO_TIME_t_ss k, bitsOf (w 1) 8 4), (Reg.ISO_FREQ_fsw k, w 2), (Reg.ISO_FREQ_spread k, 1),
        (Reg.ISO_TIME_dt k, bitsOf (w 3) 0 7), (Reg.ISO_SUP_ipk k, bitsOf (w 4) 0 8)]
    | _ => s
  let t :=
    if s.earlyPgEn d then
      let j := s.earlyPin d
      let src := s.earlySource d
      ((t.setF (Reg.MON_PG_CFG_mode j) 1).each [0, 1, 2] fun m u =>
        u.setF (Reg.MON_PG_MAP_map j m) (2 ^ src / 65536 ^ m))
    else t
  let t := t.updSys fun y => { y with earlyUp := y.earlyUp ++ [d] }
  match s.earlyOut d with
  | some o => t.enOn o
  | none => t

/-! Tines (R102-R104, R440, R445, R446). -/

/-- A 36-bit map of three registers. -/
def State.map36 (s : State) (f : Nat → Fld) : Nat := s.getF (f 0) + 65536 * s.getF (f 1) + 65536 ^ 2 * s.getF (f 2)
def State.setMap36 (s : State) (f : Nat → Fld) (v : Nat) : State :=
  s.setMany [(f 0, v), (f 1, v / 65536), (f 2, v / 65536 ^ 2 % 16)]

/-- The active tines and the retired tines of phase n. -/
def State.tinesOn (s : State) (n : Nat) : List Nat := (List.range 36).filter (bitOf (s.map36 (Reg.POL_PH_TMAP_map n)) ·)
def State.tinesOut (s : State) (n : Nat) : List Nat := (List.range 36).filter (bitOf (s.map36 (Reg.POL_PH_TRET_retired n)) ·)

/-- Spares left: tines neither active nor retired. -/
def State.spares (s : State) (n : Nat) : List Nat :=
  (List.range 36).filter fun i => !(s.tinesOn n).contains i && !(s.tinesOut n).contains i

/-- The counts that show a phase's map (R104, R446, AGE_PHn). -/
def State.countTines (s : State) (n : Nat) : State :=
  s.setMany [(Reg.POL_PH_STAT_n_active n, (s.tinesOn n).length), (Reg.AGE_PH_spares n, min 4 (s.spares n).length),
    (Reg.AGE_PH_retired n, (s.tinesOut n).length),
    (Reg.POL_PH_STAT_in_service n, (decide (24 ≤ (s.tinesOn n).length + (s.spares n).length)).toNat)]

/-- Tine i of phase n retires; the lowest-numbered spare takes the place of an active one (R445). -/
def State.retire (s : State) (n i : Nat) : State :=
  if (s.tinesOut n).contains i || 36 ≤ i then s
  else
    let act := (s.tinesOn n).contains i
    let s := s.setMap36 (Reg.POL_PH_TRET_retired n) (s.map36 (Reg.POL_PH_TRET_retired n) + 2 ^ i)
    let s := if act then s.setMap36 (Reg.POL_PH_TMAP_map n) (s.map36 (Reg.POL_PH_TMAP_map n) - 2 ^ i) else s
    let s :=
      match (if act then (s.spares n).head? else none) with
      | some j => s.setMap36 (Reg.POL_PH_TMAP_map n) (s.map36 (Reg.POL_PH_TMAP_map n) + 2 ^ j)
      | none => s
    s.countTines n

/-- A repair record takes its effect on the map (R447): kind 1 a tine, kind 2 a comparator copy. -/
def State.applyRepair (s : State) (r : Nat) : State :=
  match bitsOf r 13 3 with
  | 1 => s.retire (bitsOf r 9 4) (bitsOf r 3 6)
  | 2 =>
    let f := if bitOf r 7 then Reg.AGE_CMP_ret_ov (bitsOf r 8 5) else Reg.AGE_CMP_ret_uv (bitsOf r 8 5)
    s.setBitOf f (bitsOf r 5 2) true
  | _ => s

/-- The repair map at BOOT: the union of the valid REPAIR words and the mirror's records (R440). -/
def State.loadRepair (s : State) : State :=
  ((List.range 32).map (s.otpUse 7) ++ s.nv.repair).foldl State.applyRepair s

end Sys2Proof.Machine
end

