-- ==== Sys2Proof/Machine/Flags.lean ====
section
/-!
DEFINITION. The two ambient status words (R323, R380) and writes to MRAM (R34).
-/

namespace Sys2Proof.Machine

/-- Host responses posted and not consumed (R323). -/
def State.hostResps (s : State) : Nat := (s.getF Reg.MBX_RESP_PROD_prod + 128 - s.getF Reg.MBX_RESP_CONS_cons) % 128

/-- The ambient status word (R323). -/
def State.ambient (s : State) : Nat :=
  s.st * 2 ^ 28 + s.topLvl * 2 ^ 25 + (s.bit Reg.FLT_PIN_pin).toNat * 2 ^ 24 + s.intN.toNat * 2 ^ 23
  + (s.bit Reg.SYS_STATE_host_lost).toNat * 2 ^ 22 + (s.bit Reg.MBX_STAT_ready).toNat * 2 ^ 21
  + (s.bit Reg.MBX_STAT_paused).toNat * 2 ^ 20 + (s.bit Reg.HOST_STAT_direct).toNat * 2 ^ 19 + s.mbx.prev * 2 ^ 17
  + min 64 s.hostResps * 2 ^ 10 + s.mbx.fcnt % 256

/-- The side-band port has full authority (R337). -/
def State.sbAuthority (s : State) : Bool := s.bit Reg.SYS_STATE_host_lost

/-- The side-band status word (R380). -/
def State.sbStatus (s : State) : Nat :=
  s.st * 2 ^ 28 + s.topLvl * 2 ^ 25 + (s.bit Reg.FLT_PIN_pin).toNat * 2 ^ 24 + s.sbAlert.toNat * 2 ^ 23
  + (s.bit Reg.SYS_STATE_host_lost).toNat * 2 ^ 22 + (s.bit Reg.MBX_STAT_ready).toNat * 2 ^ 21
  + (s.bit Reg.MBX_STAT_paused).toNat * 2 ^ 20 + s.sbAuthority.toNat * 2 ^ 19 + s.sb.prev * 2 ^ 17
  + s.mbx.sideResps.length * 2 ^ 14 + s.getF Reg.SB_REQ_req * 2 ^ 6 + s.getF Reg.SB_ADDR_index

/-- Writes MRAM bytes; new content is free of an old error. -/
def State.mramWrite (s : State) (a : Nat) (bs : List Byte) : State :=
  { s with mram := memWrite a bs s.mram
           nv := { s.nv with bad := s.nv.bad.filter fun x => !(decide (a ≤ x) && decide (x < a + bs.length)) } }

end Sys2Proof.Machine
end

