-- ==== Sys2Proof/Machine/Gauge.lean ====
section
/-!
DEFINITION. The battery gauge (chapter 9): profiles and the cell model (R216, R217), the learned record (R231-R233), the
outputs (R234, R235), insertion and start (R226, R227, R229), and the filter of R218 with anchors and learning.
-/

namespace Sys2Proof.Machine

/-! Profiles (R217, R361). -/

/-- A cell profile: R_ser and R_pol in uOhm at 25 C, tau in s, f_R by column, M_h in mV, k_h, eta on charge, sigma_ocv in mV,
and the open-circuit voltages in mV, five columns of 33 points. -/
structure Prof where
  rser : Rat
  rpol : Rat
  tau : Rat
  fr : List Rat
  mh : Rat
  kh : Rat
  eta : Rat
  sigma : Rat
  ocv : List (List Rat)

/-- The LFP table at 25 C in mV (R217). -/
def lfpOcv25 : List Rat :=
  [2800, 3050, 3150, 3195, 3215, 3230, 3240, 3248, 3255, 3261, 3266, 3270, 3274, 3278, 3281, 3284, 3287, 3290, 3293, 3297,
   3302, 3310, 3320, 3325, 3328, 3330, 3332, 3334, 3336, 3339, 3343, 3355, 3400]

/-- The five columns of R216 in degrees C. -/
def columns : List Rat := [-20, 0, 10, 25, 45]

/-- The built-in profile of a chemistry, with resistances scaled by the capacity in Ah. -/
def builtin (chem cap : Nat) : Prof :=
  let col (c : Nat) : List Rat := (List.range 33).map fun i => Config.ocv chem c i
  if chem = 0 then
    ⟨40000 / cap, 32000 / cap, 60, [4, 2, 14 / 10, 1, 8 / 10], 12, 5 / 100, 999 / 1000, 3 / 2,
      [col 0, col 1, col 2, lfpOcv25, col 4]⟩
  else ⟨48000 / cap, 24000 / cap, 30, [5, 22 / 10, 14 / 10, 1, 8 / 10], 0, 1, 998 / 1000, 3 / 2, (List.range 5).map col⟩

/-- The custom profile's fields (R361). -/
def custom (b : List Byte) (cap : Nat) : Prof :=
  let u16 (o : Nat) : Rat := leNat ((b.drop o).take 2)
  ⟨u16 0x04 * 10 / cap, u16 0x06 * 10 / cap, u16 0x08 / 10, (List.range 5).map fun i => u16 (0x14 + 2 * i) / 100, u16 0x0A / 10,
    u16 0x0C / 1000, u16 0x0E / 10000, u16 0x10 / 10, (List.range 5).map fun c => (List.range 33).map fun i => u16 (0x20 + 66 * c + 2 * i) / 10⟩

/-- What the registers and the store select now. -/
def State.profSel (s : State) : ProfSel := ⟨s.nv.profile, s.getF Reg.CHG_CFG_chem, s.getF Reg.CHG_CFG_cap⟩

/-- The profile in force. -/
def State.prof (s : State) : Prof :=
  match s.gauge.inForce.custom with
  | some b => custom b s.gauge.inForce.cap
  | none => builtin s.gauge.inForce.chem s.gauge.inForce.cap

/-- The learned values a profile starts from (R227): Q_full is the nominal capacity. -/
def State.fromProfile (s : State) : Learned :=
  let p := s.prof
  { qFull := 1000 * s.gauge.inForce.cap, rser := p.rser, rpol := p.rpol, cpol := p.tau * 1000000 / p.rpol, dOcv := [0, 0, 0, 0, 0] }

/-! Interpolation (R216). -/

/-- Linear interpolation over rising points, clamped outside them. -/
def interp : List (Rat × Rat) → Rat → Rat
  | [], _ => 0
  | [(_, y)], _ => y
  | (x0, y0) :: (x1, y1) :: r, x =>
    if x ≤ x0 then y0 else if x ≤ x1 then y0 + (y1 - y0) * (x - x0) / (x1 - x0) else interp ((x1, y1) :: r) x

/-- A value by column, at temperature t. -/
def atTemp (ys : List Rat) (t : Rat) : Rat := interp (columns.zip ys) t

/-- The points of the open-circuit curve at temperature t: (s in %, mV). -/
def Prof.curve (p : Prof) (t : Rat) : List (Rat × Rat) :=
  (List.range 33).map fun (i : Nat) => ((i : Rat) * 25 / 8, atTemp (p.ocv.map fun c => c.getD i 0) t)

def Prof.ocvAt (p : Prof) (s t : Rat) : Rat := interp (p.curve t) s

/-- The slope dOCV/ds at s in mV per %: that of the segment that holds s, the upper one at a point (log entry 11). -/
def Prof.slope (p : Prof) (s t : Rat) : Rat :=
  let i := min 31 (max 0 (s * 8 / 25).floor).toNat
  let y (j : Nat) : Rat := ((p.curve t).getD j (0, 0)).2
  (y (i + 1) - y i) * 8 / 25

/-- The state of charge at an open-circuit voltage, between 0% and 100%. -/
def Prof.ocvInv (p : Prof) (v t : Rat) : Rat := interp ((p.curve t).map fun q => (q.2, q.1)) v

/-! Parts of the state. -/

def State.updGauge (s : State) (g : Gauge → Gauge) : State := { s with gauge := g s.gauge }
def State.updNv (s : State) (g : Nv → Nv) : State := { s with nv := g s.nv }

/-- The accumulator GAUGE_Q in uAs (R212). -/
def State.chargeQ (s : State) : Int :=
  signed 64 (s.getF (Reg.GAUGE_Q_q 0) + 2 ^ 16 * s.getF (Reg.GAUGE_Q_q 1) + 2 ^ 32 * s.getF (Reg.GAUGE_Q_q 2) + 2 ^ 48 * s.getF (Reg.GAUGE_Q_q 3))

/-- Adds a sample's charge to the accumulator. -/
def State.addCharge (s : State) (q : Int) : State :=
  let v := unsigned 64 (s.chargeQ + q)
  s.each [0, 1, 2, 3] fun m t => t.setF (Reg.GAUGE_Q_q m) (v / 65536 ^ m)

/-- GAUGE_FLAGS as a word. -/
def State.gaugeFlags (s : State) : Nat :=
  s.wordOf [Reg.GAUGE_FLAGS_over_range, Reg.GAUGE_FLAGS_t_sub, Reg.GAUGE_FLAGS_settling, Reg.GAUGE_FLAGS_stale,
    Reg.GAUGE_FLAGS_absent, Reg.GAUGE_FLAGS_disputed, Reg.GAUGE_FLAGS_anchored, Reg.GAUGE_FLAGS_rest]

/-- Any change of a flag sets HOST_INT_STAT.gauge and the side-band reason (R234, R390); `b` is the state before. -/
def State.flagged (s b : State) : State :=
  if s.gaugeFlags = b.gaugeFlags then s else (s.setB Reg.HOST_INT_STAT_gauge true).request rqGAUGE

/-- The pack identity word (R225). -/
def State.packId (s : State) : Nat := 32 * s.gauge.idTag + s.wordOf [Reg.GAUGE_PACK_id_valid, Reg.GAUGE_PACK_code]

/-- Battery current in A from a value in 0.1 mA. -/
def amps (i : Rat) : Rat := i / 10000

/-- Charge in mAh from uAs. -/
def mAh (q : Rat) : Rat := q / 3600000

/-! The learned record (R231-R233). -/

/-- The byte address of a bank (log entry 7). -/
def bankAddr (b : Bool) : Nat := if b then mGAUGE + 0x800 else mGAUGE

/-- The sequence number of a valid bank. -/
def State.bankSeq (s : State) (b : Bool) : Option Nat :=
  let a := bankAddr b
  let r := memRead a 128 s.mram
  let q := leNat (r.take 4)
  if leNat ((r.drop 0x7C).take 4) = not32 q && leNat ((r.drop 0x78).take 4) = crc32 (r.take 0x78) && leNat ((r.drop 4).take 2) = 1
      && !s.mramBad a 128 then some q else none

/-- The bank of the newest valid record. -/
def State.newestBank (s : State) : Option Bool :=
  match s.bankSeq false, s.bankSeq true with
  | none, none => none
  | some _, none => some false
  | none, some _ => some true
  | some a, some b => some (decide (a < b))

/-- The limiting cell: the index of the lowest reported state of charge (R234). -/
def CellSt.reported (c : CellSt) (disputed : Bool) : Rat := if disputed then min c.s c.sc else c.s
def State.limiting (s : State) : Nat :=
  let d := s.bit Reg.GAUGE_FLAGS_disputed
  ((s.gauge.cells.zipIdx).foldl (fun (p : Nat × Rat) c => let r := c.1.reported d; if r < p.2 then (c.2, r) else p) (0, 1000)).1
def State.limitCell (s : State) : CellSt := s.gauge.cells.getD s.limiting ⟨0, 0, 0, 0, 0, 0⟩

/-- State of health in 0.01% (R224). -/
def State.soh (s : State) : Nat :=
  min 12000 (roundQ (s.gauge.learned.qFull * 10 / max 1 (s.getF Reg.CHG_CFG_cap))).toNat

/-- The record's bytes 0x04 to 0x3F (R233). -/
def State.recordBody (s : State) (cause : Nat) : List Byte :=
  let g := s.gauge
  let l := g.learned
  let u (n : Nat) (q : Rat) : List Byte := leBytes n (roundQ q).toNat
  let i (n : Nat) (q : Rat) : List Byte := leBytes n (unsigned (8 * n) (roundQ q))
  let cell (k : Nat) : Option CellSt := g.cells[k]?
  leBytes 2 1 ++ leBytes 2 s.packId ++ leBytes 1 (s.getF Reg.CHG_CFG_chem) ++ leBytes 1 s.cells
    ++ leBytes 1 (s.getF Reg.CHG_CFG_cap) ++ leBytes 1 cause ++ u 2 l.qFull ++ leBytes 2 s.soh ++ u 2 l.rser ++ u 2 l.rpol
    ++ u 2 (l.cpol / 10) ++ leBytes 2 l.cycles ++ (List.range 5).flatMap (fun c => i 2 (10 * l.dOcv.getD c 0))
    ++ u 2 (100 * s.limitCell.sig)
    ++ (List.range 4).flatMap (fun k => match cell k with
        | some c => u 2 (100 * c.reported (s.bit Reg.GAUGE_FLAGS_disputed)) | none => leBytes 2 0xFFFF)
    ++ (List.range 4).flatMap (fun k => match cell k with | some c => i 1 (127 * c.h) | none => [0])
    ++ u 4 l.thru ++ leBytes 2 (s.getF Reg.GAUGE_TEMP_t)
    ++ (match g.anchor with
        | some a => u 2 (100 * a.soc.getD s.limiting 0) ++ i 4 (mAh (s.chargeQ - a.q) * 10)
        | none => leBytes 2 0xFFFF ++ leBytes 4 0)
    ++ leBytes 1 ((s.bit Reg.GAUGE_FLAGS_anchored).toNat + 2 * (match g.anchor with | some a => a.disputed.toNat | none => 0))
    ++ [0] ++ leBytes 2 l.learnN

/-- The 128 bytes of a record with its sequence number, CRC and commit word (R232, R233). -/
def sealRecord (seq : Nat) (body : List Byte) : List Byte :=
  let b := padTo 0x78 (leBytes 4 seq ++ body)
  b ++ leBytes 4 (crc32 b) ++ leBytes 4 (not32 seq)

/-- GAUGE_STORE's valid and newest bits (R237). -/
def State.storeStat (s : State) : State :=
  s.setMany [(Reg.GAUGE_STORE_a_valid, (s.bankSeq false).isSome.toNat), (Reg.GAUGE_STORE_b_valid, (s.bankSeq true).isSome.toNat),
    (Reg.GAUGE_STORE_newest, (s.newestBank == some true).toNat)]

/-- A write of the record starts (R232): from here on the target bank reads invalid. -/
def State.putSave (s : State) (cause : Nat) (body : List Byte) : State :=
  if s.sys.vkeepLow then s.setB Reg.GAUGE_EVT_save_fail true
  else
    let b := match s.newestBank with | some b => !b | none => false
    let seq := (match s.newestBank with | some n => (s.bankSeq n).getD 0 | none => 0) + 1
    ((s.mramWrite (bankAddr b + 0x7C) (leBytes 4 0)).updGauge fun g => { g with writing := some ⟨b, cause, sealRecord seq body⟩ }).storeStat

/-- Starts a learned-record write, or leaves it to follow the one in progress (R231, R232); a tag written while the pack is present joins
the identity (R225). -/
def State.startSave (s : State) (cause : Nat) : State :=
  let s := s.updGauge fun g => { g with idTag := s.getF Reg.GAUGE_PACK_tag }
  if s.gauge.writing.isSome then
    (s.setB Reg.GAUGE_STORE_pending true).updGauge fun g => { g with waiting := some (cause, s.recordBody cause) }
  else s.putSave cause (s.recordBody cause)

/-- A trigger of R231: it writes only while the gauge core runs its image. -/
def State.requestSave (s : State) (cause : Nat) : State := if s.sys.gaugeAlive then s.startSave cause else s

/-- The write in progress completes (R232); a waiting trigger then starts the next. -/
def State.endSave (s : State) : State :=
  match s.gauge.writing with
  | none => s
  | some w =>
    let s := (s.mramWrite (bankAddr w.bankB) w.bytes).updGauge fun g => { g with writing := none, waiting := none }
    let s := (s.setMany [(Reg.GAUGE_STORE_cause, w.cause), (Reg.GAUGE_STORE_pending, 0)]).storeStat
    s

/-- The whole write at once, for the sequences that wait for it (R95 step 4, R431). -/
def State.saveNow (s : State) (cause : Nat) : State :=
  if s.sys.gaugeAlive then
    let s := s.endSave
    (s.startSave cause).endSave
  else s

/-! Outputs (R234, R235). -/

/-- The output registers, for setting them all invalid. -/
def gaugeOutputs : List Fld :=
  [Reg.GAUGE_SOC_soc, Reg.GAUGE_UNC_unc, Reg.GAUGE_RM_rm, Reg.GAUGE_FCC_fcc, Reg.GAUGE_SOH_soh, Reg.GAUGE_RSER_rser,
   Reg.GAUGE_CYC_cycles, Reg.GAUGE_HOLD_t, Reg.GAUGE_CNT_SOC_soc, Reg.GAUGE_CELLSOC_soc 0, Reg.GAUGE_CELLSOC_soc 1,
   Reg.GAUGE_CELLSOC_soc 2, Reg.GAUGE_CELLSOC_soc 3]

/-- All outputs read 0xFFFF. -/
def State.noOutputs (s : State) : State := (s.setMany (gaugeOutputs.map fun f => (f, 0xFFFF))).updGauge fun g => { g with valid := false }

/-- Model temperature in degrees C (R215). -/
def State.temp (s : State) : Rat := (s.getI Reg.GAUGE_TEMP_t : Rat) / 10

/-- The load current in A that the hold-up will carry (R235), from the battery current in 0.1 mA and P_VHB in W. -/
def State.holdLoad (s : State) (i p : Rat) : Rat :=
  let vb : Rat := (s.mv2 32 : Rat) / 1000
  (95 / 100 * (s.getI (Reg.FE_MEAS_val 5) : Rat) - amps i * vb + p * 100 / s.getF Reg.GAUGE_HOLDP_eta) / vb

/-- The load current of the hold-up in A (R235): measured in IBEX. -/
def State.holdCurrent (s : State) (i : Rat) : Rat :=
  if s.st = stIBEX then -(amps i)
  else s.holdLoad i (if s.getF Reg.GAUGE_HOLDP_p_vhb = 0 then 5 * s.getF Reg.FE_REV_LIM_plim else 5 * s.getF Reg.GAUGE_HOLDP_p_vhb)

/-- The hold-up time in s from a state of charge in % under a load current (R235). -/
def State.holdFor (s : State) (c ih : Rat) : Nat :=
  let p := s.prof
  let l := s.gauge.learned
  let t := s.temp
  let r := (l.rser + l.rpol) * atTemp p.fr t / 1000
  let sf := p.ocvInv (s.getF Reg.FE_REV_UVF_uvf - atTemp l.dOcv t + ih * r) t
  if c ≤ sf then 0
  else if ih ≤ 0 then 65534
  else min 65534 (roundQ ((c - sf) / 100 * l.qFull / 1000 * 3600 / ih)).toNat

/-- The hold-up time in s (R235). -/
def State.holdTime (s : State) (i : Rat) : Nat :=
  s.holdFor (s.limitCell.reported (s.bit Reg.GAUGE_FLAGS_disputed)) (s.holdCurrent i)

/-- Publishes every output (R234). -/
def State.publish (s : State) (i : Rat) : State :=
  if !s.gauge.valid then s
  else
    let d := s.bit Reg.GAUGE_FLAGS_disputed
    let l := s.gauge.learned
    let c := s.limitCell
    let n (q : Rat) : Nat := (roundQ q).toNat
    let s := s.setMany [(Reg.GAUGE_SOC_soc, n (100 * c.reported d)), (Reg.GAUGE_UNC_unc, max 50 (min 5000 (n (100 * c.sig)))),
      (Reg.GAUGE_RM_rm, n (c.reported d * l.qFull / 100)), (Reg.GAUGE_FCC_fcc, n l.qFull), (Reg.GAUGE_SOH_soh, s.soh),
      (Reg.GAUGE_RSER_rser, n l.rser), (Reg.GAUGE_CYC_cycles, l.cycles), (Reg.GAUGE_HOLD_t, s.holdTime i),
      (Reg.GAUGE_CNT_SOC_soc, n (100 * c.sc))]
    s.each [0, 1, 2, 3] fun m t =>
      t.setF (Reg.GAUGE_CELLSOC_soc m) (match t.gauge.cells[m]? with | some c => n (100 * c.s) | none => 0xFFFF)

/-! Insertion and start (R226, R227, R229). -/

/-- The state of an insertion's count: V_p = 0 and H = 0. -/
def State.freshCells (s : State) : List CellSt := List.replicate s.cells ⟨0, 50, 0, 50, 0, 0⟩

/-- An insertion begins counting (R226). -/
def State.beginInsertion (s : State) (cold : Bool) : State :=
  let b := s
  let s := s.setMany [(Reg.GAUGE_FLAGS_absent, 0), (Reg.GAUGE_FLAGS_settling, 1), (Reg.GAUGE_FLAGS_anchored, 0),
    (Reg.GAUGE_FLAGS_disputed, 0), (Reg.GAUGE_FLAGS_rest, 0)]
  let s := (s.endCause cGAUGE 0 2).noOutputs.updGauge fun g =>
    { g with cells := s.freshCells, ins := .counting, cold := cold, anchor := none, anchorDue := false, candTaken := false, restS := 0,
             secSum := 0, secN := 0, reprofiled := false, qLast := s.chargeQ }
  s.flagged b

/-- A record matches the inserted pack (R227). -/
def State.recordMatches (s : State) (r : List Byte) : Bool :=
  leNat ((r.drop 6).take 2) == s.packId && s.bit Reg.GAUGE_PACK_id_valid && leNat ((r.drop 8).take 1) == s.getF Reg.CHG_CFG_chem
    && leNat ((r.drop 9).take 1) == s.cells && leNat ((r.drop 10).take 1) == s.getF Reg.CHG_CFG_cap

/-- The newest valid record's bytes. -/
def State.newestRecord (s : State) : Option (List Byte) := s.newestBank.map fun b => memRead (bankAddr b) 128 s.mram

/-- The learned values a record holds (R233). -/
def learnedOf (r : List Byte) : Learned :=
  let u (o n : Nat) : Nat := leNat ((r.drop o).take n)
  { qFull := u 0x0C 2, rser := u 0x10 2, rpol := u 0x12 2, cpol := 10 * u 0x14 2,
    dOcv := (List.range 5).map fun c => (signed 16 (u (0x18 + 2 * c) 2) : Rat) / 10, cycles := u 0x16 2, thru := u 0x30 4,
    learnN := u 0x3E 2 }

/-- What a changed or absent state of GAUGE_FLAGS.stale says while no gauge image runs (R230). -/
def State.gaugeStops (s : State) : State :=
  ((s.updSys fun y => { y with gaugeAlive := false }).setB Reg.GAUGE_FLAGS_stale true).flagged s

/-- The learned values a core starts with (R227, R232): those of the newest valid record, or the profile's, with GAUGE at L1 where no
bank is valid. -/
def State.loadLearned (s : State) : State :=
  match s.newestRecord with
  | none => (s.updGauge fun g => { g with learned := s.fromProfile }).raise { cls := cGAUGE, src := 0, lvl := 1, cause := 13 }
  | some r => s.updGauge fun g => { g with learned := if s.recordMatches r then learnedOf r else s.fromProfile }

/-- A pack that changed while the core was off (R229): the record of the removed pack under its own code, then an insertion. -/
def State.swapPack (s : State) (m : Mirror) : State :=
  let code := s.getF Reg.GAUGE_PACK_code
  let t := (s.setF Reg.GAUGE_PACK_code m.code).updGauge fun g => { g with cells := m.cells, learned := m.learned, anchor := m.anchor }
  let t := (((t.startSave 5).setF Reg.GAUGE_PACK_code code).setB Reg.GAUGE_EVT_remove true).updGauge fun g => { g with mirror := none }
  t.beginInsertion false

/-! The model's steps (R218). -/

/-- The inputs of one cycle that every cell shares. -/
structure CycleIn where
  p : Prof
  l : Learned
  t : Rat
  i : Rat
  dq : Rat
  dt : Rat
  sub : Bool

def CycleIn.rs (x : CycleIn) : Rat := x.l.rser * atTemp x.p.fr x.t / 1000
def CycleIn.rp (x : CycleIn) : Rat := x.l.rpol * atTemp x.p.fr x.t / 1000
def CycleIn.sigma (x : CycleIn) : Rat := if x.sub then 2 * x.p.sigma else x.p.sigma

/-- The inputs of a step of the model. -/
def State.cycleIn (s : State) (i dq dt : Rat) : CycleIn :=
  { p := s.prof, l := s.gauge.learned, t := s.temp, i := i, dq := dq, dt := dt, sub := s.bit Reg.GAUGE_FLAGS_t_sub }

/-- What is left after a span of an exponential with this span's length over its constant: a constant of 0 leaves nothing. -/
def decay (span const : Rat) : Rat := if const = 0 then 0 else expQ (-(span / const))

/-- Prediction: the count, the growth of its uncertainty, and V_p and H over the time of the step (R216, R218); with `moveH` false the
step of R220, which leaves H and lets V_p only decay. -/
def CellSt.predict (c : CellSt) (x : CycleIn) (moveH : Bool) : CellSt :=
  let ds := 100 * mAh (if 0 < x.dq then x.p.eta * x.dq else x.dq) / x.l.qFull
  let a := if 0 ≤ ds then ds else -ds
  let e := decay (x.dt * 1000) (x.rp * x.l.cpol)
  let ai := if 0 ≤ x.i then x.i else -x.i
  let sg : Rat := if 0 < x.i then 1 else if x.i < 0 then -1 else 0
  let h := if moveH && ai != 0 then max (-1) (min 1 (sg + (c.h - sg) * decay (ai * x.dt) (x.p.kh * x.l.qFull * 36 / 10))) else c.h
  { c with s := c.s + ds, sc := c.sc + ds, sig := c.sig + a / 100, sigc := c.sigc + a / 100,
           vp := if moveH then x.i * x.rp + (c.vp - x.i * x.rp) * e else c.vp * e, h := h }

/-- A prediction step of every cell; the charge discharged counts toward cycles (R218, R224). -/
def State.predictAll (s : State) (x : CycleIn) (moveH : Bool) : State :=
  let l := s.gauge.learned
  let out := if x.dq < 0 then mAh (-x.dq) else 0
  let n (q : Rat) : Nat := if l.qFull ≤ 0 then 0 else (q / l.qFull).floor.toNat
  let l := if s.bit Reg.GAUGE_CTRL_learn_en then
      { l with thru := l.thru + out, cycles := l.cycles + (n (l.thru + out) - n l.thru) } else l
  s.updGauge fun g => { g with cells := g.cells.map fun c => c.predict x moveH, learned := l }

/-- The battery has rested for GAUGE_REST.t_rest (R221). -/
def State.rested (s : State) : Bool := decide (60 * s.getF Reg.GAUGE_REST_t_rest ≤ s.gauge.restS)

/-- The gauge resumes from its mirror (R220-R223, R229): the charge counted since enters as one prediction step, V_p decays over the time
asleep or lost, and the flags stand as they stood; a rest that still holds has its candidate due if it had none. -/
def State.resume (s : State) (m : Mirror) : State :=
  let dt : Rat := ((if s.gauge.atWake then s.gauge.fawnUs else s.time - m.at_ : Nat) : Rat) / 1000000
  let s := s.updGauge fun g =>
    { g with cells := m.cells, learned := m.learned, anchor := m.anchor, valid := true, anchorDue := s.rested && !g.candTaken,
             candTaken := g.candTaken || s.rested, qLast := s.chargeQ }
  let s := s.setMany [(Reg.GAUGE_FLAGS_anchored, m.anchor.isSome.toNat), (Reg.GAUGE_FLAGS_disputed, m.disputed.toNat),
    (Reg.GAUGE_FLAGS_rest, s.rested.toNat), (Reg.GAUGE_FLAGS_settling, 0)]
  s.predictAll (s.cycleIn 0 ((s.chargeQ - m.q : Int) : Rat) dt) false

/-- The gauge core starts its image (R229): warm from the mirror, or cold. -/
def State.gaugeStart (s : State) (warm : Bool) : State :=
  let b := s
  let s := (s.updSys fun y => { y with gaugeAlive := true }).setB Reg.GAUGE_FLAGS_stale false
  let s := if s.gauge.failDue then (s.setB Reg.GAUGE_EVT_save_fail true).updGauge fun g => { g with failDue := false } else s
  let s := s.storeStat.updGauge fun g => { g with inForce := s.profSel, idTag := s.getF Reg.GAUGE_PACK_tag }
  let s :=
    match (if warm && s.bit Reg.PATH_STAT_batt_present then s.gauge.mirror.filter (fun m => !m.settling) else none) with
    | some m => if m.code != s.getF Reg.GAUGE_PACK_code then s.swapPack m else s.resume m
    | none =>
      let s := s.loadLearned
      if s.bit Reg.PATH_STAT_batt_present then s.beginInsertion true else s.noOutputs.setB Reg.GAUGE_FLAGS_absent true
  s.flagged b

/-! The filter (R218). -/

/-- What the cell model says without the open-circuit term, in mV. -/
def CellSt.rest (c : CellSt) (x : CycleIn) : Rat := atTemp x.l.dOcv x.t + c.h * x.p.mh + x.i * x.rs + c.vp

def CellSt.sigHys (c : CellSt) (x : CycleIn) : Rat := x.p.mh * (1 - (if 0 ≤ c.h then c.h else -c.h)) / 2

/-- The voltage term (R218). -/
def CellSt.measure (c : CellSt) (x : CycleIn) (v : Rat) : CellSt :=
  let g := x.p.slope c.s x.t
  let y := v - (x.p.ocvAt c.s x.t + c.rest x)
  let ai := if 0 ≤ x.i then x.i else -x.i
  let sr := x.sigma + ai * x.rs / 10
  let rv := 240 * (1 + sr * sr + c.sigHys x * c.sigHys x)
  let k := c.sig * c.sig * g / (c.sig * c.sig * g * g + rv)
  { c with s := c.s + k * y, sig := sqrtQ ((1 - k * g) * (c.sig * c.sig)) }

/-- The limits at the end of the cycle (R218); the values are kept to 128 fractional bits (log entry 5). -/
def CellSt.clamp (c : CellSt) : CellSt :=
  { s := cut (max 0 (min 100 c.s)), sig := cut (max c.sig (1 / 2)), sc := cut (max 0 (min 100 c.sc)), sigc := cut c.sigc, vp := cut c.vp,
    h := cut c.h }

/-- An uncertainty in mV over the slope; on a flat curve the voltage says nothing, so it passes every bound. -/
def overSlope (q g : Rat) : Rat := if g = 0 then 10 ^ 6 else q / g

/-- An anchor candidate of a cell: s_a and sigma_a (R222). -/
def CellSt.candidate (c : CellSt) (x : CycleIn) (v : Rat) : Rat × Rat :=
  let sa := x.p.ocvInv (v - c.rest x) x.t
  (sa, max (1 / 2) (overSlope (sqrtQ (1 + x.sigma * x.sigma + c.sigHys x * c.sigHys x)) (x.p.slope sa x.t)))

/-- A first estimate of a cell (R226). -/
def CellSt.first (c : CellSt) (x : CycleIn) (v : Rat) : CellSt :=
  let s0 := x.p.ocvInv (v - c.rest x) x.t
  let h2 := x.p.mh / 2
  let sg := max (1 / 2) (min 50 (overSlope (sqrtQ (1 + x.sigma * x.sigma + h2 * h2 + 9)) (x.p.slope s0 x.t)))
  { c with s := s0, sig := sg, sc := s0, sigc := sg }

/-- The cell with the lowest of a list of states of charge, the first of equals (R224). -/
def lowest (l : List Rat) : Nat := ((l.zipIdx).foldl (fun (p : Nat × Rat) c => if c.1 < p.2 then (c.2, c.1) else p) (0, 1000)).1

/-- Learning at an accepted anchor (R224): the capacity, and the nearest column of the OCV offset, from the cell with the lowest s.
`before` are the cells before the anchor, `v` the measured voltages. -/
def State.learnAnchor (s : State) (x : CycleIn) (before : List CellSt) (v : List Rat) (sa : List Rat) : State :=
  if !s.bit Reg.GAUGE_CTRL_learn_en then s
  else
    match s.gauge.anchor with
    | none => s
    | some a =>
      let j := lowest sa
      let ds0 := sa.getD j 0 - a.soc.getD j 0
      let ds := if 0 ≤ ds0 then ds0 else -ds0
      let q0 := mAh (s.chargeQ - a.q)
      let q := if 0 ≤ q0 then q0 else -q0
      let s :=
        if (s.getF Reg.GAUGE_LEARN_min_dsoc : Rat) ≤ ds then
          let est := q * 100 / ds
          let qf := s.gauge.learned.qFull
          if est * 10 < qf * 7 || qf * 13 < est * 10 then s.setB Reg.GAUGE_EVT_learn_rej true
          else
            let w0 : Rat := s.getF Reg.GAUGE_LEARN_w
            let w := if a.disputed then min (2 * w0) 100 else w0
            (s.setB Reg.GAUGE_EVT_learn_acc true).updGauge fun g =>
              { g with learned := { g.learned with qFull := qf + w / 100 * (est - qf), learnN := g.learned.learnN + 1 } }
        else s
      match before[j]? with
      | some c =>
        if a.left.getD j 50 < 1 && 3 ≤ x.p.slope c.sc x.t then
          let d := v.getD j 0 - (x.i * x.rs + c.vp + c.h * x.p.mh) - x.p.ocvAt c.sc x.t
          let k := if x.t < -10 then 0 else if x.t < 5 then 1 else if x.t < 35 / 2 then 2 else if x.t < 35 then 3 else 4
          s.updGauge fun g => { g with learned := { g.learned with
            dOcv := g.learned.dOcv.modify k fun o => max (-20) (min 20 (o + d / 8)) } }
        else s
      | none => s

/-- A counted and a filtered state diverge (R223). -/
def State.dispute (s : State) : State :=
  if s.gauge.cells.any fun c => let d := if c.sc ≤ c.s then c.s - c.sc else c.sc - c.s; 3 * c.sig < d then
    if s.bit Reg.GAUGE_FLAGS_disputed then s
    else
      let s := s.setMany [(Reg.GAUGE_FLAGS_disputed, 1), (Reg.GAUGE_EVT_dispute, 1)]
      (s.updGauge fun g => { g with anchor := g.anchor.map fun a => { a with disputed := true } }).raiseLasting
        { cls := cGAUGE, src := 0, lvl := 1, cause := 2 }
  else s

end Sys2Proof.Machine
end

