-- ==== Sys2Proof/Machine/Respond.lean ====
section
/-!
DEFINITION. Responses to mailbox commands (R330, R345, R346, R349, R389).
-/

namespace Sys2Proof.Machine

/-! Status codes (R346). -/
abbrev sOK : Nat := 0
abbrev sBUSY : Nat := 1
abbrev sDENIED : Nat := 2
abbrev sBAD : Nat := 3
abbrev sSUPERSEDED : Nat := 4
abbrev sNOT_NOW : Nat := 5
abbrev sCRC : Nat := 6
abbrev sUNKNOWN : Nat := 7
abbrev sCAUSE : Nat := 8
abbrev sLIMIT : Nat := 9
abbrev sTIMEOUT : Nat := 10
abbrev sINCOMPATIBLE : Nat := 11

def portCode : Port → Nat
  | .host => 0
  | .side => 1

def otherPort : Port → Port
  | .host => .side
  | .side => .host

/-- The accessor a port is. -/
def portAcc : Port → Accessor
  | .host => .host
  | .side => .side

/-! Responses. -/

/-- A response of n bytes fits (R330). -/
def Taken.fits (c : Taken) (n : Nat) : Bool := if c.rptr then decide (n ≤ c.rcap) else decide (n ≤ 20)

/-- Commands that R349 logs when they complete OK. -/
def logsOk (op : Nat) : Bool :=
  [0x01, 0x0A, 0x0D, 0x0E, 0x0F, 0x11].contains (op / 256) && op % 256 != 1 && op != 0x0110 && op != 0x0111

/-- Posts a response (R330, R332, R345, R389) and its log entry (R349); `who` is the port it names. -/
def State.respondAs (s : State) (c : Taken) (who : Port) (status detail : Nat) (payload : List Byte) : State :=
  let ok := c.fits payload.length
  let status := if ok then status else sBAD
  let payload := if ok then payload else []
  let out := c.rptr && !payload.isEmpty
  let entry := leBytes 1 c.tag ++ leBytes 1 out.toNat ++ leBytes 2 c.opcode ++ leBytes 1 status ++ leBytes 1 (portCode who)
    ++ leBytes 2 c.cookie ++ leBytes 2 payload.length ++ leBytes 2 detail ++ padTo 20 (if out then [] else payload)
  let s := s.updMbx fun m => { m with taken := m.taken.filter fun x => !(x.port == c.port && x.tag == c.tag) }
  let s :=
    match c.port with
    | .host =>
      let j := s.getF Reg.MBX_RESP_PROD_prod
      let s := { s with win := memWrite (0x40800 + 32 * (j % 64)) entry s.win }
      let s := if out then { s with win := memWrite c.raddr payload s.win } else s
      s.setMany [(Reg.MBX_RESP_PROD_prod, j + 1), (Reg.HOST_INT_STAT_mbx, 1)]
    | .side =>
      let s := if out then { s with sbBuf := memWrite c.raddr payload s.sbBuf } else s
      (s.updMbx fun m => { m with sideResps := m.sideResps ++ [⟨c.tag, entry⟩] }).request rqRESP
  if status != sOK || logsOk c.opcode then
    s.log 0x0C c.opcode (leBytes 1 status ++ leBytes 1 (portCode c.port) ++ leBytes 1 c.tag ++ [0] ++ leBytes 2 c.cookie
      ++ leBytes 2 detail)
  else s

def State.respond (s : State) (c : Taken) (status detail : Nat) (payload : List Byte) : State :=
  s.respondAs c c.port status detail payload

/-- Answers the commands that wait for something, unless the control core is lost: then they stay, for NOT_NOW once it runs (R335). -/
def State.answer (s : State) (w : Wait) (f : Taken → State → State) : State :=
  if s.bit Reg.SYS_STATE_ctl_lost then s else (s.mbx.taken.filter fun c => c.wait == w).foldl (fun u c => f c u) s

/-- Commands taken and not complete are answered NOT_NOW (R335). -/
def State.failTaken (s : State) : State := s.mbx.taken.foldl (fun t c => t.respond c sNOT_NOW 0 []) s

end Sys2Proof.Machine
end

