-- ==== Sys2Proof/Machine/Act.lean ====
section
/-!
DEFINITION. The update state and its log (R424, R434), and activation and rollback (R429-R433), as operations that the rows of
updates, the lost-core rows and the end of a hold-up share.
-/

namespace Sys2Proof.Machine

def State.updUpd (s : State) (g : Upd → Upd) : State := { s with upd := g s.upd }

/-! Log entries (R434). -/

/-- The kind 0x0E entry after a change; `status` is 0xFF where no command caused it. -/
def State.updLog (s : State) (status : Nat) : State :=
  let h := if s.getF Reg.UPD_STAT_type = 0 then [] else s.upd.hdr
  let code := s.getF Reg.UPD_RESULT_outcome * 4096 + s.getF Reg.UPD_STAT_state * 1024 + s.getF Reg.UPD_STAT_type * 256
    + s.getF Reg.UPD_STAT_target * 128 + s.getF Reg.UPD_STAT_port * 64
  s.log 0x0E code (leBytes 1 (hdrMajor h) ++ leBytes 1 (hdrMinor h) ++ leBytes 1 (hdrPatch h) ++ leBytes 1 (hdrIf h)
    ++ leBytes 2 (s.getF (Reg.UPD_RX_bytes 0)) ++ leBytes 2 (s.getF (Reg.UPD_RX_bytes 1)) ++ leBytes 1 status)

/-- A change of UPD_STAT.state: its entry and the side-band reason (R390, R434). -/
def State.updState (s : State) (v status : Nat) : State :=
  ((s.setF Reg.UPD_STAT_state v).updLog status).request rqUPD

/-- The update returns to idle with an outcome: entry, interrupt and reason (R431, R434). -/
def State.updResult (s : State) (outcome status : Nat) : State :=
  (((s.setMany [(Reg.UPD_RESULT_outcome, outcome), (Reg.UPD_STAT_state, 0), (Reg.UPD_STAT_verified, 0), (Reg.UPD_STAT_deferred, 0),
    (Reg.SYS_RUN_STAT_act_deferred, 0)]).updLog status).setB Reg.HOST_INT_STAT_upd true).request rqUPD

/-- The target slot of the update. -/
def State.target (s : State) : Bool := s.bit Reg.UPD_STAT_target

/-- Writes the boot selector (R429); no record write starts while VKEEP_LOW is asserted (R36). -/
def State.setSel (s : State) (x : Sel) : State := if s.sys.vkeepLow then s else s.updNv fun v => { v with sel := some x, selPrev := v.sel }

/-- The target slot's commit words are cleared (R428, R433), which no record write does while VKEEP_LOW is asserted (R36). -/
def State.discardSlot (s : State) (slot : Bool) : State := if s.sys.vkeepLow then s else s.uncommitSlot slot

/-! Pauses (R335, R431). -/

/-- A pause of the mailbox begins: commands taken and not complete are answered NOT_NOW. -/
def State.pause (s : State) : State := (s.setB Reg.MBX_STAT_paused true).failTaken

/-- Cores stop and are started warm from another slot: their outputs go stale, nothing else changes (R31, R230, R431). -/
def State.warmCores (s : State) (ctl gauge : Bool) : State :=
  let s := if gauge then s.gaugeStops.updSys fun y => { y with gaugeStarting := true } else s
  if ctl then s.updSys fun y => { y with ctlAlive := false, ctlStarting := true } else s

/-- The state mirror of R229, rewritten with every cycle of a present pack. A write that VKEEP_LOW meets (`cut`, or one
that stands) leaves a CRC that fails (R236). -/
def State.putMirror (cut : Bool) (s : State) : State :=
  let m : Mirror := ⟨s.gauge.cells, s.chargeQ, s.gauge.learned, s.getF Reg.GAUGE_PACK_code,
    match s.upd.running with | some b => hdrFmt (s.header b true) | none => 0, s.time, s.gauge.anchor, s.bit Reg.GAUGE_FLAGS_disputed,
    !s.gauge.valid⟩
  s.updGauge fun g => { g with mirror := if cut || s.sys.vkeepLow || s.gauge.cells.isEmpty then none else some m }

/-- The activation starts (R430, R431). With VKEEP_LOW asserted the selector is not written and the activation stops before
any warm start (R36, R438). -/
def State.activate (s : State) : State :=
  let prev := s.selector.active
  let tgt := s.target
  let s := s.setMany [(Reg.SYS_RUN_STAT_act_deferred, 0), (Reg.UPD_STAT_deferred, 0), (Reg.SYS_RUN_STAT_activating, 1)]
  let s := (s.updState 2 0xFF).refresh
  let s := (s.saveNow 8).putMirror false
  if s.sys.vkeepLow then
    ((s.failTaken.setB Reg.SYS_RUN_STAT_activating false).updState 0 0xFF).refresh
  else
    let s := s.pause.setSel ⟨tgt, true, false⟩
    let ctl := s.header prev false != s.header tgt false
    let gauge := s.header prev true != s.header tgt true
    (s.warmCores ctl gauge).updUpd fun u =>
      { u with running := some tgt, act := some ⟨prev, tgt, ctl, gauge, !ctl, !gauge, false, none⟩ }

/-- A rollback begins (R433): a second pause, the selector back to the previous slot, the rejected slot cleared, the changed
cores started from the previous slot. -/
def State.rollback (s : State) (outcome : Nat) : State :=
  match s.upd.act with
  | none => s
  | some a =>
    let s := (s.pause.setSel ⟨a.prev, false, false⟩).discardSlot a.target
    (s.warmCores a.ctl a.gauge).updUpd fun u =>
      { u with running := some a.prev, trial := false, act := some { a with ctlUp := !a.ctl, gaugeUp := !a.gauge, resumed := false, back := some outcome } }

/-- The device returns from ACTIVATE to what R85 shows. -/
def State.leaveActivate (s : State) : State := (s.setB Reg.SYS_RUN_STAT_activating false).refresh

/-- The versions of SYS_IFVER follow the running pair (R431). -/
def State.ifVer (s : State) : State :=
  match s.upd.running with
  | some b => s.setMany [(Reg.SYS_IFVER_ctl_if, hdrIf (s.header b false)), (Reg.SYS_IFVER_gauge_if, hdrIf (s.header b true))]
  | none => s.setMany [(Reg.SYS_IFVER_ctl_if, 0), (Reg.SYS_IFVER_gauge_if, 0)]

/-- The rollback is complete once its pause ends; SYS_IFVER shows the pair that runs again. -/
def State.rolledBack (s : State) (outcome : Nat) : State :=
  ((s.updUpd fun u => { u with act := none }).ifVer.leaveActivate).updResult outcome 0xFF

/-- A deferred activation starts when the hold-up has ended into STANDBY or RUN (R430). -/
def State.runDeferred (s : State) : State :=
  if s.bit Reg.SYS_RUN_STAT_act_deferred && s.stIn [stSTANDBY, stRUN] then s.activate else s

end Sys2Proof.Machine
end

