-- ==== Sys2Proof/Machine/Faults.lean ====
section
/-!
DEFINITION. The fault collector (chapter 12): CLASSIFY with escalation (R287), the statuses and FLT_FIRST (R280, R289), REACT
(R282-R286, R297), group off (R284), clearing and acknowledging (R290-R293), and `settle`, which every meaning ends with.
-/

namespace Sys2Proof.Machine

/-! Groups (R284). -/

/-- The group of entry e of FLT_GRPm. -/
def State.groupOf (s : State) (e : Nat) : Nat :=
  match e % 4 with
  | 0 => s.getF (Reg.FLT_GRP_g0 (e / 4))
  | 1 => s.getF (Reg.FLT_GRP_g1 (e / 4))
  | 2 => s.getF (Reg.FLT_GRP_g2 (e / 4))
  | _ => s.getF (Reg.FLT_GRP_g3 (e / 4))

/-- The output of a group entry; 26-39 are monitors. -/
def entryOut (e : Nat) : Option OutRef :=
  if e < 8 then some (.rail e) else if e < 14 then some (.ldo (e - 8)) else if e < 26 then some (.iso (e - 14)) else none

/-- Rails that hold a phase in a list of phases. -/
def State.railsOn (s : State) (ps : List Nat) : List Nat :=
  (List.range 8).filter fun k => (s.phasesOf k).any fun n => ps.contains n

/-- The group entries that an L3 action of a class and source turns off, and the monitor whose event it is (R283, R284). -/
def State.l3Entries (s : State) (cls src : Nat) : List Nat :=
  if cls = cRAILV then (if src < 14 then [src] else if src < 28 then [12 + src] else [])
  else if cls = cRAILI then (if src < 14 then [src] else [])
  else if cls = cTHERM then
    (if src < 8 then [src] else if 32 ≤ src && src < 36 then s.railsOn (List.range' (4 * (src - 32)) 4) else [])
  else if cls = cISO then (if src < 12 then [14 + src] else [])
  else if cls = cCLK then
    (if src = 2 then s.railsOn (List.range' 0 8) else if src = 3 then s.railsOn (List.range' 8 8)
     else if src = 4 then List.range' 14 12 else [])
  else []

/-- The group named in the log entry of an event: the first group other than 0 among its entries. -/
def State.eventGroup (s : State) (cls src : Nat) : Nat :=
  (((s.l3Entries cls src).map s.groupOf).find? (· != 0)).getD 0

/-! Reactions. -/

/-- Locks off the output of a group entry (R283). -/
def State.lockEntry (s : State) (e : Nat) : State :=
  match entryOut e with
  | some (.rail k) => s.railLock k
  | some (.ldo n) => s.ldoLock n
  | some (.iso n) => s.setIsoState n iLOCKED
  | _ => s

/-- Group off: every other output of the groups of the entries loses its enable (R284). -/
def State.groupOff (s : State) (es : List Nat) : State :=
  let gs := (es.map s.groupOf).filter (· != 0)
  s.each ((List.range 26).filter fun e => !es.contains e && gs.contains (s.groupOf e)) fun e t =>
    match entryOut e with
    | some o => t.enOff o
    | none => t

/-- The L2 action of R283: a rail source is derated. -/
def State.actL2 (s : State) (e : Ev) : State :=
  if (e.cls = cRAILV || e.cls = cRAILI || e.cls = cTHERM) && e.src < 8 then s.setB (Reg.RAIL_STAT_derated e.src) true else s

/-- The FE_FLT bits an FE event locks the front end off with (R166, R171). -/
def feBits (e : Ev) : List Fld :=
  match e.cause with
  | 1 => [Reg.FE_FLT_vsys_ov]
  | 2 => [Reg.FE_FLT_vhb_ov]
  | 4 => [Reg.FE_FLT_vdrv_uv]
  | 5 => [Reg.FE_FLT_ph0_open, Reg.FE_FLT_ph1_open]
  | _ => []

/-- The L3 action of R283 on the event's source, and group off. -/
def State.actL3 (s : State) (e : Ev) : State :=
  let es := s.l3Entries e.cls e.src
  let s := s.each es fun x t => t.lockEntry x
  let s :=
    if e.cls = cFE then s.feLock (feBits e)
    else if e.cls = cCLK && e.src = 4 then s.feLock []
    else if e.cls = cCHG then s.chgToFault
    else s
  s.groupOff es

/-- A new unlatch key, never 0 and never the key it replaces (R296). -/
def State.newKey (s : State) : State :=
  let r := (Config.freshWord s.free).toNat
  let old := s.getF Reg.FLT_UNLATCH_KEY_key
  let ok (k : Nat) : Bool := k % 65536 != 0 && k % 65536 != old
  (s.setF Reg.FLT_UNLATCH_KEY_key (if ok r then r else if ok (r + 1) then r + 1 else r + 2)).draw

/-- The L5 action of R285: every output off, ISW opened by its enable (R185), the latch set with a new key, SAFE entered without a
table. -/
def State.actL5 (s : State) : State :=
  let s := s.seqAbort.abortSleep
  let s := s.setB Reg.FLT_LATCH_latched true
  let s := s.each (List.range 8) fun k t =>
    let t := t.setB (Reg.RAIL_CTRL_en k) false
    if t.railState k = rLOCKED then t else t.railToOff k
  let s := s.each (List.range 6) fun n t =>
    let t := t.setB (Reg.LDO_CTRL_en n) false
    if t.ldoState n = lLOCKED then t else t.ldoToOff n
  let s := s.each (List.range 12) fun n t =>
    let t := t.setB (Reg.ISO_CTRL_en n) false
    if t.isoState n = iLOCKED then t else t.setIsoState n iOFF
  let s := s.setMany [(Reg.FE_CTRL_fwd_en, 0), (Reg.PATH_CTRL_isw_en, 0)]
  let s := if s.pathMode = pBUS then s.loss 0x20 else s.pathOff 0x20
  let s := if s.feState = feLOCKED then s else s.setFe feOFF
  let s := (s.newKey.setF Reg.FLT_LATCH_count 0).updFlt fun f => { f with unlatchAt := none }
  let s := if s.stIn [stSTANDBY, stRUN, stIBEX, stSAFE, stACTIVATE] then s.setB Reg.SYS_RUN_STAT_safe true else s
  let s := (s.setMany [(Reg.SYS_RUN_STAT_act_deferred, 0), (Reg.UPD_STAT_deferred, 0)]).updSeq fun q => { q with safeDone := true }
  ((s.updSys fun y => { y with resetAfterDown := false }).refresh).chgEval

/-- FAULT_N is asserted: drive is set and the pulse starts (R297). -/
def State.assertFaultN (s : State) : State :=
  ((s.setMany [(Reg.FLT_PIN_drive, 1), (Reg.FLT_PIN_pulse, 1)]).updFlt fun f => { f with releaseHeld := false }).followPin

/-! Classification. -/

/-- The effective level of an event as it enters CLASSIFY (R287). -/
def State.effective (s : State) (e : Ev) : Nat :=
  if 2 ≤ e.lvl && e.lvl ≤ 4 && bitOf (s.getF Reg.FLT_UNACK_unack) e.cls then e.lvl + 1 else e.lvl

/-- Puts a status at the higher of its kept level and `l` (R280). -/
def keepStatus (cls src l : Nat) : List Status → List Status
  | [] => [⟨cls, src, l⟩]
  | x :: r => if x.cls = cls && x.src = src then ⟨cls, src, max x.lvl l⟩ :: r else x :: keepStatus cls src l r

/-- FLT_FIRST, FLT_OVF and FLT_COUNT take an event at L1 or above (R289). -/
def State.latchFirst (s : State) (e : Ev) (l : Nat) : State :=
  if s.bit Reg.FLT_FIRST_valid then (s.setB Reg.FLT_OVF_ovf true).count Reg.FLT_COUNT_count
  else
    let s := s.setMany [(Reg.FLT_FIRST_valid, 1), (Reg.FLT_FIRST_level, l), (Reg.FLT_FIRST_class, e.cls),
      (Reg.FLT_FIRST_source, e.src), (Reg.FLT_OVF_ovf, 0), (Reg.FLT_COUNT_count, 0)]
    (s.each [0, 1, 2, 3] fun m t => t.setF (Reg.FLT_FIRST_T_time m) (s.time / 65536 ^ m)).updFlt fun f =>
      { f with firstRead := false }

/-- A snapshot of this round for an event or a request; the first event names the trigger (R308). -/
def State.wantSnap (s : State) (trigger : Nat) (copy : Bool) : State :=
  match s.tel.snap with
  | none => s.updTel fun t => { t with snap := some { trigger := trigger, words := none, copy := copy, logSeq := s.logNext } }
  | some r =>
    let tr :=
      if trigger = 0x8000 then (if r.trigger < 0x8000 then r.trigger + 0x8000 else r.trigger)
      else if r.trigger = 0x8000 then trigger + 0x8000 else r.trigger
    let first := trigger != 0x8000 && r.trigger = 0x8000
    let n : SnapReq := ⟨tr, if first then none else r.words, copy || r.copy, if first then s.logNext else r.logSeq⟩
    s.updTel fun t => { t with snap := some n }

/-- A request for a snapshot in the next round to start (R308). -/
def State.askSnap (s : State) (copy : Bool) : State :=
  s.updTel fun t => { t with req := some (copy || t.req == some true) }

/-- Classifies one event, and gives its effective level (R287-R289). -/
def State.classify (s : State) (e : Ev) : State × Nat :=
  let l := s.effective e
  let s := if 1 ≤ l then
      ((s.updFlt fun f => { f with stats := keepStatus e.cls e.src l f.stats }).setB Reg.HOST_INT_STAT_flt true).latchFirst e l
    else s
  let s := if 2 ≤ l then s.setBitOf Reg.FLT_UNACK_unack e.cls true else s
  (if s.getF Reg.SB_REQ_EN_lvl ≤ l then s.request rqFAULT else s, l)

/-- Records one classified event, after the action: its snapshot and its log entry (R25, R306-R308). -/
def State.recordEv (s : State) (p : Ev × Nat) : State :=
  let e := p.1
  let l := p.2
  let s := if 3 ≤ l then s.wantSnap (l * 4096 + e.cls * 256 + e.src) true else s
  let snap := if 3 ≤ l then leBytes 4 s.tel.snapSeq else leBytes 4 0xFFFFFFFF
  let code := l * 4096 + e.cls * 256 + (if l = e.lvl then 0 else 128) + e.src
  s.log 0x01 code (leBytes 2 e.lvl ++ leBytes 1 (if 3 ≤ l then s.eventGroup e.cls e.src else 0) ++ [0]
    ++ leBytes 2 e.value.toNat ++ leBytes 2 e.thr.toNat ++ snap)

/-- Classifies the events in the order they left JUDGE (R28, R288). -/
def State.classifyAll (s : State) : List Ev → State × List (Ev × Nat)
  | [] => (s, [])
  | e :: r =>
    let p := s.classify e
    let q := p.1.classifyAll r
    (q.1, (e, p.2) :: q.2)

/-- The actions of one classified event (R282). -/
def State.react (s : State) (p : Ev × Nat) : State :=
  let s := if p.2 = 4 then s.enterSafe else if p.2 = 5 then s.actL5 else s
  let s := if 3 ≤ p.2 then s.actL3 p.1 else s
  let s := if 2 ≤ p.2 then s.actL2 p.1 else s
  if 1 ≤ p.2 && s.getF Reg.FLT_CFG_fn_lvl ≤ p.2 then s.assertFaultN else s

/-- The status words of a snapshot, sampled after the action (R309, R310). -/
def State.snapWords (s : State) : List Byte :=
  let w (l : List Fld) : List Byte := leBytes 2 (l.foldl (fun a f => a + s.now f * 2 ^ f.lo) 0)
  let each (n : Nat) (g : Nat → List Byte) : List Byte := (List.range n).flatMap g
  w [Reg.SYS_STATE_gauge_lost, Reg.SYS_STATE_ctl_lost, Reg.SYS_STATE_host_lost, Reg.SYS_STATE_prev_state, Reg.SYS_STATE_state]
  ++ leBytes 2 s.runStat
  ++ w [Reg.FE_STAT_state, Reg.FE_STAT_region, Reg.FE_STAT_loop, Reg.FE_STAT_n_active, Reg.FE_STAT_de,
      Reg.FE_STAT_ilim_active, Reg.FE_STAT_held, Reg.FE_STAT_ph_out]
  ++ leBytes 2 s.pathStat
  ++ w [Reg.CHG_STAT_rech_evt, Reg.CHG_STAT_done_evt, Reg.CHG_STAT_phase_evt, Reg.CHG_STAT_susp_temp, Reg.CHG_STAT_susp_source,
      Reg.CHG_STAT_susp_ibex, Reg.CHG_STAT_susp_safe, Reg.CHG_STAT_balancing, Reg.CHG_STAT_t_derate, Reg.CHG_STAT_phase]
  ++ w [Reg.GAUGE_FLAGS_over_range, Reg.GAUGE_FLAGS_t_sub, Reg.GAUGE_FLAGS_settling, Reg.GAUGE_FLAGS_stale,
      Reg.GAUGE_FLAGS_absent, Reg.GAUGE_FLAGS_disputed, Reg.GAUGE_FLAGS_anchored, Reg.GAUGE_FLAGS_rest]
  ++ w [Reg.GAUGE_SOC_soc]
  ++ w [Reg.FLT_FIRST_valid, Reg.FLT_FIRST_level, Reg.FLT_FIRST_class, Reg.FLT_FIRST_source]
  ++ leBytes 2 s.active ++ w [Reg.FLT_UNACK_unack]
  ++ each 4 (fun m => leBytes 2 ((List.range 4).foldl (fun a i => a + s.classLvl (4 * m + i) * 16 ^ i) 0))
  ++ w [Reg.FLT_COUNT_count] ++ w [Reg.SEQ_STAT_table, Reg.SEQ_STAT_phase, Reg.SEQ_STAT_step]
  ++ each 8 (fun k => w [Reg.RAIL_STAT_state k, Reg.RAIL_STAT_regime k, Reg.RAIL_STAT_n_active k, Reg.RAIL_STAT_pulse_skip k,
      Reg.RAIL_STAT_prebias k, Reg.RAIL_STAT_sense_open k, Reg.RAIL_STAT_ceiling k, Reg.RAIL_STAT_announce k,
      Reg.RAIL_STAT_derated k])
  ++ each 12 (fun n => w [Reg.ISO_STAT_ilim n, Reg.ISO_STAT_state n])
  ++ each 6 (fun n => w [Reg.LDO_STAT_dropout n, Reg.LDO_STAT_ilim n, Reg.LDO_STAT_state n])
  ++ w [Reg.CLK_STAT_xtal_seen, Reg.CLK_STAT_aon_xtal, Reg.CLK_STAT_sync_locked, Reg.CLK_STAT_fe_lock, Reg.CLK_STAT_pwm1_lock,
      Reg.CLK_STAT_pwm0_lock, Reg.CLK_STAT_gauge_lock, Reg.CLK_STAT_sys_lock, Reg.CLK_STAT_rc64_ok]
  ++ w [Reg.FE_FLT_vbus_rev, Reg.FE_FLT_isw_slow, Reg.FE_FLT_vbus_ov, Reg.FE_FLT_ph1_open, Reg.FE_FLT_ph0_open,
      Reg.FE_FLT_vdrv_uv, Reg.FE_FLT_bs_uv, Reg.FE_FLT_vhb_ov, Reg.FE_FLT_vsys_ov, Reg.FE_FLT_ilim_sust]
  ++ w [Reg.PATH_FLT_cutoff, Reg.PATH_FLT_hold_exh, Reg.PATH_FLT_match_fail, Reg.PATH_FLT_ho_slow]
  ++ w [Reg.CHG_FLT_removed, Reg.CHG_FLT_pack_uv, Reg.CHG_FLT_timer, Reg.CHG_FLT_ot, Reg.CHG_FLT_ov]
  ++ each 28 (fun c => w [Reg.MON_CH_FLT_missed c, Reg.MON_CH_FLT_unconf c, Reg.MON_CH_FLT_ov_flt c, Reg.MON_CH_FLT_uv_flt c,
      Reg.MON_CH_FLT_ov_warn c, Reg.MON_CH_FLT_uv_warn c])

/-- The status words join the snapshot that an event of this cycle triggered (R309). -/
def State.sampleSnap (s : State) : State :=
  match s.tel.snap with
  | some r => if r.words.isNone && r.trigger != 0x8000 then
      s.updTel fun t => { t with snap := some { r with words := some s.snapWords } } else s
  | none => s

/-- Takes the events raised in this cycle through CLASSIFY, REACT, highest level first, and RECORD, in the order they left
JUDGE, and those their actions raise after them (R25, R28). -/
def State.drain : Nat → State → State
  | 0, s => s
  | n + 1, s =>
    if s.flt.evs.isEmpty then s
    else
      let p := (s.updFlt fun f => { f with evs := [] }).classifyAll s.flt.evs
      let t := [5, 4, 3, 2, 1, 0].foldl (fun t l => (p.2.filter fun q => q.2 == l).foldl State.react t) p.1
      drain n (p.2.foldl State.recordEv t).sampleSnap

/-- Run-time tine tests go on only in RUN, outside an activation, with the path in BUS and the rail not held (R444, R466). -/
def State.stopTests (s : State) : State :=
  if s.age.live.isEmpty then s
  else
    let ok (n : Nat) : Bool :=
      s.st = stRUN && s.getF Reg.UPD_STAT_state != 2 && s.pathMode = pBUS
        && !(match s.railOf n with | some k => s.railHeld k | none => false)
    s.abandon (s.age.live.filter fun n => !ok n)

/-- The end of every meaning: the events raised in it run through the pipeline, a deferred activation starts where the hold-up
has ended, and run-time tests whose conditions fail are abandoned. Eight rounds take every event that reactions can raise in
turn, so none is left for the next row. -/
def State.settle (s : State) : State :=
  (((s.drain 8).runDeferred.stopTests).drain 8).updFlt fun f => { f with evs := [] }

/-- The answer of a meaning. -/
def State.done (s : State) : Out State := .next s.settle

/-! Clearing and acknowledging. -/

/-- FLT_FIRST re-arms once no status is set and it has been read (R289). -/
def State.rearmFirst (s : State) : State :=
  if s.flt.stats.isEmpty && s.flt.firstRead && s.bit Reg.FLT_FIRST_valid then
    (s.setB Reg.FLT_FIRST_valid false).updFlt fun f => { f with firstRead := false }
  else s

/-- Whether some cause of a source keeps its status from being cleared (R291, R292). A cause judged by a window is present
only while the window is armed; the lists of causes hold no others. -/
def State.clearRefused (s : State) (cls src : Nat) : Bool :=
  s.causeOn cls src
  || (cls = cCORE && (if src = 0 then s.bit Reg.SYS_STATE_ctl_lost else s.bit Reg.SYS_STATE_gauge_lost))
  || (cls = cCOMM && src = 4 && s.bit Reg.SYS_STATE_host_lost)
  || (cls = cPATH && s.bit Reg.PATH_FLT_cutoff && !s.bit Reg.PATH_STAT_vbus_qual)

/-- The detail bits of a source that clearing its status clears, with the cause that keeps each (R280, R293). -/
def detailBits (cls src : Nat) : List (Fld × Nat) :=
  if cls = cRAILV then
    [(Reg.MON_CH_FLT_uv_warn src, 0), (Reg.MON_CH_FLT_ov_warn src, 1), (Reg.MON_CH_FLT_uv_flt src, 2), (Reg.MON_CH_FLT_ov_flt src, 3)]
  else if cls = cREF && src < 28 then [(Reg.MON_CH_FLT_unconf src, 4), (Reg.MON_CH_FLT_missed src, 5)]
  else if cls = cFE then
    (if src < 2 then
      [(Reg.FE_FLT_ilim_sust, 0), (Reg.FE_FLT_bs_uv, 3), (if src = 0 then (Reg.FE_FLT_ph0_open, 5) else (Reg.FE_FLT_ph1_open, 5))]
     else if src = 2 then [(Reg.FE_FLT_vsys_ov, 1), (Reg.FE_FLT_vhb_ov, 2), (Reg.FE_FLT_vdrv_uv, 4)]
     else [(Reg.FE_FLT_vbus_ov, 7), (Reg.FE_FLT_vbus_rev, 9)])
  else if cls = cPATH then
    [(Reg.PATH_FLT_ho_slow, 0), (Reg.PATH_FLT_match_fail, 1), (Reg.PATH_FLT_hold_exh, 2), (Reg.PATH_FLT_cutoff, 3),
     (Reg.FE_FLT_isw_slow, 8)]
  else if cls = cGAUGE then
    [(Reg.GAUGE_EVT_learn_rej, 7), (Reg.GAUGE_EVT_learn_acc, 6), (Reg.GAUGE_EVT_save_fail, 5), (Reg.GAUGE_EVT_remove, 4),
     (Reg.GAUGE_EVT_insert, 3), (Reg.GAUGE_EVT_dispute, 2), (Reg.GAUGE_EVT_anchor_rej, 1), (Reg.GAUGE_EVT_anchor_acc, 0)]
  else if cls = cISO && src < 12 then
    [(Reg.ISO_FLT_short src, 0), (Reg.ISO_FLT_ovl src, 1), (Reg.ISO_FLT_open_a src, 2), (Reg.ISO_FLT_open_b src, 3),
     (Reg.ISO_FLT_mon src, 4)]
  else if cls = cSEQ then [(Reg.SEQ_NOTES_cont, 0), (Reg.SEQ_NOTES_early, 0), (Reg.SEQ_NOTES_forced, 0)]
  else if cls = cCLK then
    (match src with
     | 0 => [(Reg.CLK_FAULT_sys, 0)] | 1 => [(Reg.CLK_FAULT_gauge, 0)] | 2 => [(Reg.CLK_FAULT_pwm0, 0)]
     | 3 => [(Reg.CLK_FAULT_pwm1, 0)] | 4 => [(Reg.CLK_FAULT_fe, 0)] | 5 => [(Reg.CLK_FAULT_adc, 0)]
     | 6 => [(Reg.CLK_FAULT_rc_aon, 0)] | 7 => [(Reg.CLK_FAULT_xtal_stop, 0)] | _ => [])
  else []

/-- A rail without a status at L2 or above under RAILV, RAILI or THERM is no longer derated (R283, R149). -/
def State.underate (s : State) (k : Nat) : State :=
  if s.statusAt cRAILV k 2 || s.statusAt cRAILI k 2 || s.statusAt cTHERM k 2 then s else s.setB (Reg.RAIL_STAT_derated k) false

/-- Clears the status of one source, or counts the refusal (R291). Answers whether the bit stayed set. -/
def State.clearOne (s : State) (cls src : Nat) : State × Bool :=
  if (s.statusLvl cls src).isNone then (s, false)
  else if s.clearRefused cls src then (s.count Reg.FLT_CLR_REFUSED_count, true)
  else
    let s := s.updFlt fun f => { f with stats := f.stats.filter fun x => !(x.cls == cls && x.src == src) }
    let s := s.setMany (((detailBits cls src).filter fun d => !s.present cls src d.2
      && !(cls = cFE && src < 2 && (d.2 = 0 || d.2 = 3) && s.present cFE (1 - src) d.2)).map fun d => (d.1, 0))
    let s := if cls = cSEQ && decide (src < 14) then
        (if src < 8 then s.setBitOf Reg.SEQ_EARLY0_rail src false else s.setBitOf Reg.SEQ_EARLY0_ldo (src - 8) false)
      else s
    let s := if s.flt.stats.any fun x => x.cls == cls then s else s.setBitOf Reg.FLT_UNACK_unack cls false
    let s := if (cls = cRAILV || cls = cRAILI || cls = cTHERM) && src < 8 then s.underate src else s
    let s := if cls = cPATH then s.batfet else if cls = cFE then s.fePhases.feTryStart else s
    (s.rearmFirst, false)

/-- Clears the statuses of a class named by the bits of a word (R291). Answers the bits that stayed set. -/
def State.clearWord (s : State) (cls w bits : Nat) : State × Nat :=
  (List.range 16).foldl (fun p i =>
    if bitOf bits i then
      let q := p.1.clearOne cls (16 * w + i)
      (q.1, if q.2 then p.2 + 2 ^ i else p.2)
    else p) (s, 0)

/-- Acknowledges classes: their FLT_UNACK bits clear (R290). -/
def State.ack (s : State) (bits : Nat) : State :=
  s.each ((List.range 16).filter (bitOf bits ·)) fun c t => t.setBitOf Reg.FLT_UNACK_unack c false

/-- Releases FAULT_N: at once, or at the end of a running pulse (R297). -/
def State.releaseFaultN (s : State) : State :=
  if s.bit Reg.FLT_PIN_pulse then s.updFlt fun f => { f with releaseHeld := true }
  else (s.setB Reg.FLT_PIN_drive false).followPin

end Sys2Proof.Machine
end

