-- ==== Sys2Proof/Machine/Mon.lean ====
section
/-!
DEFINITION. Supervision rows (chapter 11): warnings, comparator trips with their confirmation, faults judged by the
converter, early losses and power-good.
-/

namespace Sys2Proof.Machine

/-- Nominal N of channel c in mV (R256). -/
def State.nominal (s : State) (c : Nat) : Nat :=
  if c < 8 then
    (if s.railState c = rON then s.getF (Reg.RAIL_TGT_v_tgt c) - (s.rail c).offset else s.getF (Reg.RAIL_VSET_vset c))
  else if c < 14 then (if s.ldoState (c - 8) = lON then (s.ldo (c - 8)).target else s.getF (Reg.LDO_VSET_vset (c - 8)))
  else s.getF (Reg.MON_CH_NOM_nom c)

/-- The voltage the window widths are percentages of, in mV (R256). -/
def State.widthBase (s : State) (c : Nat) : Nat :=
  if c < 8 then s.getF (Reg.RAIL_VSET_vset c) else if c < 14 then s.getF (Reg.LDO_VSET_vset (c - 8))
  else s.getF (Reg.MON_CH_NOM_nom c)

/-- A threshold of R257 in 2.5 uV (1/50 of the channel's unit): the warning or fault window, above or below. -/
def State.threshold (s : State) (c : Nat) (fault above : Bool) : Int :=
  let n : Int := 400 * s.nominal c
  let b : Int := s.widthBase c
  if above then n + b * (if fault then s.getF (Reg.MON_CH_FWIN_ov c) else s.getF (Reg.MON_CH_WARN_ov c) : Nat)
  else n - b * (if fault then s.getF (Reg.MON_CH_FWIN_uv c) else s.getF (Reg.MON_CH_WARN_uv c) : Nat)

/-- A sample lies beyond a threshold on its side. -/
def beyond (above : Bool) (v : Word) (t : Int) : Bool :=
  if above then decide (t < 50 * signed 16 v.toNat) else decide (50 * signed 16 v.toNat < t)

/-- A side's windows are armed. -/
def State.armed (s : State) (c : Nat) (above : Bool) : Bool := if above then s.armedHi c else s.armedLo c

/-- The threshold in the channel's unit, for the log (R307). -/
def thrWord (t : Int) : Word := BitVec.ofInt 16 (t / 50)

/-- While DOWN or SAFE runs, a rail or LDO that falls below is an early loss (R275). -/
def State.earlyLoss (s : State) (c : Nat) (above : Bool) : Bool :=
  !above && decide (c < 14) && (s.getF Reg.SEQ_STAT_table == 2 || s.getF Reg.SEQ_STAT_table == 3)

/-- What an early loss does (R275): SEQ at L1 in place of RAILV, with the channel as its source (R263), the enable cleared, the output
marked. -/
def State.takeEarlyLoss (s : State) (c : Nat) : State :=
  let f := if c < 8 then Reg.SEQ_EARLY0_rail else Reg.SEQ_EARLY0_ldo
  let i := if c < 8 then c else c - 8
  let s := s.raise { cls := cSEQ, src := c, lvl := 1, cause := 1 }
  let s := if bitOf (s.getF f) i then s else (s.setBitOf f i true).count Reg.SEQ_NOTES_early
  s.enOff (if c < 8 then .rail c else .ldo (c - 8))

/-- The samples in a row that lie beyond a threshold, as the scan rounds counted them (R259, R262). -/
def State.beyondRun (s : State) (c : Nat) (fault above : Bool) : Nat :=
  let m := s.mon c
  match fault, above with
  | false, false => m.warnLo
  | false, true => m.warnHi
  | true, false => m.fltLo
  | true, true => m.fltHi

/-- The cause of a window is present from the first sample beyond it, judged or not (R257). -/
def State.noteWindow (s : State) (c : Nat) (fault above : Bool) : State :=
  if s.windowCause c fault above then s else s.updFlt fun f => { f with causes := f.causes ++ [s.windowKey c fault above] }

/-- The event of a window's present cause has been raised. -/
def State.isJudged (s : State) (c : Nat) (fault above : Bool) : Bool := (s.mon c).judged.contains (fault, above)

/-- A window is judged: its event is raised once for its cause (R262). -/
def State.judge (s : State) (c : Nat) (fault above : Bool) (e : Ev) : State :=
  if s.isJudged c fault above || !s.romUp then s
  else ((s.noteWindow c fault above).updMon c fun m => { m with judged := m.judged ++ [(fault, above)] }).raise e

/-- The converter's latest sample of a channel. -/
def State.lastSample (s : State) (c : Nat) : Word := BitVec.ofNat 16 (s.getF (Reg.TEL_CH_val c))

/-- The channel of rail or LDO output i, or of monitor i (R256). -/
def channelOf (monitor : Bool) (i : Fin 14) : Fin 28 := if monitor then i.natAdd 14 else i.castLE (by decide)

/-- WARNING_JUDGED (R259, R263), after db samples in a row: RAILV at L1, ISO at L1 for a mapped monitor, or an early loss. -/
def execWarningJudged (monitor : Bool) (i : Fin 14) (above : Bool) (s : State) : Out State :=
  let c := channelOf monitor i
  if s.armed c above && decide (s.getF (Reg.MON_CH_FILT_db c) ≤ s.beyondRun c false above) && !s.isJudged c false above then
    if s.earlyLoss c above then (s.takeEarlyLoss c).done
    else
      let u := s.setB (if above then Reg.MON_CH_FLT_ov_warn c else Reg.MON_CH_FLT_uv_warn c) true
      let k := s.windowKey c false above
      (u.judge c false above ⟨k.1, k.2.1, 1, k.2.2, s.lastSample c, thrWord (s.threshold c false above)⟩).done
  else .next s

/-- A fault window's judgement (R263), by either path: the detail bit, the clamp of a rail's over-voltage (R147), and the
event at its level. Raised once, whichever path reaches it first (R262). -/
def State.windowFault (s : State) (c : Nat) (above : Bool) (sample : Word) : State :=
  let t := s.threshold c true above
  let lvl := if above then 3 + s.getF (Reg.MON_CH_CFG_ov_lvl c) else 3 + s.getF (Reg.MON_CH_CFG_uv_lvl c)
  let u := s.setB (if above then Reg.MON_CH_FLT_ov_flt c else Reg.MON_CH_FLT_uv_flt c) true
  let u :=
    if above && decide (c < 8) && s.bit (Reg.RAIL_GROUP_valid c) && s.railState c != rLOCKED then
      u.setB (Reg.RAIL_DYN_ovclamp c) true
    else u
  match (if c < 14 then none else s.isoOfMon c) with
  | some n => (u.setB (Reg.ISO_FLT_mon n) true).judge c true above ⟨cISO, n, 3, 4, sample, thrWord t⟩
  | none => u.judge c true above ⟨cRAILV, c, lvl, if above then 3 else 2, sample, thrWord t⟩

/-- The sides' comparator flags. -/
def State.tripped (s : State) (c : Nat) (above : Bool) : Bool := if above then (s.mon c).tripHi else (s.mon c).tripLo
def State.setTrip (s : State) (c : Nat) (above : Bool) : State :=
  s.updMon c fun m => if above then { m with tripHi := true } else { m with tripLo := true }

/-- A side of a channel has a working comparator copy (R450). -/
def State.comparators (s : State) (c : Nat) (above : Bool) : Bool :=
  s.getF (if above then Reg.AGE_CMP_ret_ov c else Reg.AGE_CMP_ret_uv c) != 7

/-- CONVERTER_FAULT_JUDGED (R262), after 2 samples in a row: a fault whose comparator has not tripped is raised with missed set and REF
at L1; a tripped one is only confirmed. -/
def execConverterFaultJudged (monitor : Bool) (i : Fin 14) (above : Bool) (s : State) : Out State :=
  let c := channelOf monitor i
  if s.armed c above && decide (2 ≤ s.beyondRun c true above) && !s.tripped c above && !s.isJudged c true above then
    let v := s.lastSample c
    let u := if s.earlyLoss c above then s.takeEarlyLoss c else s.windowFault c above v
    ((u.setB (Reg.MON_CH_FLT_missed c) true).raise ⟨cREF, c, 1, 5, v, thrWord (s.threshold c true above)⟩).done
  else .next s

/-- PG_STABLE (R258, R264): with pg_cnt samples in the window counted, power-good becomes stable; a monitor's below-side windows arm
with it while neither DOWN nor SAFE runs. -/
def execPgStable (c : Fin 28) (s : State) : Out State :=
  if s.counting c && decide (s.getF (Reg.MON_CH_PG_pg_cnt c) ≤ (s.mon c).cnt) then
    let t := s.setB (Reg.MON_CH_STAT_pg c) true
    let down := s.getF Reg.SEQ_STAT_table == 2 || s.getF Reg.SEQ_STAT_table == 3
    (if 14 ≤ c.val && !down then t.updMon c fun m => { m with uvArmed := true } else t).earlyPg.done
  else .next s

/-- PG_FALL (R265): the channel has left its counting state, db samples in a row lie outside the power-good window, or a comparator
stands tripped where that window is the fault window. -/
def execPgFall (c : Fin 28) (s : State) : Out State :=
  let trip := s.bit (Reg.MON_CH_CFG_pg_win c) && (s.tripped c false || s.tripped c true)
  if !s.counting c || decide (s.getF (Reg.MON_CH_FILT_db c) ≤ (s.mon c).outN) || trip then (s.pgFall c).done else .next s

end Sys2Proof.Machine
end

