-- ==== Sys2Proof/Machine/Loop.lean ====
section
/-!
DEFINITION. What a point-of-load phase does within its switching period (R108, R111-R115, R134, R137, R143): the slots, the
turn-off condition, the slope ramp, the compensator, the peak limit with its derate and fold-back, and the SYNCO pin. They are
functions of the registers, so every change of a register is in force at once.
-/

namespace Sys2Proof.Machine

/-! Frequency and slots (R108-R111). -/

/-- A rail's actual switching frequency in kHz (R109, R110): synchronised rails run at a multiple of the last locked
frequency. -/
def State.railKhz (s : State) (k : Nat) : Nat :=
  let m := s.getF (Reg.RAIL_FSW_sync_mult k)
  if m != 0 && s.bit Reg.CLK_SYNC_synci_en && s.clk.synciLast != 0 then m * s.clk.synciLast else 10 * s.getF (Reg.RAIL_FSW_fsw k)

/-- The switching phases of a rail, lowest first (R130). -/
def State.switchingPhases (s : State) (k : Nat) : List Nat := (s.phasesOf k).filter fun n => s.bit (Reg.POL_PH_STAT_switching n)

/-- The delay in ns of the period start of the rail's j-th switching phase after the first one's (R108). -/
def State.slotDelay (s : State) (k j : Nat) : Rat := (j * 1000000 : Nat) / ((s.switchingPhases k).length * s.railKhz k : Nat)

/-- What SYNCO shows: nothing, a low level, or the phase-0 rail's period clock of 50% duty at this frequency in kHz. -/
inductive Synco where
  | highZ | low | clock (khz : Nat)
  deriving DecidableEq, Repr

/-- The SYNCO pin (R56, R61, R111). -/
def State.synco (s : State) : Synco :=
  if !s.live || s.st = stFAWN || !s.sys.vio then .highZ
  else if s.st = stBOOT || !s.bit Reg.CLK_SYNC_synco_en then .low
  else
    match s.railOf 0 with
    | some k => if s.railStopped k then .low else .clock (s.railKhz k)
    | none => .low

/-- DBGIO is high-impedance (R56, R61): outside BOOT and the states after it, without VIO, or where SAFETY 0x21 bit 11 locks the debug
port. -/
def State.dbgClosed (s : State) : Bool := !s.live || s.st = stFAWN || !s.sys.vio || bitOf (s.safety 0x21) 11

/-! The current loop (R112-R114, R134, R137, R143). -/

/-- I_nom and I_der in A (R143). -/
def State.railNom (s : State) (k : Nat) : Rat := (s.getF (Reg.RAIL_ILIM_ilim k) : Rat) / 10
def State.railDer (s : State) (k : Nat) : Rat :=
  if s.bit (Reg.RAIL_STAT_derated k) then s.railNom k * (1 - (s.getF (Reg.RAIL_PROT_derate k) : Rat) / 100) else s.railNom k

/-- The fold-back factor g of the ratio r (R143). -/
def foldBack (r : Rat) : Rat :=
  if 8 / 10 ≤ r then 1 else if 2 / 10 < r then 3 / 10 + 7 / 10 * (r - 2 / 10) / (6 / 10) else 3 / 10

/-- I_lim,eff in A with the sensed output at v mV (R143). -/
def State.railLimit (s : State) (k : Nat) (v : Rat) : Rat := s.railDer k * foldBack (v / s.getF (Reg.RAIL_VSET_vset k))

/-- What a phase may sink at most, in A: in the over-voltage clamp (R147), none under zero-current detection (R122, R123), and in a
soft stop (R124); in ON the manual names no bound below the nominal limit. -/
def State.sinkLimit (s : State) (k : Nat) : Rat :=
  if s.bit (Reg.RAIL_DYN_ovclamp k) then s.railNom k
  else if s.railState k = rRAMP || (s.rail k).hold0 then 0
  else if s.railState k = rSTOPPING then s.railNom k * 3 / 10 else s.railNom k

/-- The reference I_c in A that a code of the 10-bit DAC stands for (R112). -/
def dacAmps (code : Nat) : Rat := (min 1023 code : Nat) / 40

/-- S_e in A/us: k_slope x V_tgt / L of the registers as they stand (R114). -/
def State.slope (s : State) (k : Nat) : Rat :=
  (s.getF (Reg.RAIL_SLOPE_k_slope k) : Rat) / 64 * s.getF (Reg.RAIL_TGT_v_tgt k) / s.getF (Reg.RAIL_L_l_nh k)

/-- What the ramp's accumulator adds every 2.5 ns: 16 fractional bits below the DAC's 25 mA (R114). -/
def State.rampIncrement (s : State) (k : Nat) : Nat := (s.slope k / 400 * 40 * 65536).floor.toNat

/-- The 26-bit accumulator n steps after the turn-on that restarted it from zero (R114). -/
def State.rampAt (s : State) (k n : Nat) : Nat := n * s.rampIncrement k % 2 ^ 26

/-- The turn-off condition of R112: I_phase at or above min(I_c - S_e t_on, I_lim,eff), currents in A and t_on in ns. -/
def turnsOff (iPhase ic slope lim : Rat) (tOn : Nat) : Bool := decide (min (ic - slope * tOn / 1000) lim ≤ iPhase)

/-- Whether the high-side tines turn off at t_on ns: not before the minimum on-time of 40 ns, which includes the blanking of 20 ns;
at the latest where the minimum off-time of 60 ns begins (R112). -/
def State.pulseEnds (s : State) (k : Nat) (iPhase ic v : Rat) (tOn : Nat) : Bool :=
  decide (40 ≤ tOn) && (turnsOff iPhase ic (s.slope k) (s.railLimit k v) tOn || decide (1000000 ≤ (tOn + 60) * s.railKhz k))

/-- The peak reference in period j of a ramp-out, 1 to 8 (R134). -/
def rampOutRef (ic : Rat) (j : Nat) : Rat := (8 - j : Nat) * ic / 8

/-- The low-side tines of a phase in diode emulation turn off at 100 mA (R137). -/
def lowSideEnds (iPhase : Rat) : Bool := decide (iPhase ≤ 1 / 10)

/-! The voltage loop (R115, R116). -/

/-- The live coefficients of a compensator: K_P in A/V, f_I, f_Z and f_P in Hz. -/
structure Coeffs where
  kp : Rat
  fi : Rat
  fz : Rat
  fp : Rat
  deriving DecidableEq, Repr

/-- The coefficients a rail runs on (R127). -/
def State.railCoeffs (s : State) (k : Nat) : Coeffs :=
  ⟨(s.getF (Reg.RAIL_KP_kp k) : Rat) / 16, 10 * s.getF (Reg.RAIL_FI_fi k), 100 * s.getF (Reg.RAIL_FZ_fz k), 100 * s.getF (Reg.RAIL_FP_fp k)⟩

/-- The squared magnitude of C(s) at the frequency f in Hz (R115): the integral zero, and the lead term where f_Z is not 0. -/
def Coeffs.gain2 (c : Coeffs) (f : Rat) : Rat :=
  c.kp * c.kp * (1 + c.fi / f * (c.fi / f))
    * (if c.fz = 0 then 1 else (1 + f / c.fz * (f / c.fz)) / (1 + f / c.fp * (f / c.fp)))

/-- The phase of C(s) at the frequency f, in degrees (R115). -/
def Coeffs.phase (c : Coeffs) (f : Rat) : Rat :=
  -atanDeg (c.fi / f) + (if c.fz = 0 then 0 else atanDeg (f / c.fz) - atanDeg (f / c.fp))

/-- The error of the compensator in its resolution of 0.25 mV, from the sensed output in 0.25 mV (R115). -/
def State.railError (s : State) (k : Nat) (sensed : Int) : Int := sensed - 4 * s.getF (Reg.RAIL_TGT_v_tgt k)

/-- The squared magnitude of the modelled loop at f (R116): the compensator into n current sources that feed C with its ESR. -/
def loopGain2 (c : Coeffs) (n : Nat) (cap esr f : Rat) : Rat :=
  let w := 2 * piQ * f
  c.gain2 f * (n * n) * (1 + w * cap * esr * (w * cap * esr)) / (w * cap * (w * cap))

/-- Whether the modelled loop, whose gain is 1 at f_c, has a gain of 1 or more somewhere above f_c up to fsw/2 (R116): with v the
square of f/f_c, a2 the square of the lead's a and kappa the square of w_c C R_C, the squared gain less 1 has the sign of
(v - 1) times the quadratic below, which is judged on (1, top]. Without the lead the gain always falls. -/
def gainHeld (lead : Bool) (a2 kappa top : Rat) : Bool :=
  let p3 := 100 * kappa - 101 * (1 + kappa) * a2
  let p2 := 100 * kappa * a2 - 1 - 100 * kappa
  let q (v : Rat) : Rat := p3 * v * v + (p3 + p2) * v - a2
  let peak := -(p3 + p2) / (2 * p3)
  lead && decide (1 < top) && (decide (0 < q 1) || decide (0 ≤ q top) || p3 != 0 && decide (1 < peak) && decide (peak < top) && decide (0 ≤ q peak))

end Sys2Proof.Machine
end

