-- ==== Sys2Proof/Machine/Pol.lean ====
section
/-!
DEFINITION. Point-of-load rows (chapters 5 and 6) that are events of the stage itself: starts, stops, setpoint moves, the
derivation of coefficients, load steps, load announces, the peak limit, the clamp and unlocking.
-/

namespace Sys2Proof.Machine

/-! Loop derivation (R116, R163). -/

/-- What the derivation of R116 works from: phases, C in F, R_C in ohm, f_c in Hz, PM in degrees, t_d in s, fsw in Hz. -/
structure LoopIn where
  n : Nat
  c : Rat
  rc : Rat
  fc : Rat
  pm : Rat
  td : Rat
  fsw : Rat
  deriving DecidableEq, Repr

/-- What it gives: K_P in A/V, the three frequencies in Hz, infeasible, and the achieved margin in degrees. -/
structure LoopOut where
  kp : Rat
  fi : Rat
  fz : Rat
  fp : Rat
  infeasible : Bool
  pm : Rat
  deriving DecidableEq, Repr

/-- The procedure of R116. -/
def derive (x : LoopIn) : LoopOut :=
  let w := 2 * piQ * x.fc
  let av := 90 - atanDeg (1 / 10) - 360 * x.fc * x.td + atanDeg (w * x.c * x.rc)
  let ld := x.pm - av
  let ld' := if ld > 60 then 60 else ld
  let a2 := (1 - sinDeg ld') / (1 + sinDeg ld')
  let a := sqrtQ a2
  let kappa := w * x.c * x.rc * (w * x.c * x.rc)
  let lead := decide (0 < ld)
  let g := if lead then 1 / a else 1
  let kp := (w * x.c / x.n) / (sqrtQ (1 + kappa) * g * sqrtQ (101 / 100))
  let top : Rat := 65535 / 16
  let kp' := if kp > top then top else kp
  let fz := if lead then x.fc * a else 0
  let fp := if lead then x.fc / a else 0
  { kp := kp', fi := x.fc / 10, fz := fz, fp := fp,
    infeasible := decide (ld > 60) || decide (kp > top) || gainHeld lead a2 kappa (x.fsw / (2 * x.fc) * (x.fsw / (2 * x.fc))),
    pm := if lead then av + ld' else av }

/-- A derived value in a 16-bit register of a unit. -/
def regQ (q : Rat) : Nat := (max 0 (min 65535 (roundQ q))).toNat

/-- The crossover of R117 in kHz, whether it was clamped, and whether the clamp range was empty. -/
def clampFc (fc lo hi : Rat) : Rat × Bool × Bool :=
  if hi < lo then (hi, true, true) else if fc < lo then (lo, true, false) else if hi < fc then (hi, true, false) else (fc, false, false)

/-- Derives and stages rail k's coefficients (R116-R118). -/
def State.deriveRail (s : State) (k : Nat) : State :=
  let n := (s.servicePhases k).length
  if n = 0 || s.bit (Reg.RAIL_CTRL_direct_loop k) || s.bit Reg.SYS_STATE_ctl_lost then s
  else
    let fsw : Rat := s.railKhz k
    let fc0 : Rat := if s.getF (Reg.RAIL_LOOP_fc k) = 0 then fsw / 10 else s.getF (Reg.RAIL_LOOP_fc k)
    let fc := clampFc fc0 5 (min (fsw / 5) 200)
    let y := derive ⟨n, (s.getF (Reg.RAIL_C_c_uf k) : Rat) / 1000000, (s.getF (Reg.RAIL_ESR_esr k) : Rat) / 100000,
      fc.1 * 1000, s.getF (Reg.RAIL_LOOP_pm k), 15 / 100000000 + 1 / (2000 * fsw), 1000 * fsw⟩
    let fz := regQ (y.fz / 100)
    let fp := regQ (y.fp / 100)
    let st := s.setMany [(Reg.RAIL_LOOP_STAT_stale k, 0), (Reg.RAIL_LOOP_STAT_fc_clamped k, fc.2.1.toNat),
      (Reg.RAIL_LOOP_STAT_infeasible k, (y.infeasible || fc.2.2).toNat), (Reg.RAIL_LOOP_STAT_pm_ach k, regQ y.pm)]
    let i := Instance.rail (Fin.ofNat 8 k)
    let st := st.updRail k fun r => { r with direct := false }
    ((((st.stage i (Reg.RAIL_KP_kp k) (regQ (y.kp * 16))).stage i (Reg.RAIL_FI_fi k) (regQ (y.fi / 10))).stage i (Reg.RAIL_FP_fp k)
      fp).stage i (Reg.RAIL_FZ_fz k) (if fp ≤ fz then 0 else fz)).commitIdle i

/-- Derives and stages one of the front end's two sets (R163). -/
def State.deriveFe (s : State) (f : Nat) : State :=
  let n := s.feService
  if n = 0 then s
  else
    let fsw : Rat := s.getF Reg.FE_FSW_fsw
    let vin : Rat := if f = 0 then (s.getF Reg.FE_VBUS_uv : Rat) / 10 else 10
    let vout : Rat := if f = 0 then 17 else (s.getF Reg.FE_REV_VHB_vhb : Rat) / 100
    let iout : Rat :=
      if f = 0 then min (50 * n) ((s.getF Reg.FE_IIN_iin : Rat) / 10 * vin / vout) else (5 * s.getF Reg.FE_REV_LIM_plim : Nat) / vout
    let l : Rat := (s.getF Reg.FE_L_l : Rat) / 100000000
    let rhp : Rat := n * (vin * vin) / (2 * piQ * l * vout * iout) / 1000
    let fc0 : Rat := if s.getF Reg.FE_LOOP_fc = 0 then fsw / 20 else (s.getF Reg.FE_LOOP_fc : Rat) / 5
    let fc := clampFc fc0 (1 / 5) (min (fsw / 10) (rhp / 4))
    let c := if f = 0 then s.getF Reg.FE_C_c_sys else s.getF Reg.FE_C_c_vhb
    let y := derive ⟨n, (c : Rat) / 20000, 0, fc.1 * 1000, s.getF Reg.FE_LOOP_pm, 1 / 1000000 + 1 / (2000 * fsw), 1000 * fsw⟩
    let fz := regQ (y.fz / 10)
    let fp := regQ (y.fp / 10)
    let st := s.setMany [(Reg.FE_LOOP_STAT_stale f, 0), (Reg.FE_LOOP_STAT_fc_clamped f, fc.2.1.toNat),
      (Reg.FE_LOOP_STAT_infeasible f, (y.infeasible || fc.2.2).toNat), (Reg.FE_LOOP_STAT_pm_ach f, regQ y.pm)]
    let st := st.updFe fun x => { x with direct := false }
    (((st.stage .fe (Reg.FE_KP_kp f) (regQ (y.kp * 16))).stage .fe (Reg.FE_FI_fi f) (regQ y.fi)).stage .fe (Reg.FE_FP_fp f)
      fp).stage .fe (Reg.FE_FZ_fz f) (if fp ≤ fz then 0 else fz)

/-- Derives both sets (R164). -/
def State.deriveFront (s : State) : State :=
  if s.bit Reg.FE_CTRL_direct_loop || s.bit Reg.SYS_STATE_ctl_lost then s else ((s.deriveFe 0).deriveFe 1).commitIdle .fe

/-- LOOP_DERIVATION (R116-R118). -/
def execLoopDerivation (k : Fin 8) (s : State) : Out State := (s.deriveRail k).done

/-- FE_DERIVATION (R163, R164). -/
def execFeDerivation (s : State) : Out State := s.deriveFront.done

/-! Start and stop. -/

/-- RAIL_SENSE_CHECK (R120, R122, R123): an open sense line locks the rail off with RAILV at L3; otherwise the pre-bias is
measured and the ramp begins, or ends at once. -/
def execRailSenseCheck (k : Fin 8) (isOpen : Bool) (vpb : Nat) (s : State) : Out State :=
  if s.railState k = rRAMP && (s.rail k).start = .sense then
    if isOpen then
      let t := (s.railLock k).setB (Reg.RAIL_STAT_sense_open k) true
      (t.raise { cls := cRAILV, src := k, lvl := 3, cause := 4 }).done
    else
      let vset := s.getF (Reg.RAIL_VSET_vset k)
      let pre := decide (vset ≤ 50 * vpb)
      let t := (s.setB (Reg.RAIL_STAT_prebias k) pre).updRail k fun r => { r with hold0 := pre && decide (vset ≤ vpb) }
      let t := t.setSwitching k (s.servicePhases k).length
      if (t.rail k).hold0 then (t.railOn k).done
      else
        let v := if pre then vpb else 0
        ((t.setF (Reg.RAIL_TGT_v_tgt k) v).updRail k fun r => { r with start := .ramp, vstart := v }).done
  else .next s

/-- RAIL_SOFTSTART_CHECK (R145): below 20% of vset the rail enters HICCUP, or LOCKED_OFF with RAILI at L3 once its retries
are used. -/
def execRailSoftstartCheck (k : Fin 8) (v : Nat) (s : State) : Out State :=
  if s.railState k = rRAMP && (s.rail k).start = .ramp then
    if s.getF (Reg.RAIL_VSET_vset k) ≤ 5 * v then (s.updRail k fun r => { r with start := .checked }).done
    else if s.getF (Reg.RAIL_STAT2_retry_cnt k) = s.getF (Reg.RAIL_PROT_retries k) then
      ((s.railLock k).raise { cls := cRAILI, src := k, lvl := 3, cause := 2 }).done
    else
      (((s.railQuiet k).setRailState k rHICCUP).setF (Reg.RAIL_STAT2_retry_cnt k)
        (s.getF (Reg.RAIL_STAT2_retry_cnt k) + 1)).done
  else .next s

/-- RAIL_HICCUP_RESTART (R145): the start repeats from its origin. -/
def execRailHiccupRestart (k : Fin 8) (s : State) : Out State :=
  if s.railState k = rHICCUP then (s.railBegin k).done else .next s

/-- RAIL_RAMP_COMPLETE (R122): V_tgt is at vset, the state becomes ON. -/
def execRailRampComplete (k : Fin 8) (s : State) : Out State :=
  if s.railState k = rRAMP && ((s.rail k).start = .ramp || (s.rail k).start = .checked) then (s.railOn k).done else .next s

/-- RAIL_SOFT_STOP_DONE (R124). -/
def execRailSoftStopDone (k : Fin 8) (s : State) : Out State :=
  if s.railState k = rSTOPPING then (s.railToOff k).done else .next s

/-- RAIL_SETPOINT_MOVE_END (R121): V_tgt stands at the setpoint, with any announce offset, and the rail is no longer held
for the move. -/
def execRailSetpointMoveEnd (k : Fin 8) (s : State) : Out State :=
  if (s.rail k).move then
    ((s.setF (Reg.RAIL_TGT_v_tgt k) (s.getF (Reg.RAIL_VSET_vset k) + (s.rail k).offset)).updRail k fun r =>
      { r with move := false }).done
  else .next s

/-- RAIL_COEFF_TIMEOUT (R127). -/
def execRailCoeffTimeout (k : Fin 8) (s : State) : Out State :=
  if (s.rail k).waitCoeff then (s.railRefuse k).done else .next s

/-! Light load and load steps. -/

/-- PHASE_RAMP_OUT_DONE (R134, R169): the phase stops switching and m falls by one. -/
def execPhaseRampOutDone (p : PhaseRef) (s : State) : Out State :=
  match p with
  | .pol n =>
    match s.railOf n with
    | some k =>
      if (s.rail k).rampOut = some n.val then
        let t := (s.setMany [(Reg.RAIL_DYN_ramp_out k, 0), (Reg.POL_PH_STAT_switching n, 0),
          (Reg.RAIL_STAT_n_active k, s.getF (Reg.RAIL_STAT_n_active k) - 1)]).updRail k fun r => { r with rampOut := none }
        (t.setRegime k).done
      else .next s
    | none => .next s
  | .fe =>
    if s.fe.rampOut then
      ((s.setF Reg.FE_STAT_n_active (s.getF Reg.FE_STAT_n_active - 1)).updFe fun f => { f with rampOut := false }).done
    else .next s

/-- The announce offset leaves V_tgt (R141). -/
def State.dropOffset (s : State) (k : Nat) : State :=
  if s.bit (Reg.RAIL_DYN_ann_offset k) then
    (s.setMany [(Reg.RAIL_DYN_ann_offset k, 0), (Reg.RAIL_TGT_v_tgt k, s.getF (Reg.RAIL_TGT_v_tgt k) - (s.rail k).offset)]).updRail k
      fun r => { r with offset := 0, annPin := none }
  else s

/-- A criterion of the load-step detector (R138): the size of the sensed error in 0.25 mV beyond 1.5% of vset, or that of the
current's slope in A/us above RAILk_STEP.didt. -/
def State.stepSeen (s : State) (k : Nat) (byError : Bool) (x : Nat) : Bool :=
  if byError then decide (3 * s.getF (Reg.RAIL_VSET_vset k) < 50 * x) else decide (s.getF (Reg.RAIL_STEP_didt k) < x)

/-- LOAD_STEP_FIRE (R138, R139, R141): all n_max phases come in, the shed inhibit (re)starts, step_cnt counts, an announce
offset begins its return, and a phase test that needs the phase is abandoned (R444). -/
def execLoadStepFire (e : LoadStep) (s : State) : Out State :=
  let k := e.rail
  if s.railState k = rON && s.stepSeen k e.byError e.x then
    let t := (s.abandonTests k).setB (Reg.RAIL_DYN_inhibit k) true
    (((t.addAll k).count (Reg.RAIL_EVT_step_cnt k)).dropOffset k).done
  else .next s

/-- SHED_INHIBIT_END (R139). -/
def execShedInhibitEnd (k : Fin 8) (s : State) : Out State := (s.setB (Reg.RAIL_DYN_inhibit k) false).done

/-! Load announce (R140, R141). -/

/-- A rail that is ON takes an announce on pin i. Where an offset of an earlier pin still stands, the new one takes its place, and the
new pin is the announcing one (DESIGN CHOICE, log entry 41). -/
def State.announce (s : State) (i k : Nat) : State :=
  let vset := s.getF (Reg.RAIL_VSET_vset k)
  let base := s.getF (Reg.RAIL_TGT_v_tgt k) - (s.rail k).offset
  let top := min 3600 (s.ceiling k 3600)
  let v := min (max base top) (base + regQ ((vset * s.getF (Reg.RAIL_LDA_offset k) : Nat) / (1000 : Rat)))
  let t := ((s.abandonTests k).addAll k).setMany [(Reg.RAIL_STAT_announce k, 1), (Reg.RAIL_TGT_v_tgt k, v),
    (Reg.RAIL_DYN_ann_offset k, (v != base).toNat)]
  (t.count (Reg.RAIL_EVT_ann_cnt k)).updRail k fun r =>
    { r with offset := v - base, annPin := some i }

/-- LDA pin i reads asserted or deasserted. -/
def State.setLda (s : State) (i : Nat) (b : Bool) : State :=
  s.updSys fun y => { y with lda := if bitOf y.lda i = b then y.lda else if b then y.lda + 2 ^ i else y.lda - 2 ^ i }

/-- LDA pin i asserts (R140). -/
def State.ldaUp (s : State) (i : Nat) : State :=
  (s.setLda i true).each (List.range 8) fun k t =>
    if t.railState k = rON && bitOf (t.getF (Reg.RAIL_LDA_map k)) i then t.announce i k else t

/-- LDA pin i deasserts: the offset it announced returns (R141). -/
def State.ldaDown (s : State) (i : Nat) : State :=
  (s.setLda i false).each (List.range 8) fun k t => if (t.rail k).annPin = some i then t.dropOffset k else t

/-- LDA_ASSERT (R140): the edge of a pin; ignored while VIO is below 1.5 V (R61). -/
def execLdaAssert (i : Fin 4) (s : State) : Out State :=
  if s.sys.vio && !bitOf s.sys.lda i then (s.ldaUp i).done else .next s

/-- LDA_DEASSERT (R141). -/
def execLdaDeassert (i : Fin 4) (s : State) : Out State := (s.ldaDown i).done

/-- ANNOUNCE_OFFSET_RETURN (R141): 20 us after the assertion. -/
def execAnnounceOffsetReturn (k : Fin 8) (s : State) : Out State := (s.dropOffset k).done

/-- ANNOUNCE_END (R141): 2 ms after the last mapped pin deasserts. -/
def execAnnounceEnd (k : Fin 8) (s : State) : Out State :=
  if s.sys.lda &&& s.getF (Reg.RAIL_LDA_map k) = 0 then (s.setB (Reg.RAIL_STAT_announce k) false).done else .next s

/-! Protection. -/

/-- RAIL_ILIM_SUSTAINED (R143, R144): a phase's pulses end at I_lim,eff in 64 consecutive periods, RAILI at L1 while ON. -/
def execRailIlimSustained (e : RailLimit) (s : State) : Out State :=
  let k := e.rail
  if s.railState k = rON && decide (s.railLimit k e.mV ≤ (e.mA : Rat) / 1000) then
    ((s.setB (Reg.RAIL_DYN_ilim_active k) true).raiseLasting { cls := cRAILI, src := k, lvl := 1, cause := 1 }).done
  else .next s

/-- RAIL_CLAMP_END (R147): the tines turn off and the rail goes to LOCKED_OFF. -/
def execRailClampEnd (k : Fin 8) (s : State) : Out State :=
  if s.bit (Reg.RAIL_DYN_ovclamp k) then ((s.setB (Reg.RAIL_DYN_ovclamp k) false).railLock k).done else .next s

/-- RAIL_UNLOCK (R152). -/
def execRailUnlock (k : Fin 8) (s : State) : Out State := (s.railRelease k).done

end Sys2Proof.Machine
end

