-- ==== Sys2Proof/Machine/Operands.lean ====
section
/-!
DEFINITION. Operand forms of the commands: the descriptor (R329) and its checks (R332, R387), the opcodes with the states that
accept them (R350, R356-R369), the resources they touch (R333, R338, R351), the fields they set and their direction (R340,
R341, R352).
-/

namespace Sys2Proof.Machine

/-! Opcodes. -/

/-- Groups with READ, with WRITE, with ENABLE and DISABLE (R350). -/
def groupReads (g : Nat) : Bool := decide (1 ≤ g) && decide (g ≤ 0x10)
def groupWrites (g : Nat) : Bool := decide (1 ≤ g) && decide (g ≤ 0x0B) || g = 0x0F || g = 0x10
def groupEnables (g : Nat) : Bool := [0x02, 0x03, 0x04, 0x05, 0x07, 0x08].contains g

def allRun : List Nat := [stSTANDBY, stRUN, stIBEX, stSAFE, stACTIVATE]
def allRunV : List Nat := [stSTANDBY, stRUN, stIBEX, stSAFE, stACTIVATE, stRECOVERY]
def notActivate : List Nat := [stSTANDBY, stRUN, stIBEX, stSAFE]
def notActivateV : List Nat := [stSTANDBY, stRUN, stIBEX, stSAFE, stRECOVERY]

/-- The states that accept an opcode (R353-R369), none for an unassigned one (R8). ENABLE is judged at its execution (R355). -/
def cmdStates (op : Nat) : Option (List Nat) :=
  let g := op / 256
  match op % 256 with
  | 0x01 => if groupReads g then some allRunV else none
  | 0x02 => if groupWrites g then some allRun else none
  | 0x03 => if groupEnables g then some allRun else none
  | 0x04 => if groupEnables g then some allRun else none
  | _ =>
    match op with
    | 0x0110 => some allRunV
    | 0x0111 => some allRunV
    | 0x0112 => some notActivate
    | 0x0113 => some notActivate
    | 0x0114 => some [stSTANDBY]
    | 0x0115 => some [stSTANDBY]
    | 0x0116 => some [stSTANDBY, stRUN, stSAFE, stRECOVERY]
    | 0x0117 => some [stSAFE]
    | 0x0118 => some allRun
    | 0x0119 => some notActivate
    | 0x0610 => some allRun
    | 0x0611 => some notActivate
    | 0x0910 => some allRun
    | 0x0A10 => some allRun
    | 0x0A11 => some allRun
    | 0x0A12 => some allRun
    | 0x0A13 => some allRun
    | 0x0B10 => some allRun
    | 0x0B11 => some allRunV
    | 0x0C10 => some allRun
    | 0x0D10 => some [stSTANDBY]
    | 0x0D11 => some [stSTANDBY]
    | 0x0E10 => some notActivateV
    | 0x0E11 => some notActivateV
    | 0x0E12 => some notActivateV
    | 0x0E13 => some [stSTANDBY, stRUN, stIBEX]
    | 0x0E14 => some notActivateV
    | 0x0F10 => some notActivate
    | 0x0F11 => some notActivate
    | 0x0F12 => some allRun
    | 0x1010 => some notActivateV
    | 0x1011 => some allRunV
    | 0x1012 => some allRunV
    | 0x1110 => some notActivate
    | 0x1111 => some allRun
    | _ => none

/-! Descriptors (R329). -/

/-- Whether a byte range is all zero. -/
def zeros (d : List Byte) (o n : Nat) : Bool := ((d.drop o).take n).all (· == 0)

/-- The check of tag, flags, length and pointers, for a port's data area (R332, R387). -/
def descOk (p : Port) (index : Nat) (d : List Byte) : Bool :=
  let u (o n : Nat) : Nat := leNat ((d.drop o).take n)
  let fl := u 1 1
  let ptr := bitOf fl 0
  let rptr := bitOf fl 1
  let len := u 4 2
  let lo := match p with | .host => 0x41000 | .side => 0
  let hi := match p with | .host => 0x44000 | .side => 0x1000
  let inside (a n : Nat) : Bool := a % 4 = 0 && decide (lo ≤ a) && decide (a + n ≤ hi)
  u 0 1 = index && fl < 8 &&
  (match ptr, rptr with
   | false, false => decide (len ≤ 24)
   | true, false => decide (len ≤ 12288) && inside (u 8 4) len && zeros d 0x0C 20
   | false, true => decide (len ≤ 14) && zeros d 8 4 && inside (u 0x0C 4) (u 0x10 2)
   | true, true => decide (len ≤ 12288) && inside (u 8 4) len && inside (u 0x0C 4) (u 0x10 2) && zeros d 0x12 14)

/-- A descriptor read into a command; the payload is fetched from the port's data area (R329, R345, R387). -/
def State.parse (s : State) (p : Port) (d : List Byte) (stamp auth : Nat) : Taken :=
  let u (o n : Nat) : Nat := leNat ((d.drop o).take n)
  let fl := u 1 1
  let rptr := bitOf fl 1
  let len := u 4 2
  let payload :=
    if bitOf fl 0 then
      match p with
      | .host => memRead (u 8 4) len s.win
      | .side => memRead (u 8 4) len s.sbBuf
    else ((d.drop (if rptr then 0x12 else 8)).take len)
  { port := p, tag := u 0 1, opcode := u 2 2, force := bitOf fl 2, ptr := bitOf fl 0, rptr := rptr, raddr := u 0x0C 4, rcap := u 0x10 2,
    cookie := u 6 2, payload := payload, stamp := stamp, auth := auth }

/-- A little-endian number in a command's payload. -/
def Taken.u (c : Taken) (o n : Nat) : Nat := leNat ((c.payload.drop o).take n)
def Taken.group (c : Taken) : Nat := c.opcode / 256
def Taken.op (c : Taken) : Nat := c.opcode % 256

/-! Resources (R333, R338, R351). Beyond the lease resources 0-14 the model numbers: 16 and 17 the two herd ports, 18 the HOST
and MBX blocks, 19 the SB block. -/

/-- The resource of a register address; none in a reserved block. -/
def resourceAt (a : Nat) : Option Nat :=
  match a / 0x1000 with
  | 0x00 => some 14
  | 0x01 => some 14
  | 0x02 => some 18
  | 0x03 => some 9
  | 0x04 => some 7
  | 0x05 => some 10
  | 0x06 => some 10
  | 0x08 => some 11
  | 0x09 => some 13
  | 0x0A => some 12
  | 0x10 => some 0
  | 0x11 => some 0
  | 0x14 => some 3
  | 0x15 => some 4
  | 0x16 => some 5
  | 0x17 => some 6
  | 0x18 => if a % 0x800 < 0x600 then some 2 else none
  | 0x19 => some 1
  | 0x1A => some 8
  | 0x1C => some 19
  | 0x1D => some 18
  | _ => none

/-- An address lies inside a block of a group (R350). -/
def groupHas (g a : Nat) : Bool :=
  match g with
  | 0x01 => [0x00, 0x01, 0x02, 0x1D].contains (a / 0x1000)
  | 0x02 => [0x10, 0x11].contains (a / 0x1000)
  | 0x03 => a / 0x1000 = 0x14
  | 0x04 => a / 0x1000 = 0x15
  | 0x05 => a / 0x1000 = 0x16
  | 0x06 => a / 0x1000 = 0x17
  | 0x07 => a / 0x1000 = 0x18 && decide (a % 0x800 < 0x600)
  | 0x08 => a / 0x1000 = 0x19
  | 0x09 => [0x04, 0x1A].contains (a / 0x1000)
  | 0x0A => a / 0x1000 = 0x03
  | 0x0B => a / 0x1000 = 0x05
  | 0x0C => a / 0x1000 = 0x06
  | 0x0D => a / 0x1000 = 0x08
  | 0x0E => a / 0x1000 = 0x0A
  | 0x0F => a / 0x1000 = 0x09
  | 0x10 => a / 0x1000 = 0x1C
  | _ => false

/-- The lease resource of a group (R338). -/
def groupResource (g : Nat) : Nat :=
  match g with
  | 0x01 => 14 | 0x02 => 0 | 0x03 => 3 | 0x04 => 4 | 0x05 => 5 | 0x06 => 6 | 0x07 => 2 | 0x08 => 1 | 0x09 => 7 | 0x0A => 9
  | 0x0B => 10 | 0x0C => 10 | 0x0D => 11 | 0x0E => 12 | 0x0F => 13 | 0x10 => 19 | _ => 18

/-- The entries of a WRITE as (address, mask, data) (R354). -/
def Taken.entries (c : Taken) : List (Nat × Nat × Nat) :=
  (List.range (c.payload.length / 8)).map fun i => (c.u (8 * i) 4, c.u (8 * i + 4) 2, c.u (8 * i + 6) 2)

/-- The words of a READ. -/
def Taken.readAddrs (c : Taken) : List Nat := (List.range (c.u 4 2)).map fun i => c.u 0 4 + 4 * i

/-- Commands that touch every resource (R333, R364). -/
def touchesAll (op : Nat) : Bool := [0x0112, 0x0113, 0x0114, 0x0115, 0x0116, 0x0117, 0x0E13].contains op

/-- The resources a command touches. -/
def Taken.resources (c : Taken) : List Nat :=
  match c.op with
  | 0x01 => (c.readAddrs.filterMap resourceAt).eraseDups
  | 0x02 => ((c.entries.map (·.1)).filterMap resourceAt).eraseDups
  | _ =>
    match c.opcode with
    | 0x0119 => (List.range 16).filter (bitOf (c.u 0 2) ·)
    | 0x1010 => (if bitOf (c.u 0 1) 0 then [16] else []) ++ (if bitOf (c.u 0 1) 1 then [17] else [])
    | 0x1011 => [if c.u 0 4 % 64 < 32 then 16 else 17]
    | 0x1012 => [if c.u 0 1 = 0 then 16 else 17]
    | 0x0118 => [18]
    | _ => [groupResource c.group]

/-- Two commands touch a common resource. -/
def common (a b : Taken) : Bool :=
  touchesAll a.opcode || touchesAll b.opcode || a.resources.any fun r => b.resources.contains r

/-- The leases of a side-band command suffice (R338, R351); clearing its own REG_ERR copy needs none. -/
def Taken.leaseOk (c : Taken) : Bool :=
  let has (r : Nat) : Bool := if r = 19 then true else if r = 18 then false else bitOf c.auth r
  match c.port with
  | .host => true
  | .side =>
    match c.op with
    | 0x01 => true
    | 0x02 => (((c.entries.map (·.1)).filter (· != 0x34)).filterMap resourceAt).all has
    | _ =>
      if [0x0110, 0x0118, 0x0B11, 0x0F12].contains c.opcode || c.group = 0x10 then true
      else if c.opcode = 0x0111 || c.group = 0x11 then false
      else c.resources.all has

/-! What commands set (R340, R341, R352). -/

/-- The enable field behind a mask bit of a group (R350). -/
def enableOut (g i : Nat) : Option OutRef :=
  match g with
  | 0x02 => if i < 8 then some (.rail i) else none
  | 0x03 => if i = 0 then some .fe else none
  | 0x04 => if i = 0 then some .isw else none
  | 0x05 => if i = 0 then some .chg else none
  | 0x07 => if i < 12 then some (.iso i) else none
  | 0x08 => if i < 6 then some (.ldo i) else none
  | _ => none

/-- The outputs a mask names. -/
def maskOuts (g m : Nat) : List OutRef := ((List.range 16).filter (bitOf m ·)).filterMap (enableOut g)

/-- A field a command sets: its key (fields by `Fld.key`, other state above 2^40), the value, the field. -/
structure Setting where
  key : Nat
  value : Nat
  fld : Option Fld := none
  deriving DecidableEq, Repr

/-- The live field a written field stands for, at its live or its staging address. -/
def liveField (f : Fld) : Fld := match stagingOf f.addr with | some a => { f with addr := a } | none => f

/-- The whole fields a WRITE entry covers, with their new values given the present word. -/
def State.entrySettings (s : State) (e : Nat × Nat × Nat) : List Setting :=
  let a := (stagingOf e.1).getD e.1
  ((fieldsAt a).filter fun p => bitsOf e.2.1 p.1.lo p.1.w != 0).map fun p =>
    let old := s.getStaged p.1
    let m := bitsOf e.2.1 p.1.lo p.1.w
    let v := Nat.xor (Nat.land old (Nat.xor m (2 ^ p.1.w - 1))) (Nat.land (bitsOf e.2.2 p.1.lo p.1.w) m)
    { key := p.1.key, value := v, fld := some p.1 }

/-- Keys of state that is no register field: the device state, the custom profile, the PROPOSED plan, an update, and the
granted lease r. -/
def keyState : Nat := 2 ^ 40
def keyProfile : Nat := 2 ^ 40 + 1
def keyPlan : Nat := 2 ^ 40 + 2
def keyUpdate : Nat := 2 ^ 40 + 3
def keyLease (r : Nat) : Nat := 2 ^ 41 + r

/-- What a command sets, field by field. -/
def State.settings (s : State) (c : Taken) : List Setting :=
  match c.op with
  | 0x02 => c.entries.flatMap s.entrySettings
  | 0x03 => (maskOuts c.group (c.u 0 2)).map fun o => { key := o.field.key, value := 1, fld := some o.field }
  | 0x04 => (maskOuts c.group (c.u 0 2)).map fun o => { key := o.field.key, value := 0, fld := some o.field }
  | _ =>
    match c.opcode with
    | 0x0112 => [{ key := Reg.SYS_RUN_STAT_cmd_run.key, value := 1 }]
    | 0x0113 => [{ key := Reg.SYS_RUN_STAT_cmd_run.key, value := 0 }]
    | 0x0114 => [{ key := keyState, value := 1 }]
    | 0x0115 => [{ key := keyState, value := 2 }]
    | 0x0116 => [{ key := keyState, value := 3 }]
    | 0x0117 => [{ key := keyState, value := 4 }]
    | 0x0118 =>
      ((List.range 15).filter (bitOf (c.u 0 2) ·)).map (fun r => { key := keyLease r, value := 1 })
      ++ ((List.range 15).filter (bitOf (c.u 2 2) ·)).map (fun r => { key := keyLease r, value := 0 })
    | 0x0611 => [{ key := keyProfile, value := crc32 c.payload }]
    | 0x0F10 => [{ key := keyPlan, value := 0 }]
    | 0x0F11 => [{ key := keyPlan, value := 1 }]
    | 0x0E10 => [{ key := keyUpdate, value := crc32 c.payload }]
    | _ => []

/-- The limit fields whose lowering moves toward safety (R352). -/
def limitField (f : Fld) : Bool :=
  (List.range 8).any (fun k => [Reg.RAIL_ILIM_ilim k, Reg.RAIL_THERM_warn k].any (·.key == f.key))
  || [Reg.FE_ILIM_ipk, Reg.FE_IIN_iin, Reg.FE_REV_LIM_idis, Reg.FE_REV_LIM_plim, Reg.CHG_ICC_icc].any (·.key == f.key)
  || (List.range 12).any (fun n => [Reg.ISO_SUP_ipk n, Reg.ISO_SUP_p_max n].any (·.key == f.key))

/-- The enable fields whose clearing moves toward safety (R352). -/
def enableField (f : Fld) : Bool :=
  (List.range 8).any (fun k => (Reg.RAIL_CTRL_en k).key == f.key) || (List.range 6).any (fun n => (Reg.LDO_CTRL_en n).key == f.key)
  || (List.range 12).any (fun n => (Reg.ISO_CTRL_en n).key == f.key)
  || [Reg.FE_CTRL_fwd_en, Reg.PATH_CTRL_isw_en, Reg.CHG_CTRL_en].any (·.key == f.key)

/-- A setting of a command moves toward safety (R341, R352). -/
def State.settingSafe (s : State) (x : Setting) : Bool :=
  match x.fld with
  | some f => if enableField f then x.value = 0 else limitField f && decide (x.value < s.getStaged f)
  | none => x.key = Reg.SYS_RUN_STAT_cmd_run.key && x.value = 0 || x.key = keyState && x.value = 3 && s.stIn [stSTANDBY, stRUN]

/-- A command as a whole moves toward safety (R340). -/
def State.cmdSafe (s : State) (c : Taken) : Bool := (s.settings c).any s.settingSafe

/-- Whether the host's command loses to the side-band's on some field: with a loser on each side, each is superseded. Answers
(host loses, side-band loses). -/
def State.contest (s : State) (h d : Taken) : Bool × Bool :=
  if h.stamp != d.stamp || !common h d then (false, false)
  else
    let pairs := (s.settings h).flatMap fun x => ((s.settings d).filter fun y => y.key == x.key && y.value != x.value).map fun y => (x, y)
    pairs.foldl (fun r p =>
      let a := s.settingSafe p.1
      let b := s.settingSafe p.2
      let hostWins := if a && !b then true else if b && !a then false else if a && b then decide (p.1.value ≤ p.2.value) else true
      if hostWins then (r.1, true) else (true, r.2)) (false, false)

end Sys2Proof.Machine
end

