-- ==== Sys2Proof/Machine/Plan.lean ====
section
/-!
DEFINITION. The margin plan's fields and bases (R455-R457) and the moment a plan becomes live (R458), shared by register
writes, commands and the rows of the plan.
-/

namespace Sys2Proof.Machine

/-- The item kind and instance of a governed field (R455); kind 5 governs no writable field. -/
def governed (f : Fld) : Option (Nat × Nat) :=
  if f = Reg.FE_REV_LIM_plim then some (6, 0)
  else (List.range 8).findSome? fun k =>
    if f = Reg.RAIL_ILIM_ilim k then some (1, k) else if f = Reg.RAIL_THERM_warn k then some (2, k)
    else if f = Reg.RAIL_FSW_fsw k then some (3, k) else if f = Reg.RAIL_LIGHT_max_n k then some (4, k) else none

/-- The field of an item. -/
def itemField (kind inst : Nat) : Fld :=
  match kind with
  | 1 => Reg.RAIL_ILIM_ilim inst
  | 2 => Reg.RAIL_THERM_warn inst
  | 3 => Reg.RAIL_FSW_fsw inst
  | 4 => Reg.RAIL_LIGHT_max_n inst
  | 5 => Reg.AGE_REFCORR_corr
  | _ => Reg.FE_REV_LIM_plim

def State.updAge (s : State) (g : AgeSt → AgeSt) : State := { s with age := g s.age }
def State.updNvPlan (s : State) (p : Option Plan) : State := { s with nv := { s.nv with live := p } }

/-- A PROPOSED plan with no waiting item becomes the live plan (R458); while VKEEP_LOW is asserted the record is not written (R36). -/
def State.closePlan (s : State) : State :=
  match s.age.prop with
  | some p => if s.sys.vkeepLow || p.items.any PlanItem.waits then s else (s.updNvPlan (some p)).updAge fun a => { a with prop := none }
  | none => s

/-- The base of a governed field, none before the first run that saw it (R457). -/
def State.base (s : State) (f : Fld) : Option Nat := ((s.age.basesDue ++ s.nv.bases).find? fun p => p.1 == f.key).map (·.2)

/-- A new base by field key: it joins the plan record, or waits for the release of VKEEP_LOW (R36). -/
def State.putBase (s : State) (k v : Nat) : State :=
  let put (l : List (Nat × Nat)) : List (Nat × Nat) := (k, v) :: l.filter (·.1 != k)
  if s.sys.vkeepLow then s.updAge fun a => { a with basesDue := put a.basesDue }
  else { s with nv := { s.nv with bases := put s.nv.bases } }

/-- VKEEP_LOW is released: the record of the plan that has become live meanwhile is written (R36, R458). -/
def State.flushPlan (s : State) : State :=
  ((s.age.basesDue.foldl (fun t p => t.putBase p.1 p.2) s).updAge fun a => { a with basesDue := [] }).closePlan

/-- A write of a governed field by a port or a command: it is the new base, and a pending item on the field is withdrawn
(R457). -/
def State.baseWrite (s : State) (f : Fld) (v : Nat) : State :=
  match governed f with
  | none => s
  | some (kind, inst) =>
    let s := (s.putBase f.key v).updAge fun a =>
      { a with prop := a.prop.map fun p => { p with items := p.items.filter fun x => !(x.kind == kind && x.inst == inst && x.waits) } }
    s.closePlan

end Sys2Proof.Machine
end

