-- ==== Sys2Proof/Machine/Read.lean ====
section
/-!
DEFINITION. Reading registers and windows (R64, R67-R69, R73, R75, R80, R83, R325, R326): the words an accessor sees and what
a read does to the machine.
-/

namespace Sys2Proof.Machine

/-- A refusal is recorded in an accessor's REG_ERR copy, and its address when it is the first (R73). -/
def State.refuse (s : State) (acc : Accessor) (f : Fld) (a : Nat) : State :=
  s.updAcc acc fun x =>
    { x with err := x.err ||| BitVec.ofNat 16 (2 ^ f.lo), errAddr := if x.err = 0 then a else x.errAddr }

/-- A field's value as a read at its live address gives it: write-only fields read 0 (R68). -/
def State.readField (s : State) (p : Fld × FieldInfo) : Nat := if p.2.acc = .wo then 0 else s.now p.1

/-- The live word at a register address; each accessor sees its own error copy (R73). -/
def State.liveWord (s : State) (acc : Accessor) (a : Nat) : Nat :=
  if a = 0x34 then (s.acc acc).err.toNat
  else if a = 0x38 then (s.acc acc).errAddr % 65536
  else if a = 0x3C then (s.acc acc).errAddr / 65536 % 16
  else (fieldsAt a).foldl (fun w p => w + s.readField p * 2 ^ p.1.lo) 0

/-- The word at a register address, live or staging; addresses that mirror other registers, and gaps, read 0 (R74, R75). -/
def State.peek (s : State) (acc : Accessor) (a : Nat) : Nat :=
  match stagingOf a with
  | some b => ((fieldsAt b).filter fun p => p.2.acc = .buf).foldl (fun w p => w + s.getStaged p.1 * 2 ^ p.1.lo) 0
  | none => s.liveWord acc a

/-- A port's read clears the RC fields of a live register, and counts for FLT_FIRST's re-arming (R69, R289); a CHG_FLT bit
whose cause is present stands again in the next cycle (R204). -/
def State.clearRc (s : State) (a : Nat) : State :=
  let t := s.setMany (((fieldsAt a).filter fun p =>
    p.2.acc = .rc && !(a = 0x16038 && s.present cCHG 0 p.1.lo)).map fun p => (p.1, 0))
  if a = 0x3024 && t.bit Reg.FLT_FIRST_valid then (t.updFlt fun f => { f with firstRead := true }).rearmFirst else t

/-- What a port's read of a live register clears; the cores' reads clear nothing (R69). -/
def State.readEffect (s : State) (acc : Accessor) (a : Nat) : State :=
  match acc with
  | .host => s.clearRc a
  | .side => s.clearRc a
  | _ => s

/-- One register read by an accessor: the low word of a multi-word value latches the higher words, a higher word comes from
the shadow, or live with shadow_miss (R80). -/
def State.readReg (s : State) (acc : Accessor) (a : Nat) : State × Nat :=
  if 0x40000 ≤ a then (s.refuse acc Reg.REG_ERR_wrong_op a, 0)
  else
    match multiword a with
    | none => (s.readEffect acc a, s.peek acc a)
    | some (low, n) =>
      if a = low then
        let hi := (List.range' 1 (n - 1)).map fun j => BitVec.ofNat 16 (s.peek acc (low + 4 * j))
        ((s.updAcc acc fun x => { x with readShadow := some (low, hi) }).readEffect acc a, s.peek acc a)
      else
        match (s.acc acc).readShadow with
        | some (l, hi) =>
          if l = low then (s.readEffect acc a, (hi.getD ((a - low) / 4 - 1) 0).toNat)
          else ((s.refuse acc Reg.REG_ERR_shadow_miss a).readEffect acc a, s.peek acc a)
        | none => ((s.refuse acc Reg.REG_ERR_shadow_miss a).readEffect acc a, s.peek acc a)

/-- Consecutive words of a frame, in ascending order. -/
def State.readRegs (s : State) (acc : Accessor) : Nat → Nat → State × List Nat
  | _, 0 => (s, [])
  | a, n + 1 =>
    let p := s.readReg acc a
    let q := p.1.readRegs acc (a + 4) n
    (q.1, p.2 :: q.2)

/-- An address inside one of the three windows (R82). -/
def inWindow (a : Nat) : Bool :=
  decide (0x40000 ≤ a) && decide (a < 0x50000) || decide (0x60000 ≤ a) && decide (a < 0x72000)

/-- One 32-bit word of a window; reserved addresses read 0, register addresses are refused (R83, R326). -/
def State.readMem (s : State) (acc : Accessor) (a : Nat) : State × Nat :=
  if a < 0x40000 then (s.refuse acc Reg.REG_ERR_wrong_op a, 0)
  else if inWindow a && !(decide (0x44000 ≤ a) && decide (a < 0x48000)) then (s, leNat (memRead a 4 s.win))
  else (s, 0)

/-- Consecutive words of a memory read. -/
def State.readMems (s : State) (acc : Accessor) : Nat → Nat → State × List Nat
  | _, 0 => (s, [])
  | a, n + 1 =>
    let p := s.readMem acc a
    let q := p.1.readMems acc (a + 4) n
    (q.1, p.2 :: q.2)

end Sys2Proof.Machine
end

