-- ==== Sys2Proof/Machine/Boot.lean ====
section
/-!
DEFINITION. What a BOOT keeps and clears (R93) and the start of BOOT (R86, R91, R96), shared by every row that boots.
-/

namespace Sys2Proof.Machine

/-- Fields kept until VKEEP is lost (R93, R237, R317): by address, and single fields. -/
def keptReset (f : Nat) : Bool :=
  let a := f / 16
  a = 0x30 || decide (0x40 ≤ a) && decide (a < 0x68) || a = 0x3004 || decide (0x1A400 ≤ a) && decide (a < 0x1A480)
  || a = 0x1C000 || a = 0x1C004 || a = 0x8014 || a = 0x9000 || a = 0x9014 || a = 0x500C
  || decide (0x17040 ≤ a) && decide (a < 0x1706C)
  || [Reg.CLK_STAT_xtal_seen, Reg.CLK_STAT_aon_xtal].any fun g => g.key == f

/-- Fields a wake boot keeps as well: the LOG and TEL blocks, and the pending reasons of SB_REQ (R402; log entry 25). -/
def keptWake (f : Nat) : Bool := keptReset f || f / 16 = 0x1C008 || f / 16 / 0x1000 = 5 || f / 16 / 0x1000 = 6

/-- The fields that stand at the start of each kind of BOOT. -/
def keptAt (k : BootKind) (f : Nat) : Bool :=
  match k with
  | .powerUp => false
  | .reset => keptReset f
  | .wake => keptWake f

/-- The contents at the start of a BOOT (R93), with no change of state yet. -/
def State.cleared (s : State) (k : BootKind) : State :=
  let w := k = .wake
  { sys := { vkeepLow := s.sys.vkeepLow, heldBefore := s.sys.heldBefore, kind := k, origin := s.time, strap := s.sys.strap,
             ctlRestarted := s.sys.ctlRestarted, gaugeRestarted := s.sys.gaugeRestarted, pinReq := s.sys.pinReq,
             wakePin := s.sys.wakePin, wakeEnRun := s.sys.wakeEnRun, wakeVbus := s.sys.wakeVbus, vio := s.sys.vio, lda := s.sys.lda, herd := s.sys.herd,
             ship := if s.sys.ship = .requested then .off else s.sys.ship }
    time := s.time
    half := s.half
    clk := { xtalRuns := s.clk.xtalRuns }
    flt := { releaseHeld := s.flt.releaseHeld }
    fields := s.fields.filter fun p => keptAt k p.1
    staged := if w then s.staged.filter fun p => inInst .tel p.1 else []
    path := { held := w && s.path.held, opening := s.path.opening }
    tel := if w then s.tel else {}
    otp := { s.otp with invalid := [], us := 0, retry := false }
    gauge := if w then { mirror := s.gauge.mirror, restS := s.gauge.restS, fawnThr := s.gauge.fawnThr, candTaken := s.gauge.candTaken,
                         idTag := s.gauge.idTag, fawnUs := s.gauge.fawnUs, failDue := s.gauge.failDue, atWake := true }
             else { failDue := s.gauge.failDue }
    nv := s.nv
    logNext := if w then s.logNext else 0
    win := if w then s.win else []
    sbBuf := s.sbBuf
    mram := s.mram
    free := s.free
    pending := s.pending }

/-- The start of BOOT after a power-up (R41, R86): everything but the non-volatile memories at its Reset value. -/
def State.powerUp (s : State) : State :=
  { sys := { vio := s.sys.vio, lda := s.sys.lda, wakePin := s.sys.wakePin, wakeEnRun := s.sys.wakeEnRun, wakeVbus := s.sys.wakeVbus,
             pinReq := s.sys.pinReq }
    clk := { xtalRuns := false }
    otp := { words := s.otp.words, wlock := s.otp.wlock, rlock := s.otp.rlock }
    nv := s.nv
    mram := s.mram
    free := s.free
    pending := s.pending }

/-- The start of a reset or wake boot: what R93 keeps, the sequenced PG pins asserted (R266), the causes of SYS_RESET_CAUSE set, the change to BOOT recorded, and
in a wake boot with ISW held the path in BUS (R85, R86, R96). -/
def State.boot (s : State) (k : BootKind) (causes : List Fld) : State :=
  let old := s.st
  let t := (s.cleared k).setMany (causes.map fun f => (f, 1))
  let t := t.setMany [(Reg.SYS_RUN_STAT_safe, 0), (Reg.SYS_RUN_STAT_ibex, 0), (Reg.SYS_RUN_STAT_activating, 0),
    (Reg.SYS_RUN_STAT_act_deferred, 0), (Reg.SYS_RUN_STAT_return_state, 0), (Reg.SYS_BOOT_STAT_early_up, 0),
    (Reg.SYS_BOOT_STAT_dead, 0), (Reg.SYS_BOOT_STAT_recovery, 0), (Reg.SYS_BOOT_STAT_wake_boot, (k == .wake).toNat)]
  let t := (t.setMany ((List.range 8).map fun j => (Reg.MON_PG_CFG_pin j, 0))).setBitOf Reg.SB_REQ_req rqDOWNSTREAM false
  let t := (t.setF Reg.SYS_STATE_state old).setState stBOOT
  let t := if k = .wake then t.log 0x08 (t.wordOf [Reg.SYS_WAKE_SRC_isw_open, Reg.SYS_WAKE_SRC_sideband, Reg.SYS_WAKE_SRC_gauge,
      Reg.SYS_WAKE_SRC_timer, Reg.SYS_WAKE_SRC_vbus, Reg.SYS_WAKE_SRC_en_run, Reg.SYS_WAKE_SRC_wake]) [] else t
  if t.path.held then
    (t.setMany [(Reg.PATH_STAT_isw_closed, 1), (Reg.PATH_STAT_mode, pBUS)]).updPath fun p => { p with held := false }
  else t

end Sys2Proof.Machine
end

