-- ==== Sys2Proof/Machine/SeqRows.lean ====
section
/-!
DEFINITION. The run request (R89) and the rows of the sequencer (R268-R274).
-/

namespace Sys2Proof.Machine

/-! The run request. -/

/-- The level of R89. -/
def State.runLevel (s : State) : Bool :=
  match s.getF Reg.SYS_RUN_CFG_run_src with
  | 0 => s.sys.pinReq
  | 1 => s.bit Reg.SYS_RUN_STAT_cmd_run
  | _ => s.sys.pinReq || s.bit Reg.SYS_RUN_STAT_cmd_run

/-- An edge of run_req during a FAWN entry acts when that is abandoned (R89, R95). -/
def State.sleepEdge (s : State) (rise : Bool) : State :=
  s.updSys fun y => { y with sleep := y.sleep.map fun p => { p with edge := some rise } }

/-- A rise of run_req: UP starts from STANDBY, or is remembered while a table runs (R89, R90). -/
def State.runRise (s : State) : State :=
  if s.getF Reg.SEQ_STAT_table != 0 then
    (if s.getF Reg.SEQ_STAT_table = 3 then s else s.updSeq fun q => { q with rose := q.fell || s.getF Reg.SEQ_STAT_table == 2 })
  else if s.sys.sleep.isSome then s.sleepEdge true
  else if s.stIn [stSTANDBY, stIBEX, stACTIVATE] && !s.sys.run then s.seqStart 1 else s

/-- A fall of run_req: UP is left after its step; with no table running DOWN starts, in STANDBY too (R89, R90, R268). -/
def State.runFall (s : State) : State :=
  match s.getF Reg.SEQ_STAT_table with
  | 0 =>
    if s.sys.sleep.isSome then s.sleepEdge false
    else if s.stIn [stSTANDBY, stRUN, stIBEX, stACTIVATE] then s.seqStart 2 else s
  | 1 => s.updSeq fun q => { q with fell := true, rose := false }
  | 2 => s.updSeq fun q => { q with rose := false }
  | _ => s

/-- Brings SYS_RUN_STAT.run_req to its level and acts on its edge; edges during a pause act when the mailbox resumes (R432). -/
def State.runEval (s : State) : State :=
  let n := if s.bit Reg.MBX_STAT_paused then s.bit Reg.SYS_RUN_STAT_run_req else s.runLevel
  let o := s.bit Reg.SYS_RUN_STAT_run_req
  let t := s.setB Reg.SYS_RUN_STAT_run_req n
  if n && !o then t.runRise else if o && !n then t.runFall else t

/-- Entry to STANDBY from BOOT: a run_req that is already true counts as a rise unless up_failed is set (R89). -/
def State.runAtStandby (s : State) : State :=
  let t := s.setB Reg.SYS_RUN_STAT_run_req s.runLevel
  if s.runLevel && !s.bit Reg.SYS_RUN_STAT_up_failed then t.runRise else t

/-- A wake source abandons a FAWN entry; the edge of run_req that fell into it acts now (R89, R95). -/
def State.abandonSleep (s : State) : State :=
  match s.sys.sleep with
  | some p => (match p.edge with | some true => s.abortSleep.runRise | some false => s.abortSleep.runFall | none => s.abortSleep)
  | none => s

/-- A source that becomes true in a wake boot, before STANDBY, is latched (R97). -/
def State.wakeLatch (s : State) (src : Fld) : State :=
  if s.live && s.st = stBOOT && s.sys.kind = .wake then s.setB src true else s

/-- A wake source asserts outside FAWN: if enabled, a FAWN entry sequence in progress is abandoned, and in a wake boot the source is
latched (R95, R97). -/
def State.wakeSeen (s : State) (enabled : Bool) (src : Fld) : State :=
  if s.st = stFAWN || !enabled then s else s.abandonSleep.wakeLatch src

/-- EN_RUN_FILTER (R89). -/
def execEnRunFilter (level : Bool) (s : State) : Out State :=
  if s.live then
    let t := (s.updSys fun y => { y with pinReq := level, wakeEnRun := level }).runEval
    (if level then t.wakeSeen (s.bit Reg.SYS_WAKE_EN_en_run) Reg.SYS_WAKE_SRC_en_run else t).done
  else .next s

/-! Steps. -/

/-- An output's latest sample lies below 10% of its nominal, or the output counts as off (R270). -/
def State.offMet (s : State) (src : Nat) : Bool :=
  if src < 28 then (s.mon src).low
  else if src < 40 then
    let n := src - 28
    s.isoState n == iOFF || s.isoState n == iLOCKED || (match s.isoMon n with | some c => (s.mon c).low | none => false)
  else if src = 40 then s.feStopped else !s.bit Reg.PATH_STAT_isw_closed

/-- Whether the condition of step i is met (R270); the row itself is the end of a TIME wait. -/
def State.condMet (s : State) (i : Nat) : Bool :=
  let arg := s.getF (Reg.SEQ_STEP_W1_arg i)
  match s.getF (Reg.SEQ_STEP_W1_cond i) with
  | 1 => if arg < 40 then s.pgOf arg else if arg = 40 then s.feState == feFWD else s.bit Reg.PATH_STAT_isw_closed
  | 2 => s.offMet arg
  | 4 => bitOf (s.getF Reg.SEQ_EVENT_ev) arg
  | _ => true

/-- A table runs and its present step is waiting. -/
def State.stepWaits (s : State) : Bool :=
  s.live && s.getF Reg.SEQ_STAT_table != 0 && s.getF Reg.SEQ_STAT_phase == 1 && !s.seq.ended

/-- After a step: UP whose run request fell ends as aborted and DOWN runs; otherwise the next step is entered (R89, R268). -/
def State.seqNext (s : State) : State :=
  if s.getF Reg.SEQ_STAT_table = 1 && s.seq.fell then
    let r := s.seq.rose
    ((s.seqEnd 2).seqStart 2).updSeq fun q => { q with rose := r }
  else s.seqEnter (s.getF Reg.SEQ_STAT_step + 1)

/-- SEQ_STEP_DONE (R270, R271). -/
def execSeqStepDone (s : State) : Out State :=
  if s.stepWaits && s.condMet s.seqIdx then
    let t := if s.getF (Reg.SEQ_STEP_W1_cond s.seqIdx) = 4 then
        s.setBitOf Reg.SEQ_EVENT_ev (s.getF (Reg.SEQ_STEP_W1_arg s.seqIdx)) false
      else s
    ((t.seqLog 0).seqNext).done
  else .next s

/-- UP fails at its step (R272). Where its event is escalated, SAFE runs in place of DOWN (R282, R287). -/
def State.upFails (s : State) : State :=
  let e : Ev := { cls := cSEQ, src := s.getF Reg.SEQ_STAT_step, lvl := 3 }
  let t := (((s.seqLog 1).raise e).setB Reg.SYS_RUN_STAT_up_failed true).seqEnd 1
  if 4 ≤ s.effective e then t else t.seqStart 2

/-- SEQ raised at L1 for a timeout that goes on to the next step (R272, R273). -/
def State.stepGoesOn (s : State) (f : Fld) : State :=
  (((s.seqLog 1).count f).raise { cls := cSEQ, src := s.getF Reg.SEQ_STAT_step, lvl := 1 }).seqNext

/-- SEQ_STEP_TIMEOUT (R272, R273). -/
def execSeqStepTimeout (s : State) : Out State :=
  let i := s.seqIdx
  let cond := s.getF (Reg.SEQ_STEP_W1_cond i)
  let arg := s.getF (Reg.SEQ_STEP_W1_arg i)
  if s.stepWaits && (cond = 1 || cond = 2 || cond = 4) && !s.condMet i then
    if s.getF Reg.SEQ_STAT_table = 1 then
      match s.getF (Reg.SEQ_STEP_W0_policy i) with
      | 2 => (s.stepGoesOn Reg.SEQ_NOTES_cont).done
      | 1 =>
        if s.seq.retried then s.upFails.done
        else
          let t := s.updSeq fun q => { q with retried := true }
          match seqTarget (s.getF (Reg.SEQ_STEP_W0_op i)) (s.getF (Reg.SEQ_STEP_W0_idx i)) with
          | some (o, true) => ((t.enOff o).setF Reg.SEQ_STAT_phase 2).done
          | _ => (t.seqAction i).done
      | _ => s.upFails.done
    else if cond = 2 && arg < 14 then
      let t :=
        if arg < 8 then s.updRail arg fun r => { r with discharge := true, forced := true }
        else s.updLdo (arg - 8) fun l => { l with discharge := true, forced := true }
      (t.stepGoesOn Reg.SEQ_NOTES_forced).done
    else (s.stepGoesOn Reg.SEQ_NOTES_cont).done
  else .next s

/-- SEQ_RETRY_REENABLE (R272). -/
def execSeqRetryReenable (s : State) : Out State :=
  if s.live && s.getF Reg.SEQ_STAT_table = 1 && s.getF Reg.SEQ_STAT_phase = 2 then
    ((s.setF Reg.SEQ_STAT_phase 1).seqAction s.seqIdx).done
  else .next s

/-- After the SAFE table every output not kept loses its enable (R274). -/
def State.postSafe (s : State) : State :=
  let s := s.each (List.range 8) fun k t => if bitOf (t.getF Reg.SEQ_KEEP0_rail) k then t else t.enOff (.rail k)
  let s := s.each (List.range 6) fun n t => if bitOf (t.getF Reg.SEQ_KEEP0_ldo) n then t else t.enOff (.ldo n)
  let s := s.each (List.range 12) fun n t => if bitOf (t.getF Reg.SEQ_KEEP1_iso) n then t else t.enOff (.iso n)
  let s := if s.bit Reg.SEQ_KEEP1_fe then s else s.enOff .fe
  if s.bit Reg.SEQ_KEEP1_isw then s else s.enOff .isw

/-- SEQ_TABLE_COMPLETE (R86, R89, R90, R268, R274). The post-SAFE shutdown is one cycle of cleared enables, so it is over as the
table completes, not when the outputs have reached OFF (DESIGN CHOICE, log entry 45). -/
def execSeqTableComplete (s : State) : Out State :=
  if s.live && s.seq.ended then
    match s.getF Reg.SEQ_STAT_table with
    | 1 =>
      let t := ((s.seqEnd 0).setB Reg.SYS_RUN_STAT_up_failed false).setRun true
      (if t.bit Reg.SYS_RUN_STAT_run_req then t else t.seqStart 2).done
    | 2 =>
      let rose := s.seq.rose
      if s.sys.resetAfterDown then ((s.seqEnd 0).boot .reset [Reg.SYS_RESET_CAUSE_cmd]).done
      else
        let t := (s.seqEnd 0).setRun false
        (if t.bit Reg.SYS_RUN_STAT_run_req && rose then t.seqStart 1 else t).done
    | 3 => (((s.seqEnd 0).postSafe).updSeq fun q => { q with safeDone := true }).done
    | _ => .next s
  else .next s

end Sys2Proof.Machine
end

