-- ==== Sys2Proof/Machine/Bus.lean ====
section
/-!
DEFINITION. Register writes (R64-R81, R342, R348, R492): what a write covers, why it is refused, and what it changes. A port's
or core's register write and the WRITE command share everything but the way a refusal is told.
-/

namespace Sys2Proof.Machine

/-! What a write covers. -/

/-- One field that a write covers: the entry it comes from, the field at its live address, the mask part, and the value the
field takes (RW, STOP, BUF) or the written ones (WO, W1C). -/
structure WField where
  e : Nat
  f : Fld
  i : FieldInfo
  m : Nat
  v : Nat

/-- Replaces the masked bits of `old` (R65). -/
def maskMerge (old m d : Nat) : Nat := old - Nat.land old m + Nat.land d m

/-- The live address behind an address. -/
def liveAddr (a : Nat) : Nat := (stagingOf a).getD a

/-- The fields that entries (address, mask, data) cover, later entries merging with earlier ones. -/
def State.cover (s : State) (es : List (Nat × Nat × Nat)) : List WField :=
  es.zipIdx.foldl (fun ws p =>
    let (a, mask, data) := p.1
    ws ++ ((fieldsAt (liveAddr a)).filterMap fun (f, i) =>
      let m := bitsOf mask f.lo f.w
      let d := bitsOf data f.lo f.w
      if m = 0 || ((stagingOf a).isSome && i.acc != .buf) then none
      else
        let old := if i.acc = .wo || i.acc = .w1c then 0
          else ((ws.reverse.find? fun w => w.f.key == f.key).map (·.v)).getD (s.getStaged f)
        some ⟨p.2, f, i, m, maskMerge old m d⟩)) []

/-- The value a field would hold after the write (R492). -/
def State.wouldHold (s : State) (ws : List WField) (f : Fld) : Nat :=
  ((ws.reverse.find? fun w => w.f.key == f.key).map (·.v)).getD (s.getStaged f)

/-! Refusals. -/

/-- Whether the block instance of a live address is stopped (R79, R107, R165, R197, R315, R441). -/
def State.blockStopped (s : State) (a : Nat) : Bool :=
  match a / 0x1000 with
  | 0x01 => (List.range 16).all fun n => !s.bit (Reg.POL_PH_STAT_switching n)
  | 0x04 => s.getF Reg.SEQ_STAT_table = 0
  | 0x05 => !s.bit Reg.TEL_STR_CTRL_en
  | 0x10 =>
    let n := a / 0x100 % 16
    !s.age.testing.contains n && (match s.railOf n with | some k => s.railStopped k | none => true)
  | 0x11 => s.railStopped (a / 0x100 % 8)
  | 0x14 => s.feStopped
  | 0x16 => s.chgIn [gOFF, gFAULT]
  | _ => true

/-- The highest index of a sequencer op (R269). -/
def opMax (op : Nat) : Nat :=
  if op = 2 || op = 3 || op = 12 || op = 13 then 7 else if op = 4 || op = 5 then 5 else if op = 6 || op = 7 then 11 else 0

/-- A sequencer step word that would hold a reserved encoding (R269, R270). -/
def seqReserved (g : Fld → Nat) (f : Fld) : Bool :=
  let i := (f.addr - 0x4100) / 8
  if f.addr < 0x4100 || 0x4700 ≤ f.addr then false
  else if f.addr % 8 = 0 then decide (opMax (g (Reg.SEQ_STEP_W0_op i)) < g (Reg.SEQ_STEP_W0_idx i))
  else
    let arg := g (Reg.SEQ_STEP_W1_arg i)
    match g (Reg.SEQ_STEP_W1_cond i) with
    | 0 => arg != 0
    | 1 => decide (41 < arg)
    | 2 => decide (41 < arg)
    | 4 => decide (15 < arg)
    | _ => false

/-- A value that is a reserved encoding of its field (R8). -/
def reservedEnc (g : Fld → Nat) (w : WField) : Bool :=
  (w.i.acc = .rw || w.i.acc = .buf || w.i.acc = .stop) && (w.i.resv.contains w.v || seqReserved g w.f)

/-- A value outside its field's stated range (R73). -/
def outOfRange (w : WField) : Bool :=
  let v : Int := if w.i.sgn then signed w.f.w w.v else w.v
  (w.i.acc = .rw || w.i.acc = .buf || w.i.acc = .stop) && !w.i.resv.contains w.v
    && !(w.i.zero && w.v = 0) && (decide (v < w.i.rlo) || decide (w.i.rhi < v))

/-- The words of a multi-word map that a write of its low word would complete (R81): written now, shadowed before, or
live. -/
def State.composed (s : State) (acc : Accessor) (ws : List WField) (low : Nat) : List Nat :=
  (List.range 3).map fun j =>
    let a := low + 4 * j
    match (fieldsAt a).head? with
    | none => 0
    | some (f, _) =>
      if ws.any fun w => w.f.addr == a then s.wouldHold ws f
      else
        match (s.acc acc).writeShadow with
        | some (l, hs) =>
          if l = low then hs.foldl (fun v h => if h.1 = a then maskMerge v h.2.1.toNat h.2.2.toNat else v) (s.getF f) else s.getF f
        | none => s.getF f

/-- A writable multi-word value: the tine maps and the PG maps (R81, R104, R266). -/
def writableMulti (a : Nat) : Option Nat :=
  match multiword a with
  | some (low, _) =>
    if 0x10000 ≤ low && low < 0x11000 && low % 0x100 = 0x4 then some low
    else if 0x1A400 ≤ low && low < 0x1A480 then some low else none
  | none => none

/-- The map a write completes breaks R104. -/
def State.badMap (s : State) (acc : Accessor) (ws : List WField) (f : Fld) : Bool :=
  if 0x10000 ≤ f.addr && f.addr < 0x11000 && f.addr % 0x100 = 0x4 then
    let m := s.composed acc ws f.addr
    let v := m.getD 0 0 + 65536 * m.getD 1 0 + 65536 ^ 2 * m.getD 2 0
    let n := ((List.range 36).filter (bitOf v ·)).length
    let out := s.tinesOut ((f.addr - 0x10000) / 0x100)
    decide (32 < n) || decide (n < 24) || out.any (bitOf v ·)
  else false

/-- A rule between fields that binds field f is broken by the values that would stand (R492, R106, R109, R133, R241, R247,
R257, R314). SYNCI counts as measured for sync_mult only while locked (DESIGN CHOICE, log entry 47). -/
def State.ruleBroken (s : State) (g : Fld → Nat) (f : Fld) : Bool :=
  let a := f.addr
  if 0x11000 ≤ a && a < 0x11800 then
    let k := (a - 0x11000) / 0x100
    let o := a % 0x100
    if o = 0x34 || o = 0x38 then g (Reg.RAIL_FZ_fz k) != 0 && decide (g (Reg.RAIL_FP_fp k) ≤ g (Reg.RAIL_FZ_fz k))
    else if o = 0x40 then
      decide (g (Reg.RAIL_SHED_i_add k) ≤ g (Reg.RAIL_SHED_i_shed k)) || decide (g (Reg.RAIL_SHED_i_shed k) ≤ g (Reg.RAIL_LIGHT_i_de k))
    else if f = Reg.RAIL_LIGHT_i_de k then decide (g (Reg.RAIL_SHED_i_shed k) ≤ g (Reg.RAIL_LIGHT_i_de k))
    else if o = 0x0 then
      let v (j : Nat) : Nat := g (Reg.RAIL_GROUP_valid j)
      let lo (j : Nat) : Nat := g (Reg.RAIL_GROUP_first j)
      let hi (j : Nat) : Nat := g (Reg.RAIL_GROUP_last j)
      if hi k < lo k then v k = 1
      else (List.range 8).any fun j => j != k && v j = 1 && decide (lo k ≤ hi j) && decide (lo j ≤ hi k)
    else if f = Reg.RAIL_FSW_sync_mult k then
      (match s.clk.synci with | some x => decide (3000 < g f * x) | none => false)
    else false
  else if 0x14000 ≤ a && a < 0x14800 then
    let set (j : Nat) : Bool := g (Reg.FE_FZ_fz j) != 0 && decide (g (Reg.FE_FP_fp j) ≤ g (Reg.FE_FZ_fz j))
    if f = Reg.FE_FZ_fz 0 || f = Reg.FE_FP_fp 0 then set 0
    else if f = Reg.FE_FZ_fz 1 || f = Reg.FE_FP_fp 1 then set 1
    else if f = Reg.FE_LIGHT_i_add then decide (g Reg.FE_LIGHT_i_add ≤ g Reg.FE_LIGHT_i_shed)
    else if f = Reg.FE_LIGHT_i_shed then
      decide (g Reg.FE_LIGHT_i_add ≤ g Reg.FE_LIGHT_i_shed) || decide (5 * g Reg.FE_LIGHT_i_shed ≤ g Reg.FE_DE_i_de)
    else if f = Reg.FE_DE_i_de then decide (5 * g Reg.FE_LIGHT_i_shed ≤ g Reg.FE_DE_i_de)
    else if f = Reg.FE_ILIM_ipk || f = Reg.FE_RS_rs then decide (12000 < g Reg.FE_ILIM_ipk * g Reg.FE_RS_rs)
    else false
  else if f = Reg.PATH_VBUS_LO_lo || f = Reg.PATH_VBUS_HI_hi then decide (g Reg.PATH_VBUS_HI_hi < g Reg.PATH_VBUS_LO_lo + 20)
  else if f = Reg.CHG_CFG_cells || f = Reg.CHG_CFG_chem then g Reg.CHG_CFG_cells = 1 && g Reg.CHG_CFG_chem = 1
  else if f = Reg.CHG_VCV_vcv then
    let v := g f
    v % 5 != 0 || (if g Reg.CHG_CFG_chem = 1 then decide (v < 4050) || decide (4200 < v) else decide (v < 3450) || decide (3650 < v))
  else if f = Reg.CHG_TEMP_t_hi || f = Reg.CHG_TEMP_t_lo || f = Reg.CHG_TEMP2_t_half then
    decide (signed 8 (g Reg.CHG_TEMP2_t_half) < signed 8 (g Reg.CHG_TEMP_t_lo))
      || decide ((g Reg.CHG_TEMP_t_hi : Int) < signed 8 (g Reg.CHG_TEMP2_t_half))
  else if 0x18000 ≤ a && a < 0x18600 then
    let n := (a - 0x18000) / 0x80
    if f = Reg.ISO_TIME_dt n || f = Reg.ISO_FREQ_fsw n || f = Reg.ISO_FREQ_spread n then
      decide (100000000 < g (Reg.ISO_TIME_dt n) * 50 * g (Reg.ISO_FREQ_fsw n) * (if g (Reg.ISO_FREQ_spread n) = 1 then 105 else 100))
    else if f = Reg.ISO_MON_map_en n || f = Reg.ISO_MON_mon n then
      g (Reg.ISO_MON_map_en n) = 1 && (List.range 12).any fun j =>
        j != n && g (Reg.ISO_MON_map_en j) = 1 && g (Reg.ISO_MON_mon j) = g (Reg.ISO_MON_mon n)
    else false
  else if 0x19000 ≤ a && a < 0x19060 then
    f.w = 12 && decide (0x19040 ≤ a) && decide (g f < 1000)
  else if 0x1A000 ≤ a && a < 0x1A380 then
    let c := (a - 0x1A000) / 0x20
    if f = Reg.MON_CH_WARN_uv c || f = Reg.MON_CH_FWIN_uv c then decide (g (Reg.MON_CH_FWIN_uv c) ≤ g (Reg.MON_CH_WARN_uv c))
    else if f = Reg.MON_CH_WARN_ov c || f = Reg.MON_CH_FWIN_ov c then decide (g (Reg.MON_CH_FWIN_ov c) ≤ g (Reg.MON_CH_WARN_ov c))
    else false
  else if 0x5020 ≤ a && a < 0x5040 then
    decide (32 < ((List.range 128).filter fun c => bitOf (g (Reg.TEL_STR_SEL_sel (c / 16))) (c % 16)).length)
  else if a = 0x504C then
    let p := 32768 * s.getF Reg.TEL_STR_PROD_wrap + s.getF Reg.TEL_STR_PROD_off
    let c := 32768 * s.getF Reg.TEL_STR_CONS_wrap + s.getF Reg.TEL_STR_CONS_off
    let v := 32768 * g Reg.TEL_STR_CONS_wrap + g Reg.TEL_STR_CONS_off
    decide ((p + 65536 - c) % 65536 < (v + 65536 - c) % 65536)
  else false

/-- A value beyond its SAFETY ceiling (R149, R412). -/
def State.overCeiling (s : State) (g : Fld → Nat) (f : Fld) : Bool :=
  let v := g f
  let a := f.addr
  let beyond (i d : Nat) : Bool := decide (s.ceiling i d < v)
  if 0x11000 ≤ a && a < 0x11800 then
    let k := (a - 0x11000) / 0x100
    if f = Reg.RAIL_VSET_vset k then beyond k 3600
    else if f = Reg.RAIL_ILIM_ilim k then beyond (8 + k) 200
    else if f = Reg.RAIL_THERM_warn k then decide (s.ceiling 0x1F 160 < v + 10)
    else false
  else if 0x19000 ≤ a && a < 0x19060 then
    let n := (a - 0x19000) / 0x10
    f = Reg.LDO_VSET_vset n && beyond (0x10 + n) 3600
  else if f = Reg.FE_ILIM_ipk then beyond 0x16 150
  else if f = Reg.FE_IIN_iin then beyond 0x17 800
  else if f = Reg.FE_REV_VHB_vhb then beyond 0x18 3200
  else if f = Reg.CHG_VCV_vcv then (if g Reg.CHG_CFG_chem = 1 then beyond 0x1A 4200 else beyond 0x19 3650)
  else if f = Reg.CHG_ICC_icc then beyond 0x1B 300
  else if f = Reg.CHG_TEMP_t_hi then bitOf (s.safety 0x1C) 15 && decide (bitsOf (s.safety 0x1C) 8 7 < v)
  else if f = Reg.CHG_TEMP_t_lo then bitOf (s.safety 0x1C) 15 && decide (signed 8 v < signed 8 (bitsOf (s.safety 0x1C) 0 8))
  else if f = Reg.CHG_TEMP2_t_ot then beyond 0x1D 80
  else if 0x18000 ≤ a && a < 0x18600 then
    let n := (a - 0x18000) / 0x80
    f = Reg.ISO_SUP_ipk n && beyond 0x1E 100
  else false

/-- The coefficients, which ports write in direct-loop mode only (R119, R164). -/
def State.coeffClosed (s : State) (f : Fld) : Bool :=
  if 0x11000 ≤ f.addr && f.addr < 0x11800 then
    decide (0x2C ≤ f.addr % 0x100) && decide (f.addr % 0x100 ≤ 0x38) && !s.bit (Reg.RAIL_CTRL_direct_loop ((f.addr - 0x11000) / 0x100))
  else decide (0x14050 ≤ f.addr) && decide (f.addr < 0x14070) && !s.bit Reg.FE_CTRL_direct_loop

/-- A write sets an enable bit (R286). -/
def WField.enables (w : WField) : Bool := enableField w.f && w.v = 1

/-- Why an accessor may not write here at all (R73, R338, R342). -/
def State.accessRefusal (s : State) (acc : Accessor) (a : Nat) (ws : List WField) : Option Fld :=
  let directOnly := ws.any fun w => w.i.direct
  let closed := ws.any fun w => s.coeffClosed w.f
  match acc with
  | .host =>
    let marked := match regAt (liveAddr a) with | some r => r.hostW | none => false
    if closed || !(s.directMode || marked && !directOnly) then some Reg.REG_ERR_not_writable else none
  | .side =>
    match resourceAt a with
    | some r =>
      if r = 18 then some Reg.REG_ERR_lease
      else if directOnly then some Reg.REG_ERR_not_writable
      else if r != 19 && !bitOf s.leases r then some Reg.REG_ERR_lease
      else if closed then some Reg.REG_ERR_not_writable else none
    | none => none
  | _ => none

/-- Why a register write is refused (R73), none where it is applied. -/
def State.writeRefusal (s : State) (acc : Accessor) (a : Nat) (ws : List WField) : Option Fld :=
  let g := s.wouldHold ws
  if (regAt (liveAddr a)).isNone then some Reg.REG_ERR_unmapped
  else
    match s.accessRefusal acc a ws with
    | some f => some f
    | none =>
      if ws.any fun w => reservedEnc g w then some Reg.REG_ERR_reserved_enc
      else if ws.any fun w => outOfRange w || s.ruleBroken g w.f || s.badMap acc ws w.f then some Reg.REG_ERR_range
      else if ws.any fun w => w.i.acc = .stop && !s.blockStopped w.f.addr then some Reg.REG_ERR_stopped_only
      else if (ws.any fun w => s.overCeiling g w.f) || s.latched && ws.any WField.enables then some Reg.REG_ERR_limit
      else none

/-! Effects of single fields. -/

/-- The detail bits whose clearing waits for their cause (R39, R171, R280, R293). -/
def State.bitHeld (s : State) (f : Fld) : Bool :=
  let a := f.addr
  let src : List (Nat × Nat) :=
    if a = 0x14078 then [(cFE, 0), (cFE, 1), (cFE, 2), (cFE, 3), (cPATH, 0)]
    else if a = 0x15020 then [(cPATH, 0)]
    else if a = 0x17008 then [(cGAUGE, 0)]
    else if a = 0x1004 then [(cCLK, f.lo)]
    else if 0x18000 ≤ a && a < 0x18600 then [(cISO, (a - 0x18000) / 0x80)]
    else []
  let c := (a - 0x1A000) / 0x20
  let window (g : Fld) (fault above : Bool) : Bool := f = g && s.windowCause c fault above
  decide (0x1A000 ≤ a) && decide (a < 0x1A380) && (window (Reg.MON_CH_FLT_uv_warn c) false false || window (Reg.MON_CH_FLT_ov_warn c) false true
      || window (Reg.MON_CH_FLT_uv_flt c) true false || window (Reg.MON_CH_FLT_ov_flt c) true true)
    || (src.any fun p => (detailBits p.1 p.2).any fun d => d.1 == f && s.present p.1 p.2 d.2)
    || f = Reg.PATH_FLT_cutoff && !s.bit Reg.PATH_STAT_vbus_qual

/-- Removes the oldest downstream entry; the reason stands while the queue holds one (R397). -/
def State.popDs (s : State) : State :=
  let s := { s with sb := { s.sb with ds := s.sb.ds.tail } }
  if s.sb.ds.isEmpty then s.setBitOf Reg.SB_REQ_req rqDOWNSTREAM false else s

/-- A write of 1s to a W1C field (R68). -/
def State.w1c (s : State) (f : Fld) (v : Nat) : State :=
  if 0x3100 ≤ f.addr && f.addr < 0x3200 then (s.clearWord ((f.addr - 0x3100) / 16) ((f.addr - 0x3100) / 4 % 4) v).1
  else if f = Reg.SB_REQ_req then
    let v := if s.sb.ds.isEmpty then v else v - Nat.land v (2 ^ rqDOWNSTREAM)
    s.setF f (s.getF f - Nat.land (s.getF f) v)
  else if s.bitHeld f then s
  else
    let t := s.setF f (s.getF f - Nat.land (s.getF f) v)
    if f.addr = 0x14078 then t.fePhases else if f.addr = 0x15020 then t.batfet else t

/-- A heartbeat (R336, R337): the next deadline runs t_hb from it, and a lost host returns. -/
def State.heartbeat (s : State) : State :=
  if s.stIn [stFAWN, stBOOT, stRECOVERY] then s
  else
    let s := s.updSys fun y => { y with hbDue := some (s.time + 1000 * s.getF Reg.HOST_HB_CFG_t_hb) }
    if s.bit Reg.SYS_STATE_host_lost then
      let s := s.updMbx fun m => { m with sidePosts := m.sidePosts.map fun x => if x.stamp = s.time then x else { x with auth := 0 } }
      (((s.setMany [(Reg.SYS_STATE_host_lost, 0), (Reg.HOST_INT_STAT_lease, 1)]).request rqHOST).request rqLEASE).endCause cCOMM 4 0
    else s

/-- A write to FLT_PIN.drive (R297). -/
def State.writeDrive (s : State) (v : Nat) : State :=
  if v = 0 then s.releaseFaultN else (s.setB Reg.FLT_PIN_drive true).followPin

/-- A write to TEL_STR_CTRL.en (R315). -/
def State.writeStream (s : State) (v : Nat) : State :=
  if v = 1 && !s.bit Reg.TEL_STR_CTRL_en then
    (s.setMany [(Reg.TEL_STR_CTRL_en, 1), (Reg.TEL_STR_PROD_wrap, 0), (Reg.TEL_STR_PROD_off, 0), (Reg.TEL_STR_CONS_wrap, 0),
      (Reg.TEL_STR_CONS_off, 0)]).updTel fun t => { t with strRounds := [] }
  else s.setF Reg.TEL_STR_CTRL_en v

/-- A write to CHG_CFG.chem: a change loads the chemistry's defaults (R209), V_cv held at its ceiling (R412). -/
def State.writeChem (s : State) (v : Nat) : State :=
  if s.getF Reg.CHG_CFG_chem = v then s
  else
    (s.setF Reg.CHG_CFG_chem v).setMany (if v = 1 then
      [(Reg.CHG_VCV_vcv, min 4150 (s.ceiling 0x1A 4200)), (Reg.CHG_VPRE_vpre, 3000), (Reg.PATH_CUT_v_cut, 3000)]
    else [(Reg.CHG_VCV_vcv, min 3550 (s.ceiling 0x19 3650)), (Reg.CHG_VPRE_vpre, 2600), (Reg.PATH_CUT_v_cut, 2500)])

/-- A write of the producer index (R331): refused with MBX_ERR bits, or the new entries are stamped. Answers whether it was
refused. -/
def State.writeProd (s : State) (v : Nat) : State × Bool :=
  let cons := s.getF Reg.MBX_CMD_CONS_cons
  let d := (v + 128 - cons) % 128
  let p := (s.getF Reg.MBX_CMD_PROD_prod + 128 - cons) % 128
  if 64 < d || d < p then (s.setB Reg.MBX_ERR_bad_prod true, true)
  else if 64 - s.inFlight < d then (s.setB Reg.MBX_ERR_tag_busy true, true)
  else
    ((s.setF Reg.MBX_CMD_PROD_prod v).updMbx fun m => { m with hostStamps := m.hostStamps ++ List.replicate (d - p) s.time }, false)

/-- A write of the response consumer index (R331). -/
def State.writeCons (s : State) (v : Nat) : State × Bool :=
  let c := s.getF Reg.MBX_RESP_CONS_cons
  if (s.getF Reg.MBX_RESP_PROD_prod + 128 - c) % 128 < (v + 128 - c) % 128 then (s.setB Reg.MBX_ERR_bad_cons true, true)
  else (s.setF Reg.MBX_RESP_CONS_cons v, false)

/-- A higher word of a multi-word value goes to the accessor's write shadow; one of another value discards it (R81). -/
def State.shadowPut (s : State) (acc : Accessor) (low a m v : Nat) : State :=
  s.updAcc acc fun x =>
    let old := match x.writeShadow with | some (l, hs) => if l = low then hs else [] | none => []
    let n := (a, BitVec.ofNat 16 m, BitVec.ofNat 16 v)
    { x with writeShadow := some (low, old ++ [n]) }

/-- The low word of a multi-word value applies all its words (R81). -/
def State.applyMulti (s : State) (acc : Accessor) (low : Nat) (w0 : Nat) : State :=
  let ws := (s.composed acc [] low).set 0 w0
  let s := s.setMany ((List.range 3).filterMap fun j => ((fieldsAt (low + 4 * j)).head?).map fun p => (p.1, ws.getD j 0))
  s.updAcc acc fun x => { x with writeShadow := match x.writeShadow with | some (l, hs) => if l = low then none else some (l, hs) | none => none }

/-- A coefficient staged by a write is a host's (R119). -/
def State.byHost (s : State) (f : Fld) : State :=
  let s := s.each ((List.range 8).filter fun k => [Reg.RAIL_KP_kp k, Reg.RAIL_FI_fi k, Reg.RAIL_FZ_fz k, Reg.RAIL_FP_fp k].any (·.key == f.key))
    fun k t => t.updRail k fun r => { r with direct := true }
  if [0, 1].any fun x => [Reg.FE_KP_kp x, Reg.FE_FI_fi x, Reg.FE_FZ_fz x, Reg.FE_FP_fp x].any (·.key == f.key) then
    s.updFe fun x => { x with direct := true }
  else s

/-- Applies one covered field. -/
def State.applyField (s : State) (acc : Accessor) (w : WField) : State :=
  match w.i.acc with
  | .ro => s
  | .rc => s
  | .buf => (match instAt w.f.addr with | some i => (s.stage i w.f w.v).byHost w.f | none => s)
  | .w1c => s.w1c w.f w.v
  | .wo =>
    if w.f = Reg.FLT_ACK_ack then s.ack w.v
    else if w.f = Reg.LOG_MARK_data then s.log 0x0A w.v []
    else if w.f = Reg.TEL_SNAP_REQ_req then s
    else if w.f = Reg.SB_DS_POP_pop then (if w.v = 1 then s.popDs else s)
    else (match instAt w.f.addr with | some i => if w.f.addr = commitAddr i && w.v = 1 then s.discard i else s | none => s)
  | _ =>
    match writableMulti w.f.addr with
    | some low => if w.f.addr = low then s.applyMulti acc low w.v else s.shadowPut acc low w.f.addr w.m w.v
    | none =>
      if w.f = Reg.CHG_CFG_chem then s.writeChem w.v
      else if w.f = Reg.FLT_PIN_drive then s.writeDrive w.v
      else if w.f = Reg.TEL_STR_CTRL_en then s.writeStream w.v
      else if w.f = Reg.HOST_HB_beat then (if acc = .host then (s.setF w.f w.v).heartbeat else s.setF w.f w.v)
      else if w.f = Reg.MBX_CMD_PROD_prod then (s.writeProd w.v).1
      else if w.f = Reg.MBX_RESP_CONS_cons then (s.writeCons w.v).1
      else s.setF w.f w.v

/-- The output behind an enable field. -/
def outOfEnable (f : Fld) : Option OutRef :=
  ((List.range 8).map OutRef.rail ++ (List.range 6).map OutRef.ldo ++ (List.range 12).map OutRef.iso ++ [OutRef.fe, OutRef.isw, OutRef.chg]).find? fun o =>
    o.field.key == f.key

/-- An enable field takes its written value; the output follows its own chapter. -/
def State.applyEnable (s : State) (w : WField) : State :=
  match outOfEnable w.f with
  | some o => if w.v = 1 then s.enOn o else s.enOff o
  | none => s

/-! What follows a write in its block. -/

/-- A rail's frequency or grouping changed: coefficients are derived again (R118). -/
def State.railStale (s : State) (k : Nat) : State :=
  if s.bit (Reg.RAIL_CTRL_direct_loop k) then s else s.setB (Reg.RAIL_LOOP_STAT_stale k) true

/-- Clearing synci_en ends the lock: a synchronised rail goes back to its own frequency, so it derives again (R109, R118); `b` is the
state before the write. -/
def State.syncOff (s b : State) : State :=
  let t := { ((s.setB Reg.CLK_STAT_sync_locked false).endCause cCLK 8 0) with clk := { s.clk with synci := none, synciLast := 0 } }
  t.each (List.range 8) fun k u => if b.railKhz k != u.railKhz k then u.railStale k else u

/-- The causes of windows that a write disarmed end (log entry 10). -/
def State.pruneMons (s : State) : State :=
  s.each (List.range' 14 14) fun c t =>
    let t := if t.armedLo c then t else t.disarmLo c
    if t.armedHi c then t else t.disarmHi c

/-- A changed ISO mapping ends the causes of the monitors and of the channel it joined or joins (R247): they are judged afresh under
their new source; `b` is the state before. -/
def State.remap (s b : State) : State :=
  s.each (List.range 12) fun n t =>
    if b.isoMon n = t.isoMon n then t
    else
      let t := ((t.endCause cISO n 4).endCause cISO n 5).endCause cISO n 6
      ((b.isoMon n).toList ++ (t.isoMon n).toList).foldl (fun u c => (u.disarmLo c).disarmHi c) t

/-- What a block does when live fields of it changed; `b` is the state before the write. -/
def State.afterWrite (s b : State) (ws : List WField) : State :=
  let has (f : Fld) : Bool := ws.any fun w => w.f.key == f.key
  let block (n : Nat) : Bool := ws.any fun w => w.f.addr / 0x1000 = n
  let s := if has Reg.TEL_SNAP_REQ_req && (ws.any fun w => w.f == Reg.TEL_SNAP_REQ_req && w.v == 1) then
      s.askSnap (ws.any fun w => w.f == Reg.TEL_SNAP_REQ_copy && w.v == 1) else s
  let s := if has Reg.SYS_RUN_CFG_run_src then s.runEval else s
  let s := if has Reg.CLK_SYNC_synci_en && !s.bit Reg.CLK_SYNC_synci_en then s.syncOff b else s
  let s := if block 0x10 then (s.each (List.range 16) fun n t => t.countTines n).regroup else s
  let s :=
    if block 0x11 then
      (s.regroup).each (List.range 8) fun k t =>
        let t := if has (Reg.RAIL_CTRL_graze_en k) && !t.bit (Reg.RAIL_CTRL_graze_en k) && t.railState k = rON then t.addAll k else t
        if b.getF (Reg.RAIL_FSW_fsw k) != t.getF (Reg.RAIL_FSW_fsw k)
            || b.getF (Reg.RAIL_FSW_sync_mult k) != t.getF (Reg.RAIL_FSW_sync_mult k) then t.railStale k else t
    else s
  let s :=
    s.each (List.range 6) fun n t =>
      if has (Reg.LDO_VSET_vset n) && t.ldoState n = lON then t.updLdo n fun l => { l with target := t.getF (Reg.LDO_VSET_vset n) } else t
  let s :=
    if b.getF Reg.FE_VBUS_uv != s.getF Reg.FE_VBUS_uv && !s.bit Reg.FE_CTRL_direct_loop then
      s.setMany [(Reg.FE_LOOP_STAT_stale 0, 1), (Reg.FE_LOOP_STAT_stale 1, 1)]
    else s
  let s := if block 0x16 then (if ws.any fun w => w.f.addr = 0x16004 then s.updGauge fun g => { g with profileDue := true } else s).retarget else s
  let s := if has Reg.FE_CTRL_graze_en && !s.bit Reg.FE_CTRL_graze_en then s.feAddAll else s
  let s := if has Reg.CHG_CTRL_bal_en && !s.bit Reg.CHG_CTRL_bal_en then
      (s.setB Reg.CHG_STAT_balancing false).updChg fun c => { c with bleeding := [] } else s
  if block 0x18 then (s.remap b).pruneMons else s

/-- Applies covered fields: all but the enables in order, discards after what is staged with them, the commits of instances that do
not run, what the blocks make of it, and then the enables, those of ISO channels in ascending n (R76-R79, R243). -/
def State.applyAll (s : State) (acc : Accessor) (ws : List WField) : State :=
  let plain := ws.filter fun w => (outOfEnable w.f).isNone
  let atCommit (w : WField) : Bool := match instAt w.f.addr with | some i => w.f.addr = commitAddr i | none => false
  let t := (plain.filter (!atCommit ·) ++ plain.filter atCommit).foldl (fun t w => t.applyField acc w) s
  let insts := (ws.filterMap fun w => if w.i.acc = .buf || atCommit w then instAt w.f.addr else none).eraseDups
  let t := insts.foldl (fun t i => t.commitIdle i) t
  let t := t.afterWrite s ws
  let iso (n : Nat) (w : WField) : Bool := decide (outOfEnable w.f = some (.iso n))
  let en := ws.filter fun w => (outOfEnable w.f).isSome
  (en.filter (fun w => !(List.range 12).any fun n => iso n w) ++ (List.range 12).flatMap fun n => en.filter (iso n)).foldl
    State.applyEnable t

/-- Bases follow the writes of the ports and of commands (R457). -/
def State.applyBases (s : State) (ws : List WField) : State := ws.foldl (fun t w => t.baseWrite w.f w.v) s

/-- Clears bits of an accessor's REG_ERR copy (R73). -/
def State.clearErr (s : State) (acc : Accessor) (bits : Nat) : State :=
  s.updAcc acc fun x => { x with err := x.err &&& ~~~ BitVec.ofNat 16 bits }

/-- One register write by an accessor (R64-R66, R73). Answers whether anything of it was refused. -/
def State.busWrite (s : State) (acc : Accessor) (a mask data : Nat) : State × Bool :=
  if mask = 0 then (s, false)
  else if 0x40000 ≤ a then (s.refuse acc Reg.REG_ERR_wrong_op a, true)
  else if a = 0x34 then (s.clearErr acc (Nat.land mask data), false)
  else
    let ws := s.cover [(a, mask, data)]
    match s.writeRefusal acc a ws with
    | some f => (s.refuse acc f a, true)
    | none =>
      let t := s.applyAll acc ws
      let t := if acc = .host || acc = .side then t.applyBases ws else t
      (t, ws.any fun w => a = 0x2000 && (s.writeProd w.v).2 || a = 0x200C && (s.writeCons w.v).2)

/-- Consecutive register writes of a frame, in ascending order. -/
def State.busWrites (s : State) (acc : Accessor) : Nat → List (Nat × Nat) → State × Bool
  | _, [] => (s, false)
  | a, (m, d) :: r =>
    let p := s.busWrite acc a m d
    let q := p.1.busWrites acc (a + 4) r
    (q.1, p.2 || q.2)

end Sys2Proof.Machine
end

