-- ==== Sys2Proof/Machine/Mailbox.lean ====
section
/-!
DEFINITION. The mailboxes (R328-R335, R340, R349, R387-R389): taking posted entries, arbitration, the order of execution,
responses, and the wrapper every command row runs in.
-/

namespace Sys2Proof.Machine

/-- The mailbox takes and executes commands (R335). -/
def State.mbxRuns (s : State) : Bool :=
  s.romUp && s.bit Reg.MBX_STAT_ready && !s.bit Reg.MBX_STAT_paused && !s.bit Reg.SYS_STATE_ctl_lost

/-- A command that loses to another (R330, R340, R344). -/
def State.supersede (s : State) (c w : Taken) : State :=
  (s.count (match c.port with | .host => Reg.HOST_ARB_sup_host | .side => Reg.HOST_ARB_sup_sb)).respondAs c w.port sSUPERSEDED w.tag []

/-! Posted entries. -/

/-- The checks of the take (R332, R338, R369), none where they pass. -/
def State.takeCheck (s : State) (p : Port) (index : Nat) (d : List Byte) (c : Taken) : Option Nat :=
  if !descOk p index d then some sBAD
  else
    match cmdStates c.opcode with
    | none => some sUNKNOWN
    | some l =>
      let allowed := if s.st = stRECOVERY then !(p == .side && c.opcode == 0x0111) else c.leaseOk
      if !allowed then some sDENIED else if !l.contains s.st then some sNOT_NOW else none

/-- The descriptors a port has posted and the device has not taken: index, bytes and parsed command, in post order. -/
def State.posts (s : State) : Port → List (Nat × List Byte × Taken)
  | .host =>
    s.mbx.hostStamps.zipIdx.map fun x =>
      let i := (s.getF Reg.MBX_CMD_CONS_cons + x.2) % 64
      let d := memRead (0x40000 + 32 * i) 32 s.win
      (i, d, s.parse .host d x.1 0x7FFF)
  | .side => s.mbx.sidePosts.map fun x => (x.tag, x.desc, s.parse .side x.desc x.stamp (s.leases ||| x.auth))

/-- The posted commands of a port that would pass their take and have not lost an arbitration. -/
def State.waiting (s : State) (p : Port) : List Taken :=
  (((s.posts p).filter fun x => (s.takeCheck p x.1 x.2.1 x.2.2).isNone).map fun x => x.2.2).filter fun c =>
    !s.mbx.lost.any fun l => l.port == p && l.tag == c.tag

/-- Removes the oldest post of a port. -/
def State.dropPost (s : State) : Port → State
  | .host =>
    (s.setF Reg.MBX_CMD_CONS_cons (s.getF Reg.MBX_CMD_CONS_cons + 1)).updMbx fun m => { m with hostStamps := m.hostStamps.tail }
  | .side => s.updMbx fun m => { m with sidePosts := m.sidePosts.tail }

/-! Arbitration (R340). -/

/-- Whether c loses to r, and r to c, in one tick. -/
def State.pair (s : State) (c r : Taken) : Bool × Bool :=
  match c.port with
  | .host => s.contest c r
  | .side => let p := s.contest r c; (p.2, p.1)

/-- A rival that loses is answered, or marked where it has not been taken yet. -/
def State.beat (s : State) (c r : Taken) (taken : Bool) : State :=
  if taken then s.supersede r c
  else s.updMbx fun m => { m with lost := m.lost ++ [⟨r.port, r.tag, c.port, c.tag⟩] }

/-- Arbitrates a command that has passed its take against the other port's commands of its tick. -/
def State.arbitrate (s : State) (c : Taken) : State :=
  let o := otherPort c.port
  let tk := (s.mbx.taken.filter fun r => r.port == o && r.stamp == c.stamp && r.wait == .none).map fun r => (r, true)
  let ps := ((s.waiting o).filter fun r => r.stamp == c.stamp).map fun r => (r, false)
  let rivals := (tk ++ ps).map fun x => (x, s.pair c x.1)
  let t := (rivals.filter fun x => x.2.2).foldl (fun t x => t.beat c x.1.1 x.1.2) s
  match rivals.find? fun x => x.2.1 with
  | some x => t.supersede c x.1.1
  | none => t.updMbx fun m => { m with taken := m.taken ++ [c] }

/-- What becomes of a descriptor that has been taken: the answer of a failed check, SUPERSEDED, or arbitration. -/
def State.takeIn (s : State) (p : Port) (c : Taken) (check : Option Nat) : State :=
  match check with
  | some st => s.respond c st 0 []
  | none =>
    let t := if p == .host && c.opcode == 0x0111 then s.heartbeat else s
    match t.mbx.lost.find? fun l => l.port == p && l.tag == c.tag with
    | some l =>
      let t := t.updMbx fun m => { m with lost := m.lost.filter fun x => !(x.port == p && x.tag == c.tag) }
      t.supersede c { c with port := l.wport, tag := l.wtag }
    | none => t.arbitrate c

/-- COMMAND_TAKE (R332): the oldest posted entry of the port is taken and checked. -/
def execCommandTake (p : Port) (s : State) : Out State :=
  match (if s.mbxRuns then (s.posts p).head? else none) with
  | none => .next s
  | some (index, d, c0) =>
    let c := { c0 with tookAt := s.time }
    ((s.dropPost p).takeIn p c (s.takeCheck p index d c)).done

/-! Order of execution (R333, R340). -/

/-- Merges the two ports' commands of one tick: the head that moves toward safety if exactly one does, else the host's. -/
def mergeTick (safe : Taken → Bool) : Nat → List Taken → List Taken → List Taken
  | 0, h, d => h ++ d
  | _ + 1, [], d => d
  | _ + 1, h, [] => h
  | n + 1, a :: h, b :: d =>
    if safe b && !safe a then b :: mergeTick safe n (a :: h) d else a :: mergeTick safe n h (b :: d)

/-- The commands that precede c: earlier ones of its port, and those of the other port by stamp and, within a tick, by the
merge. -/
def State.before (s : State) (c : Taken) : List Taken :=
  let all := s.mbx.taken ++ s.waiting .host ++ s.waiting .side
  let tick := all.filter fun x => x.stamp == c.stamp
  let h := tick.filter fun x => x.port == .host
  let d := tick.filter fun x => x.port == .side
  (all.filter fun x => decide (x.stamp < c.stamp))
    ++ (mergeTick s.cmdSafe (h.length + d.length) h d).takeWhile fun x => !(x.port == c.port && x.tag == c.tag)

/-- A command waits for another that precedes it on a common resource. -/
def State.heldBack (s : State) (c : Taken) : Bool := (s.before c).any fun x => common x c

/-- Runs the command a row names, if it has been taken, its turn has come and its opcode is the row's. A command executes after the
tick of its post, so that all commands of one tick meet in arbitration first (R340). -/
def State.runCmd (s : State) (p : Port) (tag : BitVec 6) (mine : Nat → Bool) (f : State → Taken → State) : Out State :=
  match s.mbx.taken.find? fun x => x.port == p && x.tag == tag.toNat with
  | some c =>
    if s.mbxRuns && mine c.opcode && c.wait == .none && c.stamp < s.time && !s.heldBack c then (f s c).done else .next s
  | none => .next s

/-- The state precondition at execution (R347). -/
def State.admits (s : State) (c : Taken) : Bool := match cmdStates c.opcode with | some l => l.contains s.st | none => false

/-- A command without payload and response, after its checks: a list of (failed, status), the first failure deciding, and the
effect. -/
def State.guarded (s : State) (c : Taken) (checks : List (Bool × Nat)) (ok : State → State) : State :=
  match checks.find? fun x => x.1 with
  | some x => s.respond c x.2 0 []
  | none => ok s

/-- The length of the payload differs from the stated one. -/
def Taken.badLen (c : Taken) (n : Nat) : Bool := c.payload.length != n

/-- A byte range of the payload is not all zero. -/
def Taken.notZero (c : Taken) (o n : Nat) : Bool := !zeros c.payload o n

/-! READ, WRITE, ENABLE and DISABLE (R353-R355). -/

/-- READ (R353): all words in one cycle, without shadows; RC fields clear as by a read of the port. -/
def State.cmdRead (s : State) (c : Taken) : State :=
  let n := c.u 4 2
  let as_ := c.readAddrs
  let acc := portAcc c.port
  s.guarded c
    [(!s.admits c, sNOT_NOW),
     (c.badLen 8 || c.notZero 6 2 || n = 0 || c.u 0 4 % 4 != 0 || as_.any (fun a => !groupHas c.group a)
        || (if c.rptr then decide (6144 < n) else decide (10 < n)) || !c.fits (2 * n), sBAD)]
    fun t =>
      let data := as_.flatMap fun a => leBytes 2 (t.peek acc a)
      (as_.foldl (fun u a => u.readEffect acc a) t).respond c sOK 0 data

def execRead (p : Port) (tag : BitVec 6) (s : State) : Out State := s.runCmd p tag (fun op => op % 256 = 1) State.cmdRead

/-- The bits that a register or staging address has; a staging address that mirrors a register without BUF fields takes and
ignores every bit (R74). -/
def knownBits (a : Nat) : Nat :=
  let fs := fieldsAt (liveAddr a)
  if (stagingOf a).isSome && !fs.isEmpty && !(fs.any fun p => p.2.acc = .buf) then 0xFFFF
  else (fs.filter fun p => (stagingOf a).isNone || p.2.acc = .buf).foldl (fun m p => m + (2 ^ p.1.w - 1) * 2 ^ p.1.lo) 0

/-- The lowest entry among covered fields that fail a check. -/
def firstEntry (ws : List WField) (bad : WField → Bool) : Option Nat :=
  ((ws.filter bad).map (·.e)).foldl (fun m e => match m with | some x => some (min x e) | none => some e) none

/-- A ring index that R331 refuses. -/
def State.badIndex (s : State) (w : WField) : Bool :=
  w.f = Reg.MBX_CMD_PROD_prod && (s.writeProd w.v).2 || w.f = Reg.MBX_RESP_CONS_cons && (s.writeCons w.v).2

/-- Why a WRITE is refused: status and entry (R354). -/
def State.writeCheck (s : State) (c : Taken) (ws : List WField) : Option (Nat × Nat) :=
  let g := s.wouldHold ws
  let host := c.port == .host && s.directMode
  let pick (st : Nat) (o : Option Nat) : Option (Nat × Nat) := o.map fun e => (st, e)
  (pick sLIMIT (if s.latched then firstEntry ws WField.enables else none)).orElse fun _ =>
  (pick sNOT_NOW (if s.st = stSAFE then firstEntry ws fun w => w.enables && w.f.key != Reg.CHG_CTRL_en.key else none)).orElse fun _ =>
  (pick sBAD ((c.entries.zipIdx.find? fun x => x.1.1 % 4 != 0 || !groupHas c.group x.1.1
      || Nat.land x.1.2.1 (0xFFFF - Nat.land 0xFFFF (knownBits x.1.1)) != 0).map (·.2))).orElse fun _ =>
  (pick sBAD (firstEntry ws fun w => reservedEnc g w || outOfRange w || s.ruleBroken g w.f || s.badMap .control ws w.f || s.badIndex w)).orElse fun _ =>
  (pick sDENIED (firstEntry ws fun w => w.i.acc = .ro || w.i.acc = .rc || s.coeffClosed w.f || w.i.direct && !host)).orElse fun _ =>
  (pick sBUSY (firstEntry ws fun w => w.i.acc = .stop && !s.blockStopped w.f.addr)).orElse fun _ =>
  pick sLIMIT (firstEntry ws fun w => s.overCeiling g w.f)

/-- WRITE (R354, R348): every entry is checked before any is applied. -/
def State.cmdWrite (s : State) (c : Taken) : State :=
  let ws := s.cover c.entries
  if s.latched && (firstEntry ws WField.enables).isSome then s.respond c sLIMIT ((firstEntry ws WField.enables).getD 0) []
  else
    s.guarded c [(!s.admits c, sNOT_NOW), (c.payload.length = 0 || c.payload.length % 8 != 0, sBAD)] fun t =>
      match t.writeCheck c ws with
      | some (st, e) => t.respond c st e []
      | none =>
        let staged := ws.any fun w => w.i.acc = .buf
        let u := (ws.filter fun w => w.f.addr = 0x34).foldl (fun u w => u.clearErr (portAcc c.port) (w.v * 2 ^ w.f.lo)) t
        let rest := ws.filter fun w => w.f.addr != 0x34
        ((u.applyAll .control rest).applyBases rest).respond c sOK (if staged then 0x8000 else 0) []

def execWrite (p : Port) (tag : BitVec 6) (s : State) : Out State := s.runCmd p tag (fun op => op % 256 = 2) State.cmdWrite

/-- The mask of a group's instances (R350). -/
def groupMask (g : Nat) : Nat := (List.range 16).foldl (fun m i => if (enableOut g i).isSome then m + 2 ^ i else m) 0

/-- ENABLE and DISABLE (R355): the instances whose enable field changed. -/
def State.cmdEnable (s : State) (c : Taken) (v : Bool) : State :=
  let m := c.u 0 2
  s.guarded c
    [(v && s.latched, sLIMIT), (!s.admits c || v && s.st = stSAFE && c.group != 5, sNOT_NOW),
     (c.badLen 4 || c.notZero 2 2 || Nat.land m (groupMask c.group) != m || !c.fits 2, sBAD)]
    fun t =>
      let changed := (List.range 16).foldl (fun a i =>
        match (if bitOf m i then enableOut c.group i else none) with
        | some o => if t.bit o.field != v then a + 2 ^ i else a
        | none => a) 0
      ((maskOuts c.group m).foldl (fun u o => if v then u.enOn o else u.enOff o) t).respond c sOK 0 (leBytes 2 changed)

def execEnable (p : Port) (tag : BitVec 6) (s : State) : Out State :=
  s.runCmd p tag (fun op => op % 256 = 3) fun t c => t.cmdEnable c true

def execDisable (p : Port) (tag : BitVec 6) (s : State) : Out State :=
  s.runCmd p tag (fun op => op % 256 = 4) fun t c => t.cmdEnable c false

end Sys2Proof.Machine
end

