-- ==== Sys2Proof/Machine/Tel.lean ====
section
/-!
DEFINITION. Snapshots, their copies to MRAM and the stream ring (R308-R315).
-/

namespace Sys2Proof.Machine

/-! Copies (R312, R313). -/

/-- The kind 0x09 entry of a snapshot's outcome. -/
def State.snapLog (s : State) (code seq slot : Nat) : State := s.log 0x09 code (leBytes 4 seq ++ leBytes 1 slot)

/-- The slot a copy goes to: an invalid unlocked one first, else the unlocked one with the lowest seq. -/
def State.copyTarget (s : State) : Option Nat :=
  let free := (List.range 8).filter fun i => !bitOf (s.getF Reg.TEL_SLOT_CFG_lock) i
  match free.find? fun i => (s.slotSeq i).isNone with
  | some i => some i
  | none =>
    (free.foldl (fun (b : Option (Nat × Nat)) i =>
      let q := (s.slotSeq i).getD 0
      match b with
      | some (_, m) => if q < m then some (i, q) else b
      | none => some (i, q)) none).map (·.1)

/-- The highest slot seq in MRAM, 0 if none. -/
def State.topSlotSeq (s : State) : Nat := (List.range 8).foldl (fun m i => max m ((s.slotSeq i).getD 0)) 0

/-- The log entry with sequence number q, all 0 where it is not held. -/
def State.logEntry (s : State) (q : Nat) : List Byte :=
  let e := memRead (0x60000 + 32 * (q % 2048)) 32 s.win
  if q < s.logNext && leNat ((e.drop 8).take 4) = q then e else List.replicate 32 0

/-- The 4 KB of a slot but for its commit word (R313). -/
def State.slotBytes (s : State) (c : Copy) (slotSeq : Nat) : List Byte :=
  let first := c.logSeq + 1 - min 111 (c.logSeq + 1)
  let qs := List.range' first (c.logSeq + 1 - first)
  let held := (qs.filter fun q => leNat (((s.logEntry q).drop 0xC).take 1) != 0).length
  let body := padTo 512 (memRead (0x70000 + 0x200 * (c.seq % 16)) 512 s.win) ++ padTo 3552 (qs.flatMap s.logEntry)
    ++ leBytes 4 slotSeq ++ leBytes 2 held ++ leBytes 2 1
  body ++ leBytes 4 (crc32 body) ++ List.replicate 16 0

/-- Starts the copy c in slot i: the commit word is cleared first, and written at the copy's end. -/
def State.beginCopy (s : State) (c : Copy) (i : Nat) (rest : List Copy) : State :=
  let q := s.topSlotSeq + 1
  let b := mSNAP + 0x1000 * i
  ((s.mramWrite (b + 0xFFC) (leBytes 4 0)).mramWrite b (s.slotBytes c q)).updTel fun t =>
    { t with copies := { c with slot := some i } :: rest }

/-- Starts the next queued copy where none runs; with every slot locked a copy is skipped. -/
def State.nextCopy : Nat → State → State
  | 0, s => s
  | n + 1, s =>
    if s.sys.vkeepLow then s
    else
      match s.tel.copies with
      | [] => s
      | c :: rest =>
        if c.slot.isSome then s
        else
          match s.copyTarget with
          | some i => s.beginCopy c i rest
          | none =>
            State.nextCopy n (((s.updTel fun t => { t with copies := rest }).setB Reg.TEL_SNAP_EVT_skipped true).snapLog 3 c.seq 0)

/-- The running copy completes: its commit word is written, and the next one starts. -/
def State.endCopy (s : State) : State :=
  match s.tel.copies with
  | c :: rest =>
    match c.slot with
    | some i =>
      let b := mSNAP + 0x1000 * i
      let s := s.mramWrite (b + 0xFFC) (leBytes 4 (not32 (s.mramNat (b + 0xFE0) 4)))
      (((s.updTel fun t => { t with copies := rest }).snapLog 1 c.seq i)).nextCopy 17
    | none => s
  | [] => s

/-- VKEEP_LOW abandons the running copy (R313). -/
def State.abandonCopy (s : State) : State :=
  match s.tel.copies with
  | c :: rest =>
    match c.slot with
    | some i =>
      ((s.updTel fun t => { t with copies := rest, abandoned := [c] }).setB Reg.TEL_SNAP_EVT_abandoned true).snapLog 2 c.seq i
    | none => s
  | [] => s

/-- The snapshot with seq q still stands in the volatile ring. -/
def State.inRing (s : State) (q : Nat) : Bool :=
  s.snapEntry (q % 16) && leNat (memRead (0x70000 + 0x200 * (q % 16)) 4 s.win) == q

/-- When VKEEP_LOW releases, an abandoned copy starts again in its slot, if its snapshot is still in the ring; waiting copies
follow (R313). -/
def State.resumeCopy (s : State) : State :=
  let rest := s.tel.copies
  let a := s.tel.abandoned
  let s := s.updTel fun t => { t with abandoned := [] }
  match a with
  | c :: _ => if s.inRing c.seq then s.beginCopy { c with slot := none } (c.slot.getD 0) rest else s.nextCopy 17
  | [] => s.nextCopy 17

/-- SNAPSHOT_COPY_DONE (R312). -/
def execSnapshotCopyDone (s : State) : Out State := if s.live then s.endCopy.done else .next s

/-! Taking a snapshot (R308-R311). -/

/-- Queued copies whose snapshot is overwritten in the ring are lost (R312). -/
def State.loseCopies (s : State) (seq : Nat) : State :=
  let gone := s.tel.copies.filter fun c => c.slot.isNone && decide (c.seq + 16 ≤ seq)
  let s := s.updTel fun t => { t with copies := t.copies.filter fun c => !(c.slot.isNone && decide (c.seq + 16 ≤ seq)) }
  gone.foldl (fun t c => (t.setB Reg.TEL_SNAP_EVT_lost true).snapLog 4 c.seq 0) s

/-- The 512 bytes of a snapshot; its commit word stands in them. -/
def snapBytes (seq trigger start : Nat) (words : List Byte) (chan : List Word) : List Byte :=
  let head := padTo 0xF8 (leBytes 4 seq ++ leBytes 2 1 ++ leBytes 2 trigger ++ leBytes 8 start ++ words)
  let tail := padTo 256 (chan.flatMap fun v => leBytes 2 v.toNat)
  head ++ leBytes 4 (crc32 (head ++ tail)) ++ leBytes 4 (not32 seq) ++ tail

/-- The snapshot stands in the ring: its entry, the answers that wait for it, and its copy. -/
def State.putSnap (s : State) (r : SnapReq) (chan : List Word) : State :=
  let q := s.tel.snapSeq
  let words := match r.words with | some w => w | none => s.snapWords
  let last := if r.trigger = 0x8000 then s.logNext - 1 else r.logSeq
  let t := s.loseCopies q
  let t := { t with win := memWrite (0x70000 + 0x200 * (q % 16)) (snapBytes q r.trigger (s.time - 12) words chan) t.win }
  let t := (t.updTel fun x => { x with snap := none, snapSeq := q + 1 }).snapLog 0 q 0
  let t := t.answer .inRound fun c u => u.respond c sOK 0 (leBytes 4 q ++ leBytes 1 (q % 16) ++ [0, 0, 0])
  if r.copy then (t.updTel fun x => { x with copies := x.copies ++ [⟨q, last, none⟩] }).nextCopy 17 else t

/-- Requests pass to the round that starts now. -/
def State.startRound (s : State) : State :=
  let t := s.updMbx fun m => { m with taken := m.taken.map fun c => if c.wait == .snapshot then { c with wait := .inRound } else c }
  match t.tel.req with
  | some cp => (t.updTel fun x => { x with req := none }).wantSnap 0x8000 cp
  | none => t

/-- Takes the round's snapshot, if one is wanted, at the end of a round with these channel values. -/
def State.takeSnap (s : State) (chan : List Word) : State :=
  (match s.tel.snap with | some r => s.putSnap r chan | none => s).startRound

/-! Streaming (R314, R315). -/

/-- One round's values join the record being formed. -/
def State.streamRound (s : State) (chan : List Word) : State :=
  if s.bit Reg.TEL_STR_CTRL_en then
    let mine := s.strChans.map fun c => chan.getD c 0x8000
    s.updTel fun t =>
      if t.strRounds.isEmpty || s.getF Reg.TEL_STR_DEC_dec ≤ t.strRounds.length then
        { t with strStart := s.time - 12, strRounds := [mine] }
      else { t with strRounds := t.strRounds ++ [mine] }
  else s

/-- The value of one channel over the rounds of a record; some rounds valid and some not leave it open (log entry 3). -/
def streamValue (mode free : Nat) (vs : List Word) : Word :=
  let ints := vs.map fun v => signed 16 v.toNat
  if vs.any (· == 0x8000) then (if vs.all (· == 0x8000) then 0x8000 else Config.freshWord free)
  else
    match mode with
    | 1 => BitVec.ofInt 16 (ints.foldl min (ints.headD 0))
    | 2 => BitVec.ofInt 16 (ints.foldl max (ints.headD 0))
    | _ => BitVec.ofInt 16 (roundQ ((ints.foldl (· + ·) 0 : Int) / (vs.length : Rat)))

/-- STREAM_RECORD (R314, R315): the record is written, or dropped where it does not fit. -/
def execStreamRecord (s : State) : Out State :=
  if s.bit Reg.TEL_STR_CTRL_en && s.tel.strRounds.length = s.getF Reg.TEL_STR_DEC_dec && s.romUp then
    let n := (s.tel.strRounds.headD []).length
    let vals := (List.range n).map fun j => streamValue (s.getF Reg.TEL_STR_DEC_mode) (s.free + j) (s.tel.strRounds.map fun r => r.getD j 0)
    let len := s.recLen
    let rec_ := padTo len (leBytes 8 s.tel.strStart ++ vals.flatMap fun v => leBytes 2 v.toNat)
    let off := s.getF Reg.TEL_STR_PROD_off
    let tail := if 32768 < off + len then 32768 - off else 0
    let t := { s.updTel fun t => { t with strRounds := [] } with free := s.free + n }
    if 32768 - s.strFilled < tail + len then (t.count Reg.TEL_STR_STAT_ovf).done
    else
      let start := if 0 < tail then 0 else off
      let t := { t with win := memWrite (0x48000 + start) rec_ (memWrite (0x48000 + off) (List.replicate tail 0xFF) t.win) }
      let t := if 32768 ≤ off + tail + len then t.setF Reg.TEL_STR_PROD_wrap (1 - t.getF Reg.TEL_STR_PROD_wrap) else t
      let t := t.setF Reg.TEL_STR_PROD_off ((start + len) % 32768)
      (if !s.strReached && t.strReached then t.setB Reg.HOST_INT_STAT_tel true else t).done
  else .next s

end Sys2Proof.Machine
end

