-- ==== Sys2Proof/Machine/Sleep.lean ====
section
/-!
DEFINITION. Sleep, FAWN, wake and ship mode (R94-R99).
-/

namespace Sys2Proof.Machine

/-! Sleep requests (R94, R95). -/

/-- Every output off, whatever its enable, phases of high impedance (R56, R57, R84, R92, R95); ISO channels and the front end are in OFF
in FAWN and BOOT, locked off before or not (R165, R242). -/
def State.outputsOff (s : State) : State :=
  let s := s.each (List.range 8) fun k t =>
    ((if t.railState k = rLOCKED then t else t.railToOff k).setB (Reg.RAIL_DYN_ovclamp k) false).updRail k fun r =>
      { r with discharge := false }
  let s := s.each (List.range 6) fun n t => if t.ldoState n = lLOCKED then t else t.ldoToOff n
  let s := s.each (List.range 12) fun n t => if t.isoState n = iOFF then t else t.setIsoState n iOFF
  if s.feState = feOFF then s else (s.updFe fun f => { f with lockBits := [] }).setFe feOFF

/-- VBUS stands inside its window (R183). -/
def State.vbusIn (s : State) : Bool :=
  decide ((100 * s.getF Reg.PATH_VBUS_LO_lo : Nat) ≤ s.mv2 35) && decide (s.mv2 35 ≤ (100 * s.getF Reg.PATH_VBUS_HI_hi : Nat))

/-- Turns off an early output with its discharge forced (R95, step 3). -/
def State.earlyOff (s : State) (d : Nat) : State :=
  match s.earlyOut d with
  | some (.rail k) => (s.enOff (.rail k)).updRail k fun r => { r with discharge := true, forced := true }
  | some (.ldo n) => (s.enOff (.ldo n)).updLdo n fun l => { l with discharge := true, forced := true }
  | some o => s.enOff o
  | none => s

/-- Steps 1 to 3 of the FAWN entry sequence (R95); ship mode treats isw_hold as 0 (R99). -/
def State.startSleep (s : State) (ship : Bool) : State :=
  let hold := !ship && s.bit Reg.SYS_SLEEP_CFG_isw_hold && s.vbusIn && s.bit Reg.PATH_STAT_isw_closed
  let ds := s.earlyDefs.reverse
  let s := s.updSys fun y => { y with sleep := some ⟨ship, ds.map (Fin.ofNat 4), none⟩, ship := if ship then .requested else y.ship }
  let s := s.setChgPhase gOFF
  let s := if s.feIn [feOFF, feLOCKED] then s else s.setFe feOFF
  let s := if hold then s.updPath fun p => { p with held := true } else s.pathOff 0x20
  (s.each ds fun d t => t.earlyOff d).batfet

/-- The update engine is idle. -/
def State.updIdle (s : State) : Bool := s.getF Reg.UPD_STAT_state = 0

/-- An enabled level wake source whose level the model knows is asserted; the table has no row for a release of the WAKE pin,
so after its assertion its level is open (log entry 15). -/
def State.wakeHeld (s : State) : Bool :=
  s.bit Reg.SYS_WAKE_EN_en_run && s.sys.wakeEnRun || s.bit Reg.SYS_WAKE_EN_vbus && s.sys.wakeVbus
    || s.bit Reg.SYS_WAKE_EN_wake && s.sys.wakePin && Config.freshNat s.free % 2 == 1

/-- The request of SYS.SLEEP is refused (R94). A DOWN table that still runs in STANDBY does not refuse it (DESIGN CHOICE, log entry 45). -/
def State.sleepRefused (s : State) : Bool := s.st != stSTANDBY || !s.updIdle || s.wakeHeld

/-- IDLE_TIMER_EXPIRY (R94): all conditions of the idle timer have held for t_idle, so the WAKE pin is released. -/
def execIdleTimerExpiry (s : State) : Out State :=
  let t := s.updSys fun y => { y with wakePin := false }
  if s.bit Reg.SYS_SLEEP_CFG_auto_sleep && s.st = stSTANDBY && s.romUp && !s.bit Reg.SYS_RUN_STAT_run_req && !t.wakeHeld
      && s.mbx.taken.isEmpty && s.mbx.hostStamps.isEmpty && s.mbx.sidePosts.isEmpty && s.updIdle
      && !s.chgIn [gPRE, gCC, gCV, gTOPOFF] && s.sys.sleep.isNone then
    (t.startSleep false).done
  else .next s

/-- EARLY_RAIL_DISCHARGE_TIMEOUT (R95, step 3): SEQ at L1, and the sequence goes on. -/
def execEarlyRailDischargeTimeout (d : Fin 4) (s : State) : Out State :=
  match s.sys.sleep with
  | some p =>
    if p.discharging.contains d then
      ((s.updSys fun y => { y with sleep := some { p with discharging := p.discharging.filter (· != d) } }).raise
        { cls := cSEQ, src := d.val, lvl := 1 }).done
    else .next s
  | none => .next s

/-- All copies, the running one first. -/
def State.endCopies : Nat → State → State
  | 0, s => s
  | n + 1, s => if s.tel.copies.any fun c => c.slot.isSome then State.endCopies n s.endCopy else s

/-- Registers that fall with the fast clocks (R337, R342, R369). -/
def fawnFields : List (Fld × Nat) :=
  [(Reg.SYS_STATE_host_lost, 0), (Reg.HOST_STAT_direct, 0), (Reg.MBX_STAT_ready, 0), (Reg.SYS_WAKE_SRC_isw_open, 0),
   (Reg.SYS_WAKE_SRC_sideband, 0), (Reg.SYS_WAKE_SRC_gauge, 0), (Reg.SYS_WAKE_SRC_timer, 0), (Reg.SYS_WAKE_SRC_vbus, 0),
   (Reg.SYS_WAKE_SRC_en_run, 0), (Reg.SYS_WAKE_SRC_wake, 0)]

/-- C/100 in 0.1 mA: the rest threshold (R221). -/
def State.restThreshold (s : State) : Nat := (roundQ (s.gauge.learned.qFull / 10)).toNat

/-- Steps 4 to 6 of the FAWN entry sequence (R95). -/
def State.enterFawn (s : State) (ship : Bool) : State :=
  let s := if s.sys.gaugeAlive then s.saveNow 6 else s.updGauge fun g => { g with failDue := true }
  let s := ((State.endCopies 17 s).log 0x07 0 []).abandon (List.range 16)
  let s := s.outputsOff.setMany fawnFields
  let s := s.updGauge fun g => { g with fawnThr := s.restThreshold, intMax := 0, secSum := 0, secN := 0 }
  let s := s.updSys fun y =>
    { y with sleep := none, ship := if ship then .latched else y.ship, fawnSince := s.time, fawnQ0 := s.chargeQ, fawnQ := 0, hbDue := none,
             ctlAlive := false, gaugeAlive := false }
  (s.setState stFAWN).batfet

/-- FAWN_ENTRY_COMPLETE (R95, R99). -/
def execFawnEntryComplete (s : State) : Out State :=
  match s.sys.sleep with
  | some p => (s.enterFawn p.ship).done
  | none => .next s

/-! Wake (R97). -/

/-- Latches every source whose condition holds now. -/
def State.latchSources (s : State) : State :=
  let on (c : Bool) (f : Fld) (t : State) : State := if c then t.setB f true else t
  let dq := s.getF Reg.SYS_WAKE_DQ_dq
  let period := s.getF Reg.SYS_WAKE_TIMER_period
  (on (s.sys.wakePin && s.bit Reg.SYS_WAKE_EN_wake) Reg.SYS_WAKE_SRC_wake
    (on (s.sys.wakeEnRun && s.bit Reg.SYS_WAKE_EN_en_run) Reg.SYS_WAKE_SRC_en_run
      (on (s.sys.wakeVbus && s.bit Reg.SYS_WAKE_EN_vbus) Reg.SYS_WAKE_SRC_vbus
        (on (period != 0 && decide (period * 10000000 ≤ s.time - s.sys.fawnSince)) Reg.SYS_WAKE_SRC_timer
          (on (dq != 0 && decide ((dq : Int) * 3600000 < -s.sys.fawnQ)) Reg.SYS_WAKE_SRC_gauge s)))))

/-- A wake event starts a wake boot (R86, R97); the time asleep is taken along (R220). -/
def State.wakeUp (s : State) (src : Fld) : State :=
  let s := (s.setB src true).latchSources
  let s := s.updGauge fun g => { g with fawnUs := s.time - s.sys.fawnSince }
  s.boot .wake []

/-- The device sleeps and recognises wake sources: the ship latch is clear (R99). -/
def State.asleep (s : State) : Bool := s.live && s.st = stFAWN && s.sys.ship == .off

/-- The PATH log's bit for an opening cause (R307). -/
def openingBit : IswCause → Nat
  | .overVoltage => 1
  | .underVoltage => 2
  | .reverseCurrent => 4
  | .reversePolarity => 8

/-- A cause of R173 is noted as present; reverse current is no lasting one. -/
def State.noteOpening (s : State) (c : IswCause) : State :=
  if c = .reverseCurrent || s.path.opening.contains c then s else s.updPath fun p => { p with opening := p.opening ++ [c] }

/-- The held ISW opens in FAWN: no fault, an entry of kind 0x06, and a wake event (R96, R307). -/
def State.fawnOpening (s : State) (c : IswCause) : State :=
  let t := s.noteOpening c
  if t.path.held then
    let t := ((t.setB Reg.PATH_STAT_isw_closed false).updPath fun p => { p with held := false }).pathLog (openingBit c)
    if t.asleep then t.wakeUp Reg.SYS_WAKE_SRC_isw_open else t
  else t

/-- WAKE_EVENT (R96, R97). -/
def execWakeEvent (w : WakeSource) (s : State) : Out State :=
  if s.asleep then
    match w with
    | .wake =>
      if s.bit Reg.SYS_WAKE_EN_wake then ((s.updSys fun y => { y with wakePin := true }).wakeUp Reg.SYS_WAKE_SRC_wake).done else .next s
    | .enRun =>
      if s.bit Reg.SYS_WAKE_EN_en_run then
        ((s.updSys fun y => { y with wakeEnRun := true, pinReq := true }).wakeUp Reg.SYS_WAKE_SRC_en_run).done
      else .next s
    | .vbus =>
      if s.bit Reg.SYS_WAKE_EN_vbus then ((s.updSys fun y => { y with wakeVbus := true }).wakeUp Reg.SYS_WAKE_SRC_vbus).done else .next s
    | .sideband => (s.wakeUp Reg.SYS_WAKE_SRC_sideband).done
    | .iswOpen c => (s.fawnOpening c).done
    | .gaugeCharge => if s.getF Reg.SYS_WAKE_DQ_dq != 0 then (s.wakeUp Reg.SYS_WAKE_SRC_gauge).done else .next s
  else .next s

/-- WAKE_TIMER_EXPIRY (R97): in FAWN a wake event; in the wake boot before STANDBY the source is latched. -/
def execWakeTimerExpiry (s : State) : Out State :=
  if s.getF Reg.SYS_WAKE_TIMER_period = 0 then .next s
  else if s.asleep then (s.wakeUp Reg.SYS_WAKE_SRC_timer).done
  else (s.wakeLatch Reg.SYS_WAKE_SRC_timer).done

/-- WAKE_SOURCE_ASSERTED (R95, R97): a source becomes true outside FAWN. The charge since FAWN entry is none before FAWN; an opening
of the held ISW during a FAWN entry abandons it. -/
def execWakeSourceAsserted (w : WakeSource) (s : State) : Out State :=
  if s.live && s.st != stFAWN then
    match w with
    | .wake => ((s.updSys fun y => { y with wakePin := true }).wakeSeen (s.bit Reg.SYS_WAKE_EN_wake) Reg.SYS_WAKE_SRC_wake).done
    | .enRun => ((s.updSys fun y => { y with wakeEnRun := true }).wakeSeen (s.bit Reg.SYS_WAKE_EN_en_run) Reg.SYS_WAKE_SRC_en_run).done
    | .vbus => ((s.updSys fun y => { y with wakeVbus := true }).wakeSeen (s.bit Reg.SYS_WAKE_EN_vbus) Reg.SYS_WAKE_SRC_vbus).done
    | .sideband => (s.wakeSeen true Reg.SYS_WAKE_SRC_sideband).done
    | .gaugeCharge => (if s.getF Reg.SYS_WAKE_DQ_dq != 0 then s.wakeLatch Reg.SYS_WAKE_SRC_gauge else s).done
    | .iswOpen _ => (if s.path.held then s.abandonSleep else s).done
  else .next s

/-! Ship mode (R99). -/

/-- SHIP_LATCH_ARM. -/
def execShipLatchArm (s : State) : Out State :=
  if s.sys.ship = .latched then .next (s.updSys fun y => { y with ship := .armed }) else .next s

/-- SHIP_LATCH_RELEASE: a reset boot follows where VKEEP had not been lost. -/
def execShipLatchRelease (s : State) : Out State :=
  if s.sys.ship = .armed then
    let t := s.updSys fun y => { y with ship := .off }
    if s.sys.vkeep then (t.boot .reset []).done else .next t
  else .next s

end Sys2Proof.Machine
end

