-- ==== Sys2Proof/Machine/Store.lean ====
section
/-!
DEFINITION. The persistent configuration store (R358): what `SYS.SAVE` saves of each resource, and what firmware restores at
BOOT (R93, R411).
-/

namespace Sys2Proof.Machine

/-- The addresses of a block's registers. -/
def regAddrs (base : Nat) (l : List RegInfo) : List Nat :=
  l.flatMap fun r => (List.range r.count).map fun i => base + r.off + r.stride * i

/-- The addresses of n instances of a block. -/
def instAddrs (base stride n : Nat) (l : List RegInfo) : List Nat := (List.range n).flatMap fun i => regAddrs (base + stride * i) l

/-- The registers of the blocks of a lease resource (R338, R358). -/
def storeAddrs (r : Nat) : List Nat :=
  match r with
  | 0 => instAddrs 0x10000 0x100 16 RegMap.phaseRegs ++ instAddrs 0x11000 0x100 8 RegMap.railRegs
  | 1 => instAddrs 0x19000 0x10 6 RegMap.ldoRegs
  | 2 => instAddrs 0x18000 0x80 12 RegMap.isoRegs
  | 3 => regAddrs 0x14000 RegMap.feRegs
  | 4 => regAddrs 0x15000 RegMap.pathRegs
  | 5 => regAddrs 0x16000 RegMap.chgRegs
  | 6 => regAddrs 0x17000 RegMap.gaugeRegs
  | 7 => regAddrs 0x4000 RegMap.seqRegs
  | 8 => instAddrs 0x1A000 0x20 28 RegMap.monChRegs ++ instAddrs 0x1A400 0x10 8 RegMap.monPgRegs ++ regAddrs 0x1A7FC RegMap.monBlkRegs
  | 9 => regAddrs 0x3000 RegMap.fltRegs
  | 10 => regAddrs 0x5000 RegMap.telRegs ++ regAddrs 0x6000 RegMap.logRegs
  | 13 => regAddrs 0x9000 RegMap.ageRegs
  | 14 => regAddrs 0x0 RegMap.sysRegs ++ regAddrs 0x1000 RegMap.clkRegs
  | _ => []

/-- The RW, BUF and STOP fields of a resource. -/
def storeFields (r : Nat) : List (Fld × FieldInfo) :=
  (storeAddrs r).flatMap fun a => (fieldsAt a).filter fun p => p.2.acc = .rw || p.2.acc = .buf || p.2.acc = .stop

/-- Enable fields that are always stored as 0: all but those of the charger and the path. -/
def storedOff (f : Fld) : Bool := enableField f && f.key != Reg.CHG_CTRL_en.key && f.key != Reg.PATH_CTRL_isw_en.key

/-- The record of a resource with its live values. -/
def State.storeRecord (s : State) (r : Nat) : List (Fld × Nat) :=
  (storeFields r).map fun p => (p.1, if storedOff p.1 then 0 else s.getF p.1)

/-- A register of the AON domain, restored at a cold boot only (R93, R358). -/
def aonReg (a : Nat) : Bool :=
  decide (0x40 ≤ a) && decide (a < 0x68) || a = 0x3004 || decide (0x1A400 ≤ a) && decide (a < 0x1A480) || a = 0x9000 || a = 0x9014

/-- A field of an output that an early definition started which firmware leaves untouched: enables, STOP fields, and the
coefficients of EARLY (R411). -/
def State.earlyOwns (s : State) (f : Fld) (stop : Bool) : Bool :=
  s.sys.earlyUp.any fun d =>
    match s.earlyOut d with
    | some (.rail k) =>
      f.addr / 0x100 = 0x110 + k && (stop || enableField f || decide (0x2C ≤ f.addr % 0x100) && decide (f.addr % 0x100 ≤ 0x38))
        || stop && f.addr / 0x1000 = 0x10 && (s.phasesOf k).contains (f.addr / 0x100 % 16)
    | some (.ldo n) => f.addr / 0x10 = 0x1900 + n && (stop || enableField f)
    | some (.iso n) => f.addr / 0x80 = 0x18000 / 0x80 + n && (stop || enableField f)
    | _ => false

/-- The stored map of a phase is refused where it names a retired tine (R104). -/
def State.mapStale (s : State) (l : List (Fld × Nat)) (f : Fld) : Bool :=
  if 0x10000 ≤ f.addr && f.addr < 0x11000 && decide (4 ≤ f.addr % 0x100) && decide (f.addr % 0x100 ≤ 0xC) then
    let n := (f.addr - 0x10000) / 0x100
    [0, 1, 2].any fun j => l.any fun p =>
      p.1.addr == (Reg.POL_PH_TMAP_map n j).addr && Nat.land p.2 (s.getF (Reg.POL_PH_TRET_retired n j)) != 0
  else false

/-- What firmware writes back at BOOT: every stored field but those it leaves untouched or that are refused. -/
def State.restoring (s : State) (cold : Bool) : List (Fld × FieldInfo × Nat) :=
  let all := s.nv.store.flatMap fun r => r.2
  let g (f : Fld) : Nat := ((all.find? fun p => p.1.key == f.key).map (·.2)).getD (s.getF f)
  (all.filterMap fun p => ((fieldsAt p.1.addr).find? fun q => q.1.key == p.1.key).map fun q => (p.1, q.2, p.2)).filter fun p =>
    (cold || !aonReg p.1.addr) && !s.earlyOwns p.1 (p.2.1.acc = .stop) && !s.mapStale all p.1 && !s.overCeiling g p.1

/-- Firmware restores the store (R93, R358): CHG_CFG.chem first, so that stored values overwrite the defaults it loads; BUF
fields through their staging copies. -/
def State.restore (s : State) (cold : Bool) : State :=
  let l := s.restoring cold
  let t := match l.find? fun p => p.1 == Reg.CHG_CFG_chem with | some p => s.writeChem p.2.2 | none => s
  let hold (f : Fld) : Bool := allInstances.any fun i => f.addr == commitAddr i
  let t := t.setMany ((l.filter fun p => p.2.1.acc != .buf && !hold p.1 && p.1 != Reg.FLT_PIN_drive).map fun p => (p.1, p.2.2))
  let t := (l.filter fun p => p.2.1.acc = .buf).foldl (fun u p => match instAt p.1.addr with | some i => u.stage i p.1 p.2.2 | none => u) t
  let t := allInstances.foldl (fun u i => u.commit i) t
  let t := t.setMany ((l.filter fun p => hold p.1).map fun p => (p.1, p.2.2))
  let t := match l.find? fun p => p.1 == Reg.FLT_PIN_drive with | some p => t.writeDrive p.2.2 | none => t
  ((((t.each (List.range 16) fun n u => u.countTines n).regroup).retarget).pruneMons).tryClose

end Sys2Proof.Machine
end

