-- ==== Sys2Proof/WellFormed.lean ====
section
/-!
DEFINITION. Which commands the outside can send at all: operand lists have the lengths that a scan round, a frame, a
descriptor or a transaction carries. A meaning whose operands fail its check answers the fault `illFormed`.
-/

namespace Sys2Proof

/-- The boot read names physical words below 1024 and rows of the eight banks (R404, R448). -/
def FuseRead.wf (r : FuseRead) : Bool := r.bad.all (decide <| · < 1024) && r.sram.all fun x => decide (x.1 < 8) && decide (x.2 < 512)

/-- Seven domains and five PLLs (R39). -/
def ClkWindow.wf (m : ClkWindow) : Bool := decide (m.dev.length = 7) && decide (m.lock.length = 5)

/-- 128 channels, 16 phases, four dies of four sensors (R149, R302). -/
def ScanRound.wf (r : ScanRound) : Bool :=
  decide (r.chan.length = 128) && decide (r.ipk.length = 16) && decide (r.sensors.length = 4)
    && r.sensors.all fun l => decide (l.length = 4)

/-- Five rings, four dies, eight rails (R452, R455). -/
def PlanInput.wf (x : PlanInput) : Bool :=
  decide (x.ring.length = 5) && decide (x.hot.length = 4) && decide (x.theta.length = 8) && decide (x.peak.length = 8)

/-- The op of a frame's header (R321). -/
def frameOp (head : BitVec 32) : Nat := head.toNat / 2 ^ 28

/-- The op is none of the six that have a row. -/
def frameReserved (op : BitVec 4) : Bool := op = 0 || decide (7 ≤ op.toNat)

/-- Every operand list of a command has the length the wire or the converter gives it, and a frame's header names the row's op; a
frame of a reserved op comes as REG_RD, whose layout answers it (R325). -/
def Instr.wellFormed : Instr → Bool
  | .fuseReadComplete r => r.wf
  | .status f => frameOp f.head = 1
  | .regRd op _ _ _ => op = 2 || frameReserved op
  | .regWr op _ _ _ _ => op = 3
  | .memRd op _ _ _ => op = 4
  | .memWr op _ _ _ _ => op = 5
  | .doorbell head _ _ => frameOp head = 6
  | .clkMonitorWindow m => m.wf
  | .scanRoundEnd r => r.wf
  | .insertionFirstEstimate cells _ => decide (cells.length = 4)
  | .planRun x => x.wf
  | .tineTestDone _ readings => readings.all fun x => decide (x.tine < 36)
  | .otpReread bad => bad.all (decide <| · < 1024)
  | .otpRereadRetry bad => bad.all (decide <| · < 1024)
  | .forwardResponseReceived _ _ entry _ _ => decide (entry.length = 32)
  | _ => true

end Sys2Proof
end

