-- ==== Sys2Proof/Machine/Start.lean ====
section
/-!
DEFINITION. Supply, reset and BOOT (R41, R42, R54, R57, R86, R91-R93, R407-R411): the rows that power the device, hold it,
read its fuses, start its early outputs and bring it to STANDBY, RECOVERY or the dead hold.
-/

namespace Sys2Proof.Machine

/-! Supply (R41, R42). -/

/-- VKEEP_VALID (R41, R86): device time starts at 0 and a power-up boot begins. -/
def execVkeepValid (s : State) : Out State := if s.sys.vkeep then .next s else s.powerUp.done

/-- A learned-record write is abandoned (R36, R232): its bank stays invalid, the commands that wait for it are answered. -/
def State.abandonSave (s : State) : State :=
  if s.gauge.writing.isSome then
    let t := (s.updGauge fun g => { g with writing := none, waiting := none }).setMany
      [(Reg.GAUGE_STORE_pending, 0), (Reg.GAUGE_EVT_save_fail, 1)]
    let deny (c : Taken) (u : State) : State := u.respond c sNOT_NOW 0 []
    ((t.answer .gaugeSave deny).answer .gaugeNext deny).storeStat
  else s

/-- VKEEP_LOW_ASSERT (R36, R42, R313): the entry, and the record writes in progress are abandoned. -/
def execVkeepLowAssert (mv : Word) (s : State) : Out State :=
  if s.sys.vkeep && !s.sys.vkeepLow then
    let t := s.updSys fun y => { y with vkeepLow := true }
    (if t.live then ((t.log 0x05 1 (leBytes 2 mv.toNat)).abandonSave).abandonCopy else t).done
  else .next s

/-- VKEEP_LOW_RELEASE (R41, R313). -/
def execVkeepLowRelease (mv : Word) (s : State) : Out State :=
  if s.sys.vkeep && s.sys.vkeepLow then
    let t := s.updSys fun y => { y with vkeepLow := false }
    (if t.live then ((t.log 0x05 0 (leBytes 2 mv.toNat)).resumeCopy).flushPlan else t).done
  else .next s

/-- VKEEP_LOST (R41, R86): OFF. The non-volatile memories and the ship latch, which BATS supplies, remain. -/
def execVkeepLost (s : State) : Out State :=
  if s.sys.vkeep then
    .next (s.powerUp.updSys fun y => { y with vkeep := false, ship := if s.sys.ship = .requested then .off else s.sys.ship })
  else .next s

/-! RESET_N (R57, R86). -/

/-- Every output stops at once, without any sequence; ISW opens (R57). -/
def State.allStop (s : State) : State := (((s.outputsOff.setChgPhase gOFF).pathOff 0x20).updPath fun p => { p with held := false }).batfet

/-- RESET_N_RECOGNISED: outputs stop, a running table and a FAWN entry with them; FLT_PIN is reset (R297), and FAULT_N with it outside the
fuse-integrity hold, which stays as it is. HSDO and SBDA are released (R56). -/
def execResetNRecognised (s : State) : Out State :=
  if s.sys.vkeep && !s.sys.resetHeld then
    let t := s.updSys fun y => { y with resetHeld := true, sleep := none, herd := none,
                                        ship := if y.ship = .requested then .off else y.ship }
    let t := (t.setMany [(Reg.FLT_PIN_drive, 0), (Reg.FLT_PIN_pulse, 0)]).updFlt fun f => { f with releaseHeld := false }
    if s.sys.fuseHold then .next t
    else
      let u := (t.setMany [(Reg.FLT_PIN_pin, 0), (Reg.SEQ_STAT_table, 0), (Reg.SEQ_STAT_phase, 0), (Reg.SEQ_STAT_step, 0)]).updSeq fun q =>
        { q with ended := false }
      .next { u.allStop with spiOut := [], sbOut := [] }
  else .next s

/-- RESET_N_RELEASE: a reset boot; after a hold the fuse read runs again (R57, R409). -/
def execResetNRelease (s : State) : Out State :=
  if s.sys.vkeep && s.sys.resetHeld then
    let t := s.updSys fun y => { y with heldBefore := y.fuseHold || y.heldBefore }
    (t.boot .reset [Reg.SYS_RESET_CAUSE_reset_n]).done
  else .next s

/-! The ROM's first work. -/

/-- The strap index of a voltage (R54). -/
def strapOf (mv : Nat) : Nat :=
  match (List.range 16).find? fun i => decide (120 * i ≤ mv + 60) && decide (mv ≤ 120 * i + 60) with
  | some i => i
  | none => Config.strapIndex mv % 16

/-- ADDR_STRAP_READ (R54, R376): once after every VKEEP valid, whatever else BOOT does meanwhile. -/
def execAddrStrapRead (mv : Nat) (s : State) : Out State :=
  if s.sys.vkeep && s.sys.strap.isNone then
    .next ((s.updSys fun y => { y with strap := some (strapOf mv) }).setMany [(Reg.SB_ADDR_index, strapOf mv), (Reg.SB_ADDR_src, 0)])
  else .next s

/-- The first physical word of a region (R404). -/
def regionBase (r : Nat) : Nat :=
  match r with
  | 0 => 0 | 1 => 128 | 2 => 160 | 3 => 288 | 4 => 416 | 5 => 480 | 6 => 736 | _ => 992

/-- A logical word has a physical word in a list of bad ones (R404, R408). -/
def wordBad (bad : List Nat) (r i : Nat) : Bool :=
  if r = 2 || r = 3 then bad.contains (regionBase r + 2 * i) || bad.contains (regionBase r + 2 * i + 1)
  else bad.contains (regionBase r + i)

/-- The bad logical words of a region, by key. -/
def badKeys (bad : List Nat) (r : Nat) : List Nat := ((List.range (otpWords r)).filter (wordBad bad r ·)).map (256 * r + ·)

/-- The latch of the critical regions (R410). -/
def State.latchFuses (s : State) : State :=
  s.updOtp fun o => { o with latch := o.words.filter fun p => p.1 / 256 = 2 || p.1 / 256 = 3 }

/-- Which slot the ROM boots first, by the selector (R429). -/
def State.pickSlot (s : State) : State :=
  let x := s.selector
  if x.trial && x.count then
    let t := (((s.setF Reg.UPD_STAT_target x.active.toNat).discardSlot x.active).setSel ⟨!x.active, false, false⟩).updResult 8 0xFF
    (t.setB Reg.SYS_BOOT_STAT_fallback true).updSys fun y => { y with stage := .verify (!x.active) false }
  else
    (if x.trial then s.setSel { x with count := true } else s).updSys fun y => { y with stage := .verify x.active false }

/-- The SRAM march (R448): the first 16 failing rows of a bank are remapped and logged; a bank with more raises MEM at L1. -/
def State.sramMarch (s : State) (rows : List (Nat × Nat)) : State :=
  s.each (List.range 8) fun b t =>
    let mine := (rows.filter fun x => x.1 = b).map (·.2)
    let t := t.setMany [(Reg.AGE_SRAM_used b, min 16 mine.length), (Reg.AGE_SRAM_unrep b, (decide (16 < mine.length)).toNat)]
    let t := (mine.take 16).foldl (fun u r => u.log 0x0B (4 * 8192 + b * 512 + r) [0, 0, 0, 0, 0xFF]) t
    if 16 < mine.length then t.raise { cls := cMEM, src := 1 + b, lvl := 1 } else t

/-- Herd presence (R63): decided once until VKEEP is lost or RESET_N is asserted. -/
def State.herdPresence (s : State) (lowA lowB : Bool) : State :=
  let p := s.sys.herd.getD (!lowA, !lowB)
  (s.updSys fun y => { y with herd := some p }).setMany [(Reg.SB_HERD_STAT_pres_a, p.1.toNat), (Reg.SB_HERD_STAT_pres_b, p.2.toNat)]

/-- The fuse-integrity hold (R409): the device is held in reset with FAULT_N low, and the first failing word recorded. -/
def State.enterHold (s : State) (key : Nat) : State :=
  let t := s.setMany [(Reg.OTP_HOLD_valid, 1), (Reg.OTP_HOLD_region, key / 256 - 2), (Reg.OTP_HOLD_word, key % 256), (Reg.FLT_PIN_pin, 1)]
  (t.updSys fun y => { y with fuseHold := true }).allStop

/-- The ageing history record with number q, none where it is not committed or not correctable (R453). -/
def State.histRecord (s : State) (q : Nat) : Option (List Byte) :=
  let a := mHIST + 32 * (q % 8192)
  let b := memRead a 32 s.mram
  if leNat (b.take 4) = q && leNat (b.drop 28) = not32 q && !s.mramBad a 32 then some b else none

/-- The AGE registers that a BOOT rebuilds from the history and the live plan (R462). -/
def State.loadHistory (s : State) : State :=
  let s :=
    match (List.range (min 8192 s.nv.histNext)).findSome? fun j => s.histRecord (s.nv.histNext - 1 - j) with
    | some b =>
      let u (o n : Nat) : Nat := leNat ((b.drop o).take n)
      s.setMany ([(Reg.AGE_HOURS_hours 0, u 4 2), (Reg.AGE_HOURS_hours 1, u 6 2), (Reg.AGE_LIFE_life, 50 * u 0xB 1),
        (Reg.AGE_RING_slow 4, u 0xE 2)] ++ (List.range 4).map fun d => (Reg.AGE_RING_slow d, 10 * u (0x10 + d) 1))
    | none => s
  match s.nv.live.bind fun p => p.items.find? fun x => x.kind == 5 && x.state == 1 with
  | some x => s.setI Reg.AGE_REFCORR_corr x.value
  | none => s

/-- A crystal that oscillated before stands still: CLK at L1 (R39). -/
def State.xtalStopped (s : State) : State := (s.setB Reg.CLK_FAULT_xtal_stop true).raiseLasting { cls := cCLK, src := 7, lvl := 1 }

/-- The boot read has passed (R407-R410, R417, R419); the ROM starts (R91), and an ISW opening cause already present raises its
event (R173). -/
def State.romStart (s : State) (r : FuseRead) : State :=
  let inv (x : Nat) : List Nat := if x = 2 || x = 3 then [] else badKeys r.bad x
  let regions := (List.range 8).filter fun x => !(inv x).isEmpty
  let s := s.latchFuses.updOtp fun o => { o with invalid := (List.range 8).flatMap inv, fresh := [] }
  let s := s.setMany [(Reg.OTP_STAT_inval, regions.foldl (fun a x => a + 2 ^ x) 0), (Reg.OTP_STAT_pend_crit, 0),
    (Reg.OTP_CORR_count, min 255 r.corrected),
    (Reg.OTP_REPAIR_used, ((List.range 32).filter fun i => s.fuse 7 i != 0).length)]
  let s := if s.sys.heldBefore then (s.setB Reg.SYS_RESET_CAUSE_fuse_hold true).updSys fun y => { y with heldBefore := false } else s
  let s := (s.pickSlot.herdPresence r.herdALow r.herdBLow).sramMarch r.sram
  let s := regions.foldl (fun t x => t.raise { cls := cFUSE, src := x, lvl := 1 }) s
  let s := s.path.opening.foldl (fun t c => t.reportOpening c) s
  let s := if s.bit Reg.CLK_STAT_xtal_seen && !s.clk.xtalRuns then s.xtalStopped else s
  ((s.loadHistory.loadRepair.each (List.range 16) fun n t => t.countTines n).regroup).batfet

/-- FUSE_READ_COMPLETE (R407-R409, R63, R448). -/
def execFuseReadComplete (r : FuseRead) (s : State) : Out State :=
  if !r.wf then .fault .illFormed
  else if s.live && s.sys.stage = .fuses && s.st = stBOOT then
    match (badKeys r.bad 2 ++ badKeys r.bad 3).head? with
    | some k => .next (s.enterHold k)
    | none => (s.romStart r).done
  else .next s

/-! Early outputs (R411). -/

/-- EARLY_OUTPUT_START: definition d starts once every earlier definition is power-good; in RECOVERY only a flagged rail or
LDO (R242). -/
def execEarlyOutputStart (d : Fin 4) (s : State) : Out State :=
  if s.romUp && s.sys.stage != .dead && !s.sys.earlyStopped && s.earlyValid d && !s.sys.earlyUp.contains d.val
      && s.sys.sleep.isNone && (s.st != stRECOVERY || s.earlyRec d && s.earlyKind d != 2)
      && s.earlyDefs.all (fun e => decide (d.val ≤ e) || s.sys.earlyGood.contains e) then
    (s.earlyStart d).done
  else .next s

/-- EARLY_OUTPUT_TIMEOUT: the output's enable is cleared, no later one starts, SEQ at L1 with source d. -/
def execEarlyOutputTimeout (d : Fin 4) (s : State) : Out State :=
  if s.romUp && s.sys.earlyUp.contains d.val && !s.sys.earlyGood.contains d.val && !s.sys.earlyStopped then
    let t := s.updSys fun y => { y with earlyStopped := true }
    ((match s.earlyOut d with | some o => t.enOff o | none => t).raise { cls := cSEQ, src := d.val, lvl := 1 }).done
  else .next s

/-! Verification, STANDBY and RECOVERY (R91, R92, R429, R437). -/

/-- The time from the origin in 10 us. -/
def State.bootTime (s : State) : State := s.setF Reg.SYS_BOOT_TIME_time (min 65535 ((s.time - s.sys.origin) / 10))

/-- Neither slot boots: the dead hold of R92 where recovery is disabled, else RECOVERY, in which only the flagged early
rails and LDOs stay on and every ISO channel is off (R242). -/
def State.noSlot (s : State) : State :=
  if bitOf (s.safety 0x21) 9 then
    ((s.setB Reg.SYS_BOOT_STAT_dead true).updSys fun y => { y with stage := .dead, earlyStopped := true }).allStop
  else
    let t := (s.setB Reg.SYS_BOOT_STAT_recovery true).updSys fun y => { y with stage := .done }
    let t := t.each (List.range 12) fun n u => if u.isoState n = iOFF then u else u.enOff (.iso n)
    let t := (t.sys.earlyUp.filter fun d => !t.earlyRec d).foldl (fun u d => match u.earlyOut d with | some o => u.enOff o | none => u) t
    ((t.bootTime.setState stRECOVERY).setB Reg.MBX_STAT_ready true).ifVer.followPin

/-- A slot has failed: the other one is verified, or none boots. -/
def State.slotFails (s : State) (slot second : Bool) : State :=
  let t := s.updUpd fun u => { u with failed := slot :: u.failed }
  if second then t.noSlot else t.updSys fun y => { y with stage := .verify (!slot) true }

/-- IMAGE_VERIFIED (R91): the slot's cores start, or the slot fails. SYS_BOOT_STAT.fallback is set once the other slot boots. -/
def execImageVerified (ok : Bool) (s : State) : Out State :=
  match s.sys.stage with
  | .verify slot second =>
    if s.live then
      if ok && s.slotOk slot then
        let t := (s.setF Reg.SYS_BOOT_STAT_slot slot.toNat).updSys fun y => { y with stage := .cores slot second }
        (if second then t.setB Reg.SYS_BOOT_STAT_fallback true else t).done
      else (s.slotFails slot second).done
    else .next s
  | _ => .next s

/-- BOOT_CORE_TIMEOUT (R91): the cores of the slot are not both alive in time. -/
def execBootCoreTimeout (s : State) : Out State :=
  match s.sys.stage with
  | .cores slot second => if s.live then (s.slotFails slot second).done else .next s
  | _ => .next s

/-- STANDBY is reached (R89, R91, R93, R164, R336, R429): firmware has restored the store and derived the front end's sets, both
cores run, the mailbox is ready. A trial runs only where the slot on trial has booted. -/
def State.standby (s : State) (slot : Bool) : State :=
  let wake := s.sys.kind = .wake
  let s := (s.restore (!wake)).deriveFront
  let s := s.updUpd fun u => { u with running := some slot, trial := s.selector.trial && s.selector.active == slot }
  let s := s.updSys fun y => { y with stage := .done, ctlAlive := true }
  let s := (s.gaugeStart wake).ifVer.bootTime
  let s := (s.setState s.shown).followPin.setB Reg.MBX_STAT_ready true
  let s := s.updSys fun y => { y with hbDue := some (s.time + 1000 * (s.getF Reg.HOST_HB_CFG_t_hb + 1000)) }
  let s := if s.bit Reg.CHG_CTRL_en then s.chgStart else s
  ((s.feTryStart.tryClose).batfet).runAtStandby

/-- BOOT_COMPLETE (R91). -/
def execBootComplete (s : State) : Out State :=
  match s.sys.stage with
  | .cores slot _ => if s.live then (s.standby slot).done else .next s
  | _ => .next s

end Sys2Proof.Machine
end

