-- ==== Sys2Proof/Machine/Otp.lean ====
section
/-!
DEFINITION. One-time-programmable memory beyond its boot read (chapter 17): OTP.PROGRAM and OTP.LOCK (R363, R406, R410-R416)
and the run-time re-read (R414).
-/

namespace Sys2Proof.Machine

/-! What a word may be programmed with. -/

/-- A key of a logical word (R404). -/
def otpKey (r i : Nat) : Nat := 256 * r + i

/-- EARLY word `i` of definition d with word `w` of value v in place of the fuses. -/
def State.earlyWith (s : State) (w v d i : Nat) : Nat := if 10 * d + i = w then v else s.fuse 2 (10 * d + i)

/-- The heads of two early definitions name one output, or two rails with overlapping phases (R410). -/
def sameEarly (h0 g0 h1 g1 : Nat) : Bool :=
  let kind (h : Nat) : Nat := bitsOf h 12 3
  h0 != 0 && h1 != 0 && kind h0 = kind h1
    && (bitsOf h0 8 4 = bitsOf h1 8 4
        || kind h0 = 0 && g0 != 0 && g1 != 0 && decide (bitsOf g0 0 4 ≤ bitsOf g1 4 4) && decide (bitsOf g1 0 4 ≤ bitsOf g0 4 4))

/-- A value of an EARLY word that is a reserved encoding (R410): in a head, kind, index and zero bits; in a head or a group,
an output or phases that an earlier definition uses; anything in word 9 of a definition or in a reserved word. -/
def State.earlyBad (s : State) (i v : Nat) : Bool :=
  if 40 ≤ i then v != 0
  else
    let d := i / 10
    let top := match bitsOf v 12 3 with | 0 => 8 | 1 => 6 | 2 => 12 | _ => 0
    let head := i % 10 = 0
    i % 10 = 9 && v != 0 || head && (v % 8 != 0 || decide (top ≤ bitsOf v 8 4))
      || (head || i % 10 = 1) && (List.range d).any fun e =>
        sameEarly (s.earlyWith i v e 0) (s.earlyWith i v e 1) (s.earlyWith i v d 0) (s.earlyWith i v d 1)

/-- The range of a SAFETY ceiling word (R412). -/
def ceilingRange (i : Nat) : Nat × Nat :=
  if i < 8 then (400, 3600) else if i < 0x10 then (10, 200) else if i < 0x16 then (600, 3600)
  else match i with
    | 0x16 => (20, 150) | 0x17 => (10, 800) | 0x18 => (1800, 3200) | 0x19 => (3450, 3650) | 0x1A => (4050, 4200)
    | 0x1B => (10, 300) | 0x1D => (45, 80) | 0x1E => (20, 100) | 0x1F => (125, 160) | _ => (110, 150)

/-- A value of a SAFETY word out of its range, above its default, or with bits that must be zero (R412, R413). -/
def safetyBad (i v : Nat) : Bool :=
  if v = 0 then false
  else if i = 0x1C then
    let hi := bitsOf v 8 7
    let lo := signed 8 (bitsOf v 0 8)
    decide (hi < 20) || decide (60 < hi) || decide (lo < -20) || decide (20 < lo)
  else if i ≤ 0x20 then decide (bitsOf v 0 15 < (ceilingRange i).1) || decide ((ceilingRange i).2 < bitsOf v 0 15)
  else if i = 0x21 then decide (0x2000 ≤ v) || decide (100 < bitsOf v 1 7)
  else if i = 0x22 then decide (0x8000 ≤ v)
  else decide (0x29 ≤ i)

/-! Conditions (R415). -/

/-- The hotter controller-die sensor lies within -40 C to 105 C; without a valid sample it is not known to. -/
def State.otpTemp (s : State) : Bool :=
  match s.chan 46, s.chan 47 with
  | some a, some b => decide (-400 ≤ max a b) && decide (max a b ≤ 1050)
  | some a, none => decide (-400 ≤ a) && decide (a ≤ 1050)
  | none, some b => decide (-400 ≤ b) && decide (b ≤ 1050)
  | none, none => false

/-- State, VKEEP_LOW and temperature admit an OTP command. -/
def State.otpReady (s : State) (c : Taken) : Bool := s.admits c && !s.sys.vkeepLow && s.otpTemp

/-- The side-band programs only under its fused policy. -/
def State.otpPolicy (s : State) (p : Port) : Bool := p == .host || bitOf (s.safety 0x21) 12

/-! The commands. -/

/-- Word `i` of region r now holds v (R416). -/
def State.program (s : State) (r i v : Nat) : State :=
  let k := otpKey r i
  let s := s.updOtp fun o => { o with words := cellSet k v (otpFactory k) o.words, fresh := k :: o.fresh.filter (· != k) }
  if r = 2 || r = 3 then s.setB Reg.OTP_STAT_pend_crit true else s

/-- OTP.PROGRAM (R363, R416). Pulses that do not read back as ordered still leave their word as it reads. -/
def State.cmdProgram (readBack : Word) (s : State) (c : Taken) : State :=
  let r := c.u 0 1
  let i := c.u 2 2
  let v := c.u 4 2
  s.guarded c
    [(!s.otpReady c, sNOT_NOW),
     (c.badLen 8 || !c.force || c.notZero 1 1 || c.notZero 6 2 || decide (7 < r) || decide (otpWords r ≤ i) || !c.fits 2
        || r = 2 && s.earlyBad i v || r = 3 && safetyBad i v, sBAD),
     (!s.otpPolicy c.port || r = 7 || bitOf s.otp.wlock r, sDENIED),
     (s.fuse r i != 0 && s.fuse r i != v, sLIMIT)] fun t =>
    if t.fuse r i = v then t.respond c sOK 0 (leBytes 2 v)
    else
      let u := t.program r i readBack.toNat
      if readBack.toNat = v then u.respond c sOK 0 (leBytes 2 v) else u.respond c sCRC 0 []

/-- OTP.LOCK (R363, R406). -/
def State.cmdLock (ok : Bool) (s : State) (c : Taken) : State :=
  let r := c.u 0 1
  let w := bitOf (c.u 1 1) 0
  let d := bitOf (c.u 1 1) 1
  s.guarded c
    [(!s.otpReady c, sNOT_NOW),
     (c.badLen 4 || !c.force || decide (7 < r) || c.u 1 1 = 0 || decide (3 < c.u 1 1) || c.notZero 2 2, sBAD),
     (!s.otpPolicy c.port || r = 7 || w && bitOf s.otp.wlock r || d && bitOf s.otp.rlock r, sDENIED), (!ok, sCRC)] fun t =>
    (t.updOtp fun o =>
      { o with wlock := if w then o.wlock + 2 ^ r else o.wlock, rlock := if d then o.rlock + 2 ^ r else o.rlock }).respond c sOK 0 []

def execOtpProgram (p : Port) (tag : BitVec 6) (readBack : Word) (s : State) : Out State :=
  s.runCmd p tag (· == 0x0D10) (State.cmdProgram readBack)
def execOtpLock (p : Port) (tag : BitVec 6) (ok : Bool) (s : State) : Out State := s.runCmd p tag (· == 0x0D11) (State.cmdLock ok)

/-! The run-time re-read (R414). -/

/-- A re-read: regions with a word that differs or fails the three margins are flagged; VKEEP_LOW abandons it. -/
def State.reread (s : State) (bad : List Nat) : State :=
  if s.sys.vkeepLow then s.updOtp fun o => { o with retry := true }
  else
    let hit := (List.range 8).filter fun r => !(badKeys bad r).isEmpty
    let s := (s.setF Reg.OTP_RT_AGE_hours 0).updOtp fun o => { o with us := 0, retry := false }
    hit.foldl (fun t r => (t.setBitOf Reg.OTP_RT_mism r true).raise { cls := cFUSE, src := r, lvl := 1 }) s

/-- The ageing monitor runs. -/
def State.ageRuns (s : State) : Bool := s.romUp && s.stIn [stSTANDBY, stRUN, stIBEX, stSAFE]

/-- OTP_REREAD. -/
def execOtpReread (bad : List Nat) (s : State) : Out State :=
  if bad.any fun x => decide (1024 ≤ x) then .fault .illFormed
  else if s.ageRuns then (s.reread bad).done else .next s

/-- OTP_REREAD_RETRY. -/
def execOtpRereadRetry (bad : List Nat) (s : State) : Out State :=
  if bad.any fun x => decide (1024 ≤ x) then .fault .illFormed
  else if s.ageRuns && s.otp.retry && !s.sys.vkeepLow then (s.reread bad).done else .next s

end Sys2Proof.Machine
end

