-- ==== Sys2Proof/Machine/Age.lean ====
section
/-!
DEFINITION. Self-repair, ageing and the margin plan (chapter 19): tine tests and retirement (R441-R447), the comparator
self-test (R449), plan runs (R452-R458), the application of items (R456) and the AGE commands (R459, R460, R365).
-/

namespace Sys2Proof.Machine

/-! Repair records (R447). -/

/-- Appends a repair record: the mirror first, then the lowest unprogrammed REPAIR word; VKEEP_LOW stops both (R36, R417). The
log entry names the word. -/
def State.repairRecord (s : State) (r rOn leak : Nat) : State :=
  let w := if s.sys.vkeepLow then none else (List.range 32).find? fun i => s.fuse 7 i = 0
  let s := if s.sys.vkeepLow then s else s.updNv fun v => { v with repair := v.repair ++ [r] }
  let s := match w with
    | some i => (s.program 7 i r).setF Reg.OTP_REPAIR_used (s.getF Reg.OTP_REPAIR_used + 1)
    | none => s
  s.log 0x0B r (leBytes 2 rOn ++ leBytes 2 leak ++ leBytes 1 (w.getD 0xFF))

/-! Tine tests (R441-R446). -/

/-- The test of phase n starts. -/
def State.startTest (s : State) (n : Nat) : State :=
  (s.updAge fun a => { a with testing := n :: a.testing }).setB (Reg.AGE_PH_busy n) true

/-- BOOT_TINE_TEST (R442): in the first STANDBY after a BOOT, ascending, one phase at a time, none of a running rail. -/
def execBootTineTest (n : Fin 16) (s : State) : Out State :=
  let stopped := match s.railOf n with | some k => s.railStopped k | none => true
  if s.romUp && s.st = stSTANDBY && s.getF Reg.SYS_STATE_prev_state = stBOOT && s.age.testing.isEmpty
      && !s.age.bootDone.any (fun m => decide (n.val ≤ m)) && stopped then
    ((s.startTest n).updAge fun a => { a with bootDone := n.val :: a.bootDone }).done
  else .next s

/-- The rail's current in A (R302, channels 119 to 126). -/
def State.railAmps (s : State) (k : Nat) : Rat := ((s.chan (119 + k)).getD 0 : Int) / (100 : Rat)

/-- The conditions of R443 on rail k for a test of its phase n, which has position i among the phases in service: the lowest is
tested only while the rail is stopped, any other only while it is ON. -/
def State.mayTest (s : State) (k i : Nat) : Bool :=
  if i = 0 then s.railStopped k
  else
    let m := s.getF (Reg.RAIL_STAT_n_active k)
    let dies := ((s.phasesOf k).map (· / 4)).eraseDups
    s.railState k = rON && decide (s.getF (Reg.RAIL_STAT_regime k) < 2) && !s.railHeld k
        && decide (s.railAmps k < 3 * (s.servicePhases k).length)
        && dies.all (fun d => decide ((s.chan (112 + d)).getD 0 ≤ 10 * ((s.getF (Reg.RAIL_THERM_warn k) : Int) - 10)))
        && (decide (m ≤ i) || decide (s.railAmps k / i < (s.getF (Reg.RAIL_SHED_i_add k) : Nat) / (10 : Rat)))

/-- RUNTIME_TINE_TEST_START (R443, R466): a switching phase has ramped out, and with it every higher one. -/
def execRuntimeTineTestStart (n : Fin 16) (s : State) : Out State :=
  match s.railOf n with
  | none => .next s
  | some k =>
    match (s.servicePhases k).idxOf? n.val with
    | none => .next s
    | some i =>
      if s.romUp && s.st = stRUN && s.pathMode = pBUS && s.getF Reg.UPD_STAT_state != 2 && s.age.testing.isEmpty && s.mayTest k i then
        let t :=
          if s.railState k = rON && decide (i < s.getF (Reg.RAIL_STAT_n_active k)) then
            (((s.setSwitching k i).setB (Reg.RAIL_DYN_ramp_out k) false).updRail k fun r => { r with rampOut := none }).setRegime k
          else s
        ((t.startTest n).updAge fun a => { a with live := n.val :: a.live }).done
      else .next s

/-- The repair cause of a reading (R441, R447): 0 where it meets no criterion. -/
def tineCause (x : TineReading) : Nat := (decide (150 < x.rOn)).toNat + 2 * (decide (100 < x.leak)).toNat

/-- A tine meets a criterion: it retires (R445), and a phase without spares loses count (R446). -/
def State.retireTine (s : State) (n : Nat) (x : TineReading) : State :=
  if tineCause x = 0 || (s.tinesOut n).contains x.tine then s
  else
    let active := (s.tinesOn n).contains x.tine
    let t := (s.retire n x.tine).raise { cls := cTINE, src := n, lvl := 0 }
    let t := t.repairRecord (8192 + n * 512 + x.tine * 8 + tineCause x) x.rOn x.leak
    if active && decide ((t.tinesOn n).length < 32) && t.bit (Reg.POL_PH_STAT_in_service n) then
      t.raise { cls := cTINE, src := n, lvl := 1 }
    else t

/-- A phase has left service (R446): the rail goes on with the others, or locks off. -/
def State.leaveService (s : State) (n : Nat) : State :=
  let s := ((s.setB (Reg.POL_PH_STAT_switching n) false).raise { cls := cTINE, src := n, lvl := 2 }).regroup
  match s.railOf n with
  | none => s
  | some k =>
    let left := (s.servicePhases k).length
    if left = 0 then
      if s.railState k = rLOCKED then s else (s.railLock k).raise { cls := cRAILI, src := k, lvl := 3, cause := 4 }
    else
      if s.railState k = rON then ((s.setSwitching k (min left (s.getF (Reg.RAIL_STAT_n_active k)))).setRegime k) else s

/-- TINE_TEST_DONE (R441, R445-R447). -/
def execTineTestDone (n : Fin 16) (readings : List TineReading) (s : State) : Out State :=
  if !readings.all fun x => decide (x.tine < 36) then .fault .illFormed
  else if s.age.testing.contains n.val then
    let was := s.bit (Reg.POL_PH_STAT_in_service n)
    let t := readings.foldl (fun t x => t.retireTine n x) s
    let t := if was && !t.bit (Reg.POL_PH_STAT_in_service n) then t.leaveService n else t
    let ohms := (readings.filter fun x => (t.tinesOn n).contains x.tine).map (·.rOn)
    let t := t.updAge fun a =>
      { a with wear := if ohms.isEmpty then a.wear else (n.val, ohms.sum / ohms.length) :: a.wear.filter (·.1 != n.val) }
    ((t.setMany [(Reg.AGE_PH_aborts n, 0), (Reg.AGE_PH_overdue n, 0)]).endTest n).done
  else .next s

/-- TINE_TEST_OVERDUE (R443). -/
def execTineTestOverdue (n : Fin 16) (s : State) : Out State :=
  if s.romUp then (s.setB (Reg.AGE_PH_overdue n) true).done else .next s

/-! Comparators (R260, R261, R449, R450). -/

/-- The retired copies of a side's comparator. -/
def copiesOut (c : Nat) (above : Bool) : Fld := if above then Reg.AGE_CMP_ret_ov c else Reg.AGE_CMP_ret_uv c

/-- A comparator copy retires (R449). -/
def State.retireCopy (s : State) (c : Nat) (above : Bool) (copy : Nat) : State :=
  ((s.setBitOf (copiesOut c above) copy true).raise { cls := cREF, src := c, lvl := 1, cause := 6 }).repairRecord
    (2 * 8192 + c * 256 + above.toNat * 128 + copy * 32) 0 0

/-- COMPARATOR_SELF_TEST: a copy that fails retires. -/
def execComparatorSelfTest (c : Fin 28) (above : Bool) (copy : Fin 3) (pass : Bool) (s : State) : Out State :=
  if s.romUp && s.armed c above && !bitOf (s.getF (copiesOut c above)) copy && !pass then (s.retireCopy c above copy).done else .next s

/-- A copy in work disagrees with the voted output; the fourth time within 24 h retires it (R449). -/
def State.copyDisagrees (s : State) (c : Nat) (above : Bool) (copy : Nat) : State :=
  if bitOf (s.getF (copiesOut c above)) copy then s
  else
    let mine (x : Nat × Bool × Nat × Nat) : Bool := x.1 == c && x.2.1 == above && x.2.2.1 == copy
    let old := s.age.disagreed.filter fun x => mine x && decide (s.time ≤ x.2.2.2 + 86400000000)
    let rest := s.age.disagreed.filter fun x => !mine x
    if 3 ≤ old.length then (s.updAge fun a => { a with disagreed := rest }).retireCopy c above copy
    else s.updAge fun a => { a with disagreed := (c, above, copy, s.time) :: old ++ rest }

/-- COMPARATOR_TRIP (R260, R261, R265, R449, R450): the fault is raised; the out-of-turn conversion confirms it when it lies beyond
the threshold moved by 1% of N, otherwise unconf is set and REF raised at L1. -/
def execComparatorTrip (c : Fin 28) (above : Bool) (x : Confirm) (s : State) : Out State :=
  if s.armed c above && s.comparators c above && !s.tripped c above then
    let t := s.threshold c true above
    let n : Int := 4 * s.nominal c
    let ok := beyond above x.sample (if above then t - n else t + n)
    let u := s.setTrip c above
    let u := if s.bit (Reg.MON_CH_CFG_pg_win c) then u.pgFall c else u
    let u := if s.earlyLoss c above then u.takeEarlyLoss c else u.windowFault c above x.sample
    let u := if ok then u else (u.setB (Reg.MON_CH_FLT_unconf c) true).raise ⟨cREF, c, 1, 4, x.sample, thrWord t⟩
    (match x.odd with | some k => u.copyDisagrees c above k | none => u).done
  else .next s

/-! Targets (R455). -/

/-- A target before it is compared: kind, instance, target, and whether it is a repair item. -/
structure Aim where
  kind : Nat
  inst : Nat
  target : Int
  repair : Bool

/-- The base of an item, the live value where none is recorded (R457). -/
def State.itemBase (s : State) (kind inst : Nat) : Int :=
  if kind = 5 then ((s.base Reg.AGE_REFCORR_corr).map fun v => signed 16 v).getD (s.getI Reg.AGE_REFCORR_corr)
  else (s.base (itemField kind inst)).getD (s.getF (itemField kind inst))

/-- The live value of an item's field. -/
def State.itemLive (s : State) (kind inst : Nat) : Int :=
  if kind = 5 then s.getI Reg.AGE_REFCORR_corr else s.getF (itemField kind inst)

/-- A max_n of 0 counts as 16. -/
def effMax (kind : Nat) (v : Int) : Int := if kind = 4 && v = 0 then 16 else v

/-- The lowest active count among the rail's phases in service. -/
def State.tMin (s : State) (k : Nat) : Nat := (s.servicePhases k).foldl (fun m n => min m (s.getF (Reg.POL_PH_STAT_n_active n))) 32

/-- The dies d of a rail were below 0.1% hot on the last 7 runs, the present one and the six before it in the history (R455; DESIGN
CHOICE, log entry 49). -/
def State.coolRuns (s : State) (x : PlanInput) (dies : List Nat) : Bool :=
  dies.all (fun d => x.hot.getD d 0 = 0) && decide (6 ≤ s.nv.histNext) && (List.range 6).all fun j =>
    match s.histRecord (s.nv.histNext - 1 - j) with
    | some b => dies.all fun d => leNat ((b.drop (0x14 + d)).take 1) = 0
    | none => false

/-- The highest-numbered phase in service had a mean on-resistance above 1.3 x birth at its last test (R455). -/
def State.worn (s : State) (k : Nat) : Bool :=
  match (s.servicePhases k).getLast? with
  | some n => s.age.wear.any fun p => p.1 == n && decide (130 < p.2)
  | none => false

/-- The four items of a rail (R446, R455). -/
def State.railAims (s : State) (x : PlanInput) (k : Nat) : List Aim :=
  let b (j : Nat) : Nat := (s.itemBase j k).toNat
  let t := s.tMin k
  let fsw := s.getF (Reg.RAIL_FSW_fsw k)
  let n := (s.servicePhases k).length
  let dies := ((s.phasesOf k).map (· / 4)).eraseDups
  let low := max 50 ((3 * b 3 + 3) / 4)
  let max_n :=
    if s.worn k && decide (2 ≤ n) && decide (x.peak.getD k 0 ≤ 12 * (n - 1)) then min (n - 1) (effMax 4 (b 4)).toNat else b 4
  [⟨1, k, if t < 32 then (b 1 * t / 32 : Nat) else (b 1 : Nat), decide (t < 32)⟩,
   ⟨2, k, (min (b 2) (max 100 (b 2 - 5 * ((x.theta.getD k 100 - 100) / 10))) : Nat), false⟩,
   ⟨3, k, (if dies.any fun d => decide (10 < x.hot.getD d 0) then max low (fsw * 9 / 10)
      else if s.coolRuns x dies then min (b 3) (fsw * 11 / 10) else fsw : Nat), false⟩,
   ⟨4, k, (max_n : Nat), false⟩]

/-- The reference correction within its clamp; a change below 20 ppm is not proposed. -/
def State.refAim (s : State) (x : PlanInput) : List Aim :=
  let v := max (-2500) (min 2500 (-x.refDrift))
  let d := v - s.getI Reg.AGE_REFCORR_corr
  if -20 < d && d < 20 then [] else [⟨5, 0, v, false⟩]

/-- The hold-up time of R235 from soc_min with P_VHB at a value of plim, in 5 W. -/
def State.holdAt (s : State) (p : Nat) : Nat := s.holdFor (s.getF Reg.AGE_HOLD_soc_min) (s.holdLoad s.iBat (5 * p))

/-- The hold-up item: the largest value at or below base that meets t_req, else the floor of 50 W. Answers hold_short as well. While
the gauge's outputs are invalid there is none (DESIGN CHOICE, log entry 49). -/
def State.holdAim (s : State) : List Aim × Bool :=
  let req := 10 * s.getF Reg.AGE_HOLD_t_req
  if req = 0 || !s.gauge.valid then ([], false)
  else
    let b := (s.itemBase 6 0).toNat
    match ((List.range 111).reverse.map (· + 10)).find? fun p => decide (p ≤ b) && decide (req ≤ s.holdAt p) with
    | some p => ([⟨6, 0, (p : Nat), false⟩], false)
    | none => ([⟨6, 0, 10, false⟩], true)

/-! The proposal (R456-R458). -/

/-- Rails with a range. -/
def State.planRails (s : State) : List Nat := (List.range 8).filter fun k => s.bit (Reg.RAIL_GROUP_valid k)

/-- Fields seen for the first time take their live value as base (R457). -/
def State.noteBases (s : State) : State :=
  let fs := s.planRails.flatMap (fun k => [itemField 1 k, itemField 2 k, itemField 3 k, itemField 4 k]) ++ [itemField 5 0, itemField 6 0]
  fs.foldl (fun t f => if (t.base f).isSome then t else t.putBase f.key (t.getF f)) s

/-- The due time of a waiting repair item that a new run keeps (R458). -/
def State.oldDue (s : State) (kind inst : Nat) : Option Nat :=
  match s.age.prop with
  | some p => (p.items.find? fun y => y.kind == kind && y.inst == inst && y.cls == 2 && y.waits).bind (·.due)
  | none => none

/-- The item of a target, none where it equals the live value, was discarded, or plan_en forbids it. -/
def State.itemOf (s : State) (a : Aim) : Option PlanItem :=
  let live := s.itemLive a.kind a.inst
  let cls := if a.repair then 2 else if a.kind = 5 || effMax a.kind a.target < effMax a.kind live then 0 else 1
  if effMax a.kind a.target = effMax a.kind live || cls != 2 && (!s.bit Reg.AGE_CFG_plan_en || s.age.discarded.contains (a.kind, a.inst)) then none
  else
    let due :=
      if cls = 2 then some ((s.oldDue a.kind a.inst).getD (s.time + 60000000))
      else if cls = 1 || s.bit Reg.AGE_CFG_approve then none else some (s.time + 60000000)
    some ⟨a.kind, a.inst, cls, 0, s.itemBase a.kind a.inst, a.target, due⟩

/-- A plan log entry (R460). -/
def State.planLog (s : State) (p : Plan) (event : Nat) : State := s.log 0x0D p.id (leBytes 1 event ++ leBytes 1 p.items.length)

/-- Publishes a proposal of at least one item; a PROPOSED plan is replaced (R458). -/
def State.publishPlan (s : State) (items : List PlanItem) : State :=
  if items.isEmpty then s
  else
    let s := match s.age.prop with | some p => s.planLog p 4 | none => s
    let id := if s.nv.planId + 1 < 65536 then s.nv.planId + 1 else 1
    let p : Plan := ⟨id, s.time, items⟩
    (((s.updNv fun v => { v with planId := id }).updAge fun a => { a with prop := some p }).setB Reg.HOST_INT_STAT_age true).planLog p 0

/-! The measures of a run (R452, R453). -/

/-- Life consumed in 0.01% (R452), in the open rounding. -/
def State.lifeUsed (s : State) : Nat :=
  let h : Rat := (s.getF (Reg.AGE_HOURS_hours 0) + 65536 * s.getF (Reg.AGE_HOURS_hours 1) : Nat) / 60
  let c : Rat := (s.nv.calUs * 10000 : Nat) / (20 * Config.yearUs : Nat)
  min 65535 (roundQ (max h c)).toNat

/-- A byte that saturates. -/
def byteQ (q : Rat) : List Byte := leBytes 1 (min 255 (roundQ q).toNat)

/-- The history record of a run (R453). -/
def State.histBytes (s : State) (x : PlanInput) (boot : Bool) : List Byte :=
  let q := s.nv.histNext
  let out := (List.range 16).filter fun n => !s.bit (Reg.POL_PH_STAT_in_service n)
  let retired := (List.range 16).foldl (fun a n => a + (s.tinesOut n).length) 0
  leBytes 4 q ++ leBytes 2 (s.getF (Reg.AGE_HOURS_hours 0)) ++ leBytes 2 (s.getF (Reg.AGE_HOURS_hours 1))
  ++ leBytes 2 (match s.nv.live with | some p => p.id | none => 0)
  ++ leBytes 1 (boot.toNat + 2 * (s.getF Reg.AGE_TRIO_excl != 0).toNat + 4 * s.getF Reg.AGE_STAT_hold_short)
  ++ byteQ ((s.getF Reg.AGE_LIFE_life : Nat) / (50 : Rat)) ++ leBytes 2 (unsigned 16 x.refDrift) ++ leBytes 2 (x.ring.getD 4 0)
  ++ (List.range 4).flatMap (fun d => byteQ ((x.ring.getD d 0 : Nat) / (10 : Rat)))
  ++ (List.range 4).flatMap (fun d => leBytes 1 (min 255 (x.hot.getD d 0)))
  ++ leBytes 1 (min 255 retired) ++ leBytes 1 out.length ++ leBytes 2 (s.getF Reg.GAUGE_SOH_soh) ++ leBytes 4 (not32 q)

/-- Appends the history record; none is written while VKEEP_LOW is asserted (R36). -/
def State.appendHistory (s : State) (x : PlanInput) (boot : Bool) : State :=
  if s.sys.vkeepLow then s
  else
    (s.mramWrite (mHIST + 32 * (s.nv.histNext % 8192)) (s.histBytes x boot)).updNv fun v => { v with histNext := v.histNext + 1 }

/-- PLAN_RUN (R452-R458): the control core runs it in STANDBY, RUN, IBEX or SAFE. VKEEP_LOW keeps it from being recorded, and
the next run proposes afresh (R461). -/
def execPlanRun (x : PlanInput) (s : State) : Out State :=
  if !x.wf then .fault .illFormed
  else if s.ageRuns && s.sys.ctlAlive then
    let boot := !s.age.bootRun
    let s := s.updAge fun a => { a with bootRun := true, discarded := if x.byRepair then a.discarded else [] }
    let s := if s.sys.vkeepLow then s else s.noteBases
    let hold := s.holdAim
    let s := (s.setMany (((List.range 5).map fun d => (Reg.AGE_RING_slow d, x.ring.getD d 0)) ++ [(Reg.AGE_LIFE_life, s.lifeUsed),
      (Reg.AGE_STAT_hold_short, hold.2.toNat)]))
    let s := if 2500 < x.refDrift || x.refDrift < -2500 then
        (s.raise { cls := cREF, src := 32 + Config.freshNat s.free % 3, lvl := 1, cause := 7 }).draw else s
    let aims := s.planRails.flatMap (s.railAims x) ++ s.refAim x ++ hold.1
    let s := if s.sys.vkeepLow then s else s.publishPlan (aims.filterMap s.itemOf)
    (s.appendHistory x boot).done
  else .next s

/-! Applying items (R456, R457). -/

/-- The write of an item as the control core makes it. -/
def State.itemWrite (s : State) (x : PlanItem) : List WField :=
  let f := itemField x.kind x.inst
  s.cover [(f.addr, (2 ^ f.w - 1) * 2 ^ f.lo, unsigned f.w x.value * 2 ^ f.lo)]

/-- A ceiling forbids the item (R412). -/
def State.itemOver (s : State) (x : PlanItem) : Bool :=
  x.kind != 5 && (s.itemWrite x).any fun w => s.overCeiling (s.wouldHold (s.itemWrite x)) w.f

/-- Applies one waiting item and gives it its new state: a frequency waits until its rail is stopped. -/
def State.applyItem (s : State) (x : PlanItem) : State × PlanItem :=
  if x.kind = 5 then (s.setI Reg.AGE_REFCORR_corr x.value, { x with state := 1 })
  else if x.kind = 3 && !s.railStopped x.inst then (s, { x with state := 2 })
  else (s.applyAll .control (s.itemWrite x), { x with state := 1 })

/-- Puts new items into the PROPOSED plan. -/
def State.setItems (s : State) (l : List PlanItem) : State := s.updAge fun a => { a with prop := a.prop.map fun p => { p with items := l } }

/-- The mailbox pause and a lost control core hold applications back (R454, R461). -/
def State.planActs (s : State) : Bool := s.ageRuns && s.sys.ctlAlive && !s.bit Reg.MBX_STAT_paused

/-- PLAN_ITEM_APPLY (R456): a due item, or a frequency whose rail has stopped. -/
def execPlanItemApply (item : Nat) (s : State) : Out State :=
  match s.age.prop with
  | none => .next s
  | some p =>
    match p.items[item]? with
    | none => .next s
    | some x =>
      let ready := x.state = 0 && x.due.isSome || x.state = 2 && s.railStopped x.inst
      if s.planActs && ready && !s.itemOver x then
        let r := s.applyItem x
        ((if r.2.state = 1 then r.1.planLog p 1 else r.1).setItems (p.items.set item r.2)).closePlan.done
      else .next s

/-! Commands (R365, R459, R460). -/

/-- The checks of AGE.VETO and AGE.APPROVE. -/
def State.ageChecks (s : State) (c : Taken) : List (Bool × Nat) :=
  let p := s.age.prop
  [(!s.admits c || s.sys.vkeepLow || p.isNone, sNOT_NOW),
   (c.badLen 4 || c.notZero 2 2 || (match p with | some p => p.id != c.u 0 2 | none => true), sBAD)]

/-- AGE.VETO (R459): tightening and loosening items are discarded; repair items stay. -/
def State.cmdVeto (s : State) (c : Taken) : State :=
  s.guarded c (s.ageChecks c) fun t =>
    match t.age.prop with
    | none => t
    | some p =>
      let out := p.items.filter fun x => x.waits && x.cls != 2
      let items := p.items.map fun x => if x.waits && x.cls != 2 then { x with state := 3 } else x
      let u := (t.setItems items).updAge fun a => { a with discarded := out.map (fun x => (x.kind, x.inst)) ++ a.discarded }
      (((u.planLog p 2)).closePlan).respond c sOK 0 []

/-- Applies every waiting item in order. -/
def State.applyItems (s : State) : List PlanItem → State × List PlanItem
  | [] => (s, [])
  | x :: r =>
    let p := if x.waits then s.applyItem x else (s, x)
    let q := p.1.applyItems r
    (q.1, p.2 :: q.2)

/-- AGE.APPROVE (R459): every waiting item at once, or none where one would cross a ceiling. -/
def State.cmdApprove (s : State) (c : Taken) : State :=
  s.guarded c (s.ageChecks c ++ [(s.anyItem fun x => x.waits && s.itemOver x, sLIMIT)]) fun t =>
    match t.age.prop with
    | none => t
    | some p =>
      let q := t.applyItems p.items
      (((q.1.setItems q.2).planLog p 3).closePlan).respond c sOK 0 []

/-- A plan record (R460). -/
def State.planBytes (s : State) (p : Plan) (which : Nat) : List Byte :=
  let has (g : PlanItem → Bool) : Nat := (p.items.any g).toNat
  let flags := has (fun x => x.cls == 1) + 2 * has (fun x => x.cls == 2) + 4 * has (fun x => x.state == 0 && x.due.isNone)
    + 8 * s.getF Reg.AGE_STAT_hold_short
  leBytes 2 p.id ++ leBytes 1 which ++ leBytes 1 p.items.length ++ leBytes 8 p.time ++ leBytes 2 (if which = 1 then s.planDue p else 0)
  ++ leBytes 2 flags ++ p.items.flatMap fun x =>
    leBytes 1 x.kind ++ leBytes 1 x.inst ++ leBytes 1 x.cls ++ leBytes 1 x.state ++ leBytes 2 (unsigned 16 x.base) ++ leBytes 2 (unsigned 16 x.value)

/-- AGE.PLAN (R365, R460). -/
def State.cmdPlan (s : State) (c : Taken) : State :=
  match (if c.u 0 1 = 0 then s.nv.live else if c.u 0 1 = 1 then s.age.prop else none) with
  | some p =>
    let bs := s.planBytes p (c.u 0 1)
    s.guarded c [(!s.admits c, sNOT_NOW), (c.badLen 4 || c.notZero 1 3 || !c.rptr || !c.fits bs.length, sBAD)] fun t =>
      t.respond c sOK 0 bs
  | none =>
    s.guarded c [(!s.admits c || decide (c.u 0 1 ≤ 1), sNOT_NOW)] fun t => t.respond c sBAD 0 []

def execAgeVeto (p : Port) (tag : BitVec 6) (s : State) : Out State := s.runCmd p tag (· == 0x0F10) State.cmdVeto
def execAgeApprove (p : Port) (tag : BitVec 6) (s : State) : Out State := s.runCmd p tag (· == 0x0F11) State.cmdApprove
def execAgePlan (p : Port) (tag : BitVec 6) (s : State) : Out State := s.runCmd p tag (· == 0x0F12) State.cmdPlan

end Sys2Proof.Machine
end

