-- ==== Sys2Proof/Machine/FeLoop.lean ====
section
/-!
DEFINITION. What the front end does within its switching period (R157, R159-R163, R168): the turn-off condition, the peak limit
with its fold-back, and the selector of the regulation loops. They are functions of the registers and of the measured channels.
-/

namespace Sys2Proof.Machine

/-! The current loop (R157, R159, R168). -/

/-- I_nom = I_der in A (R168). -/
def State.feNom (s : State) : Rat := (s.getF Reg.FE_ILIM_ipk : Rat) / 2

/-- I_lim,eff in A with the output of the present direction at v mV: R143 with r = VSYS / V_sys_tgt or VHB / FE_REV_VHB.vhb (R168). -/
def State.feLimit (s : State) (v : Rat) : Rat :=
  s.feNom * foldBack (v / (10 * (if s.feState = feREV then s.getF Reg.FE_REV_VHB_vhb else s.getF Reg.FE_VSYS_TGT_tgt : Nat)))

/-- Whether the comparator ends a pulse t_on ns after it began: after the minimum on-time of 100 ns, blanking included, and at the
latest where the minimum off-time of 250 ns begins (R157, R159). Currents in A. -/
def State.fePulseEnds (s : State) (iL ic v : Rat) (tOn : Nat) : Bool :=
  decide (100 ≤ tOn) && (turnsOff (if 0 ≤ iL then iL else -iL) ic s.fe.slope (s.feLimit v) tOn
    || decide (1000000 ≤ (tOn + 250) * s.getF Reg.FE_FSW_fsw))

/-- The high side held on is refreshed for 150 ns once every 32 periods (R157): whether the low side of its leg is on at t ns into
period j, after a dead time of dt ns. -/
def refreshes (j t dt : Nat) : Bool := j % 32 == 0 && decide (dt ≤ t) && decide (t < dt + 150)

/-! The selector (R161, R196). -/

/-- The lowest valid cell voltage in mV. -/
def State.lowestCell (s : State) : Rat :=
  let v := (List.range s.cells).filterMap fun k => s.chan (28 + k)
  ((v.foldl min (v.headD 0) : Int) : Rat) / 4

/-- The error of a term of the selector, in mV, mA or W as its quantities are (R161). -/
def State.feError (s : State) (term : Nat) : Rat :=
  let iin : Int := 10 * (s.chan 117).getD 0
  match term with
  | 1 => (10 * s.getF Reg.FE_VSYS_TGT_tgt : Nat) - s.mv2 33
  | 2 => (s.vbatTarget.getD 0 : Rat) - s.mv2 32
  | 3 => 100 * s.chgCurrent - (s.iBat : Rat) / 10
  | 4 => (100 * s.getF Reg.FE_IIN_iin : Nat) - iin
  | 6 => 10 * s.feTarget - s.mv2 34
  | 7 => (5 * s.getF Reg.FE_REV_LIM_plim : Nat) + ((s.chan 118).getD 0 : Rat) / 10
  | 8 => (1000 * s.getF Reg.FE_REV_LIM_idis : Nat) + (s.iBat : Rat) / 10
  | 9 => s.lowestCell - s.getF Reg.FE_REV_UVF_uvf
  | _ => 0

/-- The selector: of the outputs of the terms' loops the lowest is I_cmd, and its term wins (R161). -/
def selector : List (Nat × Rat) → Nat × Rat
  | [] => (0, 0)
  | [p] => p
  | p :: r => if p.2 ≤ (selector r).2 then p else selector r

/-- I_c of each of m switching phases (R161). -/
def phaseCommand (icmd : Rat) (m : Nat) : Rat := icmd / m

/-- I_cmd j us into a stop: a linear ramp to 0 over 100 us (R166). -/
def stopCommand (icmd : Rat) (j : Nat) : Rat := icmd * (100 - min 100 j : Nat) / 100

/-- The coefficients the front end runs on in a direction, 0 FWD and 1 REV (R163). -/
def State.feCoeffs (s : State) (f : Nat) : Coeffs :=
  ⟨(s.getF (Reg.FE_KP_kp f) : Rat) / 16, s.getF (Reg.FE_FI_fi f), 10 * s.getF (Reg.FE_FZ_fz f), 10 * s.getF (Reg.FE_FP_fp f)⟩

end Sys2Proof.Machine
end

