-- ==== Sys2Proof/Machine/Fe.lean ====
section
/-!
DEFINITION. Rows of the front end that are events of the converter itself (R158, R165-R171).
-/

namespace Sys2Proof.Machine

/-- A front end that switches (R165). -/
def State.feSwitches (s : State) : Bool := s.feIn [feFWD_START, feFWD, feREV, feSTOPPING]

/-- The return from the hold-up completes (R190, R191): mode BUS, PATH_EVT.returns counts, IBEX ends; a front end that is off
then starts where it may. -/
def State.endReturn (s : State) : State :=
  let s := (s.setPath pBUS).updPath fun p => { p with slewed := false, closing := none }
  ((s.endIbex.count Reg.PATH_EVT_returns).pathLog 0).feTryStart

/-- FE_START_RAMP_DONE (R166). -/
def execFeStartRampDone (s : State) : Out State := if s.feState = feFWD_START then (s.setFe feFWD).done else .next s

/-- FE_STOP_RAMP_DONE (R166). -/
def execFeStopRampDone (s : State) : Out State := if s.feState = feSTOPPING then ((s.setFe feOFF).feTryStart).done else .next s

/-- The FWD order after CHANGE (R166): FWD without a start ramp, or OFF; a set without coefficients does not start (R164). -/
def State.feForward (s : State) : State :=
  if !s.bit Reg.FE_CTRL_fwd_en then s.setFe feOFF
  else if s.getF (Reg.FE_FI_fi 0) = 0 then (s.setFe feOFF).raise { cls := cFE, src := 2, lvl := 3, cause := 12 }
  else
    (s.setF Reg.FE_STAT_region (startRegion s.chargerVsys (s.mv2 34 / 10))).setFe feFWD

/-- FE_CHANGE_DONE (R166, R190, R192): a REV order that waited is carried out; otherwise FWD or OFF, and a matched return is
complete. -/
def execFeChangeDone (s : State) : Out State :=
  if s.feState = feCHANGE then
    if s.fe.revOrdered then ((s.updFe fun f => { f with revOrdered := false }).feRev).done
    else if s.bit Reg.PATH_STAT_isw_closed then
      let t := s.feForward
      (if t.pathMode = pRETURN then t.endReturn else t).done
    else (s.setFe feOFF).done
  else .next s

/-- The region after one change by the thresholds of R158, from M as target over input. -/
def nextRegion (r : Nat) (target : Rat) (vin : Nat) : Nat :=
  match r with
  | 0 => if vin * 85 < target * 100 then 1 else 0
  | 1 => if target * 100 < vin * 78 then 0 else if vin * 120 < target * 100 then 2 else 1
  | _ => if target * 100 < vin * 112 then 1 else 2

/-- FE_REGION_CHANGE (R158): both phases change region at a period start; a commit at that start comes first (R178), and the slope is
computed again (R160). -/
def execFeRegionChange (vin : Nat) (s : State) : Out State :=
  if s.feSwitches then
    let t := s.commit .fe
    ((t.setF Reg.FE_STAT_region (nextRegion (t.getF Reg.FE_STAT_region) t.feTarget vin)).feSlope).done
  else .next s

/-- An event of R171 that locks the front end off, whatever level it ends at: its FE_FLT bit and FE at L3, source 2. -/
def State.feTrip (s : State) (bit : Fld) (cause : Nat) : State :=
  let s := s.setB bit true
  let s := if s.feStopped then s else s.feLock [bit]
  (s.endCause cFE 2 cause).raiseLasting { cls := cFE, src := 2, lvl := 3, cause := cause }

/-- FE_VSYS_OV (R171). -/
def execFeVsysOv (s : State) : Out State :=
  if s.romUp && !s.present cFE 2 1 then (s.feTrip Reg.FE_FLT_vsys_ov 1).done else .next s

/-- FE_VHB_OV (R171): in REV switching stands still, FE at L1; the third event within 100 ms locks the front end off. -/
def execFeVhbOv (third : Bool) (s : State) : Out State :=
  if s.feState = feREV && !s.fe.ovStop then
    if third then (s.feTrip Reg.FE_FLT_vhb_ov 2).done
    else
      let t := (s.setMany [(Reg.FE_FLT_vhb_ov, 1), (Reg.FE_STAT_n_active, 0)]).updFe fun f => { f with ovStop := true }
      (t.raiseLasting { cls := cFE, src := 2, lvl := 1, cause := 2 }).done
  else .next s

/-- FE_VHB_OV_RELEASE (R171): below 1.04 x target switching resumes. -/
def execFeVhbOvRelease (s : State) : Out State :=
  let t := s.endCause cFE 2 2
  (if t.fe.ovStop then (t.setF Reg.FE_STAT_n_active t.feService).updFe fun f => { f with ovStop := false } else t).done

/-- FE_VDRV_UV (R171). -/
def execFeVdrvUv (s : State) : Out State :=
  if s.romUp && !s.present cFE 2 4 then (s.feTrip Reg.FE_FLT_vdrv_uv 4).done else .next s

/-- FE_BOOTSTRAP_UV (R171): the turn-on is skipped; the fourth skip in a row raises FE at L1 with the phase as source. -/
def execFeBootstrapUv (p : Fin 2) (fourth : Bool) (s : State) : Out State :=
  if s.feSwitches && fourth then
    ((s.setB Reg.FE_FLT_bs_uv true).raiseLasting { cls := cFE, src := p, lvl := 1, cause := 3 }).done
  else .next s

/-- FE_OPEN_PHASE (R171): the phase leaves service and the sets are derived again (R164); with the second one the front end is
locked off. -/
def execFeOpenPhase (p : Fin 2) (s : State) : Out State :=
  if s.feSwitches && !bitOf (s.getF Reg.FE_STAT_ph_out) p then
    let t := (s.setBitOf Reg.FE_STAT_ph_out p true).setB (if p.val = 0 then Reg.FE_FLT_ph0_open else Reg.FE_FLT_ph1_open) true
    if t.feService = 0 then
      ((t.feLock [Reg.FE_FLT_ph0_open, Reg.FE_FLT_ph1_open]).raise { cls := cFE, src := 2, lvl := 3, cause := 5 }).done
    else
      let t := (t.setF Reg.FE_STAT_n_active (if t.fe.ovStop then 0 else t.feService)).updFe fun f => { f with rampOut := false }
      let t := if t.bit Reg.FE_CTRL_direct_loop then t else t.setMany [(Reg.FE_LOOP_STAT_stale 0, 1), (Reg.FE_LOOP_STAT_stale 1, 1)]
      (t.raise { cls := cFE, src := p, lvl := 2, cause := 5 }).done
  else .next s

/-- FE_ILIM_SUSTAINED (R168): a phase's pulses end at I_lim,eff in 64 consecutive periods. -/
def execFeIlimSustained (e : FeLimit) (s : State) : Out State :=
  if s.feSwitches && decide (s.feLimit e.mV ≤ (e.mA : Rat) / 1000) then
    ((s.setMany [(Reg.FE_STAT_ilim_active, 1), (Reg.FE_FLT_ilim_sust, 1)]).raiseLasting { cls := cFE, src := e.phase, lvl := 1, cause := 0 }).done
  else .next s

/-- FE_STEP_INHIBIT_START (R170): all phases in service come in. The error criterion is judged only while the direction's voltage
loop wins, so FE_STAT.loop shows that loop. -/
def execFeStepInhibitStart (byError : Bool) (s : State) : Out State :=
  if s.feSwitches || s.feState = feCHANGE then
    let t := if byError && s.feSwitches then s.setF Reg.FE_STAT_loop (if s.feState = feREV then 6 else 1) else s
    ((t.updFe fun f => { f with inhibit := true }).feAddAll).done
  else .next s

/-- FE_STEP_INHIBIT_END (R170). -/
def execFeStepInhibitEnd (s : State) : Out State := (s.updFe fun f => { f with inhibit := false }).done

/-- FE_REV_HOLD_END (R170). -/
def execFeRevHoldEnd (s : State) : Out State := (s.updFe fun f => { f with revHold := false }).done

/-- FE_UNLOCK (R166): LOCKED_OFF goes to OFF once every FE_FLT bit that locked it is clear. -/
def execFeUnlock (s : State) : Out State :=
  if s.feState = feLOCKED && s.fe.lockBits.all (fun f => !s.bit f) then
    (((s.updFe fun f => { f with lockBits := [] }).setFe feOFF).feTryStart).done
  else .next s

end Sys2Proof.Machine
end

