-- ==== Sys2Proof/Machine/Path.lean ====
section
/-!
DEFINITION. Rows of the power path (R172, R173, R183-R195): qualification and loss of VBUS, hand-over and return, the closing of
ISW, and the ends of a hold-up.
-/

namespace Sys2Proof.Machine

/-- A cause of R173 is over: the lasting causes of FE with it. -/
def State.clearOpening (s : State) : State := ((s.updPath fun p => { p with opening := [] }).endCause cFE 3 7).endCause cFE 3 9

/-- VBUS_QUALIFIED (R183, R185, R189, R190): no cause of R173 is present; ISW is ordered closed, or a return starts, where the
dwell allows it. -/
def execVbusQualified (s : State) : Out State :=
  if s.live && s.st != stFAWN && s.pathMode != pHANDOVER && !s.bit Reg.PATH_STAT_vbus_qual then
    (((s.clearOpening.setB Reg.PATH_STAT_vbus_qual true).tryClose).tryReturn).done
  else .next s

/-- The gates of ISW are discharged by a cause of R173. A return that had already ordered ISW closed keeps that mark until the
loss is judged (R192); the log entry of an opening in BUS or RETURN is that of the loss, which the opening is (R184). -/
def State.discharge (s : State) (c : IswCause) : State :=
  if s.bit Reg.PATH_STAT_isw_closed || s.path.closing.isSome then
    let mark := if s.pathMode = pRETURN then some (s.path.closing.getD false) else none
    let t := s.openIsw.updPath fun p => { p with closing := mark }
    if t.pathMode = pOPEN then t.pathLog (openingBit c) else t
  else s

/-- ISW_OPENING_CAUSE (R96, R173): reverse current is judged only while ISW is closed or closing. In FAWN a cause raises no fault; with
ISW open it is noted, so that BOOT raises its event. An opening of the held ISW abandons a FAWN entry (R95, R97). -/
def execIswOpeningCause (c : IswCause) (s : State) : Out State :=
  if !s.live || s.path.opening.contains c then .next s
  else if s.st = stFAWN then (s.fawnOpening c).done
  else
    let t := ((s.noteOpening c).discharge c).reportOpening c
    (if s.path.held && s.sys.sleep.isSome then t.abandonSleep else t).done

/-- VBUS_LOSS (R184, R187-R189, R192). -/
def execVbusLoss (c : LossCause) (s : State) : Out State :=
  if s.live && s.st != stFAWN then
    match c with
    | .opening o => ((s.setB Reg.PATH_STAT_vbus_qual false).loss (openingBit o)).done
    | .window => if s.bit Reg.PATH_STAT_vbus_qual then ((s.setB Reg.PATH_STAT_vbus_qual false).loss 0x10).done else .next s
  else .next s

/-- HANDOVER_COMPLETE (R187, R189, R207): mode HOLD, IBEX, the dwell and PATH_HO_TIME; a miss of the bound is reported. Without a
battery the hand-over ends in OPEN. -/
def execHandoverComplete (inReg : Bool) (us : Nat) (s : State) : Out State :=
  if s.pathMode = pHANDOVER then
    let t := s.setMany [(Reg.PATH_STAT_dwell, 1), (Reg.PATH_STAT_vhb_reg, inReg.toNat),
      (Reg.PATH_HO_TIME_t, if inReg then min 65534 us else 65535)]
    if s.bit Reg.PATH_STAT_batt_present then
      let t := t.setPath pHOLD
      let t := if t.bit Reg.SYS_RUN_STAT_ibex then t
        else (t.setMany [(Reg.SYS_RUN_STAT_ibex, 1), (Reg.SYS_RUN_STAT_return_state, t.sys.run.toNat)]).refresh
      (if inReg then t
       else (t.setB Reg.PATH_FLT_ho_slow true).raise { cls := cPATH, src := 0, lvl := 1, cause := 0 }).done
    else
      let t := if t.feState = feLOCKED then t else t.setFe feOFF
      ((t.setPath pOPEN).endIbex).done
  else .next s

/-- DWELL_END (R185, R190). -/
def execDwellEnd (s : State) : Out State := (((s.setB Reg.PATH_STAT_dwell false).tryClose).tryReturn).done

/-- A return whose closing of ISW has not been ordered yet. -/
def State.returning (s : State) : Bool :=
  s.pathMode == pRETURN && s.path.closing.isNone && !s.bit Reg.PATH_STAT_isw_closed && !s.path.slewed

/-- RETURN_MATCH (R190): ISW is ordered closed, both gates fully. -/
def execReturnMatch (s : State) : Out State :=
  if s.returning && s.path.opening.isEmpty && s.feState = feREV then
    (s.updPath fun p => { p with closing := some false }).done
  else .next s

/-- RETURN_MATCH_TIMEOUT (R191): REV ends, a slewed close follows, which a cause of R173 holds off, PATH at L1. -/
def execReturnMatchTimeout (s : State) : Out State :=
  if s.returning && s.feState = feREV then
    let t := ((s.setFe feOFF).updPath fun p => { p with slewed := true }).slewedClose
    ((t.setB Reg.PATH_FLT_match_fail true).raise { cls := cPATH, src := 0, lvl := 1, cause := 1 }).done
  else .next s

/-- ISW_CLOSE_COMPLETE (R172, R186, R190, R191): mode BUS, or in a return the FWD order, or the end of a slewed return. -/
def execIswCloseComplete (s : State) : Out State :=
  if s.path.closing.isSome && s.path.opening.isEmpty then
    let t := (s.setB Reg.PATH_STAT_isw_closed true).updPath fun p => { p with closing := none }
    if t.pathMode = pOPEN then ((t.setPath pBUS).feTryStart).done
    else if t.pathMode = pRETURN then
      (if t.path.slewed then t.endReturn else if t.feState = feREV then t.setFe feCHANGE else t).done
    else t.done
  else .next s

/-- ISW_CLOSE_TIMEOUT (R172, R191): ISW opens, the qualification is withdrawn, PATH at L1; a slewed return ends in OPEN. -/
def execIswCloseTimeout (s : State) : Out State :=
  if s.path.closing = some true then
    let t := (s.openIsw.setMany [(Reg.FE_FLT_isw_slow, 1), (Reg.PATH_STAT_vbus_qual, 0)]).raise { cls := cPATH, src := 0, lvl := 1, cause := 8 }
    let t := if t.pathMode = pRETURN then t.setPath pOPEN else t
    ((t.endIbex).pathLog 0x40).done
  else .next s

/-- The hold-up ends and the path is OPEN (R193). -/
def State.endHold (s : State) : State :=
  let s := if s.feState = feLOCKED then s else s.setFe feOFF
  ((s.openIsw.setPath pOPEN).endIbex).updPath fun p => { p with slewed := false }

/-- HOLDUP_EXHAUSTED (R193). -/
def execHoldupExhausted (s : State) : Out State :=
  if s.pathMode = pHOLD || s.pathMode = pRETURN then
    ((s.endHold.setB Reg.PATH_FLT_hold_exh true).raise { cls := cPATH, src := 0, lvl := 3, cause := 2 }).tryClose.done
  else .next s

/-- DEEP_DISCHARGE_CUTOFF (R195, steps 1 and 2): PATH at L4, the learned record, and the charger held in FAULT. -/
def execDeepDischargeCutoff (s : State) : Out State :=
  if s.romUp && s.bit Reg.PATH_STAT_batt_present && !s.bit Reg.PATH_FLT_cutoff then
    let t := (s.setB Reg.PATH_FLT_cutoff true).updPath fun p => { p with cutPending := true }
    let t := (t.raise { cls := cPATH, src := 0, lvl := 4, cause := 3 }).requestSave 9
    (if t.chgPhase = gOFF then t else t.setChgPhase gFAULT).done
  else .next s

/-- CUTOFF_BATFET_OFF (R193, R195, steps 3 and 4): BATFET opens, a hold-up ends with it, and without a qualified VBUS the ship
latch is set. -/
def execCutoffBatfetOff (s : State) : Out State :=
  if s.path.cutPending then
    let t := (s.updPath fun p => { p with cutPending := false }).batfet
    let t := if [pHANDOVER, pHOLD, pRETURN].contains t.pathMode then t.endHold else t
    (if t.bit Reg.PATH_STAT_vbus_qual then t.tryClose else t.updSys fun y => { y with ship := .latched }).done
  else .next s

end Sys2Proof.Machine
end

