-- ==== Sys2Proof/Machine/Battery.lean ====
section
/-!
DEFINITION. Rows of the battery and its gauge (chapter 9, R206): presence, insertion and removal, charge samples, the filter
cycle with anchors and learning, rest, FAWN intervals and the learned record.
-/

namespace Sys2Proof.Machine

/-! Presence (R206, R225, R226, R228). -/

/-- BATTERY_PRESENCE_RISE (R206, R225, R226): the identity code is read and counting starts; BATFET stays off for 100 ms. The code
that a pack without valid identity shows is not stated. -/
def execBatteryPresenceRise (ntc1 : Nat) (s : State) : Out State :=
  if s.live && s.st != stFAWN && !s.bit Reg.PATH_STAT_batt_present then
    let i := (ntc1 + 50) / 100
    let t := s.setMany [(Reg.PATH_STAT_batt_present, 1), (Reg.GAUGE_PACK_id_valid, (decide (i < 16)).toNat),
      (Reg.GAUGE_PACK_code, if i < 16 then i else Config.freshNat s.free), (Reg.GAUGE_FLAGS_absent, 0)]
    let t := (t.draw.updGauge fun g => { g with idTag := s.getF Reg.GAUGE_PACK_tag, restS := 0, secSum := 0, secN := 0, candTaken := false }).flagged s
    let t := (t.updPath fun p => { p with bfBlocked := true, removedTgt := none }).endCause cCHG 0 4
    let t := (t.batfet.retarget).pathLog 0
    (if t.sys.gaugeAlive then t.beginInsertion false else t).done
  else .next s

/-- INSERTION_CHECK (R206, R226): BATFET to DIODE; below n x 2.0 V no insertion is declared, and GAUGE is raised at L1, whether or not
the gauge core runs. -/
def execInsertionCheck (bats : Nat) (s : State) : Out State :=
  if s.bit Reg.PATH_STAT_batt_present && s.path.bfBlocked then
    let t := (s.updPath fun p => { p with bfBlocked := false }).batfet
    if bats < 2000 * t.cells then
      let u := t.setMany [(Reg.GAUGE_FLAGS_absent, 1), (Reg.GAUGE_FLAGS_settling, 0)]
      let u := ((if t.sys.gaugeAlive then u.noOutputs else u).updGauge fun g => { g with cells := [], ins := .none }).flagged t
      (u.raise { cls := cGAUGE, src := 0, lvl := 1, cause := 12 }).done
    else (if t.gauge.ins = .counting then t.updGauge fun g => { g with ins := .settling } else t).done
  else .next s

/-- The combination of a first estimate with a stored state of charge by inverse variance (R229). -/
def combine (c : CellSt) (s sig : Rat) : CellSt :=
  let w0 := 1 / (c.sig * c.sig)
  let w1 := 1 / (sig * sig)
  let m := (c.s * w0 + s * w1) / (w0 + w1)
  let g := sqrtQ (1 / (w0 + w1))
  { c with s := m, sig := g, sc := m, sigc := g }

/-- INSERTION_FIRST_ESTIMATE (R226, R227, R229): the first estimate of every cell, and the match test; after a cold start a matching
record's charge joins it. Cells in 0.1 mV, the current in 0.1 mA. -/
def execInsertionFirstEstimate (cells : List Nat) (i : Int) (s : State) : Out State :=
  if cells.length != 4 then .fault .illFormed
  else if s.sys.gaugeAlive && (s.gauge.ins = .counting || s.gauge.ins = .settling) then
    let r := if s.gauge.reprofiled then none else s.newestRecord
    let ok := match r with | some b => s.recordMatches b | none => false
    let t := s.updGauge fun g => { g with reprofiled := false, learned := match r with | some b => if ok then learnedOf b else s.fromProfile | none => s.fromProfile }
    let x := t.cycleIn (amps i) 0 0
    let est := (t.gauge.cells.zipIdx).map fun c => (c.1.first x ((cells.getD c.2 0 : Rat) / 10)).clamp
    let est :=
      match r with
      | some b =>
        if ok && t.gauge.cold then
          est.zipIdx.map fun c =>
            let u (o : Nat) : Nat := leNat ((b.drop o).take 2)
            if u (0x24 + 2 * c.2) = 0xFFFF then c.1 else combine c.1 ((u (0x24 + 2 * c.2) : Rat) / 100) ((u 0x22 : Rat) / 100 + 2)
        else est
      | none => est
    (t.updGauge fun g => { g with cells := est, ins := .estimated, cold := false }).done
  else .next s

/-- What the gauge core does when presence falls (R228). -/
def State.gaugeRemoval (s : State) : State :=
  if s.sys.gaugeAlive then
    let t := (s.requestSave 5).noOutputs.setMany [(Reg.GAUGE_EVT_remove, 1), (Reg.GAUGE_FLAGS_settling, 0), (Reg.GAUGE_FLAGS_rest, 0)]
    t.updGauge fun g => { g with cells := [], ins := .none, mirror := none, anchor := none, anchorDue := false, candTaken := false, restS := 0 }
  else s

/-- The battery is gone (R193, R203, R206, R228): the charger faults where it charged, with V_sys_tgt starting at VSYS in mV; a
running hold-up ends; a hand-over first completes (R207).
The cause of CHG_FLT.removed lasts until presence rises again (DESIGN CHOICE, log entry 46). -/
def State.removeBattery (s : State) (vsys : Nat) : State :=
  let b := s
  let charging := s.chgIn [gPRE, gCC, gCV, gTOPOFF]
  let s := ((s.setMany [(Reg.PATH_STAT_batt_present, 0), (Reg.GAUGE_FLAGS_absent, 1)]).endCause cCHG 0 2).updPath fun p =>
    { p with bfBlocked := false, removedTgt := if charging then some vsys else none }
  let s :=
    if charging then
      ((s.setB Reg.CHG_FLT_removed true).chgToFault).raiseLasting { cls := cCHG, src := 0, lvl := 1, cause := 4 }
    else s
  let s :=
    if s.pathMode = pHOLD || s.pathMode = pRETURN then s.endHold.tryClose
    else if s.pathMode = pHANDOVER then
      let t := s.updFe fun f => { f with revOrdered := false }
      if t.feState = feREV then t.setFe feOFF else t
    else s
  let s := s.gaugeRemoval.setMany [(Reg.GAUGE_PACK_id_valid, 0), (Reg.GAUGE_PACK_code, 0)]
  ((s.flagged b).batfet.pathLog 0).retarget

/-- BATTERY_PRESENCE_LOSS (R206, R228). -/
def execBatteryPresenceLoss (s : State) : Out State :=
  if s.live && s.bit Reg.PATH_STAT_batt_present && s.st != stFAWN then (s.removeBattery (s.mv2 33).toNat).done else .next s

/-- BATTERY_REMOVAL_FAST (R206): judged while the charger charges. -/
def execBatteryRemovalFast (vsys : Nat) (s : State) : Out State :=
  if s.bit Reg.PATH_STAT_batt_present && s.chgIn [gPRE, gCC, gCV, gTOPOFF] then (s.removeBattery (10 * vsys)).done else .next s

/-! Charge (R210-R213, R219, R221, R224). -/

/-- R_sh in uOhm (R210). -/
def State.shunt (s : State) : Nat := 10 * s.getF Reg.CHG_RSH_rsh

/-- Samples come from the AON decimator, one a second (R211). -/
def State.aonSamples (s : State) : Bool := s.st = stFAWN || s.st = stBOOT && !s.bit Reg.CLK_STAT_gauge_lock

/-- A new sample in the list of those above (or, with the sign turned, below) every later one of the last 5 s (R219). -/
def pushPeak (now : Nat) (i : Int) (l : List (Nat × Int)) : List (Nat × Int) :=
  ((now, i) :: l.dropWhile fun p => decide (p.2 ≤ i)).filter fun p => decide (now ≤ p.1 + 5000000)

/-- The current has changed by more than C/5 within the last 5 s (R219). -/
def State.jumped (s : State) : Bool :=
  match s.gauge.curHi.getLast?, s.gauge.curLo.getLast? with
  | some h, some l => decide (2 * s.gauge.learned.qFull < (h.2 + l.2 : Int))
  | _, _ => false

/-- A second of the rest test ends with this mean in 0.1 mA (R221): below C/100 it counts, otherwise the rest is over and with it the
rest period's candidate (R222). -/
def State.restSecond (s : State) (mean : Rat) : State :=
  let thr : Rat := if s.st = stBOOT then s.gauge.fawnThr else s.gauge.learned.qFull / 10
  let b := s
  if (if 0 ≤ mean then mean else -mean) < thr then s.updGauge fun g => { g with restS := g.restS + 1 }
  else
    ((s.setB Reg.GAUGE_FLAGS_rest false).updGauge fun g => { g with restS := 0, candTaken := false, anchorDue := false }).flagged b

/-- A sample in the second of the rest test; in FAWN it joins the interval's largest. -/
def State.restSample (s : State) (i : Int) : State :=
  if s.st = stFAWN then s.updGauge fun g => { g with intMax := max g.intMax i.natAbs }
  else if s.aonSamples then s.restSecond i
  else
    let sum := s.gauge.secSum + i
    if s.gauge.secN + 1 < 1000 then s.updGauge fun g => { g with secSum := sum, secN := g.secN + 1 }
    else (s.updGauge fun g => { g with secSum := 0, secN := 0 }).restSecond ((sum : Rat) / 1000)

/-- The sum of the cell channels of the last scan round, where all are valid (R214). -/
def State.cellTotal (s : State) : Option Int := ((List.range s.cells).mapM fun k => s.chan (28 + k)).map fun l => l.foldl (· + ·) 0

/-- A current step of at least C/4 waits for the cell samples after it (R224). -/
def State.stepSample (s : State) (di : Int) : State :=
  match s.cellTotal with
  | some v => if s.gauge.learned.qFull * 10 ≤ 4 * (di.natAbs : Rat) && di != 0 then s.updGauge fun g => { g with stepDue := some (di, v) } else s
  | none => s

/-- A sample of the shunt (R210-R213): its mean voltage in nV, and the time in us that the change of decimator carried into it. Beyond
50 mV it is clipped. The charge joins the accumulator, in FAWN the channel too (R302). -/
def State.takeSample (nV : Int) (carry : Nat) (s : State) : State :=
  let v := max (-50000000) (min 50000000 nV)
  let mA : Rat := (v : Rat) / s.shunt
  let i := roundQ (10 * mA)
  let q := roundQ (mA * ((if s.aonSamples then 1000000 else 1000) + carry : Nat) / 1000)
  let clip := decide (v ≠ nV)
  let di := i - s.iBat
  let t := s.updGauge fun g => { g with
    win := { g.win with iSum := g.win.iSum + i, iN := g.win.iN + 1, clipped := g.win.clipped || clip,
                        clipQ := if clip then g.win.clipQ + q.natAbs else g.win.clipQ }
    curHi := pushPeak s.time i g.curHi, curLo := pushPeak s.time (-i) g.curLo }
  let t := if t.aonSamples then t else t.stepSample di
  let c := unsigned 32 i
  let t := (t.addCharge q).setMany [(Reg.GAUGE_IBAT_i 0, c % 65536), (Reg.GAUGE_IBAT_i 1, c / 65536)]
  let t := if t.st = stFAWN then t.setI (Reg.TEL_CH_val 116) (max (-32767) (min 32767 (roundQ (mA / 10)))) else t
  t.restSample i

/-- CHARGE_SAMPLE (R210-R213). -/
def execChargeSample (nV : Int) (carry : Nat) (s : State) : Out State := .next (if s.sys.vkeep then s.takeSample nV carry else s)

/-! The filter cycle (R213-R224). -/

/-- The cell samples of a scan round join the window (R214), none of a bleed window (R202); the ones after a current step give R_ser
(R224). -/
def State.cellRound (s : State) : State :=
  let s :=
    match s.gauge.stepDue, s.cellTotal with
    | some (di, v), some w =>
      let f := atTemp s.prof.fr s.temp
      let r : Rat := ((w - v : Int) : Rat) / (4 * s.cells : Nat) / di * 10000000
      s.updGauge fun g => { g with stepDue := none, learned :=
        if s.sys.gaugeAlive && s.bit Reg.GAUGE_CTRL_learn_en then { g.learned with rser := cut (g.learned.rser + (r / f - g.learned.rser) / 64) }
        else g.learned }
    | _, _ => s
  if s.bit Reg.CHG_STAT_balancing then s
  else
    match (List.range s.cells).mapM fun k => s.chan (28 + k) with
    | some l => s.updGauge fun g => { g with win := { g.win with
        cellSum := (List.range 4).map fun k => g.win.cellSum.getD k 0 + l.getD k 0, cellN := g.win.cellN + 1 } }
    | none => s.updGauge fun g => { g with win := { g.win with bad := true } }

/-- The mean current of the window in 0.1 mA; without a sample, the latest one. -/
def State.winAmps (s : State) : Rat := if s.gauge.win.iN = 0 then s.iBat else (s.gauge.win.iSum : Rat) / s.gauge.win.iN

/-- The mean voltage of a cell over the window in mV. -/
def State.winVolt (s : State) (k : Nat) : Rat := (s.gauge.win.cellSum.getD k 0 : Rat) / (4 * s.gauge.win.cellN : Nat)

/-- The temperatures of NTC0 and NTC2 (R215), none while open or shorted. -/
def State.ntc0 (s : State) : Option Int := s.chan 40
def State.ntc2 (s : State) : Option Int := s.chan 42

/-- The hardware readings of the window: the cells, the model temperature (R214, R215, R237). -/
def State.windowReadings (s : State) : State :=
  let s := if s.gauge.win.cellN = 0 then s
    else s.each (List.range s.cells) fun m t => t.setF (Reg.GAUGE_CELL_v m) (roundQ (10 * s.winVolt m)).toNat
  s.setI Reg.GAUGE_TEMP_t (match s.ntc0, s.ntc2 with | some t, _ => t | none, some t => t | none, none => 250)

/-- The substitution of the temperature and clipped samples, with their flags and GAUGE at L1 (R213, R215). -/
def State.windowFlags (s : State) : State :=
  let s := s.setMany [(Reg.GAUGE_FLAGS_t_sub, s.ntc0.isNone.toNat), (Reg.GAUGE_FLAGS_over_range, s.gauge.win.clipped.toNat)]
  let s := if s.ntc0.isNone then s.raiseLasting { cls := cGAUGE, src := 0, lvl := 1, cause := 10 } else s.endCause cGAUGE 0 10
  if s.gauge.win.clipped then s.raiseLasting { cls := cGAUGE, src := 0, lvl := 1, cause := 11 } else s.endCause cGAUGE 0 11

/-- |I| of the window in mA, to compare with fractions of Q_full. -/
def State.winMa (s : State) : Rat := (if 0 ≤ s.winAmps then s.winAmps else -s.winAmps) / 10

/-- The cell voltages of the window were all measured. -/
def State.measured (s : State) : Bool := !s.gauge.win.bad && s.gauge.win.cellN != 0

/-- Whether the voltage is usable (R219). -/
def State.usable (s : State) : Bool :=
  s.measured && s.ntc0.isSome && decide (-10 ≤ s.temp) && decide (s.temp ≤ 55) && decide (2 * s.winMa ≤ s.gauge.learned.qFull)
    && !s.jumped && s.gauge.valid

/-- An anchor candidate of the cycle (R222): accepted only if every cell's sigma_a is below its sigma and the temperature is valid
and within 10-45 C. A cycle without measured voltages rejects it (DESIGN CHOICE, log entry 42). Answers whether it was accepted. -/
def State.anchorStep (s : State) : State × Bool :=
  let c := s.cycleIn (amps s.winAmps) 0 0
  let volts := (List.range 4).map s.winVolt
  let cand := (s.gauge.cells.zipIdx).map fun p => p.1.candidate c (volts.getD p.2 0)
  let ok := s.measured && s.ntc0.isSome && decide (10 ≤ s.temp) && decide (s.temp ≤ 45)
    && ((s.gauge.cells.zip cand).all fun p => decide (p.2.2 < p.1.sig))
  let s := s.updGauge fun g => { g with anchorDue := false }
  if ok then
    let sa := cand.map (·.1)
    let t := s.learnAnchor c s.gauge.cells volts sa
    let t := t.updGauge fun g =>
      { g with cells := (g.cells.zip cand).map fun p => { p.1 with s := p.2.1, sig := p.2.2, sc := p.2.1, sigc := p.2.2 },
               anchor := some ⟨sa, cand.map (·.2), s.chargeQ, false⟩ }
    let t := (t.setMany [(Reg.GAUGE_FLAGS_anchored, 1), (Reg.GAUGE_FLAGS_disputed, 0), (Reg.GAUGE_EVT_anchor_acc, 1)]).endCause cGAUGE 0 2
    (t.requestSave 3, true)
  else (s.setB Reg.GAUGE_EVT_anchor_rej true, false)

/-- What the cycle says about load before a rest (R224): 240 cycles in a row at C/4 or more are 60 s. -/
def State.loadStep (s : State) : State :=
  let h := if s.gauge.learned.qFull ≤ 4 * s.winMa then s.gauge.heavy + 1 else 0
  s.updGauge fun g => { g with heavy := h, loaded := g.loaded || decide (240 ≤ h) }

/-- At a wake boot a cell voltage more than 50 mV from the model's is a removal followed by an insertion (R229). -/
def State.wakeDiffers (s : State) : Bool :=
  let c := s.cycleIn (amps s.winAmps) 0 0
  s.gauge.atWake && s.gauge.valid && s.measured && (s.gauge.cells.zipIdx).any fun p =>
    let d := s.winVolt p.2 - (c.p.ocvAt p.1.s c.t + p.1.rest c)
    decide (50 < d) || decide (d < -50)

/-- The estimate is published one cycle after it was made (R226). -/
def State.settleStep (s : State) (was : InsStage) : State :=
  if was = .estimated then
    let t := (s.setMany [(Reg.GAUGE_FLAGS_settling, 0), (Reg.GAUGE_EVT_insert, 1)]).updGauge fun g => { g with ins := .none, valid := true }
    t.requestSave 4
  else s

/-- The cycle of a present pack: prediction, anchor, voltage, limits, load, dispute (R218). A candidate of a wake boot whose first cycle
carries C/20 or more is none (R222). -/
def State.filterStep (s : State) : State :=
  if s.wakeDiffers then (s.gaugeRemoval).beginInsertion false
  else
    let first := s.gauge.atWake
    let was := s.gauge.ins
    let s := s.predictAll (s.cycleIn (amps s.winAmps) (s.chargeQ - s.gauge.qLast : Int) (1 / 4)) true
    let add := 100 * mAh s.gauge.win.clipQ / s.gauge.learned.qFull
    let s := s.updGauge fun g => { g with atWake := false, cells := g.cells.map fun c => { c with sig := c.sig + add } }
    let due := s.gauge.anchorDue && s.gauge.valid && (!first || decide (20 * s.winMa < s.gauge.learned.qFull))
    let p := if due then s.anchorStep else (s.updGauge fun g => { g with anchorDue := false }, false)
    let s := p.1
    let s :=
      if !p.2 && s.usable then
        let c := s.cycleIn (amps s.winAmps) 0 0
        s.updGauge fun g => { g with cells := (g.cells.zipIdx).map fun q => q.1.measure c (s.winVolt q.2) }
      else s
    let s := s.updGauge fun g => { g with cells := g.cells.map CellSt.clamp }
    let s := ((if s.gauge.valid then s.dispute else s).loadStep).settleStep was
    s.updGauge fun g => { g with qLast := s.chargeQ }

/-- A changed profile commits at the start of a cycle: learned values from the profile, and the states estimated again (R217, R236); a
rest that runs goes on. -/
def State.takeProfile (s : State) : State :=
  if s.gauge.profileDue then
    let s := s.updGauge fun g => { g with profileDue := false, inForce := s.profSel }
    let t := s.updGauge fun g => { g with learned := s.fromProfile }
    if t.bit Reg.GAUGE_FLAGS_absent then t
    else
      ((t.beginInsertion false).updGauge fun g => { g with ins := .settling, reprofiled := true, restS := s.gauge.restS }).setB
        Reg.GAUGE_FLAGS_rest (s.bit Reg.GAUGE_FLAGS_rest)
  else s

/-- GAUGE_FILTER_CYCLE (R214-R224, R230, R234): the commit of GAUGE fields comes first (R236); the readings are hardware, the rest
needs a gauge image. All outputs are published together, and the next window begins. -/
def execGaugeFilterCycle (cut : Bool) (s : State) : Out State :=
  if s.live && s.st != stFAWN then
    let t := (s.commit .gauge).windowReadings
    let t :=
      if t.sys.gaugeAlive then
        let t := t.windowFlags.takeProfile
        let t := if t.bit Reg.GAUGE_FLAGS_absent || t.gauge.cells.isEmpty then t else t.filterStep
        ((t.publish t.winAmps).putMirror cut).flagged s
      else t
    (t.updGauge fun g => { g with win := {} }).done
  else .next s

/-! Rest (R221, R224), FAWN (R220) and the record (R231, R232). -/

/-- REST_REACHED (R221): the rest flag, an anchor candidate, and the fit of the relaxation where a load preceded (log entry 3). -/
def execRestReached (s : State) : Out State :=
  if s.sys.gaugeAlive && s.bit Reg.PATH_STAT_batt_present && !s.bit Reg.GAUGE_FLAGS_rest && s.rested then
    let t := (s.setB Reg.GAUGE_FLAGS_rest true).updGauge fun g => { g with anchorDue := true, candTaken := true }
    let t :=
      if t.gauge.loaded && t.bit Reg.GAUGE_CTRL_learn_en then
        (t.updGauge fun g => { g with learned := { g.learned with
          rpol := g.learned.rpol + (Config.freshRat t.free - g.learned.rpol) / 8,
          cpol := g.learned.cpol + (Config.freshRat (t.free + 1) - g.learned.cpol) / 8 } }).draw.draw
      else t
    ((t.updGauge fun g => { g with loaded := false }).flagged s).done
  else .next s

/-- FAWN_GAUGE_INTERVAL (R97, R220, R221): its last sample is taken, the interval's charge joins the FAWN total, the rest test takes its largest sample, and the
charge wake is checked; under the ship latch nothing wakes (R99). -/
def execFawnGaugeInterval (nV : Int) (carry : Nat) (s : State) : Out State :=
  if s.live && s.st = stFAWN then
    let s := s.takeSample nV carry
    let below := decide (s.gauge.intMax < s.gauge.fawnThr)
    let t := (s.updSys fun y => { y with fawnQ := s.chargeQ - y.fawnQ0 }).updGauge fun g =>
      { g with intMax := 0, restS := if below then g.restS + 10 else 0, candTaken := g.candTaken && below }
    let dq := t.getF Reg.SYS_WAKE_DQ_dq
    if t.asleep && dq != 0 && decide ((dq : Int) * 3600000 < -t.sys.fawnQ) then (t.wakeUp Reg.SYS_WAKE_SRC_gauge).done else t.done
  else .next s

/-- LEARNED_RECORD_TIMER (R231). -/
def execLearnedRecordTimer (s : State) : Out State :=
  if s.sys.gaugeAlive && !s.bit Reg.GAUGE_FLAGS_rest then (s.requestSave 1).done else .next s

/-- LEARNED_RECORD_WRITE_DONE (R231, R232, R360): the commit word is written; commands that waited are answered with the bank, and
the trigger that waits behind it starts the next write. -/
def execLearnedRecordWriteDone (s : State) : Out State :=
  match s.gauge.writing with
  | none => .next s
  | some w =>
    let next := s.gauge.waiting
    let t := s.endSave
    let t := t.answer .gaugeSave fun c u => u.respond c sOK 0 [BitVec.ofNat 8 w.bankB.toNat, 0, 0, 0]
    match next with
    | some (cause, body) =>
      let t := t.updMbx fun m => { m with taken := m.taken.map fun c => if c.wait == .gaugeNext then { c with wait := .gaugeSave } else c }
      (t.putSave cause body).done
    | none => t.done

end Sys2Proof.Machine
end

