-- ==== Sys2Proof/Machine/Chg.lean ====
section
/-!
DEFINITION. Rows of the charger that are events of the charger itself (R198-R204). A row toward FAULT or SUSPEND comes before the
others, so a row whose phase is about to leave changes nothing.
-/

namespace Sys2Proof.Machine

/-- A charger row whose own condition has come about in phase `p`, with no reason and no cause present (R198). -/
def State.chgStep (s : State) (p : Nat) (go : State → State) : Out State :=
  if s.chgPhase = p && !s.suspended && !s.causeOn cCHG 0 then (go s).done else .next s

/-- CHG_QUAL_DONE (R198). -/
def execChgQualDone (cell : Nat) (s : State) : Out State :=
  s.chgStep gQUAL fun t => t.setChgPhase (if cell < t.getF Reg.CHG_VPRE_vpre then gPRE else gCC)

/-- CHG_PRE_TO_CC (R198). -/
def execChgPreToCc (s : State) : Out State := s.chgStep gPRE fun t => t.setChgPhase gCC

/-- CHG_CC_TO_CV (R198). -/
def execChgCcToCv (s : State) : Out State := s.chgStep gCC fun t => t.setChgPhase gCV

/-- CHG_CV_TO_TOPOFF (R198, R231): the learned record is written; a top-off of no time is over at once. -/
def execChgCvToTopoff (s : State) : Out State :=
  s.chgStep gCV fun t =>
    let u := (t.setChgPhase gTOPOFF).requestSave 2
    if u.getF Reg.CHG_TOPOFF_t_topoff = 0 then u.setChgPhase gDONE else u

/-- CHG_TOPOFF_TO_DONE (R198). -/
def execChgTopoffToDone (s : State) : Out State := s.chgStep gTOPOFF fun t => t.setChgPhase gDONE

/-- The state-of-charge criterion of R200. -/
def State.socLow (s : State) : Bool :=
  s.getF Reg.CHG_RECH_soc != 0 && s.sys.gaugeAlive && !s.bit Reg.SYS_STATE_gauge_lost && !s.bit Reg.GAUGE_FLAGS_absent
    && decide (s.getF Reg.GAUGE_SOC_soc < 100 * s.getF Reg.CHG_RECH_soc)

/-- CHG_RECHARGE (R200): DONE to QUAL with rech_evt; a suspend reason then acts in the same cycle. -/
def execChgRecharge (byVoltage : Bool) (s : State) : Out State :=
  if s.chgPhase = gDONE && (byVoltage || s.socLow) then
    (((s.setMany [(Reg.CHG_STAT_rech_evt, 1), (Reg.HOST_INT_STAT_chg, 1)]).setChgPhase gQUAL).chgEval).done
  else .next s

/-- CHG_SUSPEND (R199): the temperature reason is set where it is the one that arose. -/
def execChgSuspend (temp : Bool) (s : State) : Out State :=
  ((if temp then s.setB Reg.CHG_STAT_susp_temp true else s).chgEval).done

/-- CHG_SUSPEND_END (R198): no reason has held for 1 s, the temperature reason included. -/
def execChgSuspendEnd (s : State) : Out State :=
  let t := s.setB Reg.CHG_STAT_susp_temp false
  if s.chgPhase = gSUSPEND && !t.suspended && !s.causeOn cCHG 0 then (t.setChgPhase gQUAL).done else .next s

/-- A cause of R203: its CHG_FLT bit, FAULT, and CHG at its level. -/
def State.chgFail (s : State) (bit : Fld) (cause lvl : Nat) : State :=
  ((s.setB bit true).chgToFault).raiseLasting { cls := cCHG, src := 0, lvl := lvl, cause := cause }

/-- CHG_FAULT (R203): over-voltage is judged while BATFET is ON, an empty pack in QUAL or PRE, over-temperature in every phase; from OFF
and DONE no row of R198 leads to FAULT. -/
def execChgFault (c : ChgCause) (s : State) : Out State :=
  if !s.romUp then .next s
  else
    match c with
    | .ov => if s.getF Reg.PATH_STAT_bf_mode = 2 then (s.chgFail Reg.CHG_FLT_ov 0 3).done else .next s
    | .ot => (s.chgFail Reg.CHG_FLT_ot 1 2).done
    | .packUv => if s.chgIn [gQUAL, gPRE] then (s.chgFail Reg.CHG_FLT_pack_uv 3 1).done else .next s

/-- CHG_SAFETY_TIMER_EXPIRY (R201, R203). -/
def execChgSafetyTimerExpiry (s : State) : Out State :=
  if s.chgIn [gPRE, gCC, gCV] then (s.chgFail Reg.CHG_FLT_timer 2 1).done else .next s

/-- CHG_FAULT_RECOVER (R195, R198): every CHG_FLT bit reads 0, every cause is absent, no cut-off is in force. -/
def execChgFaultRecover (s : State) : Out State :=
  let clear := [Reg.CHG_FLT_ov, Reg.CHG_FLT_ot, Reg.CHG_FLT_timer, Reg.CHG_FLT_pack_uv, Reg.CHG_FLT_removed].all fun f => !s.bit f
  if s.chgPhase = gFAULT && clear && !s.causeOn cCHG 0 && !s.bit Reg.PATH_FLT_cutoff then
    ((s.setChgPhase gQUAL).chgEval).done
  else .next s

/-- The cells that bleed in the next window (R202): above the lowest by more than bal_delta, or once bleeding by more than half of
it; voltages in 0.25 mV. -/
def bleeders (delta : Nat) (now : List Nat) (v : List Int) : List Nat :=
  let low := v.foldl min (v.headD 0)
  (List.range v.length).filter fun k =>
    let d := v.getD k 0 - low
    decide ((4 * delta : Nat) < d) || now.contains k && decide ((2 * delta : Nat) < d)

/-- BALANCE_WINDOW (R202): sinks are on in the bleed window only. -/
def execBalanceWindow (bleed : Bool) (s : State) : Out State :=
  if s.chgPhase = gTOPOFF then
    if bleed && s.bit Reg.CHG_CTRL_bal_en then
      let l := match (List.range s.cells).mapM fun k => s.chan (28 + k) with
        | some v => bleeders (s.getF Reg.CHG_TOPOFF_bal_delta) s.chg.bleeding v
        | none => []
      ((s.updChg fun c => { c with bleeding := l }).setB Reg.CHG_STAT_balancing (!l.isEmpty)).done
    else (s.setB Reg.CHG_STAT_balancing false).done
  else .next s

end Sys2Proof.Machine
end

