-- ==== Sys2Proof/Machine/Cmd.lean ====
section
/-!
DEFINITION. The commands of the groups SYS, FLT, GAUGE, SEQ, TEL, LOG, DIRECT and HERD (R356-R362, R366-R368). Each checks in
the order of R347, and one that does not complete OK has no effect.
-/

namespace Sys2Proof.Machine

/-- The checks every command without payload starts with: state, and an empty payload. -/
def State.bare (s : State) (c : Taken) : List (Bool × Nat) := [(!s.admits c, sNOT_NOW), (c.badLen 0, sBAD)]

/-! SYS (R356-R358). -/

/-- Version and interface bytes of an area of the running pair; 0 in RECOVERY. -/
def State.verBytes (s : State) (gauge : Bool) : List Byte :=
  match s.upd.running with
  | some b =>
    let h := s.header b gauge
    leBytes 1 (hdrMajor h) ++ leBytes 1 (hdrMinor h) ++ leBytes 1 (hdrPatch h) ++ leBytes 1 (hdrIf h)
  | none => [0, 0, 0, 0]

/-- SYS.INFO (R356). -/
def State.cmdInfo (s : State) (c : Taken) : State :=
  s.guarded c (s.bare c ++ [(!c.fits 20, sBAD)]) fun t =>
    t.respond c sOK 0 (leBytes 2 0x4880 ++ leBytes 1 0xB0 ++ leBytes 1 0x01
      ++ (List.range 4).flatMap (fun i => leBytes 2 (t.fuse 1 i)) ++ t.verBytes false ++ t.verBytes true)

/-- SYS.HEARTBEAT (R336, R356): the heartbeat counted at the take; the execution answers. -/
def State.cmdHeartbeat (s : State) (c : Taken) : State := s.guarded c (s.bare c) fun t => t.respond c sOK 0 []

/-- SYS.RUN (R89, R356). -/
def State.cmdRun (s : State) (c : Taken) : State :=
  s.guarded c ((s.latched, sLIMIT) :: s.bare c) fun t =>
    ((t.setB Reg.SYS_RUN_STAT_cmd_run true).runEval).respond c sOK (decide (t.getF Reg.SYS_RUN_CFG_run_src = 0)).toNat []

/-- SYS.STOP (R89, R356). -/
def State.cmdStop (s : State) (c : Taken) : State :=
  s.guarded c (s.bare c) fun t => ((t.setB Reg.SYS_RUN_STAT_cmd_run false).runEval).respond c sOK 0 []

/-- A sleep request consults the level of the WAKE pin only where WAKE has asserted (log entry 15): one draw, and a released
pin stays known as released. -/
def State.askWake (s : State) : State :=
  if s.bit Reg.SYS_WAKE_EN_wake && s.sys.wakePin then
    (s.updSys fun y => { y with wakePin := Config.freshNat s.free % 2 == 1 }).draw
  else s

/-- SYS.SLEEP (R94, R95): the response precedes the entry sequence. -/
def State.cmdSleep (s : State) (c : Taken) : State :=
  match (s.bare c).find? fun x => x.1 with
  | some x => (if x.2 = sNOT_NOW then s.setB Reg.SYS_RUN_STAT_sleep_refused true else s).respond c x.2 0 []
  | none =>
    if s.sleepRefused || s.sys.sleep.isSome then (s.askWake.setB Reg.SYS_RUN_STAT_sleep_refused true).respond c sNOT_NOW 0 []
    else (s.askWake.respond c sOK 0 []).startSleep false

/-- SYS.SHIP (R99): VBUSS and VHB both below 6.0 V. -/
def State.cmdShip (s : State) (c : Taken) : State :=
  s.guarded c [(!s.admits c, sNOT_NOW), (c.badLen 0 || !c.force, sBAD),
      (decide (6000 ≤ s.mv2 35) || decide (6000 ≤ s.mv2 34) || s.sys.sleep.isSome, sNOT_NOW)] fun t =>
    (t.respond c sOK 0 []).startSleep true

/-- DOWN runs first, then the reset boot (R86). -/
def State.resetDown (s : State) : State :=
  let t := (s.abortSleep).updSys fun y => { y with resetAfterDown := true }
  match t.getF Reg.SEQ_STAT_table with
  | 0 => t.seqStart 2
  | 1 => t.updSeq fun q => { q with fell := true, rose := false }
  | _ => t

/-- SYS.RESET (R86, R356): the response precedes the work. -/
def State.cmdReset (s : State) (c : Taken) : State :=
  s.guarded c [(!s.admits c, sNOT_NOW), (c.badLen 0 || !c.force, sBAD), (s.latched, sDENIED)] fun t =>
    let u := t.respond c sOK 0 []
    if u.stIn [stSTANDBY, stRUN] then u.resetDown else u.boot .reset [Reg.SYS_RESET_CAUSE_cmd]

/-- SYS.RESUME (R87, R294): SAFE is left; a hold-up that still runs shows IBEX with return state STANDBY. -/
def State.cmdResume (s : State) (c : Taken) : State :=
  s.guarded c (s.bare c ++ [(s.latched, sDENIED), (s.getF Reg.SEQ_STAT_table != 0 || !s.seq.safeDone, sNOT_NOW),
      (s.flt.stats.any (fun x => decide (4 ≤ x.lvl)), sCAUSE)]) fun t =>
    let u := ((t.setMany [(Reg.SYS_RUN_STAT_safe, 0), (Reg.SYS_RUN_STAT_return_state, 0)]).updSys fun y => { y with run := false }).refresh
    u.respond c sOK 0 []

/-- A revocation in the tick of a take comes first: the command on that resource is answered DENIED (R343). -/
def State.denyRevoked (s : State) : State :=
  (s.mbx.taken.filter fun x => x.port == .side && x.tookAt == s.time && x.wait == .none
    && !({ x with auth := s.leases }).leaseOk).foldl (fun t x => t.respond x sDENIED 0 []) s

/-- SYS.LEASE (R339, R357). -/
def State.cmdLease (s : State) (c : Taken) : State :=
  let g := c.u 0 2
  let r := c.u 2 2
  let host := c.port == .host
  s.guarded c [(!s.admits c, sNOT_NOW), (c.badLen 4 || decide (0x8000 ≤ g) || decide (0x8000 ≤ r) || Nat.land g r != 0 || !c.fits 2, sBAD),
      (!host && g != 0, sDENIED), (host && Nat.land r s.leaseFuse != 0, sLIMIT)] fun t =>
    let add := if host then Nat.lor t.granted (g - Nat.land g t.leaseFuse) else t.granted
    let u := { t with granted := add - Nat.land add r }
    let u := if u.granted = t.granted then u else u.setB Reg.HOST_INT_STAT_lease true
    let u := if u.leases = t.leases then u else u.request rqLEASE
    (u.denyRevoked).respond c sOK 0 (leBytes 2 u.leases)

/-- SYS.SAVE (R358): the records of the named resources are written, or removed; the bytes in use follow a record layout that
the manual does not give (log entry 7). -/
def State.cmdSave (s : State) (c : Taken) : State :=
  let m := c.u 0 2
  s.guarded c [(!s.admits c, sNOT_NOW), (s.sys.vkeepLow, sNOT_NOW),
      (c.badLen 4 || bitOf m 11 || bitOf m 12 || bitOf m 15 || decide (1 < c.u 2 2) || !c.fits 4, sBAD)] fun t =>
    let rs := (List.range 15).filter (bitOf m ·)
    let keep := t.nv.store.filter fun p => !rs.contains p.1
    let new := if bitOf (c.u 2 2) 0 then [] else rs.map fun r => (r, t.storeRecord r)
    let u := (t.updNv fun v => { v with store := keep ++ new, profile := if bitOf m 6 && bitOf (c.u 2 2) 0 then none else v.profile }).draw
    u.respond c sOK 0 (leBytes 4 (Config.freshNat t.free % 65537))

def execSysInfo (p : Port) (tag : BitVec 6) (s : State) : Out State := s.runCmd p tag (· == 0x0110) State.cmdInfo
def execSysHeartbeat (p : Port) (tag : BitVec 6) (s : State) : Out State := s.runCmd p tag (· == 0x0111) State.cmdHeartbeat
def execSysRun (p : Port) (tag : BitVec 6) (s : State) : Out State := s.runCmd p tag (· == 0x0112) State.cmdRun
def execSysStop (p : Port) (tag : BitVec 6) (s : State) : Out State := s.runCmd p tag (· == 0x0113) State.cmdStop
def execSysSleep (p : Port) (tag : BitVec 6) (s : State) : Out State := s.runCmd p tag (· == 0x0114) State.cmdSleep
def execSysShip (p : Port) (tag : BitVec 6) (s : State) : Out State := s.runCmd p tag (· == 0x0115) State.cmdShip
def execSysReset (p : Port) (tag : BitVec 6) (s : State) : Out State := s.runCmd p tag (· == 0x0116) State.cmdReset
def execSysResume (p : Port) (tag : BitVec 6) (s : State) : Out State := s.runCmd p tag (· == 0x0117) State.cmdResume
def execSysLease (p : Port) (tag : BitVec 6) (s : State) : Out State := s.runCmd p tag (· == 0x0118) State.cmdLease
def execSysSave (p : Port) (tag : BitVec 6) (s : State) : Out State := s.runCmd p tag (· == 0x0119) State.cmdSave

/-! FLT (R290, R291, R295-R297, R359). -/

/-- FLT.ACK (R290). -/
def State.cmdAck (s : State) (c : Taken) : State :=
  s.guarded c [(!s.admits c, sNOT_NOW), (c.badLen 4 || c.notZero 2 2, sBAD)] fun t => (t.ack (c.u 0 2)).respond c sOK 0 []

/-- FLT.CLEAR (R291): the bits of the mask that stayed set come back. -/
def State.cmdClear (s : State) (c : Taken) : State :=
  s.guarded c [(!s.admits c, sNOT_NOW), (c.badLen 10 || decide (15 < c.u 0 1) || c.notZero 1 1 || !c.fits 8, sBAD)] fun t =>
    let p := [0, 1, 2, 3].foldl (fun (p : State × List Nat) w =>
      let q := p.1.clearWord (c.u 0 1) w (c.u (2 + 2 * w) 2)
      (q.1, p.2 ++ [q.2])) (t, [])
    p.1.respond c (if p.2.all (· == 0) then sOK else sCAUSE) 0 (p.2.flatMap (leBytes 2))

/-- FLT.RELEASE (R297). -/
def State.cmdRelease (s : State) (c : Taken) : State := s.guarded c (s.bare c) fun t => t.releaseFaultN.respond c sOK 0 []

/-- The port that holds authority over the latch (R339), as a command sees it: one of the side-band keeps the authority it was taken
with (R337). -/
def State.fltAuthority (s : State) (c : Taken) : Port :=
  if bitOf (match c.port with | .host => s.leases | .side => c.auth) 9 then .side else .host

/-- A second FLT.UNLATCH comes too early, too late, or from the other port (R296). -/
def State.unlatchLate (s : State) (p : Port) : Bool :=
  match s.flt.unlatchAt with
  | some (t, q) => q != p || decide (s.time < t + 10000) || decide (t + 5000000 < s.time)
  | none => false

/-- FLT.UNLATCH (R295, R296, R359): every answer of its own checks carries the count after the command. -/
def State.cmdUnlatch (s : State) (c : Taken) : State :=
  let answer (t : State) (status : Nat) : State := t.respond c status 0 (leBytes 1 (t.getF Reg.FLT_LATCH_count) ++ [0, 0, 0])
  s.guarded c [(!s.admits c, sNOT_NOW), (c.badLen 4 || c.notZero 2 2 || !c.fits 4, sBAD)] fun t =>
    if !t.latched then answer t sNOT_NOW
    else if t.fltAuthority c != c.port then answer t sDENIED
    else if c.u 0 2 != t.getF Reg.FLT_UNLATCH_KEY_key || t.unlatchLate c.port then
      answer (((t.setF Reg.FLT_LATCH_count 0).newKey).updFlt fun f => { f with unlatchAt := none }) sDENIED
    else if t.flt.stats.any fun x => x.lvl == 5 then answer t sCAUSE
    else
      match t.flt.unlatchAt with
      | none => answer ((t.setF Reg.FLT_LATCH_count 1).updFlt fun f => { f with unlatchAt := some (t.time, c.port) }) sOK
      | some _ => answer ((t.setMany [(Reg.FLT_LATCH_count, 0), (Reg.FLT_LATCH_latched, 0)]).updFlt fun f => { f with unlatchAt := none }) sOK

def execFltAck (p : Port) (tag : BitVec 6) (s : State) : Out State := s.runCmd p tag (· == 0x0A10) State.cmdAck
def execFltClear (p : Port) (tag : BitVec 6) (s : State) : Out State := s.runCmd p tag (· == 0x0A11) State.cmdClear
def execFltRelease (p : Port) (tag : BitVec 6) (s : State) : Out State := s.runCmd p tag (· == 0x0A12) State.cmdRelease
def execFltUnlatch (p : Port) (tag : BitVec 6) (s : State) : Out State := s.runCmd p tag (· == 0x0A13) State.cmdUnlatch

/-! GAUGE (R360, R361). -/

/-- A command that has executed and waits for its response. -/
def State.await (s : State) (c : Taken) (w : Wait) : State :=
  s.updMbx fun m => { m with taken := m.taken.map fun x => if x.port == c.port && x.tag == c.tag then { x with wait := w } else x }

/-- GAUGE.SAVE (R231, R360, R371): the response follows its own write. -/
def State.cmdGaugeSave (s : State) (c : Taken) : State :=
  match (s.bare c ++ [(!c.fits 4, sBAD)]).find? fun x => x.1 with
  | some x => s.respond c x.2 0 []
  | none =>
    if s.sys.vkeepLow then (s.setB Reg.GAUGE_EVT_save_fail true).respond c sNOT_NOW 0 []
    else if !s.sys.gaugeAlive || !s.bit Reg.PATH_STAT_batt_present then s.respond c sNOT_NOW 0 []
    else (s.await c (if s.gauge.writing.isSome then .gaugeNext else .gaugeSave)).startSave 7

/-- The first field of a custom profile out of its range, by offset (R361). -/
def badProfile (c : Taken) : Option Nat :=
  let r (o lo hi : Nat) : Bool := decide (c.u o 2 < lo) || decide (hi < c.u o 2)
  let ocv (i : Nat) : Nat := c.u (0x20 + 2 * i) 2
  let l : List (Bool × Nat) :=
    [(c.u 0 2 != 1, 0x00), (c.u 3 1 != 0, 0x03), (r 0x04 100 20000, 0x04), (r 0x06 100 20000, 0x06), (r 0x08 10 6000, 0x08),
     (r 0x0A 0 500, 0x0A), (c.u 0x0A 2 != 0 && r 0x0C 10 500, 0x0C), (r 0x0E 9500 10000, 0x0E), (r 0x10 5 100, 0x10),
     (c.u 0x12 2 != 0, 0x12)]
    ++ (List.range 5).map (fun i => (r (0x14 + 2 * i) 10 1000, 0x14 + 2 * i)) ++ [(c.u 0x1E 2 != 0, 0x1E)]
    ++ (List.range 165).map (fun i =>
        (decide (ocv i < 20000) || decide (45000 < ocv i) || (i % 33 != 0 && decide (ocv i ≤ ocv (i - 1))), 0x20 + 2 * i))
    ++ [(c.u 0x16A 2 != 0, 0x16A)]
  (l.find? fun x => x.1).map (·.2)

/-- GAUGE.PROFILE (R236, R361): a custom profile is stored, or a revert deletes it; the next filter cycle takes it. -/
def State.cmdProfile (s : State) (c : Taken) : State :=
  let short := c.payload.length = 4
  if !s.admits c || s.sys.vkeepLow then s.respond c sNOT_NOW 0 []
  else if !short && c.badLen 368 then s.respond c sBAD 0 []
  else
    match (if short then (if c.u 0 2 != 1 then some 0 else if c.u 3 1 != 1 then some 3 else none) else badProfile c) with
    | some o => s.respond c sBAD o []
    | none =>
      if !short && c.u 0x16C 4 != crc32 (c.payload.take 0x16C) then s.respond c sCRC 0 []
      else if c.u 2 1 != s.getF Reg.CHG_CFG_chem then s.respond c sINCOMPATIBLE 0 []
      else
        ((s.updNv fun v => { v with profile := if short then none else some c.payload }).updGauge fun g =>
          { g with profileDue := true }).respond c sOK 0 []

def execGaugeSave (p : Port) (tag : BitVec 6) (s : State) : Out State := s.runCmd p tag (· == 0x0610) State.cmdGaugeSave
def execGaugeProfile (p : Port) (tag : BitVec 6) (s : State) : Out State := s.runCmd p tag (· == 0x0611) State.cmdProfile

/-! SEQ, TEL and LOG (R362). -/

/-- SEQ.EVENT (R270, R362). -/
def State.cmdEvent (s : State) (c : Taken) : State :=
  s.guarded c [(!s.admits c, sNOT_NOW), (c.badLen 4 || c.notZero 2 2, sBAD)] fun t =>
    (t.applyAll .control (t.cover [(0x400C, c.u 0 2, c.u 0 2)])).respond c sOK 0 []

/-- TEL.SNAPSHOT (R308, R362): the answer follows the round's snapshot. -/
def State.cmdSnapshot (s : State) (c : Taken) : State :=
  s.guarded c [(!s.admits c, sNOT_NOW), (c.badLen 4 || decide (1 < c.u 0 1) || c.notZero 1 3 || !c.fits 8, sBAD)] fun t =>
    (t.await c .snapshot).askSnap (c.u 0 1 == 1)

/-- TEL.SLOT_READ (R313, R362). -/
def State.cmdSlotRead (s : State) (c : Taken) : State :=
  let slot := c.u 0 1
  let off := c.u 2 2
  let n := c.u 4 2
  s.guarded c [(!s.admits c, sNOT_NOW),
      (c.badLen 8 || decide (7 < slot) || c.notZero 1 1 || c.notZero 6 2 || off % 4 != 0 || n % 4 != 0 || n = 0
        || decide (4096 < off + n) || !c.fits n, sBAD),
      (s.tel.copies.any (fun x => x.slot == some slot), sBUSY)] fun t =>
    t.respond c sOK (t.slotSeq slot).isSome.toNat (memRead (mSNAP + 0x1000 * slot + off) n t.mram)

/-- LOG.MARK (R318, R362). -/
def State.cmdMark (s : State) (c : Taken) : State :=
  s.guarded c [(!s.admits c, sNOT_NOW), (c.badLen 4 || c.notZero 2 2, sBAD)] fun t => (t.log 0x0A (c.u 0 2) []).respond c sOK 0 []

def execSeqEvent (p : Port) (tag : BitVec 6) (s : State) : Out State := s.runCmd p tag (· == 0x0910) State.cmdEvent
def execTelSnapshot (p : Port) (tag : BitVec 6) (s : State) : Out State := s.runCmd p tag (· == 0x0B10) State.cmdSnapshot
def execTelSlotRead (p : Port) (tag : BitVec 6) (s : State) : Out State := s.runCmd p tag (· == 0x0B11) State.cmdSlotRead
def execLogMark (p : Port) (tag : BitVec 6) (s : State) : Out State := s.runCmd p tag (· == 0x0C10) State.cmdMark

/-! DIRECT (R342, R368). -/

/-- DIRECT.GRANT; a host loss of the same tick comes first (R343). -/
def State.cmdGrant (s : State) (c : Taken) : State :=
  let lost := s.bit Reg.SYS_STATE_host_lost || s.hbPassed
  s.guarded c (s.bare c ++ [(bitOf (s.safety 0x21) 10 || lost, sDENIED)]) fun t =>
    (t.setB Reg.HOST_STAT_direct true).respond c sOK 0 []

/-- DIRECT.END: outside direct mode it changes nothing. -/
def State.cmdEnd (s : State) (c : Taken) : State :=
  s.guarded c (s.bare c) fun t => (t.setB Reg.HOST_STAT_direct false).respond c sOK 0 []

def execDirectGrant (p : Port) (tag : BitVec 6) (s : State) : Out State := s.runCmd p tag (· == 0x1110) State.cmdGrant
def execDirectEnd (p : Port) (tag : BitVec 6) (s : State) : Out State := s.runCmd p tag (· == 0x1111) State.cmdEnd

/-! HERD (R366, R367, R396, R399, R400). -/

/-- The bridge controls a herd port: the role is enabled and the port present (R396). -/
def State.herdUp (s : State) (b : Bool) : Bool :=
  s.bit Reg.SB_HERD_CFG_bridge_en && s.bit (if b then Reg.SB_HERD_STAT_pres_b else Reg.SB_HERD_STAT_pres_a)

/-- Enumerates one port: RELEASE frees every device, then the identifying devices take rising indices, at most 32 (R399). -/
def State.enumerate (s : State) (b : Bool) (levels : List Byte) : State :=
  let base := if b then 32 else 0
  let t := s.each (List.range 32) fun i t => t.setMany [(Reg.SB_CHILD_valid (base + i), 0), (Reg.SB_CHILD_level (base + i), 0)]
  let t := ((levels.take 32).zipIdx).foldl (fun u x =>
    u.setMany [(Reg.SB_CHILD_valid (base + x.2), 1), (Reg.SB_CHILD_level (base + x.2), x.1.toNat)]) t
  t.setF (if b then Reg.SB_HERD_STAT_cnt_b else Reg.SB_HERD_STAT_cnt_a) (min 32 levels.length)

/-- A transfer on a herd port is abandoned after three lost arbitrations (R386). -/
def State.herdLost (s : State) (b lost : Bool) : State := if lost then s.raise { cls := cCOMM, src := 2 + b.toNat, lvl := 1 } else s

/-- HERD.ENUMERATE (R366, R386, R399): the bound decides over a transfer that was abandoned. -/
def State.cmdEnumerate (onA onB : List Byte) (lowA lowB lostA lostB : Bool) (s : State) (c : Taken) : State :=
  let a := bitOf (c.u 0 1) 0
  let b := bitOf (c.u 0 1) 1
  s.guarded c [(!s.admits c, sNOT_NOW), (c.badLen 4 || decide (3 < c.u 0 1) || c.notZero 1 3 || !c.fits 4, sBAD),
      (a && !s.herdUp false || b && !s.herdUp true, sNOT_NOW), (a && lowA || b && lowB, sTIMEOUT)] fun t =>
   if a && lostA || b && lostB then ((t.herdLost false (a && lostA)).herdLost true (b && lostB)).respond c sTIMEOUT 0 []
   else
    let u := if a then t.enumerate false onA else t
    let u := if b then u.enumerate true onB else u
    let n (on : Bool) (l : List Byte) : Nat := if on then min 32 l.length else 0
    let many := a && decide (32 < onA.length) || b && decide (32 < onB.length)
    u.respond c (if many then sLIMIT else sOK) 0 (leBytes 1 (n a onA) ++ leBytes 1 (n b onB) ++ [0, 0])

/-- The remote descriptor of a HERD.FORWARD: bytes of its pointed payload, and the capacity of its pointed response. -/
def remotePtr (d : List Byte) : Nat := if bitOf (leNat ((d.drop 1).take 1)) 0 then leNat ((d.drop 4).take 2) else 0
def remoteCap (d : List Byte) : Nat := if bitOf (leNat ((d.drop 1).take 1)) 1 then leNat ((d.drop 0x10).take 2) else 0

/-- HERD.FORWARD (R367, R400): sent to the hop-1 child; the answer follows the remote entry. -/
def State.cmdForward (lost : Bool) (s : State) (c : Taken) : State :=
  let route := c.u 0 4
  let hop := route % 64
  let d := (c.payload.drop 8).take 32
  let w := c.u 4 2
  s.guarded c [(!s.admits c, sNOT_NOW),
      (decide (c.payload.length < 40) || decide (1068 < c.payload.length) || !c.rptr || decide (2 ^ 20 ≤ route)
        || decide (route / 2 ^ 18 = 0) || (w != 0 && (decide (w < 10) || decide (5000 < w))) || c.notZero 6 2
        || c.payload.length != 40 + remotePtr d || decide (1024 < remoteCap d) || decide (c.rcap < 32 + remoteCap d)
        || !s.bit (Reg.SB_CHILD_valid hop), sBAD)] fun t => (t.herdLost (decide (32 ≤ hop)) lost).await c .forward

/-- HERD.LIST (R366). -/
def State.cmdHerdList (s : State) (c : Taken) : State :=
  let b := c.u 0 1 == 1
  s.guarded c [(!s.admits c, sNOT_NOW), (c.badLen 4 || decide (1 < c.u 0 1) || c.notZero 1 3 || !c.fits 8, sBAD), (!s.herdUp b, sNOT_NOW)] fun t =>
    let ix := (List.range 32).filter fun i => t.bit (Reg.SB_CHILD_valid ((if b then 32 else 0) + i))
    t.respond c sOK 0 (leBytes 4 (ix.foldl (fun a i => a + 2 ^ i) 0) ++ leBytes 1 ix.length ++ [0, 0, 0])

def execHerdEnumerate (p : Port) (tag : BitVec 6) (onA onB : List Byte) (lowA lowB lostA lostB : Bool) (s : State) : Out State :=
  s.runCmd p tag (· == 0x1010) (State.cmdEnumerate onA onB lowA lowB lostA lostB)
def execHerdForward (p : Port) (tag : BitVec 6) (lost : Bool) (s : State) : Out State := s.runCmd p tag (· == 0x1011) (State.cmdForward lost)
def execHerdList (p : Port) (tag : BitVec 6) (s : State) : Out State := s.runCmd p tag (· == 0x1012) State.cmdHerdList

/-- A HERD.FORWARD that waits for its remote entry. -/
def State.forwarding (s : State) (p : Port) (tag : BitVec 6) : Option Taken :=
  s.mbx.taken.find? fun x => x.port == p && x.tag == tag.toNat && x.wait == .forward

/-- FORWARD_RESPONSE_RECEIVED (R367, R400). -/
def execForwardResponseReceived (p : Port) (tag : BitVec 6) (entry payload : List Byte) (pecOk : Bool) (s : State) : Out State :=
  if entry.length != 32 then .fault .illFormed
  else
    match (if s.mbxRuns then s.forwarding p tag else none) with
    | some c => (if pecOk then s.respond c sOK 0 (entry ++ payload) else s.respond c sCRC 0 []).done
    | none => .next s

/-- FORWARD_TIMEOUT (R367). -/
def execForwardTimeout (p : Port) (tag : BitVec 6) (s : State) : Out State :=
  match (if s.mbxRuns then s.forwarding p tag else none) with
  | some c => (s.respond c sTIMEOUT 0 []).done
  | none => .next s

end Sys2Proof.Machine
end

