-- ==== Sys2Proof/Machine/Cores.lean ====
section
/-!
DEFINITION. Lost cores (R31, R100), the rows that end an activation or a rollback (R431-R433), clocks (R39, R55, R109, R110), the
power-stage die links (R18) and die temperatures (R149-R151).
-/

namespace Sys2Proof.Machine

/-! Cores (R31, R32, R100). -/

def coreIdx : Core → Nat
  | .control => 0
  | .gauge => 1

def coreLost : Core → Fld
  | .control => Reg.SYS_STATE_ctl_lost
  | .gauge => Reg.SYS_STATE_gauge_lost

def State.coreUp (s : State) : Core → Bool
  | .control => s.sys.ctlAlive
  | .gauge => s.sys.gaugeAlive

/-- The core runs a new image of an activation in progress (R433). -/
def State.newImage (s : State) (c : Core) : Bool :=
  match s.upd.act with
  | some a => a.back.isNone && (match c with | .control => a.ctl | .gauge => a.gauge)
  | none => false

/-- The core is declared lost: its status bit, the mailbox or the stale flag, CORE at L1 (R31, R32, R230, R335). -/
def State.loseCore (s : State) (c : Core) : State :=
  let s := s.setB (coreLost c) true
  let s := match c with
    | .control => (s.setB Reg.MBX_STAT_ready false).updSys fun y => { y with ctlAlive := false }
    | .gauge => s.gaugeStops
  s.raiseLasting { cls := cCORE, src := coreIdx c, lvl := 1 }

/-- The grace time runs; the core is restarted unless its one warm restart since VKEEP came up has been used (R31). -/
def State.startGrace (s : State) (c : Core) : State :=
  s.updSys fun y =>
    match c with
    | .control => { y with ctlGrace := true, ctlStarting := !y.ctlRestarted, ctlRestarted := true }
    | .gauge => { y with gaugeGrace := true, gaugeStarting := !y.gaugeRestarted, gaugeRestarted := true }

/-- The core has been started and is not alive yet (R31, R431). -/
def State.starting (s : State) : Core → Bool
  | .control => s.sys.ctlStarting && !s.sys.ctlAlive
  | .gauge => s.sys.gaugeStarting && !s.sys.gaugeAlive

def State.started (s : State) (c : Core) : State :=
  s.updSys fun y => match c with | .control => { y with ctlStarting := false } | .gauge => { y with gaugeStarting := false }

def State.endGrace (s : State) (c : Core) : State :=
  s.updSys fun y => match c with | .control => { y with ctlGrace := false } | .gauge => { y with gaugeGrace := false }

/-- WATCHDOG_EXPIRY (R31): a core that runs a new image is not restarted, the activation rolls back (R433). -/
def execWatchdogExpiry (c : Core) (s : State) : Out State :=
  if s.romUp && s.sys.stage = .done && s.st != stRECOVERY && s.coreUp c && !s.bit (coreLost c) then
    let t := s.loseCore c
    (if s.newImage c then t.rollback 4 else t.startGrace c).done
  else .next s

/-- The start of a core's image: the gauge resumes from its mirror where the formats match (R229). -/
def State.coreStarts (s : State) : Core → State
  | .control => s.updSys fun y => { y with ctlAlive := true }
  | .gauge =>
    let fmt := match s.upd.running with | some b => hdrFmt (s.header b true) | none => 0
    s.gaugeStart (match s.gauge.mirror with | some m => m.fmt == fmt | none => false)

/-- The loss of a core ends (R31, R335). -/
def State.coreBack (s : State) (c : Core) : State :=
  let s := ((s.setB (coreLost c) false).endCause cCORE (coreIdx c) 0).endCause cCORE (coreIdx c) 1
  match c with
  | .control => (s.setB Reg.MBX_STAT_ready true).failTaken
  | .gauge => s

/-- An activation notes that a core it restarted is alive. -/
def State.noteAlive (s : State) (c : Core) : State :=
  s.updUpd fun u =>
    { u with act := u.act.map fun a => match c with | .control => { a with ctlUp := true } | .gauge => { a with gaugeUp := true } }

/-- CORE_ALIVE (R31, R431): a core that has been started reports alive. -/
def execCoreAlive (c : Core) (s : State) : Out State :=
  if s.romUp && s.sys.stage = .done && s.st != stRECOVERY && s.starting c then
    let t := ((s.coreStarts c).endGrace c).started c
    ((if t.bit (coreLost c) then t.coreBack c else t).noteAlive c).done
  else .next s

/-- CORE_GRACE_EXPIRY (R31, R100): a rollback in an activation, else the fused policy. -/
def execCoreGraceExpiry (c : Core) (s : State) : Out State :=
  let grace := match c with | .control => s.sys.ctlGrace | .gauge => s.sys.gaugeGrace
  if grace && s.bit (coreLost c) && s.romUp then
    let t := s.endGrace c
    if (match t.upd.act with | some a => a.back.isNone | none => false) then (t.rollback 4).done
    else (t.raiseLasting { cls := cCORE, src := coreIdx c, lvl := if bitOf (t.safety 0x21) 0 then 4 else 2, cause := 1 }).done
  else .next s

/-! The end of an activation (R431-R433). -/

/-- MAILBOX_RESUME (R431, R432): the pause ends, edges of the run request act; a rollback is complete with it. -/
def execMailboxResume (s : State) : Out State :=
  match s.upd.act with
  | some a =>
    if a.resumed || !s.live then .next s
    else
      let t := (s.setB Reg.MBX_STAT_paused false).updUpd fun u => { u with act := some { a with resumed := true } }
      (match a.back with
       | some o => (t.rolledBack o).runEval
       | none => t.runEval).done
  | none => .next s

/-- ACTIVATION_CONFIRMED (R431): the selector's trial bit clears, SYS_IFVER follows, the state returns with outcome 1. A trial
boot is confirmed in the same way (R429, R433). -/
def execActivationConfirmed (s : State) : Out State :=
  match s.upd.act with
  | some a =>
    if a.back.isNone && a.resumed && a.ctlUp && a.gaugeUp then
      let t := (s.setSel { s.selector with trial := false, count := false }).updUpd fun u => { u with act := none }
      ((t.ifVer.leaveActivate).updResult 1 0xFF).done
    else .next s
  | none =>
    if s.upd.trial && s.sys.ctlAlive && s.sys.gaugeAlive then
      (((s.setSel { s.selector with trial := false, count := false }).updUpd fun u => { u with trial := false }).updResult 1 0xFF).done
    else .next s

/-- ROLLBACK_MAILBOX_TIMEOUT (R433). -/
def execRollbackMailboxTimeout (s : State) : Out State :=
  match s.upd.act with
  | some a => if a.back.isNone && !a.resumed then (s.rollback 2).done else .next s
  | none => .next s

/-- ROLLBACK_ALIVE_TIMEOUT (R433). -/
def execRollbackAliveTimeout (s : State) : Out State :=
  match s.upd.act with
  | some a => if a.back.isNone && !(a.ctlUp && a.gaugeUp) then (s.rollback 3).done else .next s
  | none => .next s

/-- TRIAL_BOOT_TIMEOUT (R429, R433): a trial boot that misses the 2 s rule, so with a core that is not alive, rolls back in the same way. -/
def execTrialBootTimeout (s : State) : Out State :=
  if s.upd.trial && s.upd.act.isNone && s.romUp && !(s.sys.ctlAlive && s.sys.gaugeAlive) then
    let x := s.selector.active
    let ctl := s.header x false != s.header (!x) false
    let gauge := s.header x true != s.header (!x) true
    ((s.updUpd fun u => { u with act := some ⟨!x, x, ctl, gauge, true, true, true, none⟩ }).rollback 3).done
  else .next s

/-! Clocks (R39, R55, R109, R110). -/

/-- The CLK_FAULT bit of a domain. -/
def clkBit (i : Nat) : Fld :=
  match i with
  | 0 => Reg.CLK_FAULT_sys | 1 => Reg.CLK_FAULT_gauge | 2 => Reg.CLK_FAULT_pwm0 | 3 => Reg.CLK_FAULT_pwm1 | 4 => Reg.CLK_FAULT_fe
  | 5 => Reg.CLK_FAULT_adc | _ => Reg.CLK_FAULT_rc_aon

/-- The level of CLK for a domain (R281). -/
def clkLvl (i : Nat) : Nat := if i = 0 || i = 5 then 4 else if i = 2 || i = 3 || i = 4 then 3 else 1

/-- One domain is judged: beyond 4% of nominal, or its PLL unlocked; a domain that does not run is not judged (R38, R39). -/
def State.judgeClock (s : State) (i : Nat) (dev : Int) (lock : Bool) : State :=
  if s.clockRuns i && (decide (4000 < dev) || decide (dev < -4000) || !lock) then
    if s.present cCLK i 0 then s else (s.setB (clkBit i) true).raiseLasting { cls := cCLK, src := i, lvl := clkLvl i }
  else s.endCause cCLK i 0

/-- CLK_MONITOR_WINDOW (R39). -/
def execClkMonitorWindow (m : ClkWindow) (s : State) : Out State :=
  if !m.wf then .fault .illFormed
  else if s.romUp then
    let l (i : Nat) : Bool := m.lock.getD i true
    let locked (i : Nat) : Nat := (s.clockRuns i && l i).toNat
    let d (i : Nat) : Int := m.dev.getD i 0
    let dev := (List.range 7).map fun i => if s.clockRuns i then some (d i) else none
    let t := { s with clk := { s.clk with dev := dev } }.setMany [(Reg.CLK_STAT_sys_lock, locked 0), (Reg.CLK_STAT_gauge_lock, locked 1),
      (Reg.CLK_STAT_pwm0_lock, locked 2), (Reg.CLK_STAT_pwm1_lock, locked 3), (Reg.CLK_STAT_fe_lock, locked 4),
      (Reg.CLK_STAT_rc64_ok, (decide (-4000 ≤ d 6) && decide (d 6 ≤ 4000)).toNat)]
    (t.each (List.range 7) fun i u => u.judgeClock i (d i) (l i)).done
  else .next s

/-- XTAL_START (R55): within 1 s of VKEEP valid AON switches to the crystal; a later start only counts as having oscillated. -/
def execXtalStart (s : State) : Out State :=
  if s.sys.vkeep && !s.clk.xtalRuns then
    let first := decide (s.time ≤ 1000000) && !s.bit Reg.CLK_STAT_xtal_seen
    let t := { s with clk := { s.clk with xtalRuns := true } }.setB Reg.CLK_STAT_xtal_seen true
    .next ((if first then t.setB Reg.CLK_STAT_aon_xtal true else t).endCause cCLK 7 0)
  else .next s

/-- XTAL_STOP (R39): AON continues from the RC; CLK at L1, at once or as soon as the ROM runs. -/
def execXtalStop (s : State) : Out State :=
  if s.sys.vkeep && s.clk.xtalRuns then
    let t := { s with clk := { s.clk with xtalRuns := false } }.setB Reg.CLK_STAT_aon_xtal false
    (if t.romUp then t.xtalStopped else t).done
  else .next s

/-- PWM0 and PWM1 lock to SYNCI; synchronised rails derive again at their new frequency (R109, R118). -/
def State.syncLock (s : State) (khz : Nat) : State :=
  let t := { s with clk := { s.clk with synci := some khz, synciLast := khz } }.setB Reg.CLK_STAT_sync_locked true
  t.each (List.range 8) fun k u =>
    if s.getF (Reg.RAIL_FSW_sync_mult k) != 0 && s.railKhz k != u.railKhz k then u.railStale k else u

/-- SYNCI can be locked to (R61, R109). -/
def State.syncOk (s : State) (khz : Nat) : Bool :=
  s.romUp && s.sys.vio && s.bit Reg.CLK_SYNC_synci_en && !s.bit Reg.CLK_STAT_sync_locked && decide (500 ≤ khz) && decide (khz ≤ 3000)

/-- SYNCI_LOCK (R109). -/
def execSynciLock (khz : Nat) (s : State) : Out State :=
  if s.syncOk khz && !s.present cCLK 8 0 then (s.syncLock khz).done else .next s

/-- SYNCI_LOSS (R110): holdover at the last locked frequency, CLK at L1. -/
def execSynciLoss (s : State) : Out State :=
  if s.bit Reg.CLK_STAT_sync_locked then
    (({ s with clk := { s.clk with synci := none } }.setB Reg.CLK_STAT_sync_locked false).raiseLasting { cls := cCLK, src := 8, lvl := 1 }).done
  else .next s

/-- SYNCI_RELOCK (R110). -/
def execSynciRelock (khz : Nat) (s : State) : Out State :=
  if s.syncOk khz && s.present cCLK 8 0 then ((s.syncLock khz).endCause cCLK 8 0).done else .next s

/-! Power-stage dies (R18, R149-R151). -/

/-- The rails with a phase on die d. -/
def State.dieRails (s : State) (d : Nat) : List Nat := (List.range 8).filter fun k => (s.phasesOf k).any fun n => n / 4 == d

/-- DIE_LINK_FAILURE (R18): RAILI at L3 for every rail with a phase on the die. -/
def execDieLinkFailure (d : Fin 4) (s : State) : Out State :=
  (s.each (s.dieRails d) fun k t => t.raise { cls := cRAILI, src := k, lvl := 3, cause := 3 }).done

/-- The temperature of die d as telemetry has it, for the log. -/
def State.dieWord (s : State) (d : Nat) : Word := BitVec.ofNat 16 (s.getF (Reg.TEL_CH_val (112 + d)))

/-- DIE_THERMAL_SHUTDOWN (R150): the die's four phases are off, each rail with a phase on it is locked off by THERM at L3. -/
def execDieThermalShutdown (d : Fin 4) (s : State) : Out State :=
  if s.romUp then
    let t := s.each [0, 1, 2, 3] fun i t => t.setB (Reg.POL_PH_DIE_shut (4 * d + i)) true
    (t.each (s.dieRails d) fun k u =>
      u.raiseLasting ⟨cTHERM, k, 3, 8 + d, s.dieWord d, BitVec.ofNat 16 (10 * s.ceiling 0x1F 160)⟩).done
  else .next s

/-- DIE_THERMAL_RELEASE (R150): the die has fallen to T_sd - 15 C. -/
def execDieThermalRelease (d : Fin 4) (s : State) : Out State :=
  let t := s.each [0, 1, 2, 3] fun i t => t.setB (Reg.POL_PH_DIE_shut (4 * d + i)) false
  .next (t.each (List.range 8) fun k u => u.endCause cTHERM k (8 + d))

/-- RAIL_THERMAL_WARN (R149): THERM at L2 with the rail as source; the derate is the L2 action. -/
def execRailThermalWarn (k : Fin 8) (s : State) : Out State :=
  if s.bit (Reg.RAIL_GROUP_valid k) then
    let hot := ((List.range 4).filter fun d => (s.phasesOf k).any fun n => n / 4 == d).foldl
      (fun (m : Option Int) d => match s.chan (112 + d), m with
        | some t, some x => some (max t x)
        | some t, none => some t
        | none, x => x) none
    let v : Word := match hot with | some t => BitVec.ofInt 16 t | none => 0x8000
    (s.raiseLasting ⟨cTHERM, k, 2, 0, v, BitVec.ofNat 16 (10 * s.getF (Reg.RAIL_THERM_warn k))⟩).done
  else .next s

/-- CONTROLLER_DIE_THERMAL (R151): L1 from 10 C below the ceiling, L4 at or above it. -/
def execControllerDieThermal (t : Int) (s : State) : Out State :=
  let c : Int := s.ceiling 0x20 150
  let v := BitVec.ofInt 16 (10 * t)
  if c ≤ t then (s.raiseLasting ⟨cTHERM, 36, 4, 1, v, BitVec.ofInt 16 (10 * c)⟩).done
  else if c - 10 ≤ t then (s.raiseLasting ⟨cTHERM, 36, 1, 0, v, BitVec.ofInt 16 (10 * (c - 10))⟩).done
  else .next s

end Sys2Proof.Machine
end

