-- ==== Sys2Proof/Machine/RegRows.lean ====
section
/-!
DEFINITION. The rows of single register accesses (R65-R80) and of the registers whose writes have behaviour of their own. An
accessor that does not run makes no access: the row then changes nothing (R72, R320, R335).
-/

namespace Sys2Proof.Machine

/-- Whether an accessor can reach the registers: the host while its port answers, the side-band while the ROM or an image runs and
from the start of a wake boot (R91), the cores while they live; the ROM writes as the control core (R72, R320). -/
def State.accUp (s : State) : Accessor → Bool
  | .host => s.romUp && s.sys.vio
  | .side => s.romUp || s.live && s.st == stBOOT && s.sys.kind == .wake
  | .control => s.romUp && (s.sys.ctlAlive || s.sys.stage != .done)
  | .gauge => s.sys.gaugeAlive

/-- One register write of a row (R65). -/
def State.rowWrite (s : State) (a : Accessor) (addr mask data : Nat) : Out State :=
  if s.accUp a then (s.busWrite a addr mask data).1.done else .next s

/-- REGISTER_WRITE (R65). -/
def execRegisterWrite (a : Accessor) (addr : BitVec 20) (mask data : Word) (s : State) : Out State :=
  s.rowWrite a addr.toNat mask.toNat data.toNat

/-- RC_READ (R69): the port's read returns the value and clears the RC fields. -/
def execRcRead (p : Port) (addr : BitVec 20) (s : State) : Out State :=
  let a := match p with | .host => Accessor.host | .side => Accessor.side
  if s.accUp a then (s.readReg a addr.toNat).1.done else .next s

/-- MULTIWORD_LOW_READ (R80): the low word latches the higher words into the accessor's shadow. -/
def execMultiwordLowRead (a : Accessor) (addr : BitVec 20) (s : State) : Out State :=
  if s.accUp a then (s.readReg a addr.toNat).1.done else .next s

/-- BUF_COMMIT (R78): a boundary of the instance. -/
def execBufCommit (i : Instance) (s : State) : Out State := if s.romUp then (s.commit i).done else .next s

/-- COMMIT_DISCARD (R77). -/
def execCommitDiscard (a : Accessor) (i : Instance) (s : State) : Out State := s.rowWrite a (commitAddr i) 4 4

/-- COMMIT_HOLD (R77). -/
def execCommitHold (a : Accessor) (i : Instance) (hold : Bool) (s : State) : Out State :=
  s.rowWrite a (commitAddr i) 2 (2 * hold.toNat)

/-- HOST_HB_WRITE (R336). -/
def execHostHbWrite (mask data : Word) (s : State) : Out State := s.rowWrite .host 0x1D000 mask.toNat data.toNat

/-- MBX_CMD_PROD_WRITE (R331). -/
def execMbxCmdProdWrite (mask data : Word) (s : State) : Out State := s.rowWrite .host 0x2000 mask.toNat data.toNat

/-- MBX_RESP_CONS_WRITE (R331). -/
def execMbxRespConsWrite (mask data : Word) (s : State) : Out State := s.rowWrite .host 0x200C mask.toNat data.toNat

/-- FLT_ACK_WRITE (R290). -/
def execFltAckWrite (a : Accessor) (mask data : Word) (s : State) : Out State := s.rowWrite a 0x3008 mask.toNat data.toNat

/-- FLT_SRC_CLEAR (R291). -/
def execFltSrcClear (a : Accessor) (c : Fin 16) (w : Fin 4) (mask data : Word) (s : State) : Out State :=
  s.rowWrite a (0x3100 + 16 * c.val + 4 * w.val) mask.toNat data.toNat

/-- FLT_PIN_DRIVE_WRITE (R297). -/
def execFltPinDriveWrite (a : Accessor) (mask data : Word) (s : State) : Out State := s.rowWrite a 0x3004 mask.toNat data.toNat

/-- FAULT_N_PULSE_END (R297): a held release takes effect; otherwise the pin goes on following drive. -/
def execFaultNPulseEnd (s : State) : Out State :=
  if s.bit Reg.FLT_PIN_pulse then
    let t := s.setB Reg.FLT_PIN_pulse false
    (if t.flt.releaseHeld then (t.setB Reg.FLT_PIN_drive false).updFlt fun f => { f with releaseHeld := false } else t).followPin.done
  else .next s

/-- TEL_SNAP_REQ_WRITE (R308). -/
def execTelSnapReqWrite (a : Accessor) (mask data : Word) (s : State) : Out State := s.rowWrite a 0x5000 mask.toNat data.toNat

/-- LOG_MARK_WRITE (R318). -/
def execLogMarkWrite (a : Accessor) (mask data : Word) (s : State) : Out State := s.rowWrite a 0x6010 mask.toNat data.toNat

/-- SEQ_EVENT_WRITE (R270). -/
def execSeqEventWrite (a : Accessor) (mask data : Word) (s : State) : Out State := s.rowWrite a 0x400C mask.toNat data.toNat

/-- TEL_STR_EN_WRITE (R315). -/
def execTelStrEnWrite (a : Accessor) (mask data : Word) (s : State) : Out State := s.rowWrite a 0x5014 mask.toNat data.toNat

/-- SB_DS_POP_WRITE (R397). -/
def execSbDsPopWrite (a : Accessor) (mask data : Word) (s : State) : Out State := s.rowWrite a 0x1C038 mask.toNat data.toNat

/-- CHG_CFG_CHEM_WRITE (R209). -/
def execChgCfgChemWrite (a : Accessor) (mask data : Word) (s : State) : Out State := s.rowWrite a 0x16004 mask.toNat data.toNat

/-- LDO_VSET_WRITE (R253). -/
def execLdoVsetWrite (a : Accessor) (n : Fin 6) (mask data : Word) (s : State) : Out State :=
  s.rowWrite a (Reg.LDO_VSET_vset n).addr mask.toNat data.toNat

/-- A write of 1 or 0 to an output's enable bit. -/
def State.rowEnable (s : State) (a : Accessor) (o : OutRef) (v : Bool) : Out State :=
  s.rowWrite a o.field.addr (2 ^ o.field.lo) (v.toNat * 2 ^ o.field.lo)

/-- RAIL_EN_SET (R122, R127). -/
def execRailEnSet (a : Accessor) (k : Fin 8) (s : State) : Out State := s.rowEnable a (.rail k) true

/-- RAIL_EN_CLEAR (R124). -/
def execRailEnClear (a : Accessor) (k : Fin 8) (s : State) : Out State := s.rowEnable a (.rail k) false

/-- ISO_EN_SET (R243). -/
def execIsoEnSet (a : Accessor) (n : Fin 12) (s : State) : Out State := s.rowEnable a (.iso n) true

/-- ISO_EN_CLEAR (R243). -/
def execIsoEnClear (a : Accessor) (n : Fin 12) (s : State) : Out State := s.rowEnable a (.iso n) false

/-- LDO_EN_SET (R253). -/
def execLdoEnSet (a : Accessor) (n : Fin 6) (s : State) : Out State := s.rowEnable a (.ldo n) true

/-- LDO_EN_CLEAR (R253). -/
def execLdoEnClear (a : Accessor) (n : Fin 6) (s : State) : Out State := s.rowEnable a (.ldo n) false

/-- ISW_EN_CLEAR (R185). -/
def execIswEnClear (a : Accessor) (s : State) : Out State := s.rowEnable a .isw false

/-- FE_FWD_EN_SET (R166). -/
def execFeFwdEnSet (a : Accessor) (s : State) : Out State := s.rowEnable a .fe true

/-- FE_FWD_EN_CLEAR (R166). -/
def execFeFwdEnClear (a : Accessor) (s : State) : Out State := s.rowEnable a .fe false

/-- CHG_EN_SET (R198, R207). -/
def execChgEnSet (a : Accessor) (s : State) : Out State := s.rowEnable a .chg true

/-- CHG_EN_CLEAR (R198). -/
def execChgEnClear (a : Accessor) (s : State) : Out State := s.rowEnable a .chg false

end Sys2Proof.Machine
end

