-- ==== Sys2Proof/Machine/Host.lean ====
section
/-!
DEFINITION. The host port (chapter 14): SPI frames (R319-R327), VIO, the heartbeat monitor and host loss (R336, R337).
-/

namespace Sys2Proof.Machine

/-- The host port answers frames (R320). -/
def State.hostPort (s : State) : Bool := s.accUp .host

/-- The fields of a header beside its op (R321). -/
def frameAddr (h : Nat) : Nat := bitsOf h 8 20
def frameCount (h : Nat) : Nat := bitsOf h 0 8

/-- The two halves of a 32-bit word, as HSDO carries them. -/
def halves (w : Nat) : List Word := [BitVec.ofNat 16 (w / 65536), BitVec.ofNat 16 w]

/-- Records the outcome of a frame for the next ambient status word (R323). -/
def State.framePrev (s : State) (p : Nat) : State := s.updMbx fun m => { m with prev := p }

/-- One more accepted frame (R323). -/
def State.frameAccepted (s : State) : State := s.updMbx fun m => { m with fcnt := (m.fcnt + 1) % 256 }

/-- What HSDO carried. -/
def State.shiftOut (s : State) (l : List Word) : State := { s with spiOut := l }

/-- A CRC failure on a host frame (R324, R325, R281). -/
def State.frameCrc (s : State) : State :=
  ((s.count Reg.HOST_CRC_ERR_count).framePrev 2).raise { cls := cCOMM, src := 0, lvl := 0 }

/-- A frame row: its header must name its op, and a frame that the port ignores leaves HSDO high-impedance (R56, R320). -/
def State.frame (s : State) (mine : Bool) (f : State) : Out State :=
  if !mine then .fault .illFormed else if s.hostPort then f.done else .next (s.shiftOut [])

/-- STATUS (R322, R323): the ambient word and its CRC; a frame that runs to its 48th clock is accepted. -/
def execStatus (f : StatusFrame) (s : State) : Out State :=
  s.frame (frameOp f.head = 1)
    (if f.full then
      ((s.shiftOut (halves s.ambient ++ [BitVec.ofNat 16 (crc16 (beWord s.ambient))])).frameAccepted).framePrev 0
    else s.shiftOut (halves s.ambient))

/-- A read frame (R322, R325, R326): `rd` reads the words from an address and answers them; a frame that is refused returns zeros.
Clocks beyond the frame's length read 0. -/
def State.readFrame (s : State) (h crc clocked : Nat) (reserved : Bool) (rd : State → Nat → Nat → State × List Nat) : State :=
  let n := frameCount h
  let reply (t : State) (ack : Nat) (ws : List Nat) : State :=
    t.shiftOut (halves s.ambient ++ [0, BitVec.ofNat 16 ack] ++ (ws.take clocked).flatMap halves
      ++ (if n ≤ clocked then BitVec.ofNat 16 (crc16 (beWord h ++ ws.flatMap beWord)) :: List.replicate (2 * (clocked - n)) 0 else []))
  let none_ := List.replicate n 0
  if crc != crc16 (beWord h) then reply s.frameCrc 0xE001 none_
  else if reserved then reply (s.frameAccepted.framePrev 2) 0xE002 none_
  else if n = 0 || frameAddr h % 4 != 0 then reply (s.frameAccepted.framePrev 2) 0xE003 none_
  else
    let refused := (rd (s.updAcc .host fun x => { x with err := 0 }) (frameAddr h) (min clocked n)).1.accHost.err != 0
    let p := rd s (frameAddr h) (min clocked n)
    reply (p.1.frameAccepted.framePrev refused.toNat) 0xA5A5 p.2

/-- REG_RD (R325), and a frame of a reserved op, which no word is read for. -/
def execRegRd (op : BitVec 4) (low : BitVec 28) (crc : Word) (clocked : Nat) (s : State) : Out State :=
  s.frame (op = 2 || frameReserved op)
    (s.readFrame (op ++ low).toNat crc.toNat clocked (frameReserved op) fun t a n => t.readRegs .host a n)

/-- MEM_RD (R325, R326). -/
def execMemRd (op : BitVec 4) (low : BitVec 28) (crc : Word) (clocked : Nat) (s : State) : Out State :=
  s.frame (op = 4) (s.readFrame (op ++ low).toNat crc.toNat clocked false fun t a n => t.readMems .host a n)

/-- A write frame (R322, R324, R326): HSDO carries 0 after the header, and nothing is applied unless the frame ran to its end and its
CRC checks. -/
def State.writeFrame (s : State) (h crc : Nat) (data : List Nat) (full : Bool) (wr : State → Nat → List Nat → State × Bool) : State :=
  let n := frameCount h
  let ws := data.take n
  let t := s.shiftOut (halves s.ambient ++ List.replicate (2 * ws.length + full.toNat) 0)
  if !full || data.length < n then t.framePrev 2
  else if crc != crc16 (beWord h ++ ws.flatMap beWord) then t.frameCrc
  else if n = 0 || frameAddr h % 4 != 0 then t.frameAccepted.framePrev 2
  else
    let p := wr t (frameAddr h) ws
    p.1.frameAccepted.framePrev p.2.toNat

/-- REG_WR (R64, R324). -/
def execRegWr (op : BitVec 4) (low : BitVec 28) (data : List (BitVec 32)) (crc : Word) (full : Bool) (s : State) : Out State :=
  s.frame (op = 3)
    (s.writeFrame (op ++ low).toNat crc.toNat (data.map (·.toNat)) full fun t a ws => t.busWrites .host a (ws.map fun w => (w / 65536, w % 65536)))

/-- A word of a MEM_WR frame: the command ring and the data area take it (R326, R328). -/
def State.memWrWord (s : State) (a w : Nat) : State × Bool :=
  if a < 0x40000 then (s.refuse .host Reg.REG_ERR_wrong_op a, true)
  else if a < 0x40800 || (decide (0x41000 ≤ a) && decide (a < 0x44000)) then ({ s with win := memWrite a (leBytes 4 w) s.win }, false)
  else if inWindow a then (s.refuse .host Reg.REG_ERR_unmapped a, true)
  else (s, false)

/-- The words of a MEM_WR frame, in ascending order. -/
def State.memWrWords (s : State) : Nat → List Nat → State × Bool
  | _, [] => (s, false)
  | a, w :: r =>
    let p := s.memWrWord a w
    let q := p.1.memWrWords (a + 4) r
    (q.1, p.2 || q.2)

/-- MEM_WR (R326). -/
def execMemWr (op : BitVec 4) (low : BitVec 28) (data : List (BitVec 32)) (crc : Word) (full : Bool) (s : State) : Out State :=
  s.frame (op = 5) (s.writeFrame (op ++ low).toNat crc.toNat (data.map (·.toNat)) full fun t a ws => t.memWrWords a ws)

/-- A DOORBELL (R327): the consumer update first, the producer update second, each under its own check. -/
def State.ring (s : State) (h crc : Nat) (full : Bool) : State :=
  let t := s.shiftOut (halves s.ambient ++ List.replicate full.toNat 0)
  if !full then t.framePrev 2
  else if crc != crc16 (beWord h) then t.frameCrc
  else
    let p := if bitOf h 7 then t.writeCons (bitsOf h 0 7) else (t, false)
    let q := if bitOf h 15 then p.1.writeProd (bitsOf h 8 7) else (p.1, false)
    q.1.frameAccepted.framePrev (p.2 || q.2).toNat

/-- DOORBELL. -/
def execDoorbell (head : BitVec 32) (crc : Word) (full : Bool) (s : State) : Out State :=
  s.frame (frameOp head = 6) (s.ring head.toNat crc.toNat full)

/-! VIO. -/

/-- VIO_LOSS (R61, R141): the LDA pins count as deasserted, and HSDO is high-impedance. -/
def execVioLoss (s : State) : Out State :=
  if s.sys.vio then
    (((s.shiftOut []).updSys fun y => { y with vio := false }).each (List.range 4) fun i t => t.ldaDown i).done
  else .next s

/-- VIO_RETURN (R141): LDA pins found asserted count as new assertions. -/
def execVioReturn (lda : BitVec 4) (s : State) : Out State :=
  if s.sys.vio then .next s
  else
    ((s.updSys fun y => { y with vio := true }).each ((List.range 4).filter fun i => lda.getLsbD i) fun i t => t.ldaUp i).done

/-! Heartbeat. -/

/-- A change of HOST_LEASE: the interrupt and the side-band reason (R339, R390). -/
def State.leaseChanged (s : State) : State := (s.setB Reg.HOST_INT_STAT_lease true).request rqLEASE

/-- The level at which a host loss raises COMM: the fused policy, KEEP or SAFE (R101). -/
def State.hostLossLevel (s : State) : Nat :=
  if bitOf (s.safety 0x21) 8 && s.stIn [stSTANDBY, stRUN, stIBEX] then 4 else 1

/-- HEARTBEAT_DEADLINE (R337, R343), once the deadline has passed: the host is lost, the side-band gains full authority, direct mode ends. -/
def execHeartbeatDeadline (s : State) : Out State :=
  if s.hbPassed && !s.stIn [stFAWN, stBOOT, stRECOVERY] && s.live then
    let t := (s.setMany [(Reg.SYS_STATE_host_lost, 1), (Reg.HOST_STAT_direct, 0)]).updSys fun y => { y with hbDue := none }
    ((t.leaseChanged.request rqHOST).raiseLasting { cls := cCOMM, src := 4, lvl := s.hostLossLevel }).done
  else .next s

end Sys2Proof.Machine
end

