-- ==== Sys2Proof/Machine/Iso.lean ====
section
/-!
DEFINITION. Rows of the isolated bias channels and the linear regulators (chapter 10) that are events of the outputs
themselves.
-/

namespace Sys2Proof.Machine

/-- Channels in one of a list of states, ascending. -/
def State.isoIn (s : State) (l : List Nat) : List Nat := (List.range 12).filter fun n => l.contains (s.isoState n)

/-- ISO_QUEUE_START (R243): the first queued channel leaves WAIT for SS. -/
def execIsoQueueStart (s : State) : Out State :=
  match s.isoQueue with
  | n :: _ => (s.setIsoState n iSS).done
  | [] => .next s

/-- ISO_SOFTSTART_DONE (R243); an early channel is power-good with it (R411). -/
def execIsoSoftstartDone (n : Fin 12) (s : State) : Out State :=
  if s.isoState n = iSS then ((s.setIsoState n iON).earlyPg).done else .next s

/-- ISOPWR_UNDERVOLTAGE (R244, R249): channels in SS, ON and WAIT pause; ISO at L1 once for the event, whether or not it
stopped a channel. -/
def execIsopwrUndervoltage (s : State) : Out State :=
  let t := s.each (s.isoIn [iWAIT, iSS, iON]) fun n t => t.setIsoState n iPAUSED
  (t.raiseLasting { cls := cISO, src := 12, lvl := 1, cause := 0 }).done

/-- ISOPWR_RESTORED (R244): each paused channel joins the start queue in ascending n. -/
def execIsopwrRestored (s : State) : Out State :=
  ((s.endCause cISO 12 0).each (s.isoIn [iPAUSED]) fun n t => t.setIsoState n iWAIT).done

/-- A supervision event of R246 on a channel in ON: the channel is locked off, its ISO_FLT bit set, ISO raised at L3. -/
def State.isoTrip (s : State) (n : Nat) (bit : Fld) (cause : Nat) : State :=
  if s.isoState n = iON then
    ((s.setIsoState n iLOCKED).setB bit true).raise { cls := cISO, src := n, lvl := 3, cause := cause }
  else s

/-- ISO_SECONDARY_SHORT (R246). -/
def execIsoSecondaryShort (n : Fin 12) (s : State) : Out State := (s.isoTrip n (Reg.ISO_FLT_short n) 0).done

/-- ISO_OVERLOAD (R246). -/
def execIsoOverload (n : Fin 12) (s : State) : Out State := (s.isoTrip n (Reg.ISO_FLT_ovl n) 1).done

/-- ISO_OPEN_WINDING (R246). -/
def execIsoOpenWinding (n : Fin 12) (sideB : Bool) (s : State) : Out State :=
  (if sideB then s.isoTrip n (Reg.ISO_FLT_open_b n) 3 else s.isoTrip n (Reg.ISO_FLT_open_a n) 2).done

/-- ISO_UNLOCK (R246). -/
def execIsoUnlock (n : Fin 12) (s : State) : Out State := (s.isoRelease n).done

/-- LDO_RAMP_DONE (R253): the target is at vset, the state ON. -/
def execLdoRampDone (n : Fin 6) (s : State) : Out State :=
  if s.ldoState n = lRAMP then
    ((s.setLdoState n lON).updLdo n fun l => { l with target := s.getF (Reg.LDO_VSET_vset n) }).done
  else .next s

/-- LDO_CURRENT_LIMIT (R254): in any state but OFF the LDO is locked off with RAILI at L3. -/
def execLdoCurrentLimit (n : Fin 6) (s : State) : Out State :=
  if s.ldoState n = lOFF || s.ldoState n = lLOCKED then .next s
  else ((s.ldoLock n).raise { cls := cRAILI, src := 8 + n, lvl := 3, cause := 0 }).done

/-- LDO_UNLOCK (R254). -/
def execLdoUnlock (n : Fin 6) (s : State) : Out State := (s.ldoRelease n).done

end Sys2Proof.Machine
end

