-- ==== Sys2Proof/Machine/Mem.lean ====
section
/-!
DEFINITION. Memory errors that SECDED finds on access (R34, R35, R448).
-/

namespace Sys2Proof.Machine

/-- The records that MRAM areas of an unstated layout hold (log entry 7): which of them an uncorrectable word lies in is open, so a
free value picks one, or none (log entry 3). -/
def State.loseRecord (s : State) (a : Nat) : State :=
  let j := Config.freshNat s.free
  if mSTORE ≤ a && a < mREPAIR then
    let n := s.nv.store.length
    let k := j % (n + 4)
    (s.updNv fun v =>
      if k < n then { v with store := v.store.eraseIdx k }
      else if k = n then { v with profile := none }
      else if k = n + 1 then { v with sel := v.selPrev, selPrev := none }
      else if k = n + 2 then { v with live := none, bases := [] }
      else v).draw
  else if mREPAIR ≤ a && a < mHIST then
    let n := s.nv.repair.length
    (s.updNv fun v => { v with repair := v.repair.eraseIdx (j % (n + 1)) }).draw
  else s

/-- An MRAM word of 4 bytes with an uncorrectable error: the record that holds it reads invalid (R34). -/
def State.badMram (s : State) (a : Nat) : State :=
  let w := a / 4 * 4
  let s := s.updNv fun v => { v with bad := if v.bad.contains w then v.bad else w :: v.bad }
  (s.loseRecord w).storeStat

/-- A corrected error of an SRAM row: the second within 24 h marks the row for repair (R448). -/
def State.sramHit (s : State) (b row : Nat) : State :=
  let old := s.age.rowErrs.any fun x => x.1 == b && x.2.1 == row && decide (s.time ≤ x.2.2 + 86400000000)
  s.updAge fun a =>
    { a with rowErrs := (b, row, s.time) :: a.rowErrs.filter (fun x => !(x.1 == b && x.2.1 == row)),
             marked := if old && !a.marked.contains (b, row) then (b, row) :: a.marked else a.marked }

/-- SECDED_ERROR (R34, R281, R448): MEM at L0 for a corrected error, at L1 for an uncorrectable one. MRAM spans 2 MB (R33). -/
def execSecdedError (m : MemWord) (correctable : Bool) (s : State) : Out State :=
  let lvl := if correctable then 0 else 1
  if !s.sys.vkeep then .next s
  else
    match m with
    | .mram a =>
      if 0x200000 ≤ a then .next s
      else ((if correctable then s else s.badMram a).raise { cls := cMEM, src := 0, lvl := lvl }).done
    | .sram b row =>
      ((if correctable then s.sramHit b row else s).raise { cls := cMEM, src := 1 + b, lvl := lvl }).done

end Sys2Proof.Machine
end

