-- ==== Sys2Proof/Machine/Scan.lean ====
section
/-!
DEFINITION. The end of a scan round (R302): channel values and the readings taken from them, the hysteresis of the judged
windows (R257, R292), power-good counting (R264), light load (R132, R169), the reference trio (R451), snapshots and streaming.
-/

namespace Sys2Proof.Machine

/-! Readings (R126, R127, R148, R153, R179, R250, R255). -/

/-- The channel values of a round; the reserved channels read invalid (R302). -/
def roundWords (r : ScanRound) : List Word := r.chan.zipIdx.map fun p => if 86 ≤ p.2 && p.2 < 96 then 0x8000 else p.1

/-- Stores every channel value. -/
def State.putChannels (s : State) (r : ScanRound) : State :=
  s.setMany ((roundWords r).zipIdx.map fun p => (Reg.TEL_CH_val p.2, p.1.toNat))

/-- A channel's value scaled into a register's unit, in the register's code; an invalid channel leaves the register. -/
def State.reading (s : State) (f : Fld) (c : Nat) (num den : Nat) : State :=
  match s.chan c with
  | some v => s.setI f (roundQ ((v * num : Int) / (den : Rat)))
  | none => s

/-- The sensors of a die that R148 excludes, by place; readings are in 0.25 C. -/
def excluded (l : List Int) : List Nat :=
  (List.range l.length).filter fun i =>
    let v := l.getD i 0
    let o := (l.eraseIdx i).mergeSort (· ≤ ·)
    let m := o.getD 1 0
    decide (v < -240) || decide (800 < v) || decide (m + 60 < v) || decide (v < m - 60)

/-- A die's temperature and exclusions (R148). With fewer than two sensors left it counts as at its shutdown threshold. -/
def State.dieReading (s : State) (d : Nat) (l : List Int) : State :=
  let ex := excluded l
  let kept := ((List.range l.length).filter fun i => !ex.contains i).map fun i => l.getD i 0
  let t : Int := if kept.length < 2 then 4 * s.ceiling 0x1F 160 else kept.foldl max (kept.headD 0)
  let s := s.each [0, 1, 2, 3] fun i u =>
    (u.setI (Reg.POL_PH_DIE_temp (4 * d + i)) t).setB (Reg.POL_PH_DIE_excl (4 * d + i)) (!ex.isEmpty)
  if ex.isEmpty then s.endCause cTHERM (32 + d) 2 else s.raiseLasting { cls := cTHERM, src := 32 + d, lvl := 1, cause := 2 }

/-- The readings that follow the round's values. -/
def State.readings (s : State) (r : ScanRound) : State :=
  let s := s.each (List.range 16) fun n t =>
    (t.reading (Reg.POL_PH_IAVG_iavg n) (96 + n) 1 1).setF (Reg.POL_PH_IPK_ipk n) (min 1023 (r.ipk.getD n 0))
  let s := s.each (List.range 8) fun k t => t.reading (Reg.RAIL_IOUT_iout k) (119 + k) 1 1
  let s := s.each (List.range 6) fun n t => t.reading (Reg.LDO_IOUT_iout n) (50 + n) 1 10
  let s := s.each (List.range 12) fun n t => t.reading (Reg.ISO_MEAS_p_in n) (56 + n) ((t.chan 38).getD 0).toNat 100000
  let s := ((s.reading (Reg.FE_MEAS_val 0) 34 1 5).reading (Reg.FE_MEAS_val 1) 33 1 5).reading (Reg.FE_MEAS_val 2) 117 1 1
  let s := ((s.reading (Reg.FE_MEAS_val 3) 48 1 1).reading (Reg.FE_MEAS_val 4) 49 1 1).reading (Reg.FE_MEAS_val 5) 118 1 10
  s.each (List.range 4) fun d t => t.dieReading d (r.sensors.getD d [])

/-- The condition bits of the round (R113, R144, R168, R245, R253). -/
def State.roundBits (s : State) (b : RoundBits) : State :=
  let s := s.each (List.range 8) fun k t =>
    let t := t.setB (Reg.RAIL_STAT_pulse_skip k) (t.stIn [stFAWN] == false && [rRAMP, rON, rSTOPPING].contains (t.railState k) && b.pulseSkip.getLsbD k)
    if b.railLim.getLsbD k then t else (t.setB (Reg.RAIL_DYN_ilim_active k) false).endCause cRAILI k 1
  let s := s.each (List.range 6) fun n t =>
    let on := t.ldoState n == lRAMP || t.ldoState n == lON
    (t.setB (Reg.LDO_STAT_dropout n) (on && b.dropout.getLsbD n)).setB (Reg.LDO_STAT_ilim n) (on && b.ldoLim.getLsbD n)
  let s := s.each (List.range 12) fun n t =>
    t.setB (Reg.ISO_STAT_ilim n) (b.isoLim.getLsbD n)
  let s := s.each [0, 1] fun p t => if b.feLim.getLsbD p then t else t.endCause cFE p 0
  if b.feLim = 0 then s.setB Reg.FE_STAT_ilim_active false else s

/-! Windows (R257, R264, R292). -/

/-- A sample lies 0.5% of N or more inside a threshold on its side. -/
def State.inside (s : State) (c : Nat) (fault above : Bool) (v : Word) : Bool :=
  let t := s.threshold c fault above
  let h : Int := 2 * s.nominal c
  !beyond above v (if above then t - h else t + h)

/-- The cause of one window ends once a sample lies far enough inside it; a tripped comparator of that side is free again. -/
def State.endWindow (s : State) (c : Nat) (fault above : Bool) (v : Word) : State :=
  if s.inside c fault above v then
    let k := s.windowKey c fault above
    let t := if s.windowCause c fault above && (k.1 = cRAILV || !fault || s.inside c fault (!above) v) then s.endCause k.1 k.2.1 k.2.2 else s
    let t := t.updMon c fun m => { m with judged := m.judged.filter (· != (fault, above)) }
    if fault then t.updMon c fun m => if above then { m with tripHi := false } else { m with tripLo := false } else t
  else s

/-- A count of power-good restarts after progress: chatter of the channel and of the waiting step (R264, R271). -/
def State.pgRestart (s : State) (c : Nat) : State :=
  let t := s.updMon c fun m => { m with cnt := 0 }
  if (s.mon c).cnt = 0 || s.bit (Reg.MON_CH_STAT_pg c) then t else (t.count (Reg.MON_CH_STAT_chat c)).stepChatter c

/-- A sample counts for a window while it is armed: beyond the threshold the cause is present, and the run grows; otherwise the run
ends (R257, R259, R262). -/
def State.countBeyond (s : State) (c : Nat) (fault above : Bool) (v : Word) : State :=
  let on := s.armed c above && beyond above v (s.threshold c fault above)
  let n := if on then min 255 (s.beyondRun c fault above + 1) else 0
  let t := s.updMon c fun m =>
    match fault, above with
    | false, false => { m with warnLo := n }
    | false, true => { m with warnHi := n }
    | true, false => { m with fltLo := n }
    | true, true => { m with fltHi := n }
  if on then t.noteWindow c fault above else t

/-- One sample of a channel: power-good counting, the latest-sample bits, the runs beyond its windows and the ends of its causes. -/
def State.sample (s : State) (c : Nat) (v : Word) : State :=
  if v = 0x8000 then s
  else
    let w := s.bit (Reg.MON_CH_CFG_pg_win c)
    let out (above was : Bool) : Bool := if was then !s.inside c w above v else beyond above v (s.threshold c w above)
    let lo := out false (s.mon c).outLo
    let hi := out true (s.mon c).outHi
    let low := decide (50 * signed 16 v.toNat < 40 * (s.widthBase c : Int))
    let s := (s.setB (Reg.MON_CH_STAT_in_win c) (!lo && !hi)).updMon c fun m => { m with outLo := lo, outHi := hi, low := low }
    let s :=
      if !s.counting c then s.pgFall c
      else if s.bit (Reg.MON_CH_STAT_pg c) then s.updMon c fun m => { m with outN := if lo || hi then min 255 (m.outN + 1) else 0 }
      else if lo || hi then s.pgRestart c
      else s.updMon c fun m => { m with cnt := min 255 (m.cnt + 1) }
    [(false, false), (false, true), (true, false), (true, true)].foldl (fun t x => (t.countBeyond c x.1 x.2 v).endWindow c x.1 x.2 v) s

/-! Other causes that end with the round's values (R148-R151, R171, R173, R203, R292). -/

/-- A channel is valid and within bounds. -/
def State.chanIn (s : State) (c : Nat) (lo hi : Int) : Bool :=
  match s.chan c with | some v => decide (lo ≤ v) && decide (v ≤ hi) | none => false

/-- The cells in use, in 0.25 mV, where all are valid. -/
def State.cellSamples (s : State) : Option (List Int) := (List.range s.cells).mapM fun k => s.chan (28 + k)

/-- A lasting cause whose condition, counting its hysteresis, no longer holds. The charger causes ov and pack_uv last until the
cells (and BATT) are back inside (DESIGN CHOICE, log entry 46). -/
def State.causeOver (s : State) (k : Nat × Nat × Nat) : Bool :=
  let (cls, src, cause) := k
  if cls = cTHERM && cause = 0 && decide (src < 8) then
    (List.range 4).all fun d => !(s.phasesOf src).any (fun n => n / 4 == d)
      || s.chanIn (112 + d) (-32768) (10 * (s.getF (Reg.RAIL_THERM_warn src) : Int) - 50)
  else if cls = cTHERM && src = 36 then
    let c : Int := 10 * (s.ceiling 0x20 150 : Int) - (if cause = 0 then 100 else 0)
    s.chanIn 46 (-32768) (c - 1) && s.chanIn 47 (-32768) (c - 1)
  else if cls = cFE then
    (match cause with
     | 1 => s.chanIn 33 (-32768) 9250
     | 3 => s.chanIn (68 + 2 * src) 7000 32767 && s.chanIn (69 + 2 * src) 7000 32767
     | 4 => s.chanIn 37 8500 32767
     | 7 => s.chanIn 35 (-32768) 30000
     | 9 => s.chanIn 35 (-500) 32767
     | _ => false)
  else if cls = cCHG then
    (match cause with
     | 0 =>
       (match s.cellSamples with
        | some l => l.all fun v => decide (v ≤ 4 * (s.getF Reg.CHG_VCV_vcv + 100 : Nat))
        | none => false) && s.chanIn 32 (-32768) (((s.cells * s.getF Reg.CHG_VCV_vcv + 200 : Nat) : Int) / 2)
     | 1 => s.chanIn 40 (-32768) (10 * s.getF Reg.CHG_TEMP2_t_ot : Nat)
     | 3 => (match s.cellSamples with | some l => l.all fun v => decide (6000 ≤ v) | none => false)
     | _ => false)
  else false

/-- An opening cause of R173 is released. -/
def State.openingOver (s : State) : IswCause → Bool
  | .overVoltage => s.chanIn 35 (-32768) 30000
  | .underVoltage => s.chanIn 35 (50 * s.getF Reg.FE_VBUS_uv + 250 : Nat) 32767
  | .reversePolarity => s.chanIn 35 (-500) 32767
  | .reverseCurrent => true

/-- The causes that are over end. -/
def State.endCauses (s : State) : State :=
  let s := s.updFlt fun f => { f with causes := f.causes.filter fun k => !s.causeOver k }
  s.updPath fun p => { p with opening := p.opening.filter fun c => !s.openingOver c }

/-! Temperatures, path and charger (R186, R196, R199, R206, R97). -/

/-- One step of a target toward its goal. -/
def slew (step v goal : Nat) : Nat := if v + step < goal then v + step else if goal + step < v then v - step else goal

/-- NTC0's charging window and derate, the REV band, the release of the VBUS wake level, the slew after a removal, and the targets. -/
def State.pathReadings (s : State) : State :=
  let s :=
    match s.chan 40 with
    | none => s.setB Reg.CHG_STAT_susp_temp true
    | some t =>
      let lo := 10 * s.getI Reg.CHG_TEMP_t_lo
      let hi : Int := 10 * s.getF Reg.CHG_TEMP_t_hi
      let s := if t < lo || hi < t then s.setB Reg.CHG_STAT_susp_temp true
        else if lo + 30 ≤ t && t ≤ hi - 30 then s.setB Reg.CHG_STAT_susp_temp false else s
      s.setB Reg.CHG_STAT_t_derate (decide (t < 10 * s.getI Reg.CHG_TEMP2_t_half))
  let t : Rat := 10 * (match s.path.revTgt with | some v => (v : Rat) / 100 | none => s.getF Reg.FE_REV_VHB_vhb)
  let d := (s.mv2 34 : Rat) - t
  let s := s.setB Reg.PATH_STAT_vhb_reg (decide (50 * d ≤ t) && decide (-(50 * d) ≤ t))
  let s := if decide (s.mv2 35 + 1000 < ((100 * s.getF Reg.SYS_WAKE_VBUS_thr : Nat) : Int)) then s.updSys fun y => { y with wakeVbus := false } else s
  let abs := 100 * s.getF Reg.CHG_VSYS_v_abs
  let s := s.updPath fun p => { p with removedTgt := p.removedTgt.bind fun v => if slew 24 v abs = abs then none else some (slew 24 v abs) }
  let s := s.updFe fun f => { f with startTgt := f.startTgt.map fun v => slew 24 v (10 * s.chargerVsys.toNat) }
  let step := 12 * s.getF Reg.PATH_RET_slew
  let hold := 100 * s.getF Reg.FE_REV_VHB_vhb
  let goal := if s.pathMode = pRETURN then max 180000 (min 320000 (10 * (s.mv2 35).toNat)) else hold
  let moved (v : Nat) : Option Nat := if s.pathMode != pRETURN && slew step v goal = hold then none else some (slew step v goal)
  let s := s.updPath fun p => { p with revTgt := p.revTgt.bind moved }
  (s.retarget.chgEval).feSlopeMoved

/-- What the path and the front end then start: ISW is ordered closed where nothing holds it off any longer, a start in FWD follows
where its conditions hold (R166, R173, R185), and the term that wins in this round is shown. -/
def State.pathStarts (s : State) : State :=
  let s := (s.tryClose.slewedClose).feTryStart
  if s.feIn [feFWD_START, feFWD, feREV, feSTOPPING] then s.fePick else s

/-! Light load (R132, R169). -/

/-- Time since t_last is below 200 us. -/
def State.dwelling (s : State) (t : Option Nat) : Bool := match t with | some x => decide (s.time < x + 200) | none => false

/-- The highest-numbered switching phase starts its ramp-out (R134). -/
def State.shedOne (s : State) (k m : Nat) : State :=
  ((s.setB (Reg.RAIL_DYN_ramp_out k) true).updRail k fun r =>
    { r with rampOut := (s.servicePhases k)[m - 1]?, tLast := some s.time }).setRegime k

/-- A zero-current hold ends once the output has fallen to vset (R123): the phases switch. -/
def State.endHold0 (s : State) (k : Nat) : State :=
  match s.chan k with
  | some v =>
    if (s.rail k).hold0 && decide (v ≤ 8 * (s.getF (Reg.RAIL_VSET_vset k) : Int)) then
      let t := s.updRail k fun r => { r with hold0 := false }
      (t.setSwitching k (t.nMax k)).setRegime k
    else s
  | none => s

/-- The evaluation of a rail that is ON (R132). Where the round's rail current is invalid it counts as 0 (DESIGN CHOICE, log entry
41). -/
def State.lightLoad (s : State) (k : Nat) : State :=
  if s.railState k != rON || (s.rail k).hold0 then s
  else
    let m := s.getF (Reg.RAIL_STAT_n_active k)
    let i : Int := (s.chan (119 + k)).getD 0
    let add : Int := 10 * s.getF (Reg.RAIL_SHED_i_add k)
    let shed : Int := 10 * s.getF (Reg.RAIL_SHED_i_shed k)
    let de := (s.servicePhases k).take 1 |>.any fun n => s.bit (Reg.POL_PH_STAT_de n)
    let now (t : State) : State := t.updRail k fun r => { r with tLast := some s.time }
    if s.nMax k < m then s.shedOne k m
    else if s.railHeld k then (if m < s.nMax k || de then s.addAll k else s)
    else if (s.rail k).rampOut.isSome || s.dwelling (s.rail k).tLast then s
    else if de then (if shed < i then now ((s.leaveDe k).setRegime k) else s)
    else if m < s.nMax k && decide (add * m < i) then
      let t := s.abandon ((s.servicePhases k)[m]?.toList)
      now ((t.setSwitching k (m + 1)).setRegime k)
    else if 1 < m && decide (i < shed * m) && decide (2 * i < (add + shed) * (m - 1 : Nat)) then s.shedOne k m
    else if m = 1 && decide (i < 10 * s.getF (Reg.RAIL_LIGHT_i_de k)) then
      now ((s.each ((s.servicePhases k).take 1) fun n t => t.setB (Reg.POL_PH_STAT_de n) true).setRegime k)
    else s

/-- The evaluation of the front end (R169): phase 1 is shed, the remaining phase enters diode emulation. Where phase 0 is out of service
the remaining one is phase 1, and FE_STAT.de shows it (DESIGN CHOICE, log entry 43). -/
def State.feLight (s : State) : State :=
  if !s.feIn [feFWD, feREV] || s.fe.ovStop then s
  else
    let m := s.getF Reg.FE_STAT_n_active
    let sum := (s.chan 48).getD 0 + (s.chan 49).getD 0
    let i : Int := if 0 ≤ sum then sum else -sum
    let add : Int := 50 * s.getF Reg.FE_LIGHT_i_add
    let shed : Int := 50 * s.getF Reg.FE_LIGHT_i_shed
    let de := s.bit Reg.FE_STAT_de
    let now (t : State) : State := t.updFe fun f => { f with tLast := some s.time }
    if s.feHeld then (if m < s.feService || de || s.fe.rampOut then s.feAddAll else s)
    else if s.fe.rampOut || s.dwelling s.fe.tLast then s
    else if de then (if shed < i then now (s.setB Reg.FE_STAT_de false) else s)
    else if m < s.feService && decide (add * m < i) then now (s.setF Reg.FE_STAT_n_active (m + 1))
    else if 1 < m && decide (i < shed * m) && decide (2 * i < (add + shed) * (m - 1 : Nat)) then
      now (s.updFe fun f => { f with rampOut := true })
    else if m = 1 && decide (i < 10 * s.getF Reg.FE_DE_i_de) then now (s.setB Reg.FE_STAT_de true)
    else s

/-! The reference trio (R451). -/

/-- Which members disagree: none, one, or no two agree. -/
inductive Trio where
  | agree | one (member : Nat) | none
  deriving DecidableEq, Repr

def trioOf (a b c : Int) : Trio :=
  let near (x y : Int) : Bool := decide (x - y ≤ 300) && decide (y - x ≤ 300)
  let m := max (min a b) (min (max a b) c)
  if near a m && near b m && near c m then .agree
  else if near a b then .one 2
  else if near a c then .one 1
  else if near b c then .one 0
  else .none

/-- The judgement of the trio: the excluded member with REF at L1, or REF at L4 where no two agree; which members AGE_TRIO then
shows is not stated (log entry 3). -/
def State.trio (s : State) : State :=
  match s.chan 72, s.chan 73, s.chan 74 with
  | some a, some b, some c =>
    let end1 (t : State) (keep : Option Nat) : State :=
      t.each [0, 1, 2] fun i u => if keep = some i then u else u.endCause cREF (32 + i) 0
    match trioOf a b c with
    | .agree => ((end1 s none).endCause cREF 32 1).setF Reg.AGE_TRIO_excl 0
    | .one i =>
      (((end1 s (some i)).endCause cREF 32 1).setF Reg.AGE_TRIO_excl (2 ^ i)).raiseLasting { cls := cREF, src := 32 + i, lvl := 1 }
    | .none =>
      (((end1 s none).setF Reg.AGE_TRIO_excl (Config.freshNat s.free)).draw).raiseLasting { cls := cREF, src := 32, lvl := 4, cause := 1 }
  | _, _, _ => s

/-! The round. -/

/-- SCAN_ROUND_END (R302). Events of the round act before its snapshot is taken (R309). -/
def execScanRoundEnd (r : ScanRound) (s : State) : Out State :=
  if !r.wf then .fault .illFormed
  else if s.live && s.st != stFAWN then
    let t := ((s.putChannels r).readings r).roundBits r.bits
    let t := (t.each (List.range 28) fun c u => u.sample c ((roundWords r).getD c 0x8000)).cellRound.endCauses.pathReadings.pathStarts.trio
    let t := (t.each (List.range 8) fun k u => (u.endHold0 k).lightLoad k).feLight
    ((t.drain 8).takeSnap (roundWords r) |>.streamRound (roundWords r)).done
  else .next s

end Sys2Proof.Machine
end

