-- ==== Sys2Proof/Machine/SideBand.lean ====
section
/-!
DEFINITION. The side-band port and the herds (chapter 16): transactions of port 45, alert and bleat, enumeration as a target,
and the bridge's relay. A transaction is one step, so the SB block does not run between steps and its fields commit at once
(R375).
-/

namespace Sys2Proof.Machine

/-! Transactions (R378-R385). -/

/-- The device answers its own address (R376). -/
def State.sbUp (s : State) : Bool := s.accUp .side && s.getF Reg.SB_ADDR_src != 2

/-- The first byte on the wire with R/W = `rw`. -/
def State.sbAddress (s : State) (rw : Nat) : Byte := BitVec.ofNat 8 (2 * (0x40 + s.getF Reg.SB_ADDR_index) + rw)

/-- The outcome of a write transaction for the status word (R380). -/
def State.sbPrev (s : State) (p : Nat) : State := { s with sb := { s.sb with prev := p } }

/-- What SBDA carried back. -/
def State.sbShift (s : State) (l : List Byte) : State := { s with sbOut := l }

/-- The device's own address matches on port 45: a wake source, always enabled (R95, R97). -/
def State.sbMatch (s : State) : State := s.wakeSeen true Reg.SYS_WAKE_SRC_sideband

/-- COMM at L0 with source 1, which a failed side-band transaction records. -/
def State.sbNote (s : State) : State := s.raise { cls := cCOMM, src := 1, lvl := 0 }

/-- A refused command or parameter byte (R378). -/
def State.sbRefuse (s : State) : State := ((s.setB Reg.SB_ERR_bad_cmd true).sbPrev 2).sbShift []

/-- The command byte is refused for want of the PEC flag (R378). -/
def State.sbNoPec (s : State) (h : SbHead) : Bool := s.bit Reg.SB_CFG_pec_req && !h.pec

/-- A write transaction (R378, R379, R382): the parameter check, the check of the first data byte with the error it sets, and
what a commit does, which answers whether something was refused. `extra`: the transaction carried too few (`some false`) or
too many bytes (`some true`). -/
def State.sbWrite (s : State) (h : SbHead) (params : Bool) (early : Option Fld) (extra : Option Bool)
    (commit : State → State × Bool) : State :=
  let s := s.sbMatch.sbShift []
  if s.sbNoPec h || !params then s.sbRefuse
  else
    match early with
    | some f => (s.setB f true).sbPrev 2
    | none =>
      if h.ending = .short || extra = some false then (s.setB Reg.SB_ERR_len true).sbPrev 2
      else if extra = some true || h.ending = .collide then s.sbPrev 2
      else if h.ending = .badPec then
        (if h.pec then (s.setB Reg.SB_ERR_pec true).sbNote else s).sbPrev 2
      else
        let p := commit s
        p.1.sbPrev p.2.toNat

/-- A read transaction (R378, R379, R381, R382, R385): the write part's bytes, and what a read of that many bytes samples.
The PEC follows the last byte where it is flagged; beyond the read part SBDA stays released. -/
def State.sbRead (s : State) (h : SbHead) (params : Bool) (wr : List Byte) (rd : State → State × List Byte) : State :=
  let s := s.sbMatch
  if s.sbNoPec h || !params then s.sbRefuse
  else if h.ending = .short then (s.setB Reg.SB_ERR_len true).sbShift (List.replicate h.clocked 0xFF)
  else
    let p := rd s
    let out := p.2 ++ (if h.pec then [BitVec.ofNat 8 (crc8 (s.sbAddress 0 :: wr ++ s.sbAddress 1 :: p.2))] else [])
    let t := p.1.sbShift ((out ++ List.replicate h.clocked 0xFF).take h.clocked)
    if h.ending = .collide then
      (t.setB Reg.SB_ERR_collide true).raise { cls := cCOMM, src := 1, lvl := 1 }
    else t

/-- Every byte of a read part of n bytes, and the PEC when flagged, was shifted out (R389). -/
def readAll (h : SbHead) (n : Nat) : Bool := h.ending != .collide && decide (n + h.pec.toNat ≤ h.clocked)

/-- The command byte of a code (R378). -/
def cmdByte (h : SbHead) (code : Nat) : Byte := BitVec.ofNat 8 (code + 128 * h.pec.toNat)

/-- Whether a list is shorter or longer than n. -/
def countOff {α : Type} (l : List α) (n : Nat) : Option Bool :=
  if l.length < n then some false else if n < l.length then some true else none

/-- A number between bounds. -/
def inRange (lo hi n : Nat) : Bool := decide (lo ≤ n) && decide (n ≤ hi)

/-- SB_REG_WR (R384). -/
def execSbRegWr (h : SbHead) (addr : BitVec 24) (n : Byte) (words : List (BitVec 32)) (s : State) : Out State :=
  if s.sbUp then
    (s.sbWrite h (addr.toNat % 4 = 0 && decide (addr.toNat < 2 ^ 20) && inRange 1 8 n.toNat) none (countOff words n.toNat)
      fun t => t.busWrites .side addr.toNat (words.map fun w => (w.toNat / 65536, w.toNat % 65536))).done
  else .next s

/-- BUF_WR (R387). -/
def execBufWr (h : SbHead) (off : Word) (n : Byte) (bytes : List Byte) (s : State) : Out State :=
  if s.sbUp then
    let o := off.toNat
    (s.sbWrite h (o % 4 = 0 && n.toNat % 4 = 0 && inRange 4 32 n.toNat && decide (o + n.toNat ≤ 0x1000)) none
      (countOff bytes n.toNat) fun t => ({ t with sbBuf := memWrite o bytes t.sbBuf }, false)).done
  else .next s

/-- MBX_POST (R388): the descriptor with its stamp, and the full authority of a lost host at that stamp (R343). -/
def execMbxPost (h : SbHead) (desc : List Byte) (s : State) : Out State :=
  if s.sbUp then
    let tag := (desc.headD 0).toNat
    (s.sbWrite h (desc.length = 32) (if 3 < tag || s.sideTags.contains tag then some Reg.SB_ERR_tag else none) none fun t =>
      (t.updMbx fun m =>
        { m with sidePosts := m.sidePosts ++ [⟨tag, desc, t.time, if t.bit Reg.SYS_STATE_host_lost then 0x7FFF else 0⟩] }, false)).done
  else .next s

/-- The write part of REG_RD and MEM_RD. -/
def readPart (h : SbHead) (code : Nat) (addr : BitVec 24) (n : Byte) : List Byte := cmdByte h code :: leBytes 3 addr.toNat ++ [n]

/-- SB_REG_RD (R381): each word whose first byte is shifted out is sampled. -/
def execSbRegRd (h : SbHead) (addr : BitVec 24) (n : Byte) (s : State) : Out State :=
  if s.sbUp then
    (s.sbRead h (addr.toNat % 4 = 0 && decide (addr.toNat < 2 ^ 20) && inRange 1 16 n.toNat) (readPart h 2 addr n) fun t =>
      let p := t.readRegs .side addr.toNat (min n.toNat ((h.clocked + 1) / 2))
      (p.1, (p.2 ++ List.replicate (n.toNat - p.2.length) 0).flatMap (leBytes 2))).done
  else .next s

/-- SB_MEM_RD (R73, R83, R378, R381): a word of a register address is refused with wrong_op, a reserved address reads 0. -/
def execSbMemRd (h : SbHead) (addr : BitVec 24) (n : Byte) (s : State) : Out State :=
  if s.sbUp then
    (s.sbRead h (addr.toNat % 4 = 0 && decide (addr.toNat < 2 ^ 20) && inRange 1 8 n.toNat) (readPart h 3 addr n) fun t =>
      let p := t.readMems .side addr.toNat (min n.toNat ((h.clocked + 3) / 4))
      (p.1, (p.2 ++ List.replicate (n.toNat - p.2.length) 0).flatMap (leBytes 4))).done
  else .next s

/-- BUF_RD (R387). -/
def execBufRd (h : SbHead) (off : Word) (n : Byte) (s : State) : Out State :=
  if s.sbUp then
    (s.sbRead h (off.toNat % 4 = 0 && inRange 4 32 n.toNat && decide (off.toNat + n.toNat ≤ 0x1000))
      (cmdByte h 5 :: leBytes 2 off.toNat ++ [n]) fun t => (t, memRead off.toNat n.toNat t.sbBuf)).done
  else .next s

/-- MBX_RESP (R389): the oldest entry, consumed only by a read that shifted all of it out. -/
def execMbxResp (h : SbHead) (s : State) : Out State :=
  if s.sbUp then
    (s.sbRead h true [cmdByte h 0x11] fun t =>
      match t.mbx.sideResps with
      | r :: rest => (if readAll h 33 then t.updMbx fun m => { m with sideResps := rest } else t, 32 :: r.entry)
      | [] => (t, [0])).done
  else .next s

/-- MBX_STAT (R378): SB_MBX. -/
def execMbxStat (h : SbHead) (s : State) : Out State :=
  if s.sbUp then (s.sbRead h true [cmdByte h 0x12] fun t => (t, leBytes 2 (t.peek .side 0x1C018))).done else .next s

/-- DS_READ (R397): a read part that starts pops the oldest entry, unless a collision stops it (R385). -/
def execDsRead (h : SbHead) (s : State) : Out State :=
  if s.sbUp then
    (s.sbRead h true [cmdByte h 0x13] fun t =>
      match t.sb.ds with
      | (r, x) :: _ => (if 0 < h.clocked && h.ending != .collide then t.popDs else t, leBytes 3 r ++ leBytes 1 x)
      | [] => (t, [0, 0, 0, 0])).done
  else .next s

/-- SB_STATUS (R380). -/
def execSbStatus (h : SbHead) (s : State) : Out State :=
  if s.sbUp then (s.sbRead h true [cmdByte h 0x20] fun t => (t, leBytes 4 t.sbStatus)).done else .next s

/-- A transaction that is cut off: nothing of it commits (R373, R380, R383). -/
def State.sbCut (s : State) (f : Fld) (write : Bool) : State :=
  let t := (s.setB f true).sbNote
  if write then t.sbPrev 2 else t

/-- SB_BUS_TIMEOUT (R373). -/
def execSbBusTimeout (write : Bool) (s : State) : Out State :=
  if s.sbUp then (s.sbCut Reg.SB_ERR_timeout write).done else .next s

/-- SB_ABORT_ACK (R383). -/
def execSbAbortAck (write : Bool) (s : State) : Out State :=
  if s.sbUp then (s.sbCut Reg.SB_ERR_abort_ack write).done else .next s

/-! Alert Response (R392). -/

/-- ALERT_RESPONSE: the winner sends its address and releases SBALERT_N. A released device has no address to send; its byte
is open (log entry 3). -/
def execAlertResponse (wins : Bool) (s : State) : Out State :=
  if s.accUp .side && s.bit Reg.SB_CFG_ara_en && s.sbAlert then
    if wins then
      let open_ := s.getF Reg.SB_ADDR_src = 2
      let b : Byte := if open_ then BitVec.ofNat 8 (Config.freshNat s.free) else s.sbAddress 0
      let t := if open_ then s.draw else s
      ((({ t with sb := { t.sb with win := true } }).sbShift
        (b :: (if s.bit Reg.SB_CFG_bleat_pec then [BitVec.ofNat 8 (crc8 [0x19, b])] else [])))).done
    else .next s
  else .next s

/-! Enumeration as a target (R399). -/

/-- The device answers 0x3F (R377). -/
def State.enumUp (s : State) : Bool := s.accUp .side && s.bit Reg.SB_CFG_enum_en

/-- The 64-bit unique ID (R399, R404). -/
def State.uid (s : State) : Nat := s.fuse 1 0 + 65536 * s.fuse 1 1 + 65536 ^ 2 * s.fuse 1 2 + 65536 ^ 3 * s.fuse 1 3

/-- RELEASE. The match of 0x3F is a wake source as the own address is (R395). -/
def execRelease (s : State) : Out State := if s.enumUp then (s.sbMatch.setF Reg.SB_ADDR_src 2).done else .next s

/-- IDENTIFY: a device without a herd index sends its ID, most significant byte first, and as the survivor its herd protocol
level and the PEC. -/
def execIdentify (wins : Bool) (s : State) : Out State :=
  if s.enumUp && s.getF Reg.SB_ADDR_src != 1 then
    if wins then
      let bs := (leBytes 8 s.uid).reverse ++ [BitVec.ofNat 8 (s.now Reg.UPD_SEL_herd_lvl)]
      (s.sbMatch.sbShift (bs ++ [BitVec.ofNat 8 (crc8 ([0x7E, 0x01, 0x7F] ++ bs))])).done
    else s.sbMatch.done
  else .next s

/-- ASSIGN: the device whose ID matches takes the index. -/
def execAssign (uid : BitVec 64) (index : BitVec 6) (s : State) : Out State :=
  if s.enumUp then
    (if uid.toNat = s.uid then
      s.sbMatch.setMany [(Reg.SB_ADDR_src, 1), (Reg.SB_ADDR_index, index.toNat), (Reg.SB_CFG_bleat_en, 1)]
    else s.sbMatch).done
  else .next s

/-! Bleats (R393, R394). -/

/-- The device may send a bleat pulse: in-band requests are enabled, a reason is pending, it has an address, and it has not
stopped after 8 unanswered bleats. -/
def State.mayBleat (s : State) : Bool :=
  s.sbUp && s.bit Reg.SB_CFG_bleat_en && s.requesting && decide (s.sb.unanswered < 8)

/-- BLEAT. -/
def execBleat (s : State) : Out State :=
  if s.mayBleat then .next { s with sb := { s.sb with pulsed := true } } else .next s

/-- The lowest pending enabled reason, as its bit (R393). -/
def State.bleatBit (s : State) : Option Nat :=
  (List.range 8).find? fun i => bitOf (s.getF Reg.SB_REQ_req) i && bitOf (s.getF Reg.SB_REQ_EN_en) i

/-- A bleat delivered a reason: its bit clears, but DOWNSTREAM stands while the queue holds an entry (R394, R397). -/
def State.delivered (s : State) (i : Nat) : State :=
  if i = rqDOWNSTREAM && !s.sb.ds.isEmpty then s else s.setBitOf Reg.SB_REQ_req i false

/-- BLEAT_READ: the winner's reason byte, and its bit clears at the STOP. -/
def execBleatRead (wins : Bool) (s : State) : Out State :=
  if s.sb.pulsed && s.sbUp then
    let t := { s with sb := { s.sb with pulsed := false, unanswered := 0 } }
    match (if wins then t.bleatBit else none) with
    | some i =>
      let b : Byte := BitVec.ofNat 8 (i + 1)
      ((t.sbShift (b :: (if t.bit Reg.SB_CFG_bleat_pec then [BitVec.ofNat 8 (crc8 [t.sbAddress 1, b])] else []))).delivered i).done
    | none => t.done
  else .next s

/-- BLEAT_UNANSWERED: after 8 in a row the device stops bleating. -/
def execBleatUnanswered (s : State) : Out State :=
  if s.sb.pulsed && s.sbUp then
    let n := s.sb.unanswered + 1
    let t := { s with sb := { s.sb with pulsed := false, unanswered := n } }
    (if 8 ≤ n then t.setB Reg.SB_STAT_bleat_fail true else t).done
  else .next s

/-! The herds (R373, R397, R398). -/

def herdBit : HerdPort → Bool
  | .a => false
  | .b => true

/-- The fault bit of a herd port. -/
def herdFault (p : HerdPort) : Fld := if herdBit p then Reg.SB_HERD_STAT_fault_b else Reg.SB_HERD_STAT_fault_a

/-- The bridge controls a herd port outside FAWN and reset (R396). -/
def State.herdRuns (s : State) (p : HerdPort) : Bool := s.romUp && s.herdUp (herdBit p)

/-- HERD_BUS_FAULT (R373): a bus clear; where the line stays held, COMM and the fault bit. -/
def execHerdBusFault (p : HerdPort) (freed : Bool) (s : State) : Out State :=
  if s.herdRuns p && !freed then
    ((s.setB (herdFault p) true).raiseLasting { cls := cCOMM, src := 2 + (herdBit p).toNat, lvl := 1 }).done
  else .next s

/-- HERD_BUS_CLEAR_RETRY (R373): the fault bit clears at the first successful STOP. -/
def execHerdBusClearRetry (p : HerdPort) (freed : Bool) (s : State) : Out State :=
  if s.herdRuns p && s.bit (herdFault p) && freed then
    ((s.setB (herdFault p) false).endCause cCOMM (2 + (herdBit p).toNat) 0).done
  else .next s

/-- An entry or reason is discarded (R397). -/
def State.dropDs (s : State) : State := s.count Reg.SB_DS_STAT_drops

/-- The control core, or the ROM in RECOVERY, runs the relay: not while the core is lost, nor in a pause (R398, R431). -/
def State.relays (s : State) : Bool :=
  s.romUp && s.bridge && !s.bit Reg.MBX_STAT_paused && (s.sys.ctlAlive || s.st == stRECOVERY)

/-- HERD_CHILD_BLEAT (R397, R398): address and reason go to the raw queue; while the relay stands still a full queue leaves the
bleat unanswered. -/
def execHerdChildBleat (p : HerdPort) (index : BitVec 6) (reason : Byte) (s : State) : Out State :=
  if s.herdRuns p then
    if s.sb.raw.length < 4 then .next { s with sb := { s.sb with raw := s.sb.raw ++ [⟨p, index.toNat, reason.toNat⟩] } }
    else if s.relays then s.dropDs.done else .next s
  else .next s

/-- Queues a downstream entry, or discards it (R397). -/
def State.pushDs (s : State) (route reason : Nat) : State :=
  if 16 ≤ s.sb.ds.length then s.dropDs
  else
    (({ s with sb := { s.sb with ds := s.sb.ds ++ [(route, reason)] } }).request rqDOWNSTREAM).setB Reg.HOST_INT_STAT_herd true

/-- DOWNSTREAM_ENTRY (R397, R398): the oldest raw reason becomes an entry; one of DOWNSTREAM takes the child's own entry, with
the child in front as hop 1, unless that needs a fourth hop. An empty queue of the child gives no entry. -/
def execDownstreamEntry (route : BitVec 20) (reason : Byte) (s : State) : Out State :=
  match (if s.relays then s.sb.raw else []) with
  | [] => .next s
  | x :: rest =>
    let t := { s with sb := { s.sb with raw := rest } }
    let hops := route.toNat / 2 ^ 18
    (if x.reason != rqDOWNSTREAM + 1 then t.pushDs (x.index % 64 + 2 ^ 18) x.reason
     else if hops = 0 then t
     else if hops = 3 then t.dropDs
     else t.pushDs (x.index % 64 + route.toNat % 4096 * 64 + (hops + 1) * 2 ^ 18) reason.toNat).done

end Sys2Proof.Machine
end

