-- ==== Sys2Proof/Machine/Upd.lean ====
section
/-!
DEFINITION. The UPD commands (R364, R424-R430): receiving an image, verifying and committing the target slot, and the order to
activate. Activation and rollback themselves stand in Act and Cores.
-/

namespace Sys2Proof.Machine

/-- An update is receiving, or activating. -/
def State.updBusy (s : State) : Bool := s.getF Reg.UPD_STAT_state != 0

/-- The update in progress belongs to the other port (R364). -/
def State.updForeign (s : State) (p : Port) : Bool := s.updBusy && s.getF Reg.UPD_STAT_port != portCode p

/-- Body bytes received so far. -/
def State.rxBytes (s : State) : Nat := s.getF (Reg.UPD_RX_bytes 0) + 65536 * s.getF (Reg.UPD_RX_bytes 1)

/-- Sets the count of body bytes received. -/
def State.setRx (s : State) (n : Nat) : State := s.setMany [(Reg.UPD_RX_bytes 0, n % 65536), (Reg.UPD_RX_bytes 1, n / 65536)]

/-- The herd rule of R425 and R436: with the bridge role, an image of level l goes with every enumerated child. -/
def State.herdOk (s : State) (l : Nat) : Bool :=
  !s.bridge || (List.range 64).all fun i =>
    let c := s.getF (Reg.SB_CHILD_level i)
    !s.bit (Reg.SB_CHILD_valid i) || decide (l ≤ c + 1) && decide (c ≤ l + 1)

/-- The pair check of R425. A PACKAGE carries its two images in the body, so its pair is judged once they have arrived (log
entry 17). -/
def State.beginPair (s : State) (h : List Byte) : Bool :=
  match hdrType h, s.upd.running with
  | 3, _ => true
  | 1, some b => pairOk h (s.header b true)
  | _, some b => pairOk (s.header b false) h
  | _, none => false

/-! UPD.BEGIN (R425). -/

/-- The slot an update goes into: the inactive one, slot A in RECOVERY. -/
def State.newTarget (s : State) : Bool := match s.upd.running with | some b => !b | none => false

/-- An accepted header: the target slot is cleared, a CONTROL or GAUGE header goes to its area (R425, R426). -/
def State.beginUpdate (s : State) (p : Port) (h : List Byte) : State :=
  let tgt := s.newTarget
  let s := s.uncommitSlot tgt
  let s := if hdrType h = 3 then s else { s with mram := memWrite (areaBase tgt (hdrType h == 2)) h s.mram }
  let s := (s.setMany [(Reg.UPD_STAT_deferred, 0), (Reg.UPD_STAT_verified, 0), (Reg.UPD_STAT_port, portCode p),
    (Reg.UPD_STAT_type, hdrType h), (Reg.UPD_STAT_target, tgt.toNat)]).setRx 0
  (s.updUpd fun u => { u with hdr := h }).updState 1 sOK

/-- UPD.BEGIN: the checks of R347 and R425 in their order. -/
def State.cmdUpdBegin (keyOk : Bool) (s : State) (c : Taken) : State :=
  let h := c.payload
  s.guarded c
    [(!s.admits c || s.sys.vkeepLow, sNOT_NOW), (c.badLen 256 || !c.fits 4 || !hdrForm h, sBAD),
     (s.updForeign c.port || !keyOk || !s.keyUsable (hdrKey h), sDENIED), (s.updBusy, sBUSY),
     (hdrType h != 3 && !s.aboveFloor h || decide (largestOf (hdrType h) < hdrLen h), sLIMIT),
     (!s.beginPair h || hdrType h != 2 && !s.herdOk (hdrHerd h) || s.st = stRECOVERY && hdrType h != 3, sINCOMPATIBLE)] fun t =>
    (t.beginUpdate c.port h).respond c sOK 0 (leBytes 1 t.newTarget.toNat ++ [0, 0, 0])

/-! UPD.DATA (R426). -/

/-- Writes image bytes into an area from offset `o`; nothing reaches its commit word or beyond. -/
def State.areaWrite (s : State) (slot gauge : Bool) (o : Nat) (bs : List Byte) : State :=
  { s with mram := memWrite (areaBase slot gauge + o) (bs.take (areaSize gauge - 4 - o)) s.mram }

/-- Writes a block of the body at offset k: a PACKAGE is split at the end of the contained GAUGE image. -/
def State.bodyWrite (s : State) (k : Nat) (bs : List Byte) : State :=
  let t := s.target
  match s.getF Reg.UPD_STAT_type with
  | 3 =>
    let s := if k = 0 then s.areaWrite t true 0 (bs.take 256) else s
    let cut := 256 + hdrLen (s.header t true)
    let s := s.areaWrite t true k (bs.take (cut - k))
    s.areaWrite t false (k - cut) (bs.drop (cut - k))
  | ty => s.areaWrite t (ty == 2) (256 + k) bs

/-- UPD.DATA: the next block, 1,024 bytes but for the last. -/
def State.cmdUpdData (s : State) (c : Taken) : State :=
  let bs := c.payload.drop 4
  let off := c.u 0 4
  let rx := s.rxBytes
  let len := hdrLen s.upd.hdr
  if !s.admits c || s.sys.vkeepLow || s.getF Reg.UPD_STAT_state != 1 then s.respond c sNOT_NOW 0 []
  else if !c.ptr || c.payload.length < 8 || 1028 < c.payload.length || bs.length % 4 != 0 || off % 1024 != 0 || !c.fits 4 then
    s.respond c sBAD 0 []
  else if off != rx then s.respond c sBAD (rx / 1024) []
  else if len < rx + bs.length || bs.length != 1024 && rx + bs.length != len then s.respond c sBAD 0 []
  else if s.updForeign c.port then s.respond c sDENIED 0 []
  else ((s.bodyWrite rx bs).setRx (rx + bs.length)).respond c sOK 0 (leBytes 4 (rx + bs.length))

/-! UPD.END (R427). -/

/-- The header checks of an area whose commit word is not written yet (R422, R425). -/
def State.areaReady (s : State) (slot gauge : Bool) : Bool :=
  let h := s.header slot gauge
  hdrForm h && hdrType h == (if gauge then 2 else 1) && s.keyUsable (hdrKey h) && s.aboveFloor h && decide (hdrLen h ≤ largestBody gauge)

/-- Copies the running partner image into its area of the target slot; a PACKAGE brings both. -/
def State.copyPartner (s : State) : State :=
  match s.getF Reg.UPD_STAT_type, s.upd.running with
  | 1, some b => { s with mram := memWrite (areaBase s.target true) (memRead (areaBase b true) (areaSize true - 4) s.mram) s.mram }
  | 2, some b => { s with mram := memWrite (areaBase s.target false) (memRead (areaBase b false) (areaSize false - 4) s.mram) s.mram }
  | _, _ => s

/-- The verified slot is committed, GAUGE area first. -/
def State.commitSlot (s : State) : State :=
  let t := s.target
  (((((s.commitArea t true).commitArea t false).setB Reg.UPD_STAT_verified true).updUpd fun u =>
    { u with failed := u.failed.filter (· != t) })).request rqUPD

/-- UPD.END: copy, verification, commit. In RECOVERY the selector is written for a trial and a cold boot follows (R437). -/
def State.cmdUpdEnd (sigOk : Bool) (s : State) (c : Taken) : State :=
  s.guarded c
    [(!s.admits c || s.getF Reg.UPD_STAT_state != 1, sNOT_NOW), (c.badLen 0 || decide (s.rxBytes < hdrLen s.upd.hdr), sBAD),
     (s.updForeign c.port, sDENIED)] fun t =>
    if t.sys.vkeepLow then ((t.setB Reg.UPD_STAT_verified false).updState 0 sNOT_NOW).respond c sNOT_NOW 0 []
    else
      let u := t.copyPartner
      if !sigOk || !u.areaReady u.target false || !u.areaReady u.target true then (u.updResult 7 sCRC).respond c sCRC 0 []
      else if u.st = stRECOVERY then ((u.commitSlot.setSel ⟨false, true, false⟩).respond c sOK 0 []).boot .reset []
      else u.commitSlot.respond c sOK 0 []

/-! UPD.ACTIVATE and UPD.ABORT (R428, R430). -/

/-- UPD.ACTIVATE: at once, or deferred to the end of the hold-up. The response is the outgoing image's. -/
def State.cmdUpdActivate (s : State) (c : Taken) : State :=
  let t := s.target
  let h := s.header t false
  s.guarded c
    [(!s.admits c || !s.bit Reg.UPD_STAT_verified, sNOT_NOW), (c.badLen 0, sBAD), (s.updForeign c.port, sDENIED),
     (s.getF Reg.UPD_STAT_state = 2, sBUSY),
     (!pairOk h (s.header t true) || s.getF Reg.UPD_STAT_type != 2 && !s.herdOk (hdrHerd h), sINCOMPATIBLE)] fun u =>
    if u.st = stIBEX && !c.force then
      (u.setMany [(Reg.UPD_STAT_deferred, 1), (Reg.SYS_RUN_STAT_act_deferred, 1)]).respond c sOK 1 []
    else (u.respond c sOK 0 []).activate

/-- The update is abandoned (R426, R428). -/
def State.abortUpdate (s : State) (outcome status : Nat) : State := (s.discardSlot s.target).updResult outcome status

/-- UPD.ABORT. -/
def State.cmdUpdAbort (s : State) (c : Taken) : State :=
  s.guarded c
    [(!s.admits c || s.getF Reg.UPD_STAT_state != 1 || s.sys.vkeepLow, sNOT_NOW), (c.badLen 0, sBAD), (s.updForeign c.port, sDENIED)]
    fun t => (t.abortUpdate 5 sOK).respond c sOK 0 []

def execUpdBegin (p : Port) (tag : BitVec 6) (keyOk : Bool) (s : State) : Out State :=
  s.runCmd p tag (· == 0x0E10) (State.cmdUpdBegin keyOk)
def execUpdData (p : Port) (tag : BitVec 6) (s : State) : Out State := s.runCmd p tag (· == 0x0E11) State.cmdUpdData
def execUpdEnd (p : Port) (tag : BitVec 6) (sigOk : Bool) (s : State) : Out State := s.runCmd p tag (· == 0x0E12) (State.cmdUpdEnd sigOk)
def execUpdActivate (p : Port) (tag : BitVec 6) (s : State) : Out State := s.runCmd p tag (· == 0x0E13) State.cmdUpdActivate
def execUpdAbort (p : Port) (tag : BitVec 6) (s : State) : Out State := s.runCmd p tag (· == 0x0E14) State.cmdUpdAbort

/-- UPD_INACTIVITY_TIMEOUT (R426): the update is aborted as by UPD.ABORT, so not while VKEEP_LOW is asserted (R36). -/
def execUpdInactivityTimeout (s : State) : Out State :=
  if s.romUp && s.getF Reg.UPD_STAT_state = 1 && !s.sys.vkeepLow then (s.abortUpdate 6 0xFF).done else .next s

end Sys2Proof.Machine
end

