-- ==== Sys2Proof/Machine/Dispatch.lean ====
section
/-!
DEFINITION. Which meaning each command has: one arm per constructor, in the order of the table.
-/

namespace Sys2Proof.Machine

/-- The effect of a command on everything but the queue. -/
def exec (i : Instr) (s : State) : Host.Outcome State Fault Refusal :=
  match i with
  | .vkeepValid => Sys2Proof.Machine.execVkeepValid s
  | .vkeepLowAssert mv => Sys2Proof.Machine.execVkeepLowAssert mv s
  | .vkeepLowRelease mv => Sys2Proof.Machine.execVkeepLowRelease mv s
  | .vkeepLost => Sys2Proof.Machine.execVkeepLost s
  | .resetNRecognised => Sys2Proof.Machine.execResetNRecognised s
  | .resetNRelease => Sys2Proof.Machine.execResetNRelease s
  | .addrStrapRead mv => Sys2Proof.Machine.execAddrStrapRead mv s
  | .fuseReadComplete r => Sys2Proof.Machine.execFuseReadComplete r s
  | .earlyOutputStart d => Sys2Proof.Machine.execEarlyOutputStart d s
  | .earlyOutputTimeout d => Sys2Proof.Machine.execEarlyOutputTimeout d s
  | .imageVerified ok => Sys2Proof.Machine.execImageVerified ok s
  | .bootCoreTimeout => Sys2Proof.Machine.execBootCoreTimeout s
  | .bootComplete => Sys2Proof.Machine.execBootComplete s
  | .watchdogExpiry c => Sys2Proof.Machine.execWatchdogExpiry c s
  | .coreAlive c => Sys2Proof.Machine.execCoreAlive c s
  | .coreGraceExpiry c => Sys2Proof.Machine.execCoreGraceExpiry c s
  | .clkMonitorWindow m => Sys2Proof.Machine.execClkMonitorWindow m s
  | .xtalStart => Sys2Proof.Machine.execXtalStart s
  | .xtalStop => Sys2Proof.Machine.execXtalStop s
  | .synciLock khz => Sys2Proof.Machine.execSynciLock khz s
  | .synciLoss => Sys2Proof.Machine.execSynciLoss s
  | .synciRelock khz => Sys2Proof.Machine.execSynciRelock khz s
  | .dieLinkFailure d => Sys2Proof.Machine.execDieLinkFailure d s
  | .dieThermalShutdown d => Sys2Proof.Machine.execDieThermalShutdown d s
  | .dieThermalRelease d => Sys2Proof.Machine.execDieThermalRelease d s
  | .railThermalWarn k => Sys2Proof.Machine.execRailThermalWarn k s
  | .controllerDieThermal t => Sys2Proof.Machine.execControllerDieThermal t s
  | .registerWrite a addr mask data => Sys2Proof.Machine.execRegisterWrite a addr mask data s
  | .rcRead p addr => Sys2Proof.Machine.execRcRead p addr s
  | .multiwordLowRead a addr => Sys2Proof.Machine.execMultiwordLowRead a addr s
  | .bufCommit inst => Sys2Proof.Machine.execBufCommit inst s
  | .commitDiscard a inst => Sys2Proof.Machine.execCommitDiscard a inst s
  | .commitHold a inst hold => Sys2Proof.Machine.execCommitHold a inst hold s
  | .status f => Sys2Proof.Machine.execStatus f s
  | .regRd op low crc clocked => Sys2Proof.Machine.execRegRd op low crc clocked s
  | .regWr op low data crc full => Sys2Proof.Machine.execRegWr op low data crc full s
  | .memRd op low crc clocked => Sys2Proof.Machine.execMemRd op low crc clocked s
  | .memWr op low data crc full => Sys2Proof.Machine.execMemWr op low data crc full s
  | .doorbell head crc full => Sys2Proof.Machine.execDoorbell head crc full s
  | .vioLoss => Sys2Proof.Machine.execVioLoss s
  | .vioReturn lda => Sys2Proof.Machine.execVioReturn lda s
  | .hostHbWrite mask data => Sys2Proof.Machine.execHostHbWrite mask data s
  | .heartbeatDeadline => Sys2Proof.Machine.execHeartbeatDeadline s
  | .mbxCmdProdWrite mask data => Sys2Proof.Machine.execMbxCmdProdWrite mask data s
  | .mbxRespConsWrite mask data => Sys2Proof.Machine.execMbxRespConsWrite mask data s
  | .commandTake p => Sys2Proof.Machine.execCommandTake p s
  | .read p tag => Sys2Proof.Machine.execRead p tag s
  | .write p tag => Sys2Proof.Machine.execWrite p tag s
  | .enable p tag => Sys2Proof.Machine.execEnable p tag s
  | .disable p tag => Sys2Proof.Machine.execDisable p tag s
  | .sysInfo p tag => Sys2Proof.Machine.execSysInfo p tag s
  | .sysHeartbeat p tag => Sys2Proof.Machine.execSysHeartbeat p tag s
  | .sysRun p tag => Sys2Proof.Machine.execSysRun p tag s
  | .sysStop p tag => Sys2Proof.Machine.execSysStop p tag s
  | .sysSleep p tag => Sys2Proof.Machine.execSysSleep p tag s
  | .sysShip p tag => Sys2Proof.Machine.execSysShip p tag s
  | .sysReset p tag => Sys2Proof.Machine.execSysReset p tag s
  | .sysResume p tag => Sys2Proof.Machine.execSysResume p tag s
  | .sysLease p tag => Sys2Proof.Machine.execSysLease p tag s
  | .sysSave p tag => Sys2Proof.Machine.execSysSave p tag s
  | .fltAck p tag => Sys2Proof.Machine.execFltAck p tag s
  | .fltClear p tag => Sys2Proof.Machine.execFltClear p tag s
  | .fltRelease p tag => Sys2Proof.Machine.execFltRelease p tag s
  | .fltUnlatch p tag => Sys2Proof.Machine.execFltUnlatch p tag s
  | .gaugeSave p tag => Sys2Proof.Machine.execGaugeSave p tag s
  | .gaugeProfile p tag => Sys2Proof.Machine.execGaugeProfile p tag s
  | .seqEvent p tag => Sys2Proof.Machine.execSeqEvent p tag s
  | .telSnapshot p tag => Sys2Proof.Machine.execTelSnapshot p tag s
  | .telSlotRead p tag => Sys2Proof.Machine.execTelSlotRead p tag s
  | .logMark p tag => Sys2Proof.Machine.execLogMark p tag s
  | .otpProgram p tag readBack => Sys2Proof.Machine.execOtpProgram p tag readBack s
  | .otpLock p tag ok => Sys2Proof.Machine.execOtpLock p tag ok s
  | .updBegin p tag keyOk => Sys2Proof.Machine.execUpdBegin p tag keyOk s
  | .updData p tag => Sys2Proof.Machine.execUpdData p tag s
  | .updEnd p tag sigOk => Sys2Proof.Machine.execUpdEnd p tag sigOk s
  | .updActivate p tag => Sys2Proof.Machine.execUpdActivate p tag s
  | .updAbort p tag => Sys2Proof.Machine.execUpdAbort p tag s
  | .ageVeto p tag => Sys2Proof.Machine.execAgeVeto p tag s
  | .ageApprove p tag => Sys2Proof.Machine.execAgeApprove p tag s
  | .agePlan p tag => Sys2Proof.Machine.execAgePlan p tag s
  | .herdEnumerate p tag onA onB lowA lowB lostA lostB => Sys2Proof.Machine.execHerdEnumerate p tag onA onB lowA lowB lostA lostB s
  | .herdForward p tag lost => Sys2Proof.Machine.execHerdForward p tag lost s
  | .herdList p tag => Sys2Proof.Machine.execHerdList p tag s
  | .directGrant p tag => Sys2Proof.Machine.execDirectGrant p tag s
  | .directEnd p tag => Sys2Proof.Machine.execDirectEnd p tag s
  | .forwardResponseReceived p tag entry payload pecOk => Sys2Proof.Machine.execForwardResponseReceived p tag entry payload pecOk s
  | .forwardTimeout p tag => Sys2Proof.Machine.execForwardTimeout p tag s
  | .fltAckWrite a mask data => Sys2Proof.Machine.execFltAckWrite a mask data s
  | .fltSrcClear a c w mask data => Sys2Proof.Machine.execFltSrcClear a c w mask data s
  | .fltPinDriveWrite a mask data => Sys2Proof.Machine.execFltPinDriveWrite a mask data s
  | .faultNPulseEnd => Sys2Proof.Machine.execFaultNPulseEnd s
  | .telSnapReqWrite a mask data => Sys2Proof.Machine.execTelSnapReqWrite a mask data s
  | .logMarkWrite a mask data => Sys2Proof.Machine.execLogMarkWrite a mask data s
  | .seqEventWrite a mask data => Sys2Proof.Machine.execSeqEventWrite a mask data s
  | .telStrEnWrite a mask data => Sys2Proof.Machine.execTelStrEnWrite a mask data s
  | .sbDsPopWrite a mask data => Sys2Proof.Machine.execSbDsPopWrite a mask data s
  | .chgCfgChemWrite a mask data => Sys2Proof.Machine.execChgCfgChemWrite a mask data s
  | .railEnSet a k => Sys2Proof.Machine.execRailEnSet a k s
  | .railEnClear a k => Sys2Proof.Machine.execRailEnClear a k s
  | .railSenseCheck k isOpen vpb => Sys2Proof.Machine.execRailSenseCheck k isOpen vpb s
  | .railSoftstartCheck k v => Sys2Proof.Machine.execRailSoftstartCheck k v s
  | .railHiccupRestart k => Sys2Proof.Machine.execRailHiccupRestart k s
  | .railRampComplete k => Sys2Proof.Machine.execRailRampComplete k s
  | .railSoftStopDone k => Sys2Proof.Machine.execRailSoftStopDone k s
  | .railSetpointMoveEnd k => Sys2Proof.Machine.execRailSetpointMoveEnd k s
  | .loopDerivation k => Sys2Proof.Machine.execLoopDerivation k s
  | .railCoeffTimeout k => Sys2Proof.Machine.execRailCoeffTimeout k s
  | .feDerivation => Sys2Proof.Machine.execFeDerivation s
  | .scanRoundEnd r => Sys2Proof.Machine.execScanRoundEnd r s
  | .phaseRampOutDone p => Sys2Proof.Machine.execPhaseRampOutDone p s
  | .loadStepFire e => Sys2Proof.Machine.execLoadStepFire e s
  | .shedInhibitEnd k => Sys2Proof.Machine.execShedInhibitEnd k s
  | .ldaAssert l => Sys2Proof.Machine.execLdaAssert l s
  | .ldaDeassert l => Sys2Proof.Machine.execLdaDeassert l s
  | .announceOffsetReturn k => Sys2Proof.Machine.execAnnounceOffsetReturn k s
  | .announceEnd k => Sys2Proof.Machine.execAnnounceEnd k s
  | .railIlimSustained e => Sys2Proof.Machine.execRailIlimSustained e s
  | .railClampEnd k => Sys2Proof.Machine.execRailClampEnd k s
  | .railUnlock k => Sys2Proof.Machine.execRailUnlock k s
  | .isoEnSet a n => Sys2Proof.Machine.execIsoEnSet a n s
  | .isoEnClear a n => Sys2Proof.Machine.execIsoEnClear a n s
  | .isoQueueStart => Sys2Proof.Machine.execIsoQueueStart s
  | .isoSoftstartDone n => Sys2Proof.Machine.execIsoSoftstartDone n s
  | .isopwrUndervoltage => Sys2Proof.Machine.execIsopwrUndervoltage s
  | .isopwrRestored => Sys2Proof.Machine.execIsopwrRestored s
  | .isoSecondaryShort n => Sys2Proof.Machine.execIsoSecondaryShort n s
  | .isoOverload n => Sys2Proof.Machine.execIsoOverload n s
  | .isoOpenWinding n sideB => Sys2Proof.Machine.execIsoOpenWinding n sideB s
  | .isoUnlock n => Sys2Proof.Machine.execIsoUnlock n s
  | .ldoEnSet a n => Sys2Proof.Machine.execLdoEnSet a n s
  | .ldoEnClear a n => Sys2Proof.Machine.execLdoEnClear a n s
  | .ldoVsetWrite a n mask data => Sys2Proof.Machine.execLdoVsetWrite a n mask data s
  | .ldoRampDone n => Sys2Proof.Machine.execLdoRampDone n s
  | .ldoCurrentLimit n => Sys2Proof.Machine.execLdoCurrentLimit n s
  | .ldoUnlock n => Sys2Proof.Machine.execLdoUnlock n s
  | .warningJudged monitor j above => Sys2Proof.Machine.execWarningJudged monitor j above s
  | .comparatorTrip c above x => Sys2Proof.Machine.execComparatorTrip c above x s
  | .converterFaultJudged monitor j above => Sys2Proof.Machine.execConverterFaultJudged monitor j above s
  | .pgStable c => Sys2Proof.Machine.execPgStable c s
  | .pgFall c => Sys2Proof.Machine.execPgFall c s
  | .enRunFilter level => Sys2Proof.Machine.execEnRunFilter level s
  | .seqStepDone => Sys2Proof.Machine.execSeqStepDone s
  | .seqStepTimeout => Sys2Proof.Machine.execSeqStepTimeout s
  | .seqRetryReenable => Sys2Proof.Machine.execSeqRetryReenable s
  | .seqTableComplete => Sys2Proof.Machine.execSeqTableComplete s
  | .vbusQualified => Sys2Proof.Machine.execVbusQualified s
  | .iswOpeningCause c => Sys2Proof.Machine.execIswOpeningCause c s
  | .vbusLoss c => Sys2Proof.Machine.execVbusLoss c s
  | .handoverComplete inReg us => Sys2Proof.Machine.execHandoverComplete inReg us s
  | .dwellEnd => Sys2Proof.Machine.execDwellEnd s
  | .returnMatch => Sys2Proof.Machine.execReturnMatch s
  | .returnMatchTimeout => Sys2Proof.Machine.execReturnMatchTimeout s
  | .iswCloseComplete => Sys2Proof.Machine.execIswCloseComplete s
  | .iswCloseTimeout => Sys2Proof.Machine.execIswCloseTimeout s
  | .holdupExhausted => Sys2Proof.Machine.execHoldupExhausted s
  | .deepDischargeCutoff => Sys2Proof.Machine.execDeepDischargeCutoff s
  | .cutoffBatfetOff => Sys2Proof.Machine.execCutoffBatfetOff s
  | .iswEnClear a => Sys2Proof.Machine.execIswEnClear a s
  | .feFwdEnSet a => Sys2Proof.Machine.execFeFwdEnSet a s
  | .feFwdEnClear a => Sys2Proof.Machine.execFeFwdEnClear a s
  | .feStartRampDone => Sys2Proof.Machine.execFeStartRampDone s
  | .feStopRampDone => Sys2Proof.Machine.execFeStopRampDone s
  | .feChangeDone => Sys2Proof.Machine.execFeChangeDone s
  | .feRegionChange vin => Sys2Proof.Machine.execFeRegionChange vin s
  | .feVsysOv => Sys2Proof.Machine.execFeVsysOv s
  | .feVhbOv third => Sys2Proof.Machine.execFeVhbOv third s
  | .feVhbOvRelease => Sys2Proof.Machine.execFeVhbOvRelease s
  | .feVdrvUv => Sys2Proof.Machine.execFeVdrvUv s
  | .feBootstrapUv p fourth => Sys2Proof.Machine.execFeBootstrapUv p fourth s
  | .feOpenPhase p => Sys2Proof.Machine.execFeOpenPhase p s
  | .feIlimSustained e => Sys2Proof.Machine.execFeIlimSustained e s
  | .feStepInhibitEnd => Sys2Proof.Machine.execFeStepInhibitEnd s
  | .feRevHoldEnd => Sys2Proof.Machine.execFeRevHoldEnd s
  | .feUnlock => Sys2Proof.Machine.execFeUnlock s
  | .chgEnSet a => Sys2Proof.Machine.execChgEnSet a s
  | .chgEnClear a => Sys2Proof.Machine.execChgEnClear a s
  | .chgQualDone cell => Sys2Proof.Machine.execChgQualDone cell s
  | .chgPreToCc => Sys2Proof.Machine.execChgPreToCc s
  | .chgCcToCv => Sys2Proof.Machine.execChgCcToCv s
  | .chgCvToTopoff => Sys2Proof.Machine.execChgCvToTopoff s
  | .chgTopoffToDone => Sys2Proof.Machine.execChgTopoffToDone s
  | .chgRecharge byVoltage => Sys2Proof.Machine.execChgRecharge byVoltage s
  | .chgSuspend temp => Sys2Proof.Machine.execChgSuspend temp s
  | .chgSuspendEnd => Sys2Proof.Machine.execChgSuspendEnd s
  | .chgFault c => Sys2Proof.Machine.execChgFault c s
  | .chgSafetyTimerExpiry => Sys2Proof.Machine.execChgSafetyTimerExpiry s
  | .chgFaultRecover => Sys2Proof.Machine.execChgFaultRecover s
  | .balanceWindow bleed => Sys2Proof.Machine.execBalanceWindow bleed s
  | .batteryPresenceRise ntc1 => Sys2Proof.Machine.execBatteryPresenceRise ntc1 s
  | .insertionCheck bats => Sys2Proof.Machine.execInsertionCheck bats s
  | .insertionFirstEstimate cells cur => Sys2Proof.Machine.execInsertionFirstEstimate cells cur s
  | .batteryPresenceLoss => Sys2Proof.Machine.execBatteryPresenceLoss s
  | .batteryRemovalFast vsys => Sys2Proof.Machine.execBatteryRemovalFast vsys s
  | .chargeSample nV carry => Sys2Proof.Machine.execChargeSample nV carry s
  | .gaugeFilterCycle cut => Sys2Proof.Machine.execGaugeFilterCycle cut s
  | .restReached => Sys2Proof.Machine.execRestReached s
  | .fawnGaugeInterval nV carry => Sys2Proof.Machine.execFawnGaugeInterval nV carry s
  | .learnedRecordTimer => Sys2Proof.Machine.execLearnedRecordTimer s
  | .learnedRecordWriteDone => Sys2Proof.Machine.execLearnedRecordWriteDone s
  | .idleTimerExpiry => Sys2Proof.Machine.execIdleTimerExpiry s
  | .earlyRailDischargeTimeout d => Sys2Proof.Machine.execEarlyRailDischargeTimeout d s
  | .fawnEntryComplete => Sys2Proof.Machine.execFawnEntryComplete s
  | .wakeEvent w => Sys2Proof.Machine.execWakeEvent w s
  | .wakeTimerExpiry => Sys2Proof.Machine.execWakeTimerExpiry s
  | .shipLatchArm => Sys2Proof.Machine.execShipLatchArm s
  | .shipLatchRelease => Sys2Proof.Machine.execShipLatchRelease s
  | .snapshotCopyDone => Sys2Proof.Machine.execSnapshotCopyDone s
  | .streamRecord => Sys2Proof.Machine.execStreamRecord s
  | .sbRegWr h addr n words => Sys2Proof.Machine.execSbRegWr h addr n words s
  | .sbRegRd h addr n => Sys2Proof.Machine.execSbRegRd h addr n s
  | .sbMemRd h addr n => Sys2Proof.Machine.execSbMemRd h addr n s
  | .bufWr h off n bytes => Sys2Proof.Machine.execBufWr h off n bytes s
  | .bufRd h off n => Sys2Proof.Machine.execBufRd h off n s
  | .mbxPost h desc => Sys2Proof.Machine.execMbxPost h desc s
  | .mbxResp h => Sys2Proof.Machine.execMbxResp h s
  | .mbxStat h => Sys2Proof.Machine.execMbxStat h s
  | .dsRead h => Sys2Proof.Machine.execDsRead h s
  | .sbStatus h => Sys2Proof.Machine.execSbStatus h s
  | .alertResponse wins => Sys2Proof.Machine.execAlertResponse wins s
  | .release => Sys2Proof.Machine.execRelease s
  | .identify wins => Sys2Proof.Machine.execIdentify wins s
  | .assign uid index => Sys2Proof.Machine.execAssign uid index s
  | .sbBusTimeout write => Sys2Proof.Machine.execSbBusTimeout write s
  | .sbAbortAck write => Sys2Proof.Machine.execSbAbortAck write s
  | .bleat => Sys2Proof.Machine.execBleat s
  | .bleatRead wins => Sys2Proof.Machine.execBleatRead wins s
  | .bleatUnanswered => Sys2Proof.Machine.execBleatUnanswered s
  | .herdBusFault p freed => Sys2Proof.Machine.execHerdBusFault p freed s
  | .herdBusClearRetry p freed => Sys2Proof.Machine.execHerdBusClearRetry p freed s
  | .herdChildBleat p index reason => Sys2Proof.Machine.execHerdChildBleat p index reason s
  | .downstreamEntry route reason => Sys2Proof.Machine.execDownstreamEntry route reason s
  | .mailboxResume => Sys2Proof.Machine.execMailboxResume s
  | .activationConfirmed => Sys2Proof.Machine.execActivationConfirmed s
  | .rollbackMailboxTimeout => Sys2Proof.Machine.execRollbackMailboxTimeout s
  | .rollbackAliveTimeout => Sys2Proof.Machine.execRollbackAliveTimeout s
  | .trialBootTimeout => Sys2Proof.Machine.execTrialBootTimeout s
  | .updInactivityTimeout => Sys2Proof.Machine.execUpdInactivityTimeout s
  | .otpReread bad => Sys2Proof.Machine.execOtpReread bad s
  | .otpRereadRetry bad => Sys2Proof.Machine.execOtpRereadRetry bad s
  | .bootTineTest n => Sys2Proof.Machine.execBootTineTest n s
  | .runtimeTineTestStart n => Sys2Proof.Machine.execRuntimeTineTestStart n s
  | .tineTestDone n readings => Sys2Proof.Machine.execTineTestDone n readings s
  | .comparatorSelfTest c above copy pass => Sys2Proof.Machine.execComparatorSelfTest c above copy pass s
  | .planRun x => Sys2Proof.Machine.execPlanRun x s
  | .planItemApply item => Sys2Proof.Machine.execPlanItemApply item s
  | .wakeSourceAsserted w => Sys2Proof.Machine.execWakeSourceAsserted w s
  | .feStepInhibitStart byError => Sys2Proof.Machine.execFeStepInhibitStart byError s
  | .tineTestOverdue n => Sys2Proof.Machine.execTineTestOverdue n s
  | .secdedError m correctable => Sys2Proof.Machine.execSecdedError m correctable s

end Sys2Proof.Machine
end

