-- ==== Sys2Proof/Machine/Tick.lean ====
section
/-!
DEFINITION. What passes with time alone: device time, the hours of AGE_HOURS, calendar time and the fuse re-read's hour.
-/

namespace Sys2Proof.Machine

/-- Counts time toward AGE_HOURS while the device is in RUN or IBEX (R452), in 0.1 h. -/
def State.countRun (s : State) : State :=
  if s.stIn [stRUN, stIBEX] then
    if s.age.runUs + 1 < 360000000 then { s with age := { s.age with runUs := s.age.runUs + 1 } }
    else
      let h := s.getF (Reg.AGE_HOURS_hours 0) + 65536 * s.getF (Reg.AGE_HOURS_hours 1) + 1
      { s.setMany [(Reg.AGE_HOURS_hours 0, h), (Reg.AGE_HOURS_hours 1, h / 65536)] with age := { s.age with runUs := 0 } }
  else s

/-- Counts the hours since the last completed fuse re-read in the states whose hours count (R414). -/
def State.countReread (s : State) : State :=
  if s.stIn [stSTANDBY, stRUN, stIBEX, stSAFE] then
    if s.otp.us + 1 < 3600000000 then { s with otp := { s.otp with us := s.otp.us + 1 } }
    else (s.count Reg.OTP_RT_AGE_hours).updOtp fun o => { o with us := 0 }
  else s

/-- An instance that does not run commits what waits at the next SYS cycle, whatever stopped it (R76). -/
def State.commitStopped (s : State) : State := if s.romUp then allInstances.foldl State.commitIdle s else s

/-- One tick. In FAWN the AON domain counts the crystal or the RC at 32.768 kHz, so device time moves by 30 or 31 us in turn
(R13, R39); while VKEEP is invalid none runs. Calendar time counts device time of every VKEEP cycle (R452). -/
def State.tick (s : State) : State :=
  if !s.sys.vkeep then s
  else
    let d := if s.st = stFAWN then (if s.half then 31 else 30) else 1
    let s := (s.countRun).countReread.commitStopped
    { s with time := s.time + d, half := if s.st = stFAWN then !s.half else s.half, nv := { s.nv with calUs := s.nv.calUs + d } }

end Sys2Proof.Machine
end

