-- ==== Sys2Proof/Safety.lean ====
section
/-!
DEFINITION. The terms claims use: sound states of the machine, what a row leaves as it was, entries of the log, statuses and
answers of the mailboxes.
-/

namespace Sys2Proof.Machine

/-- Every sparse file and memory, and the staging file, has its canonical form, so equal contents are equal data. -/
abbrev State.canonical (s : State) : Prop :=
  Cells.wf s.fields = true ∧ Cells.wf s.otp.words = true ∧ Cells.wf s.otp.latch = true
    ∧ Memory.wf s.win = true ∧ Memory.wf s.sbBuf = true ∧ Memory.wf s.mram = true ∧ Staged.wf s.staged = true

/-- Nothing of an earlier row is left for the end of this one: no event waits to be classified, no activation is deferred, no
run-time tine test stands. -/
abbrev State.quiet (s : State) : Prop :=
  s.flt.evs = [] ∧ s.bit Reg.SYS_RUN_STAT_act_deferred = false ∧ s.age.live = []

/-- A canonical state at the start of a row. -/
abbrev State.ready (s : State) : Prop := s.canonical ∧ s.quiet

/-- The device runs its firmware: BOOT is over, both cores live, and no activation or rollback is in progress. -/
abbrev State.firmware (s : State) : Prop :=
  s.romUp = true ∧ s.st ≠ stBOOT ∧ s.st ≠ stRECOVERY ∧ s.sys.stage = .done ∧ s.sys.ctlAlive = true ∧ s.sys.gaugeAlive = true
    ∧ s.upd.act = none

/-! What a row leaves as it was. -/

/-- Every register field outside the list keeps its value. -/
def Kept (l : List Fld) (s t : State) : Prop := ∀ f : Fld, f.key ∉ l.map Fld.key → t.getF f = s.getF f

/-- MRAM, the side-band buffer, the fuses, the records MRAM keeps, device time and the queue are as they were. -/
def StoresKept (s t : State) : Prop :=
  (∀ a, memGet a t.mram = memGet a s.mram) ∧ (∀ a, memGet a t.sbBuf = memGet a s.sbBuf) ∧ t.otp.words = s.otp.words
    ∧ t.nv = s.nv ∧ t.time = s.time ∧ t.pending = s.pending

/-- The memory windows and the log are as they were. -/
def WinKept (s t : State) : Prop := (∀ a, memGet a t.win = memGet a s.win) ∧ t.logNext = s.logNext

/-- Nothing but the listed register fields, and state that is no register, memory or record. -/
def Frame (l : List Fld) (s t : State) : Prop := Kept l s t ∧ StoresKept s t ∧ WinKept s t

/-! Host frames (R321). -/

/-- The bits of a header below its op: the address above the count. -/
def lowOf (addr count : Nat) : BitVec 28 := BitVec.ofNat 28 (addr % 2 ^ 20 * 256 + count % 256)

/-- The header of a frame: its op in the top four bits. -/
def headerOf (op : BitVec 4) (addr count : Nat) : BitVec 32 := op ++ lowOf addr count

/-! Window channels (R256). -/

/-- A channel as the judged rows name it: whether it is a monitor, and which one. -/
def isMonitor (c : Fin 28) : Bool := decide (14 ≤ c.val)
def indexOf (c : Fin 28) : Fin 14 := Fin.ofNat 14 c.val

/-! The log (R304-R307). -/

/-- The address of the log slot of sequence number q. -/
def logSlot (q : Nat) : Nat := 0x60000 + 32 * (q % 2048)

/-- Kind and code of the entry in the slot of q. -/
def State.logKind (s : State) (q : Nat) : Nat := leNat (memRead (logSlot q + 0xC) 1 s.win)
def State.logCode (s : State) (q : Nat) : Nat := leNat (memRead (logSlot q + 0xE) 2 s.win)

/-- One log entry was appended, and every byte of the windows outside its slot is as it was. -/
def LoggedOne (kind code : Nat) (s t : State) : Prop :=
  t.logNext = s.logNext + 1 ∧ t.logKind s.logNext = kind ∧ t.logCode s.logNext = code
    ∧ ∀ a, a < logSlot s.logNext ∨ logSlot s.logNext + 32 ≤ a → memGet a t.win = memGet a s.win

/-- A row that appends one entry and changes the listed register fields. -/
def FrameLog (l : List Fld) (kind code : Nat) (s t : State) : Prop :=
  Kept l s t ∧ StoresKept s t ∧ LoggedOne kind code s t

/-- The log only grows: outside the slots of the entries appended, every byte of the windows is as it was. -/
def LogGrows (s t : State) : Prop :=
  s.logNext ≤ t.logNext
    ∧ ∀ a, (∀ q, s.logNext ≤ q → q < t.logNext → a < logSlot q ∨ logSlot q + 32 ≤ a) → memGet a t.win = memGet a s.win

/-- Every register field outside the list keeps its value, but for the registers of the listed 4 KB blocks. -/
def KeptBut (bs : List Nat) (l : List Fld) (s t : State) : Prop :=
  ∀ f : Fld, f.key / 65536 ∉ bs → f.key ∉ l.map Fld.key → t.getF f = s.getF f

/-- A row whose effects lie in whole blocks of registers, beside the listed fields and log entries. -/
def FrameWide (bs : List Nat) (l : List Fld) (s t : State) : Prop := KeptBut bs l s t ∧ StoresKept s t ∧ LogGrows s t

/-- What MRAM keeps in records and its areas is as it was. -/
def RecordsKept (s t : State) : Prop := t.mram = s.mram ∧ t.otp.words = s.otp.words ∧ t.nv = s.nv

/-- A row that writes one of the records that MRAM keeps: its areas, the fuses and the buffers are as they were. -/
def FrameRecord (bs : List Nat) (l : List Fld) (s t : State) : Prop :=
  KeptBut bs l s t ∧ t.mram = s.mram ∧ t.sbBuf = s.sbBuf ∧ t.otp.words = s.otp.words ∧ t.time = s.time ∧ t.pending = s.pending
    ∧ LogGrows s t

/-- The records of MRAM are as they were; of its failed words some may have been written anew, and none is added. -/
def NvKept (s t : State) : Prop := t.nv = { s.nv with bad := t.nv.bad } ∧ ∀ a ∈ t.nv.bad, a ∈ s.nv.bad

/-- A row that writes the learned record (R231, R232): MRAM outside the record's two banks is as it was. -/
def FrameSave (bs : List Nat) (l : List Fld) (s t : State) : Prop :=
  KeptBut bs l s t ∧ (∀ a, (a < mGAUGE ∨ mGAUGE + 0x1000 ≤ a) → memGet a t.mram = memGet a s.mram) ∧ t.sbBuf = s.sbBuf
    ∧ t.otp.words = s.otp.words ∧ NvKept s t ∧ t.time = s.time ∧ t.pending = s.pending ∧ LogGrows s t

/-- The commit word of an image area. -/
def commitAt (slot gauge : Bool) : Nat := areaBase slot gauge + areaSize gauge - 4

/-- Both commit words of a slot read 0, and every other byte of MRAM is as it was (R420). -/
def SlotCleared (slot : Bool) (s t : State) : Prop :=
  leNat (memRead (commitAt slot false) 4 t.mram) = 0 ∧ leNat (memRead (commitAt slot true) 4 t.mram) = 0
    ∧ ∀ a, (∀ g, a < commitAt slot g ∨ commitAt slot g + 4 ≤ a) → memGet a t.mram = memGet a s.mram

/-! Events (R280, R282, R287). -/

/-- No event of this class is unacknowledged, so an event of it keeps its own level (R287). -/
abbrev State.fresh (s : State) (cls : Nat) : Prop := bitOf (s.getF Reg.FLT_UNACK_unack) cls = false

/-- What an event of effective level `lvl` leaves: its status at that level or above, the interrupt, and from L2 up the
unacknowledged bit of its class. -/
def Noted (cls src lvl : Nat) (t : State) : Prop :=
  t.statusAt cls src lvl = true ∧ t.bit Reg.HOST_INT_STAT_flt = true ∧ (2 ≤ lvl → bitOf (t.getF Reg.FLT_UNACK_unack) cls = true)

/-- The code of the log entry of an event that keeps its own level (R307). -/
def evCode (cls src lvl : Nat) : Nat := lvl * 4096 + cls * 256 + src

/-- The fields that an event of effective level 1 may change beside those of its own row. -/
def noteFields : List Fld :=
  [Reg.HOST_INT_STAT_flt, Reg.FLT_FIRST_valid, Reg.FLT_FIRST_level, Reg.FLT_FIRST_class, Reg.FLT_FIRST_source, Reg.FLT_OVF_ovf,
   Reg.FLT_COUNT_count, Reg.FLT_FIRST_T_time 0, Reg.FLT_FIRST_T_time 1, Reg.FLT_FIRST_T_time 2, Reg.FLT_FIRST_T_time 3,
   Reg.SB_REQ_req, Reg.FLT_PIN_drive, Reg.FLT_PIN_pulse, Reg.FLT_PIN_pin]

/-- From L2 up the unacknowledged bit as well. -/
def judgedFields : List Fld := Reg.FLT_UNACK_unack :: noteFields

/-- The derated bit of a rail source (R283). -/
def derateOf (cls src : Nat) : List Fld :=
  if (cls = cRAILV ∨ cls = cRAILI ∨ cls = cTHERM) ∧ src < 8 then [Reg.RAIL_STAT_derated src] else []

/-- The fields an event of level 1 or 2 may change. -/
def lowFields (cls src : Nat) : List Fld := judgedFields ++ derateOf cls src

/-- What clearing the status of one source may change (R289, R290, R293, R171, R182). -/
def clearFields (cls src : Nat) : List Fld :=
  [Reg.FLT_UNACK_unack, Reg.FLT_FIRST_valid] ++ (detailBits cls src).map (·.1) ++ derateOf cls src
  ++ (if cls = cPATH then [Reg.PATH_STAT_bf_mode]
    else if cls = cFE then [Reg.FE_STAT_ph_out, Reg.FE_LOOP_STAT_stale 0, Reg.FE_LOOP_STAT_stale 1]
    else if cls = cSEQ then [Reg.SEQ_EARLY0_rail, Reg.SEQ_EARLY0_ldo] else [])

/-! The state fields of each block. -/

/-- What a change of device state changes (R85, R390). -/
def stateFields : List Fld := [Reg.SYS_STATE_state, Reg.SYS_STATE_prev_state, Reg.HOST_INT_STAT_state, Reg.SB_REQ_req]

/-- Which phases of rail k switch, how many, and in which regime (R129-R131). -/
def State.phaseFields (s : State) (k : Nat) : List Fld :=
  [Reg.RAIL_STAT_n_active k, Reg.RAIL_STAT_regime k, Reg.RAIL_DYN_ramp_out k]
  ++ (s.phasesOf k).flatMap fun n => [Reg.POL_PH_STAT_switching n, Reg.POL_PH_STAT_de n]

/-- What ends when rail k stops switching (R124, R134, R140, R265). -/
def State.railOffFields (s : State) (k : Nat) : List Fld :=
  [Reg.RAIL_STAT_state k, Reg.RAIL_STAT_pulse_skip k, Reg.RAIL_STAT_announce k, Reg.RAIL_DYN_ilim_active k,
   Reg.RAIL_DYN_inhibit k, Reg.RAIL_DYN_ann_offset k, Reg.RAIL_TGT_v_tgt k, Reg.MON_CH_STAT_pg k, Reg.MON_CH_STAT_chat k]
  ++ s.phaseFields k

/-- What ends when LDO n turns off (R253, R265). -/
def ldoFields (n : Nat) : List Fld :=
  [Reg.LDO_STAT_state n, Reg.LDO_STAT_dropout n, Reg.LDO_STAT_ilim n, Reg.MON_CH_STAT_pg (8 + n), Reg.MON_CH_STAT_chat (8 + n)]

def isoFields (n : Nat) : List Fld := [Reg.ISO_STAT_state n, Reg.ISO_STAT_ilim n]

/-- What a change of FE_STAT.state changes in the front end. -/
def feFields : List Fld :=
  [Reg.FE_STAT_state, Reg.FE_STAT_n_active, Reg.FE_STAT_loop, Reg.FE_STAT_de, Reg.FE_STAT_ilim_active, Reg.FE_STAT_ph_out,
   Reg.FE_LOOP_STAT_stale 0, Reg.FE_LOOP_STAT_stale 1]

/-- What a change of charger phase changes (R182, R196, R198, R202, R205). -/
def chgFields : List Fld :=
  [Reg.CHG_STAT_phase, Reg.CHG_STAT_phase_evt, Reg.CHG_STAT_done_evt, Reg.CHG_STAT_balancing, Reg.HOST_INT_STAT_chg,
   Reg.PATH_STAT_bf_mode, Reg.CHG_TGT_i_tgt, Reg.FE_VSYS_TGT_tgt, Reg.FE_STAT_loop]

/-- The counts that show the tines of each phase (R104, R446). -/
def countFields : List Fld :=
  (List.range 16).flatMap fun n =>
    [Reg.POL_PH_STAT_n_active n, Reg.AGE_PH_spares n, Reg.AGE_PH_retired n, Reg.POL_PH_STAT_in_service n]

/-- What a write in the blocks of rails and phases brings up to date (R106, R118). -/
def groupFields : List Fld :=
  ((List.range 16).flatMap fun n => [Reg.POL_PH_STAT_rail n, Reg.POL_PH_STAT_grouped n])
  ++ (List.range 8).flatMap fun k => [Reg.RAIL_STAT2_n_service k, Reg.RAIL_LOOP_STAT_stale k]

/-- An accessor reaches a register and may write it: the host in direct mode or where the register is marked host-writable, the
side-band under its lease (R72, R338, R342). -/
abbrev State.opens (s : State) (a : Accessor) (addr : Nat) : Prop := s.accUp a = true ∧ s.accessRefusal a addr [] = none

/-! BOOT (R85, R86, R93). -/

/-- The fields that the start of a BOOT writes itself. -/
def bootFields : List Fld :=
  [Reg.SYS_RUN_STAT_safe, Reg.SYS_RUN_STAT_ibex, Reg.SYS_RUN_STAT_activating, Reg.SYS_RUN_STAT_act_deferred,
   Reg.SYS_RUN_STAT_return_state, Reg.SYS_BOOT_STAT_early_up, Reg.SYS_BOOT_STAT_dead, Reg.SYS_BOOT_STAT_recovery,
   Reg.SYS_BOOT_STAT_wake_boot, Reg.PATH_STAT_isw_closed, Reg.PATH_STAT_mode]
  ++ (List.range 8).map Reg.MON_PG_CFG_pin ++ stateFields

/-- A BOOT of this kind has begun from s: its causes are set, every other field holds what R93 keeps or its Reset value, nothing is
staged, posted, taken or raised, and the non-volatile memories are as they were. -/
def BootBegun (k : BootKind) (causes : List Fld) (s t : State) : Prop :=
  t.st = stBOOT ∧ t.sys.stage = .fuses ∧ t.sys.kind = k ∧ t.sys.origin = s.time ∧ t.time = s.time ∧ t.sys.resetHeld = false
    ∧ (∀ f ∈ causes, t.bit f = true)
    ∧ (∀ f : Fld, f.key ∉ (causes ++ bootFields).map Fld.key → t.getF f = if keptAt k f.key then s.getF f else f.rst)
    ∧ t.staged = [] ∧ t.mbx.taken = [] ∧ t.mbx.sidePosts = [] ∧ t.flt.stats = [] ∧ t.flt.evs = [] ∧ RecordsKept s t
    ∧ t.pending = s.pending

/-- The latched wake sources (R97). -/
def wakeFields : List Fld :=
  [Reg.SYS_WAKE_SRC_wake, Reg.SYS_WAKE_SRC_en_run, Reg.SYS_WAKE_SRC_vbus, Reg.SYS_WAKE_SRC_timer, Reg.SYS_WAKE_SRC_gauge,
   Reg.SYS_WAKE_SRC_sideband, Reg.SYS_WAKE_SRC_isw_open]

/-- A wake boot has begun from s with this source latched (R86, R93, R97). -/
def WakeBegun (src : Fld) (s t : State) : Prop :=
  t.st = stBOOT ∧ t.sys.stage = .fuses ∧ t.sys.kind = .wake ∧ t.sys.origin = s.time ∧ t.time = s.time ∧ t.bit src = true
    ∧ (∀ f : Fld, f.key ∉ (wakeFields ++ bootFields).map Fld.key → t.getF f = if keptAt .wake f.key then s.getF f else f.rst)
    ∧ t.staged = s.staged.filter (fun p => inInst .tel p.1) ∧ t.mbx.taken = [] ∧ RecordsKept s t ∧ t.pending = s.pending

/-! Mailbox commands (R330, R332, R347). -/

/-- Command c has been taken from a port after the tick of its post, waits for nothing, and stands first in its order in a mailbox that executes; a pointed
response goes into its port's data area, as its take has checked (R332, R333, R387). -/
abbrev State.runnable (s : State) (p : Port) (tag : BitVec 6) (c : Taken) : Prop :=
  (s.mbx.taken.find? fun x => x.port == p && x.tag == tag.toNat) = some c ∧ c.wait = .none ∧ s.mbxRuns = true ∧ c.stamp < s.time
    ∧ s.heldBack c = false
    ∧ (c.rptr = true → p = .host → 0x41000 ≤ c.raddr ∧ c.raddr + c.rcap ≤ 0x44000)
    ∧ (c.rptr = true → p = .side → c.raddr + c.rcap ≤ 0x1000)

/-- Command c of this opcode and payload is next in its turn, in a state that accepts it (R347). -/
abbrev State.turn (s : State) (p : Port) (tag : BitVec 6) (c : Taken) (op : Nat) (payload : List Byte) : Prop :=
  s.runnable p tag c ∧ c.opcode = op ∧ c.payload = payload ∧ s.admits c = true

/-- The host's response slot that is filled next (R328, R330). -/
def State.respSlot (s : State) : Nat := 0x40800 + 32 * (s.getF Reg.MBX_RESP_PROD_prod % 64)

/-- The fields a response may change (R330, R345, R389). -/
def answerFields : List Fld := [Reg.MBX_RESP_PROD_prod, Reg.HOST_INT_STAT_mbx, Reg.SB_REQ_req]

/-- The command has left the mailbox with one response of this status and payload: in the host's response ring, or among the
side-band's responses; a pointed payload lies in the port's data area (R330, R389). -/
def Replied (c : Taken) (status : Nat) (payload : List Byte) (s t : State) : Prop :=
  (∀ x ∈ t.mbx.taken, ¬(x.port = c.port ∧ x.tag = c.tag)) ∧
  (c.port = .host →
    t.getF Reg.MBX_RESP_PROD_prod = (s.getF Reg.MBX_RESP_PROD_prod + 1) % 128 ∧ t.bit Reg.HOST_INT_STAT_mbx = true
      ∧ leNat (memRead s.respSlot 1 t.win) = c.tag % 256 ∧ leNat (memRead (s.respSlot + 2) 2 t.win) = c.opcode % 65536
      ∧ leNat (memRead (s.respSlot + 4) 1 t.win) = status
      ∧ leNat (memRead (s.respSlot + 8) 2 t.win) = payload.length % 65536
      ∧ memRead (if c.rptr then c.raddr else s.respSlot + 12) payload.length t.win = payload) ∧
  (c.port = .side →
    ∃ r : SideResp, t.mbx.sideResps = s.mbx.sideResps ++ [r] ∧ r.tag = c.tag ∧ leNat ((r.entry.drop 4).take 1) = status
      ∧ (if c.rptr then memRead c.raddr payload.length t.sbBuf else (r.entry.drop 12).take payload.length) = payload)

/-- A command that changes the listed fields, answers, and leaves every record, the side-band buffer outside its pointed
response, and the windows outside its response and the entries it logs as they were. -/
def ReplyFrame (l : List Fld) (c : Taken) (s t : State) : Prop :=
  Kept (l ++ answerFields) s t ∧ t.time = s.time ∧ t.pending = s.pending ∧ s.logNext ≤ t.logNext
    ∧ (∀ a, (a < s.respSlot ∨ s.respSlot + 32 ≤ a) → (c.rptr = true → a < c.raddr ∨ c.raddr + c.rcap ≤ a)
        → (∀ q, s.logNext ≤ q → q < t.logNext → a < logSlot q ∨ logSlot q + 32 ≤ a) → memGet a t.win = memGet a s.win)
    ∧ ∀ a, (c.rptr = true → a < c.raddr ∨ c.raddr + c.rcap ≤ a) → memGet a t.sbBuf = memGet a s.sbBuf

/-- A command completes OK with this payload, changing the listed fields and no record. -/
def RepliedOk (l : List Fld) (payload : List Byte) (c : Taken) (s t : State) : Prop :=
  Replied c sOK payload s t ∧ ReplyFrame l c s t ∧ RecordsKept s t

/-- A table is running from its first step (R268, R271). -/
def seqFields : List Fld :=
  [Reg.SEQ_STAT_table, Reg.SEQ_STAT_step, Reg.SEQ_STAT_phase, Reg.SEQ_EVENT_ev, Reg.SEQ_EARLY0_ldo, Reg.SEQ_EARLY0_rail]

/-- The row answers a next state, and the property holds of it. -/
def Completes (i : Instr) (s : State) (p : State → Prop) : Prop := ∃ t, exec i s = .next t ∧ p t

end Sys2Proof.Machine
end

