-- ==== Sys2Proof/Certificates/Slice0/Obligations.lean ====
section
/-!
DEFINITION. The statements for the provers: what the rules of spec/ say each row does, where it completes, and what it leaves as it
was.
-/

open Sys2Proof Sys2Proof.Machine

/-- For every command c, queue rest and state s, the step of s with c at the front of its queue is exec of c on s with the
queue's rest. The queue is the model's form of the row of commands, not a rule of the manual. -/
def Obligations.StepRunsFront : Prop :=
  ∀ (c : Instr) (rest : List Instr) (s : State), step { s with pending := c :: rest } = exec c { s with pending := rest }

/-- With no command waiting a step moves device time by 1 us, in FAWN by 30 and 31 us in turn, and not at all while VKEEP is
invalid; where no staged value waits, every register field beside the hour counters stays. A value staged in an ISO
channel that does not run becomes live with the tick. That an empty queue ticks, and that an instance which has stopped
commits at the next tick, are the model's choices (log entries 8 and 49). -/
def Obligations.EmptyQueueTick : Prop :=
  (∀ s : State, s.pending = [] → (allInstances.all fun i => !s.bit (pendingF i)) = true →
    ∃ t, step s = .next t ∧ t.pending = []
      ∧ t.time = s.time + (if s.sys.vkeep then (if s.st = stFAWN then (if s.half then 31 else 30) else 1) else 0)
      ∧ Kept [Reg.AGE_HOURS_hours 0, Reg.AGE_HOURS_hours 1, Reg.OTP_RT_AGE_hours] s t
      ∧ t.win = s.win ∧ t.logNext = s.logNext ∧ t.mram = s.mram ∧ t.sbBuf = s.sbBuf ∧ t.otp.words = s.otp.words)
  ∧ (∀ (n : Fin 12) (f : Fld) (v : Nat) (s : State), s.ready → s.pending = [] → s.romUp = true →
      (allInstances.all fun i => i == .iso n || !s.bit (pendingF i)) = true → s.bit (pendingF (.iso n)) = true →
      s.bit (holdF (.iso n)) = false → s.instRuns (.iso n) = false → s.staged = [(f, v)] → inInst (.iso n) f = true →
      f.key ≠ (pendingF (.iso n)).key → v < 2 ^ f.w →
    ∃ t, step s = .next t ∧ t.getF f = v ∧ t.bit (pendingF (.iso n)) = false ∧ t.staged = [])

/-- At reset the device is in BOOT, device time is 0, every register field holds its Reset value, nothing is staged, posted,
taken, raised or waiting, no memory window holds a byte other than 0, and the log is empty. The Reset values that the
manual leaves to the factory, fuses and MRAM, and what empty memory reads as, are the model's choices (log entries 2 and
4). -/
def Obligations.ResetValues : Prop :=
  State.reset.st = stBOOT ∧ State.reset.time = 0 ∧ State.reset.sys.vkeep = true ∧ State.reset.sys.stage = .fuses
    ∧ (∀ f : Fld, State.reset.getF f = f.rst) ∧ (∀ a, memGet a State.reset.win = 0) ∧ State.reset.logNext = 0
    ∧ State.reset.staged = [] ∧ State.reset.mbx.taken = [] ∧ State.reset.flt.stats = [] ∧ State.reset.flt.evs = []
    ∧ State.reset.pending = []

/-- A command whose operand lists have the lengths that the wire, a scan round, a descriptor or a fuse word gives them takes
a next state from every state; no other outcome is possible for it. A row whose condition does not hold changes nothing
(log entry 9). -/
def Obligations.WellFormedCompletes : Prop :=
  ∀ (c : Instr) (s : State), c.wellFormed = true → ∃ t, exec c s = .next t

/-- Every command whose operands nothing can send stops with the fault illFormed: a scan round without 128 channels, a clock
window without seven domains, a boot read or a re-read of a word that does not exist, a frame whose header names the op
of another row, a first estimate without four cells, a plan run, a tine reading or a remote entry of another shape. -/
def Obligations.IllFormedStops : Prop :=
  ∀ (c : Instr) (s : State), c.wellFormed = false → exec c s = .fault .illFormed

/-- From every state whose register file, fuse file, boot latch, memory windows, side-band buffer, MRAM and staging file are
in canonical form, a step that answers a next state leaves all seven so: every write of the machine goes through the
named operations. -/
def Obligations.CanonicalKept : Prop :=
  ∀ s t : State, s.canonical → step s = .next t → t.canonical

/-- From every state in which no event waits for classification, a step that answers a next state leaves none waiting, so no
event of one command is classified in another. -/
def Obligations.EventsTaken : Prop :=
  ∀ s t : State, s.flt.evs = [] → step s = .next t → t.flt.evs = []

/-- The state after reset is canonical and no event waits in it. -/
def Obligations.InvariantsAtReset : Prop :=
  State.reset.canonical ∧ State.reset.flt.evs = []

/-- VKEEP becoming valid starts a BOOT at device time 0 with every register field at its Reset value and an empty log.
VKEEP_LOW asserting and releasing set and clear the condition and append the kind 0x05 entry with code 1 and 0. VKEEP
lost leaves the device off with every field at its Reset value. MRAM, the fuses and the records in MRAM stay throughout. -/
def Obligations.SupplyRows : Prop :=
  (∀ s : State, s.sys.vkeep = false →
    Completes .vkeepValid s fun t => t.sys.vkeep = true ∧ t.time = 0 ∧ t.st = stBOOT ∧ t.sys.stage = .fuses ∧ t.sys.kind = .powerUp
      ∧ (∀ f : Fld, t.getF f = f.rst) ∧ t.win = [] ∧ t.logNext = 0 ∧ t.staged = [] ∧ RecordsKept s t ∧ t.pending = s.pending)
  ∧ (∀ (mv : Word) (s : State), s.ready → s.sys.vkeep = true → s.sys.vkeepLow = false → s.live = true → s.gauge.writing = none →
      s.tel.copies = [] →
    Completes (.vkeepLowAssert mv) s fun t => t.sys.vkeepLow = true ∧ FrameLog [] 5 1 s t)
  ∧ (∀ (mv : Word) (s : State), s.ready → s.sys.vkeep = true → s.sys.vkeepLow = true → s.live = true → s.tel.abandoned = [] → s.age.basesDue = [] → s.age.prop = none →
    Completes (.vkeepLowRelease mv) s fun t => t.sys.vkeepLow = false ∧ FrameLog [] 5 0 s t)
  ∧ (∀ s : State, s.sys.vkeep = true →
    Completes .vkeepLost s fun t => t.sys.vkeep = false ∧ (∀ f : Fld, t.getF f = f.rst) ∧ t.logNext = 0 ∧ RecordsKept s t
      ∧ t.pending = s.pending)

/-- Recognition of RESET_N turns every rail, LDO and ISO channel that is not locked off to OFF, opens ISW, turns BATFET off
and releases FAULT_N; in the fuse-integrity hold, whose FAULT_N stays low, it changes no register but FLT_PIN.drive and
pulse, which are cleared. A running table is aborted. Its release begins a reset boot that keeps what R93 keeps and sets
SYS_RESET_CAUSE.reset_n. -/
def Obligations.ResetPin : Prop :=
  (∀ s : State, s.sys.vkeep = true → s.sys.resetHeld = false → s.sys.fuseHold = false → Cells.wf s.fields = true →
    Completes .resetNRecognised s fun t => t.sys.resetHeld = true
      ∧ (∀ k < 8, t.railState k = rOFF ∨ t.railState k = rLOCKED) ∧ (∀ n < 6, t.ldoState n = lOFF ∨ t.ldoState n = lLOCKED)
      ∧ (∀ n < 12, t.isoState n = iOFF ∨ t.isoState n = iLOCKED) ∧ t.bit Reg.PATH_STAT_isw_closed = false
      ∧ t.getF Reg.PATH_STAT_bf_mode = 0 ∧ t.bit Reg.FLT_PIN_drive = false ∧ t.bit Reg.FLT_PIN_pin = false ∧ t.getF Reg.SEQ_STAT_table = 0
      ∧ FrameWide [0x10, 0x11, 0x14, 0x15, 0x16, 0x18, 0x19, 0x1A]
          ([Reg.FLT_PIN_drive, Reg.FLT_PIN_pulse, Reg.FLT_PIN_pin, Reg.HOST_INT_STAT_chg, Reg.SYS_RUN_STAT_ibex,
            Reg.SEQ_STAT_table, Reg.SEQ_STAT_phase, Reg.SEQ_STAT_step] ++ stateFields) s t)
  ∧ (∀ s : State, s.sys.vkeep = true → s.sys.resetHeld = false → s.sys.fuseHold = true → Cells.wf s.fields = true →
    Completes .resetNRecognised s fun t => t.sys.resetHeld = true ∧ t.sys.fuseHold = true ∧ t.bit Reg.FLT_PIN_drive = false
      ∧ t.bit Reg.FLT_PIN_pulse = false ∧ Frame [Reg.FLT_PIN_drive, Reg.FLT_PIN_pulse] s t)
  ∧ (∀ s : State, Cells.wf s.fields = true → s.sys.vkeep = true → s.sys.resetHeld = true →
    Completes .resetNRelease s fun t => BootBegun .reset [Reg.SYS_RESET_CAUSE_reset_n] s t)

/-- A strap voltage less than 60 mV from 120 mV x i gives the side-band index i. A boot read whose critical words disagree
enters the fuse-integrity hold: the first such word in OTP_HOLD, FAULT_N low, outputs off. A clean read latches the
EARLY and SAFETY words, marks no region invalid, decides the herd ports and goes on to the active slot's verification. -/
def Obligations.BootReads : Prop :=
  (∀ (i mv : Nat) (s : State), i < 16 → 120 * i < mv + 60 → mv < 120 * i + 60 → Cells.wf s.fields = true → s.sys.vkeep = true →
      s.sys.strap = none →
    Completes (.addrStrapRead mv) s fun t => t.sys.strap = some i ∧ t.getF Reg.SB_ADDR_index = i ∧ t.getF Reg.SB_ADDR_src = 0
      ∧ Frame [Reg.SB_ADDR_index, Reg.SB_ADDR_src] s t)
  ∧ (∀ (r : FuseRead) (s : State) (k : Nat), r.wf = true → Cells.wf s.fields = true → s.live = true → s.sys.stage = .fuses → s.st = stBOOT →
      (badKeys r.bad 2 ++ badKeys r.bad 3).head? = some k →
    Completes (.fuseReadComplete r) s fun t => t.sys.fuseHold = true ∧ t.sys.stage = .fuses ∧ t.bit Reg.OTP_HOLD_valid = true
      ∧ t.getF Reg.OTP_HOLD_region = k / 256 - 2 ∧ t.getF Reg.OTP_HOLD_word = k % 256 ∧ t.bit Reg.FLT_PIN_pin = true
      ∧ (∀ k < 8, t.railState k = rOFF ∨ t.railState k = rLOCKED) ∧ t.bit Reg.PATH_STAT_isw_closed = false
      ∧ FrameWide [0x10, 0x11, 0x14, 0x15, 0x16, 0x18, 0x19, 0x1A]
          ([Reg.OTP_HOLD_valid, Reg.OTP_HOLD_region, Reg.OTP_HOLD_word, Reg.FLT_PIN_pin, Reg.HOST_INT_STAT_chg, Reg.SYS_RUN_STAT_ibex]
            ++ stateFields) s t)
  ∧ (∀ (r : FuseRead) (s : State), r.bad = [] → r.sram = [] → s.ready → s.live = true → s.sys.stage = .fuses → s.st = stBOOT →
      s.selector.trial = false → s.sys.heldBefore = false → s.path.opening = [] →
      (s.bit Reg.CLK_STAT_xtal_seen && !s.clk.xtalRuns) = false →
    Completes (.fuseReadComplete r) s fun t => t.sys.stage = .verify s.selector.active false ∧ t.sys.fuseHold = false
      ∧ t.otp.latch = s.otp.words.filter (fun p => p.1 / 256 = 2 || p.1 / 256 = 3) ∧ t.getF Reg.OTP_STAT_inval = 0
      ∧ t.getF Reg.OTP_CORR_count = min 255 r.corrected
      ∧ t.sys.herd = some (s.sys.herd.getD (!r.herdALow, !r.herdBLow))
      ∧ FrameWide [8, 9, 0x10, 0x11] [Reg.FLT_PIN_pin, Reg.SB_HERD_STAT_pres_a, Reg.SB_HERD_STAT_pres_b, Reg.PATH_STAT_bf_mode] s t)

/-- A valid early LDO definition whose predecessors are power-good loads its registers, sets the LDO's enable and starts its
ramp. One that is not power-good in time has its enable cleared, stops the early sequencer and raises SEQ at L1 with its
number. -/
def Obligations.EarlyOutputs : Prop :=
  (∀ (d : Fin 4) (s : State), s.ready → s.romUp = true → s.sys.stage ≠ .dead → s.sys.earlyStopped = false → s.earlyValid d = true →
      s.sys.earlyUp.contains d.val = false → s.sys.sleep = none → (s.st = stRECOVERY → s.earlyRec d = true) →
      s.earlyDefs.all (fun e => decide (d.val ≤ e) || s.sys.earlyGood.contains e) = true →
      s.earlyKind d = 1 → s.earlyIdx d < 6 → s.earlyPgEn d = false → s.bit (Reg.LDO_CTRL_en (s.earlyIdx d)) = false →
      s.latched = false → s.ldoState (s.earlyIdx d) = lOFF →
    Completes (.earlyOutputStart d) s fun t => t.sys.earlyUp = s.sys.earlyUp ++ [d.val] ∧ t.bit (Reg.LDO_CTRL_en (s.earlyIdx d)) = true
      ∧ t.ldoState (s.earlyIdx d) = lRAMP ∧ t.getF (Reg.LDO_VSET_vset (s.earlyIdx d)) = s.earlyWord d 2 % 2 ^ (Reg.LDO_VSET_vset 0).w
      ∧ Frame [Reg.LDO_CTRL_ss (s.earlyIdx d), Reg.LDO_VSET_vset (s.earlyIdx d), Reg.LDO_CTRL_en (s.earlyIdx d),
          Reg.LDO_STAT_state (s.earlyIdx d)] s t)
  ∧ (∀ (d : Fin 4) (s : State), s.ready → s.romUp = true → s.sys.earlyUp.contains d.val = true → s.sys.earlyGood.contains d.val = false →
      s.sys.earlyStopped = false → s.earlyKind d = 1 → s.earlyIdx d < 6 → s.ldoState (s.earlyIdx d) = lRAMP → s.fresh cSEQ →
    Completes (.earlyOutputTimeout d) s fun t => t.sys.earlyStopped = true ∧ t.bit (Reg.LDO_CTRL_en (s.earlyIdx d)) = false
      ∧ t.ldoState (s.earlyIdx d) = lOFF ∧ Noted cSEQ d 1 t
      ∧ FrameLog ([Reg.LDO_CTRL_en (s.earlyIdx d)] ++ ldoFields (s.earlyIdx d) ++ noteFields) 1 (evCode cSEQ d 1) s t)

/-- A verified slot's cores start. A slot that fails, by its verification or by its cores not being alive in time, hands
over to the other slot; the second failure leads to RECOVERY where recovery is enabled and no early output started, with
the mailbox ready, no ISO channel on and FAULT_N following FLT_PIN again. Both cores up from a slot reach STANDBY and
arm the first heartbeat deadline. -/
def Obligations.BootSlots : Prop :=
  (∀ (slot second : Bool) (s : State), s.ready → s.live = true → s.sys.stage = .verify slot second → s.slotOk slot = true →
    Completes (.imageVerified true) s fun t => t.sys.stage = .cores slot second ∧ t.bit Reg.SYS_BOOT_STAT_slot = slot
      ∧ (second = true → t.bit Reg.SYS_BOOT_STAT_fallback = true)
      ∧ Frame [Reg.SYS_BOOT_STAT_slot, Reg.SYS_BOOT_STAT_fallback] s t)
  ∧ (∀ (slot : Bool) (s : State), s.ready → s.live = true → s.sys.stage = .verify slot false →
    Completes (.imageVerified false) s fun t => t.sys.stage = .verify (!slot) true ∧ Frame [] s t)
  ∧ (∀ (slot : Bool) (s : State), s.ready → s.live = true → s.sys.stage = .cores slot false →
    Completes .bootCoreTimeout s fun t => t.sys.stage = .verify (!slot) true ∧ Frame [] s t)
  ∧ (∀ (slot : Bool) (s : State), s.ready → s.live = true → s.sys.stage = .cores slot true → s.st = stBOOT →
      bitOf (s.safety 0x21) 9 = false → s.sys.earlyUp = [] → s.upd.running = none →
    Completes .bootCoreTimeout s fun t => t.st = stRECOVERY ∧ t.bit Reg.SYS_BOOT_STAT_recovery = true ∧ t.bit Reg.MBX_STAT_ready = true
      ∧ ((List.range 12).all fun n => t.isoState n == iOFF || t.isoState n == iLOCKED) = true
      ∧ t.bit Reg.FLT_PIN_pin = (s.bit Reg.FLT_PIN_drive || s.bit Reg.FLT_PIN_pulse)
      ∧ FrameLog ([Reg.SYS_BOOT_STAT_recovery, Reg.FLT_PIN_pin, Reg.SYS_BOOT_TIME_time, Reg.MBX_STAT_ready, Reg.SYS_IFVER_ctl_if,
          Reg.SYS_IFVER_gauge_if] ++ ((List.range 12).flatMap fun n => Reg.ISO_CTRL_en n :: isoFields n) ++ stateFields) 2 (16 * stBOOT + stRECOVERY) s t)
  ∧ (∀ (slot second : Bool) (s : State), s.ready → s.live = true → s.sys.stage = .cores slot second → s.st = stBOOT → s.sys.kind ≠ .wake →
      s.bit Reg.SYS_RUN_STAT_safe = false → s.bit Reg.SYS_RUN_STAT_ibex = false → s.bit Reg.SYS_RUN_STAT_activating = false →
      s.nv.store = [] → s.staged = [] → (allInstances.all fun i => !s.bit (pendingF i)) = true → s.bit Reg.PATH_STAT_batt_present = false → s.bit Reg.CHG_CTRL_en = false →
      s.bit Reg.PATH_STAT_isw_closed = false → s.bit Reg.PATH_STAT_vbus_qual = false → s.sys.pinReq = false →
      s.bit Reg.SYS_RUN_STAT_cmd_run = false → s.bit Reg.SYS_RUN_STAT_run_req = false →
    Completes .bootComplete s fun t => t.st = stSTANDBY ∧ t.sys.ctlAlive = true ∧ t.sys.gaugeAlive = true ∧ t.sys.stage = .done
      ∧ t.bit Reg.MBX_STAT_ready = true ∧ t.upd.running = some slot
      ∧ t.sys.hbDue = some (s.time + 1000 * (s.getF Reg.HOST_HB_CFG_t_hb + 1000))
      ∧ FrameWide [0x14, 0x17] ([Reg.SYS_IFVER_ctl_if, Reg.SYS_IFVER_gauge_if, Reg.SYS_BOOT_TIME_time, Reg.MBX_STAT_ready,
          Reg.PATH_STAT_bf_mode, Reg.HOST_INT_STAT_gauge, Reg.CHG_TGT_i_tgt] ++ stateFields ++ noteFields ++ countFields ++ groupFields) s t)

/-- A watchdog that runs out declares its core lost and raises CORE at L1: the mailbox goes unready with the control core,
the gauge outputs go stale with the gauge core, and the grace time runs. A core that was started and reports alive ends
its loss. A grace time that ends under the KEEP policy raises CORE at L2. No activation is in progress. -/
def Obligations.LostCores : Prop :=
  (∀ s : State, s.ready → s.firmware → s.bit Reg.SYS_STATE_ctl_lost = false → s.present cCORE 0 0 = false →
    Completes (.watchdogExpiry .control) s fun t => t.bit Reg.SYS_STATE_ctl_lost = true ∧ t.bit Reg.MBX_STAT_ready = false
      ∧ t.sys.ctlAlive = false ∧ t.sys.ctlGrace = true ∧ Noted cCORE 0 1 t
      ∧ FrameLog ([Reg.SYS_STATE_ctl_lost, Reg.MBX_STAT_ready] ++ noteFields) 1 (evCode cCORE 0 1) s t)
  ∧ (∀ s : State, s.ready → s.firmware → s.bit Reg.SYS_STATE_gauge_lost = false → s.present cCORE 1 0 = false →
    Completes (.watchdogExpiry .gauge) s fun t => t.bit Reg.SYS_STATE_gauge_lost = true ∧ t.bit Reg.GAUGE_FLAGS_stale = true
      ∧ t.sys.gaugeAlive = false ∧ t.sys.gaugeGrace = true ∧ Noted cCORE 1 1 t
      ∧ FrameLog ([Reg.SYS_STATE_gauge_lost, Reg.GAUGE_FLAGS_stale, Reg.HOST_INT_STAT_gauge] ++ noteFields) 1 (evCode cCORE 1 1) s t)
  ∧ (∀ s : State, s.ready → s.romUp = true → s.sys.stage = .done → s.st ≠ stRECOVERY → s.starting .control = true → s.bit Reg.SYS_STATE_ctl_lost = true →
      s.mbx.taken = [] → s.upd.act = none →
    Completes (.coreAlive .control) s fun t => t.sys.ctlAlive = true ∧ t.sys.ctlGrace = false ∧ t.bit Reg.SYS_STATE_ctl_lost = false
      ∧ t.bit Reg.MBX_STAT_ready = true ∧ Frame [Reg.SYS_STATE_ctl_lost, Reg.MBX_STAT_ready] s t)
  ∧ (∀ s : State, s.ready → s.romUp = true → s.sys.stage = .done → s.st ≠ stRECOVERY → s.starting .gauge = true → s.bit Reg.SYS_STATE_gauge_lost = true →
      s.upd.act = none → s.bit Reg.PATH_STAT_batt_present = false → s.fresh cGAUGE →
    Completes (.coreAlive .gauge) s fun t => t.sys.gaugeAlive = true ∧ t.sys.gaugeGrace = false ∧ t.bit Reg.SYS_STATE_gauge_lost = false
      ∧ t.bit Reg.GAUGE_FLAGS_stale = false ∧ t.bit Reg.GAUGE_FLAGS_absent = true
      ∧ FrameWide [0x17] ([Reg.SYS_STATE_gauge_lost, Reg.HOST_INT_STAT_gauge] ++ judgedFields) s t)
  ∧ (∀ s : State, s.ready → s.firmware → s.sys.ctlGrace = true → s.bit Reg.SYS_STATE_ctl_lost = true → bitOf (s.safety 0x21) 0 = false →
      s.fresh cCORE → s.present cCORE 0 1 = false →
    Completes (.coreGraceExpiry .control) s fun t => t.sys.ctlGrace = false ∧ Noted cCORE 0 2 t
      ∧ FrameLog judgedFields 1 (evCode cCORE 0 2) s t)
  ∧ (∀ s : State, s.ready → s.firmware → s.sys.gaugeGrace = true → s.bit Reg.SYS_STATE_gauge_lost = true → bitOf (s.safety 0x21) 0 = false →
      s.fresh cCORE → s.present cCORE 1 1 = false →
    Completes (.coreGraceExpiry .gauge) s fun t => t.sys.gaugeGrace = false ∧ Noted cCORE 1 2 t
      ∧ FrameLog judgedFields 1 (evCode cCORE 1 2) s t)

/-- The mailbox of a new image ends the pause. An activation whose restarted cores all report alive clears the selector's
trial bit, returns the update state to idle with outcome 1 and leaves ACTIVATE for STANDBY. One whose mailbox does not
resume, or whose cores do not report, pauses again, sets the selector back to the previous slot and clears the rejected
slot's commit words; so does a trial boot in which a core is not alive in time. -/
def Obligations.ActivationRows : Prop :=
  (∀ (a : Act) (s : State), s.ready → s.live = true → s.upd.act = some a → a.back = none → a.resumed = false →
      s.runLevel = s.bit Reg.SYS_RUN_STAT_run_req →
    Completes .mailboxResume s fun t => t.bit Reg.MBX_STAT_paused = false ∧ t.upd.act = some { a with resumed := true }
      ∧ Frame [Reg.MBX_STAT_paused] s t)
  ∧ (∀ (a : Act) (s : State), s.ready → s.upd.act = some a → a.back = none → a.resumed = true → a.ctlUp = true → a.gaugeUp = true →
      s.sys.vkeepLow = false → s.st = stACTIVATE → s.sys.run = false → s.bit Reg.SYS_RUN_STAT_ibex = false →
      s.bit Reg.SYS_RUN_STAT_safe = false →
    Completes .activationConfirmed s fun t => t.upd.act = none ∧ t.nv.sel = some ⟨s.selector.active, false, false⟩ ∧ t.st = stSTANDBY
      ∧ t.getF Reg.UPD_STAT_state = 0 ∧ t.getF Reg.UPD_RESULT_outcome = 1 ∧ t.bit Reg.HOST_INT_STAT_upd = true
      ∧ FrameRecord [] ([Reg.SYS_RUN_STAT_activating, Reg.UPD_RESULT_outcome, Reg.UPD_STAT_state, Reg.UPD_STAT_verified, Reg.UPD_STAT_deferred,
          Reg.SYS_RUN_STAT_act_deferred, Reg.HOST_INT_STAT_upd, Reg.SYS_IFVER_ctl_if, Reg.SYS_IFVER_gauge_if] ++ stateFields) s t)
  ∧ (∀ (a : Act) (s : State), s.ready → s.upd.act = some a → a.back = none → a.resumed = false → s.sys.vkeepLow = false → s.mbx.taken = [] →
    Completes .rollbackMailboxTimeout s fun t => t.bit Reg.MBX_STAT_paused = true ∧ t.nv.sel = some ⟨a.prev, false, false⟩
      ∧ t.upd.running = some a.prev ∧ t.upd.act.bind (fun x => x.back) = some 2 ∧ SlotCleared a.target s t
      ∧ Kept [Reg.MBX_STAT_paused, Reg.GAUGE_FLAGS_stale, Reg.HOST_INT_STAT_gauge, Reg.SB_REQ_req] s t ∧ WinKept s t ∧ t.pending = s.pending)
  ∧ (∀ (a : Act) (s : State), s.ready → s.upd.act = some a → a.back = none → (a.ctlUp && a.gaugeUp) = false → s.sys.vkeepLow = false → s.mbx.taken = [] →
    Completes .rollbackAliveTimeout s fun t => t.bit Reg.MBX_STAT_paused = true ∧ t.nv.sel = some ⟨a.prev, false, false⟩
      ∧ t.upd.running = some a.prev ∧ t.upd.act.bind (fun x => x.back) = some 3 ∧ SlotCleared a.target s t
      ∧ Kept [Reg.MBX_STAT_paused, Reg.GAUGE_FLAGS_stale, Reg.HOST_INT_STAT_gauge, Reg.SB_REQ_req] s t ∧ WinKept s t ∧ t.pending = s.pending)
  ∧ (∀ s : State, s.ready → s.upd.trial = true → s.upd.act = none → s.romUp = true → (s.sys.ctlAlive && s.sys.gaugeAlive) = false →
      s.sys.vkeepLow = false → s.mbx.taken = [] →
    Completes .trialBootTimeout s fun t => t.bit Reg.MBX_STAT_paused = true ∧ t.nv.sel = some ⟨!s.selector.active, false, false⟩
      ∧ t.upd.running = some (!s.selector.active) ∧ t.upd.trial = false ∧ SlotCleared s.selector.active s t
      ∧ Kept [Reg.MBX_STAT_paused, Reg.GAUGE_FLAGS_stale, Reg.HOST_INT_STAT_gauge, Reg.SB_REQ_req] s t ∧ WinKept s t ∧ t.pending = s.pending)

/-- A measurement window with every domain that runs within 4% and locked records the deviations and locks and raises
nothing, and what a stopped domain measures does not matter; a GAUGE domain beyond 4% sets its CLK_FAULT bit and raises
CLK at L1 with source 1. A crystal that starts in time takes over AON; one that stops hands it back to the RC and raises
CLK at L1 with source 7. -/
def Obligations.Clocks : Prop :=
  (∀ (m : ClkWindow) (s : State), s.ready → m.wf = true → s.romUp = true →
      (∀ i < 7, s.clockRuns i = false ∨ (-4000 ≤ m.dev.getD i 0 ∧ m.dev.getD i 0 ≤ 4000 ∧ m.lock.getD i true = true)) →
    Completes (.clkMonitorWindow m) s fun t =>
      t.clk.dev = (List.range 7).map (fun i => if s.clockRuns i then some (m.dev.getD i 0) else none)
      ∧ t.bit Reg.CLK_STAT_sys_lock = m.lock.getD 0 true ∧ t.bit Reg.CLK_STAT_gauge_lock = m.lock.getD 1 true
      ∧ t.bit Reg.CLK_STAT_fe_lock = (s.clockRuns 4 && m.lock.getD 4 true)
      ∧ Frame [Reg.CLK_STAT_sys_lock, Reg.CLK_STAT_gauge_lock, Reg.CLK_STAT_pwm0_lock, Reg.CLK_STAT_pwm1_lock, Reg.CLK_STAT_fe_lock,
          Reg.CLK_STAT_rc64_ok] s t)
  ∧ (∀ (m : ClkWindow) (s : State), s.ready → m.wf = true → s.romUp = true → s.st ≠ stFAWN → (m.dev.getD 1 0 < -4000 ∨ 4000 < m.dev.getD 1 0) →
      (∀ i < 7, i = 1 ∨ s.clockRuns i = false ∨ (-4000 ≤ m.dev.getD i 0 ∧ m.dev.getD i 0 ≤ 4000 ∧ m.lock.getD i true = true)) →
      s.present cCLK 1 0 = false →
    Completes (.clkMonitorWindow m) s fun t => t.bit Reg.CLK_FAULT_gauge = true ∧ Noted cCLK 1 1 t
      ∧ FrameLog ([Reg.CLK_STAT_sys_lock, Reg.CLK_STAT_gauge_lock, Reg.CLK_STAT_pwm0_lock, Reg.CLK_STAT_pwm1_lock, Reg.CLK_STAT_fe_lock,
          Reg.CLK_STAT_rc64_ok, Reg.CLK_FAULT_gauge] ++ noteFields) 1 (evCode cCLK 1 1) s t)
  ∧ (∀ s : State, Cells.wf s.fields = true → s.sys.vkeep = true → s.clk.xtalRuns = false → s.time ≤ 1000000 → s.bit Reg.CLK_STAT_xtal_seen = false →
    Completes .xtalStart s fun t => t.clk.xtalRuns = true ∧ t.bit Reg.CLK_STAT_xtal_seen = true ∧ t.bit Reg.CLK_STAT_aon_xtal = true
      ∧ Frame [Reg.CLK_STAT_xtal_seen, Reg.CLK_STAT_aon_xtal] s t)
  ∧ (∀ s : State, s.ready → s.sys.vkeep = true → s.clk.xtalRuns = true → s.romUp = true → s.present cCLK 7 0 = false →
    Completes .xtalStop s fun t => t.clk.xtalRuns = false ∧ t.bit Reg.CLK_STAT_aon_xtal = false ∧ t.bit Reg.CLK_FAULT_xtal_stop = true
      ∧ Noted cCLK 7 1 t ∧ FrameLog ([Reg.CLK_STAT_aon_xtal, Reg.CLK_FAULT_xtal_stop] ++ noteFields) 1 (evCode cCLK 7 1) s t)

/-- A SYNCI of 500 kHz to 3 MHz, enabled and with VIO up, locks the PWM domains, and only rails on a multiple of it become
stale. A loss holds the frequency and raises CLK at L1 with source 8; a lock after a loss ends that cause. Where the
rail of phase 0 is on a multiple and runs, SYNCO carries that rail's period clock at the multiple of the locked
frequency, and goes on with it in holdover; with synco_en at 0 it is low. -/
def Obligations.Synchronisation : Prop :=
  (∀ (khz : Nat) (s : State), s.ready → s.syncOk khz = true → s.present cCLK 8 0 = false →
    Completes (.synciLock khz) s fun t => t.bit Reg.CLK_STAT_sync_locked = true ∧ t.clk.synci = some khz ∧ t.clk.synciLast = khz
      ∧ Frame (Reg.CLK_STAT_sync_locked :: (List.range 8).map Reg.RAIL_LOOP_STAT_stale) s t)
  ∧ (∀ s : State, s.ready → s.romUp = true → s.bit Reg.CLK_STAT_sync_locked = true → s.present cCLK 8 0 = false →
    Completes .synciLoss s fun t => t.bit Reg.CLK_STAT_sync_locked = false ∧ t.clk.synci = none ∧ t.clk.synciLast = s.clk.synciLast
      ∧ t.synco = s.synco
      ∧ Noted cCLK 8 1 t ∧ FrameLog (Reg.CLK_STAT_sync_locked :: noteFields) 1 (evCode cCLK 8 1) s t)
  ∧ (∀ (khz : Nat) (s : State), s.ready → s.syncOk khz = true → s.present cCLK 8 0 = true →
    Completes (.synciRelock khz) s fun t => t.bit Reg.CLK_STAT_sync_locked = true ∧ t.clk.synci = some khz ∧ t.present cCLK 8 0 = false
      ∧ Frame (Reg.CLK_STAT_sync_locked :: (List.range 8).map Reg.RAIL_LOOP_STAT_stale) s t)
  ∧ (∀ (k : Fin 8) (khz : Nat) (s : State), s.ready → s.live = true → s.stIn [stFAWN, stBOOT] = false → s.syncOk khz = true → s.present cCLK 8 0 = false →
      s.bit Reg.CLK_SYNC_synco_en = true → s.railOf 0 = some k.val → s.railStopped k = false → s.getF (Reg.RAIL_FSW_sync_mult k) ≠ 0 →
    Completes (.synciLock khz) s fun t => t.synco = .clock (s.getF (Reg.RAIL_FSW_sync_mult k) * khz))
  ∧ (∀ (khz : Nat) (s : State), s.ready → s.live = true → s.stIn [stFAWN, stBOOT] = false → s.syncOk khz = true → s.present cCLK 8 0 = false →
      s.bit Reg.CLK_SYNC_synco_en = false → Completes (.synciLock khz) s fun t => t.synco = .low)

/-- A failed die link, and a die at its shutdown temperature, lock off the one rail with a phase on it, with RAILI or THERM
at L3; the shutdown shows in POL_PHn_DIE and its release clears it. A rail's warning raises THERM at L2 and derates it.
The controller die raises THERM at L1 from 10 C below its ceiling and at L4 from the ceiling up, shown here in SAFE. No
class involved has an unacknowledged event, the rail stands in group 0 and no phase test runs. -/
def Obligations.DieRows : Prop :=
  (∀ (d : Fin 4) (k : Nat) (s : State), s.ready → s.romUp = true → s.dieRails d = [k] → s.fresh cRAILI → s.groupOf k = 0 → s.age.testing = [] →
    Completes (.dieLinkFailure d) s fun t => t.railState k = rLOCKED ∧ t.bit (Reg.RAIL_STAT_derated k) = true ∧ Noted cRAILI k 3 t
      ∧ FrameLog (s.railOffFields k ++ lowFields cRAILI k) 1 (evCode cRAILI k 3) s t)
  ∧ (∀ (d : Fin 4) (k : Nat) (s : State), s.ready → s.romUp = true → s.dieRails d = [k] → s.fresh cTHERM → s.groupOf k = 0 → s.age.testing = [] →
      s.present cTHERM k (8 + d) = false →
    Completes (.dieThermalShutdown d) s fun t => (∀ i < 4, t.bit (Reg.POL_PH_DIE_shut (4 * d + i)) = true) ∧ t.railState k = rLOCKED
      ∧ Noted cTHERM k 3 t
      ∧ FrameLog ((List.range 4).map (fun i => Reg.POL_PH_DIE_shut (4 * d + i)) ++ s.railOffFields k ++ lowFields cTHERM k) 1
          (evCode cTHERM k 3) s t)
  ∧ (∀ (d : Fin 4) (s : State), Cells.wf s.fields = true →
    Completes (.dieThermalRelease d) s fun t => (∀ i < 4, t.bit (Reg.POL_PH_DIE_shut (4 * d + i)) = false)
      ∧ (∀ k < 8, t.present cTHERM k (8 + d) = false) ∧ Frame ((List.range 4).map fun i => Reg.POL_PH_DIE_shut (4 * d + i)) s t)
  ∧ (∀ (k : Fin 8) (s : State), s.ready → s.romUp = true → s.bit (Reg.RAIL_GROUP_valid k) = true → s.fresh cTHERM → s.present cTHERM k 0 = false →
    Completes (.railThermalWarn k) s fun t => t.bit (Reg.RAIL_STAT_derated k) = true ∧ Noted cTHERM k 2 t
      ∧ FrameLog (lowFields cTHERM k) 1 (evCode cTHERM k 2) s t)
  ∧ (∀ (x : Int) (s : State), s.ready → s.romUp = true → (s.ceiling 0x20 150 : Int) - 10 ≤ x → x < s.ceiling 0x20 150 → s.present cTHERM 36 0 = false →
    Completes (.controllerDieThermal x) s fun t => Noted cTHERM 36 1 t ∧ FrameLog noteFields 1 (evCode cTHERM 36 1) s t)
  ∧ (∀ (x : Int) (s : State), s.ready → s.romUp = true → (s.ceiling 0x20 150 : Int) ≤ x → s.present cTHERM 36 1 = false → s.fresh cTHERM →
      s.bit Reg.SYS_RUN_STAT_safe = true →
    Completes (.controllerDieThermal x) s fun t => Noted cTHERM 36 4 t ∧ FrameLog judgedFields 1 (evCode cTHERM 36 4) s t)

/-- A read by the host or the side-band port clears every RC field of the register it reads, but for a CHG_FLT bit whose
cause is present, which stands again at once (R204). A read by the control core or the gauge core gives the same value
and leaves every field set. A read through a staging address clears nothing. -/
def Obligations.RcReads : Prop :=
  (∀ (p : Port) (addr : BitVec 20) (s : State), s.ready → s.accUp (portAcc p) = true → addr.toNat < 0x40000 → addr.toNat ≠ 0x16038 →
    Completes (.rcRead p addr) s fun t =>
      (((fieldsAt addr.toNat).filter fun q => q.2.acc = .rc).all fun q => t.getF q.1 == 0) = true
      ∧ Frame (Reg.FLT_FIRST_valid :: ((fieldsAt addr.toNat).filter fun q => q.2.acc = .rc).map (·.1)) s t)
  ∧ (∀ (p : Port) (s : State), s.ready → s.accUp (portAcc p) = true →
    Completes (.rcRead p 0x16038) s fun t =>
      (((fieldsAt 0x16038).filter fun q => q.2.acc = .rc).all fun q => t.getF q.1 == if s.present cCHG 0 q.1.lo then s.getF q.1 else 0) = true
      ∧ Frame (((fieldsAt 0x16038).filter fun q => q.2.acc = .rc).map (·.1)) s t)
  ∧ (∀ (a : Accessor) (addr : BitVec 20) (s : State), s.ready → s.accUp a = true → (a = .control ∨ a = .gauge) → addr.toNat < 0x40000 →
    Completes (.multiwordLowRead a addr) s fun t => Frame [] s t
      ∧ (multiword addr.toNat = none → (addr.toNat < 0x34 ∨ 0x40 ≤ addr.toNat) → ∀ p, (s.readReg a addr.toNat).2 = (s.readReg (portAcc p) addr.toNat).2))
  ∧ (∀ (p : Port) (addr : BitVec 20) (s : State), s.ready → s.accUp (portAcc p) = true → (stagingOf addr.toNat).isSome = true →
    Completes (.rcRead p addr) s fun t => Frame [] s t)

/-- A write whose mask is 0 changes nothing, not even the error record. A write to an address with no register, live or
mirrored, records unmapped and changes nothing else. A write of HOST_INT_EN by the host or a core changes exactly the
masked bits. A read of the low word of device time latches the higher words for the accessor that read it. -/
def Obligations.RegisterWrites : Prop :=
  (∀ (a : Accessor) (addr : BitVec 20) (data : Word) (s : State), s.ready →
    Completes (.registerWrite a addr 0 data) s fun t => Frame [] s t ∧ t.acc a = s.acc a ∧ t.sys.hbDue = s.sys.hbDue)
  ∧ (∀ (a : Accessor) (addr : BitVec 20) (mask data : Word) (s : State), s.ready → s.accUp a = true → mask ≠ 0 → addr.toNat < 0x40000 →
      addr.toNat ≠ 0x34 → regAt (liveAddr addr.toNat) = none →
    Completes (.registerWrite a addr mask data) s fun t => Frame [] s t
      ∧ (t.acc a).err = (s.acc a).err ||| BitVec.ofNat 16 (2 ^ Reg.REG_ERR_unmapped.lo)
      ∧ (t.acc a).errAddr = (if (s.acc a).err = 0 then addr.toNat else (s.acc a).errAddr))
  ∧ (∀ (a : Accessor) (mask data : Word) (s : State), s.ready → s.accUp a = true → a ≠ .side → mask ≠ 0 →
    Completes (.registerWrite a 0x1D00C mask data) s fun t =>
      t.getF Reg.HOST_INT_EN_en = maskMerge (s.getF Reg.HOST_INT_EN_en) (mask.toNat % 2 ^ Reg.HOST_INT_EN_en.w) (data.toNat % 2 ^ Reg.HOST_INT_EN_en.w)
      ∧ Frame [Reg.HOST_INT_EN_en] s t)
  ∧ (∀ (a : Accessor) (s : State), s.ready → s.accUp a = true →
    Completes (.multiwordLowRead a 0x20) s fun t => Frame [] s t
      ∧ (t.acc a).readShadow = some (0x20, [BitVec.ofNat 16 (s.time / 65536), BitVec.ofNat 16 (s.time / 65536 ^ 2), BitVec.ofNat 16 (s.time / 65536 ^ 3)]))

/-- A boundary of an instance that is not held and has a commit pending makes every staged field of it live at once, clears
pending and writes one kind 0x03 entry with the instance's base; here for the instances whose commit starts nothing in
their block, and for the setpoint of a rail that is off. A discard drops the instance's staged values; a hold keeps its
boundaries from committing. -/
def Obligations.Buffered : Prop :=
  (∀ (i : Instance) (s : State), s.ready → s.romUp = true → (∀ k, i ≠ .rail k) → i ≠ .fe → i ≠ .mon → i ≠ .tel → s.bit (holdF i) = false → s.bit (pendingF i) = true →
      (s.staged.all fun p => p.1.key != (pendingF i).key) = true →
    Completes (.bufCommit i) s fun t => ((s.staged.filter fun p => inInst i p.1).all fun p => t.getF p.1 == p.2 % 2 ^ p.1.w) = true
      ∧ t.bit (pendingF i) = false ∧ t.staged = s.staged.filter (fun p => !inInst i p.1)
      ∧ FrameLog (pendingF i :: (s.staged.filter fun p => inInst i p.1).map (·.1)) 3 ((instRange i).1 / 16) s t)
  ∧ (∀ (k : Fin 8) (v : Nat) (s : State), s.ready → s.romUp = true → s.bit (holdF (.rail k)) = false → s.bit (pendingF (.rail k)) = true →
      s.staged = [(Reg.RAIL_VSET_vset k, v)] → s.railState k = rOFF →
    Completes (.bufCommit (.rail k)) s fun t => t.getF (Reg.RAIL_VSET_vset k) = v % 2 ^ (Reg.RAIL_VSET_vset k).w ∧ t.staged = []
      ∧ FrameLog [pendingF (.rail k), Reg.RAIL_VSET_vset k] 3 (0x1100 + 0x10 * k) s t)
  ∧ (∀ (i : Instance) (s : State), s.ready → s.romUp = true → (s.bit (holdF i) = true ∨ s.bit (pendingF i) = false) →
    Completes (.bufCommit i) s fun t => t.staged = s.staged ∧ Frame [] s t)
  ∧ (∀ (a : Accessor) (i : Instance) (s : State), s.ready → s.opens a (commitAddr i) →
    Completes (.commitDiscard a i) s fun t => t.staged = s.staged.filter (fun p => !inInst i p.1) ∧ t.bit (pendingF i) = false
      ∧ FrameWide [] (pendingF i :: groupFields) s t)
  ∧ (∀ (a : Accessor) (i : Instance) (h : Bool) (s : State), s.ready → s.opens a (commitAddr i) →
    Completes (.commitHold a i h) s fun t => t.bit (holdF i) = h ∧ t.staged = s.staged ∧ FrameWide [] (holdF i :: groupFields) s t)

/-- A STATUS frame that runs to its end returns the ambient word and its CRC and counts as accepted. A register read of one
word with a good header CRC returns the acknowledge 0xA5A5, the word and its CRC; one with a bad CRC returns 0xE001 and
zeros, counts the error and raises COMM at L0. A header of a reserved op with a good CRC is answered 0xE002, has no
effect and leaves prev 2. A register write of HOST_INT_EN with a good CRC is applied, and HSDO carries 0 after the
ambient word. A memory read returns the window's word; a memory write stores four bytes, least significant first, in the
data area and nothing else. A frame with VIO down is ignored. -/
def Obligations.HostFrames : Prop :=
  (∀ (h : BitVec 32) (s : State), s.ready → s.hostPort = true → frameOp h = 1 →
    Completes (.status ⟨h, true⟩) s fun t => t.spiOut = halves s.ambient ++ [BitVec.ofNat 16 (crc16 (beWord s.ambient))] ∧ t.mbx.prev = 0
      ∧ t.mbx.fcnt = (s.mbx.fcnt + 1) % 256 ∧ Frame [] s t)
  ∧ (∀ (addr : BitVec 20) (n : Nat) (s : State), s.ready → s.hostPort = true → addr.toNat % 4 = 0 → addr.toNat < 0x40000 →
      (multiword addr.toNat = none ∨ multiword addr.toNat = some (addr.toNat, 4)) → 1 ≤ n →
    Completes (.regRd 2 (lowOf addr.toNat 1) (BitVec.ofNat 16 (crc16 (beWord (headerOf 2 addr.toNat 1).toNat))) n) s fun t =>
      t.spiOut = halves s.ambient ++ [0, 0xA5A5] ++ halves (s.peek .host addr.toNat)
        ++ BitVec.ofNat 16 (crc16 (beWord (headerOf 2 addr.toNat 1).toNat ++ beWord (s.peek .host addr.toNat))) :: List.replicate (2 * (n - 1)) 0
      ∧ t.mbx.fcnt = (s.mbx.fcnt + 1) % 256 ∧ t.mbx.prev = 0
      ∧ Frame (Reg.FLT_FIRST_valid :: ((fieldsAt addr.toNat).filter fun q => q.2.acc = .rc).map (·.1)) s t)
  ∧ (∀ (addr : BitVec 20) (count : BitVec 8) (crc : Word) (n : Nat) (s : State), s.ready → s.hostPort = true →
      crc.toNat ≠ crc16 (beWord (headerOf 2 addr.toNat count.toNat).toNat) →
    Completes (.regRd 2 (lowOf addr.toNat count.toNat) crc n) s fun t => t.spiOut.take 4 = halves s.ambient ++ [0, 0xE001] ∧ t.mbx.prev = 2
      ∧ t.getF Reg.HOST_CRC_ERR_count = (if s.getF Reg.HOST_CRC_ERR_count + 1 < 2 ^ Reg.HOST_CRC_ERR_count.w then s.getF Reg.HOST_CRC_ERR_count + 1
          else s.getF Reg.HOST_CRC_ERR_count)
      ∧ FrameLog [Reg.HOST_CRC_ERR_count, Reg.SB_REQ_req] 1 (evCode cCOMM 0 0) s t)
  ∧ (∀ (op : BitVec 4) (low : BitVec 28) (n : Nat) (s : State), s.ready → s.hostPort = true → frameReserved op = true →
    Completes (.regRd op low (BitVec.ofNat 16 (crc16 (beWord (op ++ low).toNat))) n) s fun t => t.spiOut.take 4 = halves s.ambient ++ [0, 0xE002] ∧ t.mbx.prev = 2
      ∧ t.mbx.fcnt = (s.mbx.fcnt + 1) % 256 ∧ Frame [] s t)
  ∧ (∀ (w : BitVec 32) (s : State), s.ready → s.hostPort = true → w.toNat / 65536 ≠ 0 →
    Completes (.regWr 3 (lowOf 0x1D00C 1) [w] (BitVec.ofNat 16 (crc16 (beWord (headerOf 3 0x1D00C 1).toNat ++ beWord w.toNat))) true) s fun t =>
      t.getF Reg.HOST_INT_EN_en = maskMerge (s.getF Reg.HOST_INT_EN_en) (w.toNat / 65536 % 2 ^ Reg.HOST_INT_EN_en.w) (w.toNat % 2 ^ Reg.HOST_INT_EN_en.w)
      ∧ t.spiOut = halves s.ambient ++ [0, 0, 0] ∧ t.mbx.prev = 0 ∧ t.mbx.fcnt = (s.mbx.fcnt + 1) % 256 ∧ Frame [Reg.HOST_INT_EN_en] s t)
  ∧ (∀ (addr : BitVec 20) (n : Nat) (s : State), s.ready → s.hostPort = true → addr.toNat % 4 = 0 → inWindow addr.toNat = true →
      (addr.toNat < 0x44000 ∨ 0x48000 ≤ addr.toNat) → 1 ≤ n →
    Completes (.memRd 4 (lowOf addr.toNat 1) (BitVec.ofNat 16 (crc16 (beWord (headerOf 4 addr.toNat 1).toNat))) n) s fun t =>
      (t.spiOut.drop 4).take 2 = halves (leNat (memRead addr.toNat 4 s.win)) ∧ t.mbx.prev = 0 ∧ Frame [] s t)
  ∧ (∀ (addr : BitVec 20) (w : BitVec 32) (s : State), s.ready → s.hostPort = true → addr.toNat % 4 = 0 → 0x41000 ≤ addr.toNat →
      addr.toNat < 0x44000 →
    Completes (.memWr 5 (lowOf addr.toNat 1) [w] (BitVec.ofNat 16 (crc16 (beWord (headerOf 5 addr.toNat 1).toNat ++ beWord w.toNat))) true) s fun t =>
      leNat (memRead addr.toNat 4 t.win) = w.toNat ∧ t.mbx.prev = 0 ∧ Kept [] s t ∧ StoresKept s t ∧ t.logNext = s.logNext
      ∧ ∀ a, (a < addr.toNat ∨ addr.toNat + 4 ≤ a) → memGet a t.win = memGet a s.win)
  ∧ (∀ (op : BitVec 4) (low : BitVec 28) (crc : Word) (n : Nat) (s : State), s.ready → s.hostPort = false → frameReserved op = true →
    Completes (.regRd op low crc n) s fun t => t.spiOut = [] ∧ t.mbx = s.mbx ∧ Frame [] s t)

/-- VIO falling and returning change no register where no LDA pin stands, and HSDO is high-impedance. A host write of
HOST_HB with a mask that covers the beat is a heartbeat: the next deadline is t_hb away. A write with mask 0 is none. A
deadline that has passed declares the host lost; at the deadline itself a heartbeat still counts, and nothing happens. A
loss: every lease goes to the side-band, direct mode ends, and COMM is raised at L1 where the fused policy is KEEP. -/
def Obligations.HostLines : Prop :=
  (∀ s : State, s.ready → s.sys.vio = true → s.sys.lda = 0 →
    Completes .vioLoss s fun t => t.sys.vio = false ∧ t.spiOut = [] ∧ Frame [] s t)
  ∧ (∀ s : State, s.ready → s.sys.vio = false → Completes (.vioReturn 0) s fun t => t.sys.vio = true ∧ Frame [] s t)
  ∧ (∀ (mask data : Word) (s : State), s.ready → s.accUp .host = true → s.stIn [stFAWN, stBOOT, stRECOVERY] = false →
      s.bit Reg.SYS_STATE_host_lost = false → mask.toNat % 2 ^ Reg.HOST_HB_beat.w ≠ 0 →
    Completes (.hostHbWrite mask data) s fun t => t.sys.hbDue = some (s.time + 1000 * s.getF Reg.HOST_HB_CFG_t_hb) ∧ Frame [Reg.HOST_HB_beat] s t)
  ∧ (∀ (data : Word) (s : State), s.ready → Completes (.hostHbWrite 0 data) s fun t => t.sys.hbDue = s.sys.hbDue ∧ Frame [] s t)
  ∧ (∀ s : State, s.ready → s.romUp = true → s.live = true → s.hbPassed = true → s.stIn [stFAWN, stBOOT, stRECOVERY] = false → s.hostLossLevel = 1 →
      s.present cCOMM 4 0 = false →
    Completes .heartbeatDeadline s fun t => t.bit Reg.SYS_STATE_host_lost = true ∧ t.bit Reg.HOST_STAT_direct = false ∧ t.leases = 0x7FFF
      ∧ t.sys.hbDue = none ∧ Noted cCOMM 4 1 t
      ∧ FrameLog ([Reg.SYS_STATE_host_lost, Reg.HOST_STAT_direct, Reg.HOST_INT_STAT_lease] ++ noteFields) 1 (evCode cCOMM 4 1) s t)
  ∧ (∀ s : State, s.ready → s.hbPassed = false → Completes .heartbeatDeadline s fun t => t.sys.hbDue = s.sys.hbDue ∧ Frame [] s t)

/-- A producer index that posts at most as many entries as there are free tags is taken, and each new entry gets the tick as
its stamp; one more than 64 ahead of the consumer is refused with bad_prod. A response consumer index not ahead of the
producer is taken; one ahead is refused with bad_cons. A doorbell does the same for the index it carries. -/
def Obligations.MailboxIndices : Prop :=
  (∀ (v : Nat) (s : State), s.ready → s.accUp .host = true → v < 128 → (v + 128 - s.getF Reg.MBX_CMD_CONS_cons) % 128 ≤ 64 - s.inFlight →
      (s.getF Reg.MBX_CMD_PROD_prod + 128 - s.getF Reg.MBX_CMD_CONS_cons) % 128 ≤ (v + 128 - s.getF Reg.MBX_CMD_CONS_cons) % 128 →
    Completes (.mbxCmdProdWrite 0x7F (BitVec.ofNat 16 v)) s fun t => t.getF Reg.MBX_CMD_PROD_prod = v
      ∧ t.mbx.hostStamps = s.mbx.hostStamps ++ List.replicate ((v + 128 - s.getF Reg.MBX_CMD_CONS_cons) % 128
          - (s.getF Reg.MBX_CMD_PROD_prod + 128 - s.getF Reg.MBX_CMD_CONS_cons) % 128) s.time
      ∧ Frame [Reg.MBX_CMD_PROD_prod] s t)
  ∧ (∀ (v : Nat) (s : State), s.ready → s.accUp .host = true → v < 128 → 64 < (v + 128 - s.getF Reg.MBX_CMD_CONS_cons) % 128 →
    Completes (.mbxCmdProdWrite 0x7F (BitVec.ofNat 16 v)) s fun t => t.bit Reg.MBX_ERR_bad_prod = true ∧ t.mbx.hostStamps = s.mbx.hostStamps
      ∧ Frame [Reg.MBX_ERR_bad_prod] s t)
  ∧ (∀ (v : Nat) (s : State), s.ready → s.accUp .host = true → v < 128 →
      (v + 128 - s.getF Reg.MBX_RESP_CONS_cons) % 128 ≤ (s.getF Reg.MBX_RESP_PROD_prod + 128 - s.getF Reg.MBX_RESP_CONS_cons) % 128 →
    Completes (.mbxRespConsWrite 0x7F (BitVec.ofNat 16 v)) s fun t => t.getF Reg.MBX_RESP_CONS_cons = v ∧ Frame [Reg.MBX_RESP_CONS_cons] s t)
  ∧ (∀ (v : Nat) (s : State), s.ready → s.accUp .host = true → v < 128 →
      (s.getF Reg.MBX_RESP_PROD_prod + 128 - s.getF Reg.MBX_RESP_CONS_cons) % 128 < (v + 128 - s.getF Reg.MBX_RESP_CONS_cons) % 128 →
    Completes (.mbxRespConsWrite 0x7F (BitVec.ofNat 16 v)) s fun t => t.bit Reg.MBX_ERR_bad_cons = true ∧ Frame [Reg.MBX_ERR_bad_cons] s t)
  ∧ (∀ (v : Nat) (s : State), s.ready → s.hostPort = true → v < 128 → (v + 128 - s.getF Reg.MBX_CMD_CONS_cons) % 128 ≤ 64 - s.inFlight →
      (s.getF Reg.MBX_CMD_PROD_prod + 128 - s.getF Reg.MBX_CMD_CONS_cons) % 128 ≤ (v + 128 - s.getF Reg.MBX_CMD_CONS_cons) % 128 →
    Completes (.doorbell (BitVec.ofNat 32 (6 * 2 ^ 28 + 0x8000 + 256 * v)) (BitVec.ofNat 16 (crc16 (beWord (6 * 2 ^ 28 + 0x8000 + 256 * v)))) true) s fun t =>
      t.getF Reg.MBX_CMD_PROD_prod = v ∧ t.mbx.prev = 0 ∧ t.mbx.fcnt = (s.mbx.fcnt + 1) % 256 ∧ Frame [Reg.MBX_CMD_PROD_prod] s t)

/-- The oldest posted entry of a port is taken: one that passes its checks and meets no command of the other port in its
tick joins the commands in progress, one that fails a check is answered with that check's status, and SYS.HEARTBEAT of
the host counts as a heartbeat at its take. A host command that loses to a side-band command of its tick is answered
SUPERSEDED and counted. -/
def Obligations.CommandTake : Prop :=
  (∀ (i : Nat) (d : List Byte) (c : Taken) (s : State), s.ready → s.mbxRuns = true → (s.posts .host).head? = some (i, d, c) →
      s.takeCheck .host i d c = none → c.opcode ≠ 0x0111 → s.mbx.lost = [] → s.waiting .side = [] →
      (s.mbx.taken.all fun r => r.port == .host) = true →
    Completes (.commandTake .host) s fun t => t.mbx.taken = s.mbx.taken ++ [{ c with tookAt := s.time }]
      ∧ t.getF Reg.MBX_CMD_CONS_cons = (s.getF Reg.MBX_CMD_CONS_cons + 1) % 128 ∧ Frame [Reg.MBX_CMD_CONS_cons] s t)
  ∧ (∀ (i : Nat) (d : List Byte) (c : Taken) (s : State), s.ready → s.mbxRuns = true → (s.posts .side).head? = some (i, d, c) →
      s.takeCheck .side i d c = none → s.mbx.lost = [] → s.waiting .host = [] → (s.mbx.taken.all fun r => r.port == .side) = true →
    Completes (.commandTake .side) s fun t => t.mbx.taken = s.mbx.taken ++ [{ c with tookAt := s.time }]
      ∧ t.mbx.sidePosts = s.mbx.sidePosts.tail ∧ Frame [] s t)
  ∧ (∀ (i : Nat) (d : List Byte) (c : Taken) (st : Nat) (s : State), s.ready → s.mbxRuns = true → (s.posts .host).head? = some (i, d, c) →
      s.takeCheck .host i d c = some st → (c.rptr = true → 0x41000 ≤ c.raddr ∧ c.raddr + c.rcap ≤ 0x44000) →
    Completes (.commandTake .host) s fun t => Replied c st [] s t ∧ ReplyFrame [Reg.MBX_CMD_CONS_cons] c s t ∧ RecordsKept s t)
  ∧ (∀ (i : Nat) (d : List Byte) (c : Taken) (s : State), s.ready → s.mbxRuns = true → (s.posts .host).head? = some (i, d, c) →
      s.takeCheck .host i d c = none → c.opcode = 0x0111 → s.mbx.lost = [] → s.waiting .side = [] →
      (s.mbx.taken.all fun r => r.port == .host) = true → s.st ≠ stRECOVERY → s.st ≠ stBOOT → s.bit Reg.SYS_STATE_host_lost = false →
    Completes (.commandTake .host) s fun t => t.sys.hbDue = some (s.time + 1000 * s.getF Reg.HOST_HB_CFG_t_hb)
      ∧ t.mbx.taken = s.mbx.taken ++ [{ c with tookAt := s.time }] ∧ Frame [Reg.MBX_CMD_CONS_cons] s t)
  ∧ (∀ (i : Nat) (d : List Byte) (c r : Taken) (s : State), s.ready → s.mbxRuns = true → (s.posts .host).head? = some (i, d, c) →
      s.takeCheck .host i d c = none → c.opcode ≠ 0x0111 → c.rptr = false → s.mbx.lost = [] → s.waiting .side = [] → s.mbx.taken = [r] →
      r.port = .side → r.stamp = c.stamp → r.wait = .none → (s.dropPost .host).pair { c with tookAt := s.time } r = (true, false) →
    Completes (.commandTake .host) s fun t => Replied c sSUPERSEDED [] s t ∧ t.mbx.taken = [r]
      ∧ ReplyFrame [Reg.MBX_CMD_CONS_cons, Reg.HOST_ARB_sup_host] c s t ∧ RecordsKept s t)

/-- READ answers the words of its registers, little-endian, and clears the RC fields it read. WRITE of the wake timer period
with a mask sets exactly the masked bits. A WRITE whose entry lies outside its group is answered BAD_ARG and changes no
register. -/
def Obligations.ReadWrite : Prop :=
  (∀ (p : Port) (tag : BitVec 6) (c : Taken) (s : State), s.ready → s.runnable p tag c → c.opcode % 256 = 1 → s.admits c = true →
      c.payload.length = 8 → c.notZero 6 2 = false → 0 < c.u 4 2 → c.u 0 4 % 4 = 0 → (c.readAddrs.all fun a => groupHas c.group a) = true →
      c.u 4 2 ≤ (if c.rptr then 6144 else 10) → c.fits (2 * c.u 4 2) = true →
    Completes (.read p tag) s fun t =>
      RepliedOk ([Reg.FLT_FIRST_valid] ++ c.readAddrs.flatMap fun a => ((fieldsAt a).filter fun q => q.2.acc = .rc).map (·.1))
        (c.readAddrs.flatMap fun a => leBytes 2 (s.peek (portAcc p) a)) c s t)
  ∧ (∀ (p : Port) (tag : BitVec 6) (m d : Word) (c : Taken) (s : State), s.ready →
      s.turn p tag c 0x0102 (leBytes 4 0x58 ++ leBytes 2 m.toNat ++ leBytes 2 d.toNat) → m ≠ 0 →
    Completes (.write p tag) s fun t => t.getF Reg.SYS_WAKE_TIMER_period = maskMerge (s.getF Reg.SYS_WAKE_TIMER_period) m.toNat d.toNat
      ∧ RepliedOk [Reg.SYS_WAKE_TIMER_period] [] c s t)
  ∧ (∀ (p : Port) (tag : BitVec 6) (c : Taken) (s : State), s.ready → s.runnable p tag c → c.opcode % 256 = 2 → s.admits c = true →
      c.payload.length = 8 → groupHas c.group (c.u 0 4) = false → s.latched = false → s.st ≠ stSAFE →
    Completes (.write p tag) s fun t => Replied c sBAD [] s t ∧ ReplyFrame [] c s t ∧ RecordsKept s t)

/-- ENABLE of an LDO that is off sets its enable field, starts its ramp and answers the instances that changed; DISABLE of a
ramping or running LDO clears the field and turns it off. While the L5 latch is set ENABLE is answered LIMIT and sets
nothing. -/
def Obligations.EnableCommands : Prop :=
  (∀ (p : Port) (tag : BitVec 6) (n : Fin 6) (c : Taken) (s : State), s.ready → s.turn p tag c 0x0803 (leBytes 2 (2 ^ n.val) ++ [0, 0]) →
      c.fits 2 = true → s.latched = false → s.st ≠ stSAFE → s.bit (Reg.LDO_CTRL_en n) = false → s.ldoState n = lOFF →
    Completes (.enable p tag) s fun t => t.bit (Reg.LDO_CTRL_en n) = true ∧ t.ldoState n = lRAMP
      ∧ RepliedOk [Reg.LDO_CTRL_en n, Reg.LDO_STAT_state n] (leBytes 2 (2 ^ n.val)) c s t)
  ∧ (∀ (p : Port) (tag : BitVec 6) (n : Fin 6) (c : Taken) (s : State), s.ready → s.turn p tag c 0x0804 (leBytes 2 (2 ^ n.val) ++ [0, 0]) →
      c.fits 2 = true → s.bit (Reg.LDO_CTRL_en n) = true → (s.ldoState n = lRAMP ∨ s.ldoState n = lON) →
    Completes (.disable p tag) s fun t => t.bit (Reg.LDO_CTRL_en n) = false ∧ t.ldoState n = lOFF
      ∧ RepliedOk (Reg.LDO_CTRL_en n :: ldoFields n) (leBytes 2 (2 ^ n.val)) c s t)
  ∧ (∀ (p : Port) (tag : BitVec 6) (c : Taken) (s : State), s.ready → s.runnable p tag c → c.opcode % 256 = 3 → s.latched = true →
    Completes (.enable p tag) s fun t => Replied c sLIMIT [] s t ∧ ReplyFrame [] c s t ∧ RecordsKept s t)

/-- SYS.INFO answers part code, stepping, unique ID and versions. SYS.HEARTBEAT answers. SYS.RUN and SYS.STOP set and clear
cmd_run; with the request taken from the pin nothing else follows, and with it taken from the command in STANDBY the UP
table starts. SYS.RESET in SAFE begins a reset boot with cause cmd. SYS.RESUME leaves SAFE for STANDBY. SYS.LEASE of the
host grants and revokes. SYS.SAVE stores each named resource; the bytes in use that it answers are a free value (log
entry 7). -/
def Obligations.SysCommands : Prop :=
  (∀ (p : Port) (tag : BitVec 6) (c : Taken) (s : State), s.ready → s.turn p tag c 0x0110 [] → c.fits 20 = true →
    Completes (.sysInfo p tag) s fun t =>
      RepliedOk [] ([0x80, 0x48, 0xB0, 0x01] ++ (List.range 4).flatMap (fun i => leBytes 2 (s.fuse 1 i)) ++ s.verBytes false ++ s.verBytes true) c s t)
  ∧ (∀ (p : Port) (tag : BitVec 6) (c : Taken) (s : State), s.ready → s.turn p tag c 0x0111 [] →
    Completes (.sysHeartbeat p tag) s fun t => RepliedOk [] [] c s t)
  ∧ (∀ (p : Port) (tag : BitVec 6) (c : Taken) (s : State), s.ready → s.turn p tag c 0x0112 [] → s.latched = false →
      s.getF Reg.SYS_RUN_CFG_run_src = 0 → s.bit Reg.SYS_RUN_STAT_run_req = s.sys.pinReq →
    Completes (.sysRun p tag) s fun t => t.bit Reg.SYS_RUN_STAT_cmd_run = true ∧ RepliedOk [Reg.SYS_RUN_STAT_cmd_run] [] c s t)
  ∧ (∀ (p : Port) (tag : BitVec 6) (c : Taken) (s : State), s.ready → s.turn p tag c 0x0112 [] → s.latched = false → s.st = stSTANDBY →
      s.getF Reg.SYS_RUN_CFG_run_src = 1 → s.bit Reg.SYS_RUN_STAT_run_req = false → s.getF Reg.SEQ_STAT_table = 0 → s.sys.run = false →
      s.sys.sleep = none → s.bit (pendingF .seq) = false → s.getF (Reg.SEQ_STEP_W0_op 0) = 0 →
    Completes (.sysRun p tag) s fun t => t.bit Reg.SYS_RUN_STAT_cmd_run = true ∧ t.bit Reg.SYS_RUN_STAT_run_req = true
      ∧ t.getF Reg.SEQ_STAT_table = 1 ∧ t.seq.ended = true
      ∧ RepliedOk ([Reg.SYS_RUN_STAT_cmd_run, Reg.SYS_RUN_STAT_run_req] ++ seqFields) [] c s t)
  ∧ (∀ (p : Port) (tag : BitVec 6) (c : Taken) (s : State), s.ready → s.turn p tag c 0x0113 [] →
      s.getF Reg.SYS_RUN_CFG_run_src = 0 → s.bit Reg.SYS_RUN_STAT_run_req = s.sys.pinReq →
    Completes (.sysStop p tag) s fun t => t.bit Reg.SYS_RUN_STAT_cmd_run = false ∧ RepliedOk [Reg.SYS_RUN_STAT_cmd_run] [] c s t)
  ∧ (∀ (p : Port) (tag : BitVec 6) (c : Taken) (s : State), s.ready → s.turn p tag c 0x0116 [] → c.force = true → s.latched = false →
      s.st = stSAFE →
    Completes (.sysReset p tag) s fun t => BootBegun .reset [Reg.SYS_RESET_CAUSE_cmd] s t)
  ∧ (∀ (p : Port) (tag : BitVec 6) (c : Taken) (s : State), s.ready → s.turn p tag c 0x0117 [] → s.latched = false →
      s.getF Reg.SEQ_STAT_table = 0 → s.seq.safeDone = true → (s.flt.stats.any fun x => decide (4 ≤ x.lvl)) = false →
      s.bit Reg.SYS_RUN_STAT_ibex = false → s.bit Reg.SYS_RUN_STAT_activating = false →
    Completes (.sysResume p tag) s fun t => t.st = stSTANDBY ∧ t.bit Reg.SYS_RUN_STAT_safe = false
      ∧ RepliedOk ([Reg.SYS_RUN_STAT_safe, Reg.SYS_RUN_STAT_return_state] ++ stateFields) [] c s t)
  ∧ (∀ (tag : BitVec 6) (g r : Nat) (c : Taken) (s : State), s.ready → s.turn .host tag c 0x0118 (leBytes 2 g ++ leBytes 2 r) → g < 0x8000 → r < 0x8000 →
      Nat.land g r = 0 → c.fits 2 = true → Nat.land r s.leaseFuse = 0 → (s.mbx.taken.all fun x => x.port == .host) = true →
      s.bit Reg.SYS_STATE_host_lost = false → s.granted < 0x8000 →
    Completes (.sysLease .host tag) s fun t => t.granted = Nat.lor s.granted (g - Nat.land g s.leaseFuse) - Nat.land (Nat.lor s.granted (g - Nat.land g s.leaseFuse)) r
      ∧ RepliedOk [Reg.HOST_INT_STAT_lease] (leBytes 2 t.leases) c s t)
  ∧ (∀ (p : Port) (tag : BitVec 6) (m : Nat) (c : Taken) (s : State), s.ready → s.turn p tag c 0x0119 (leBytes 2 m ++ [0, 0]) → m < 0x8000 →
      bitOf m 11 = false → bitOf m 12 = false → c.fits 4 = true → s.sys.vkeepLow = false →
    Completes (.sysSave p tag) s fun t =>
      ((List.range 15).all fun r => !bitOf m r || t.nv.store.contains (r, s.storeRecord r)) = true
      ∧ Replied c sOK (leBytes 4 (Config.freshNat s.free % 65537)) s t ∧ ReplyFrame [] c s t ∧ t.mram = s.mram ∧ t.otp.words = s.otp.words)

/-- A write of 1 with mask 1 to bit c of FLT_ACK, or FLT.ACK naming class c, clears bit c of FLT_UNACK and no status.
FLT_ACK takes the host's writes in every mode, and a side-band write only under a lease on the FLT block. Clearing the
last status of class c, by FLT_SRC or by FLT.CLEAR, clears bit c as well. -/
def Obligations.Acknowledge : Prop :=
  (∀ (a : Accessor) (mask data : Word) (s : State), s.ready → s.opens a 0x3008 →
    Completes (.fltAckWrite a mask data) s fun t =>
      ((List.range 16).all fun c => bitOf (t.getF Reg.FLT_UNACK_unack) c
        == (bitOf (s.getF Reg.FLT_UNACK_unack) c && !(bitOf mask.toNat c && bitOf data.toNat c))) = true
      ∧ t.flt.stats = s.flt.stats ∧ Frame [Reg.FLT_UNACK_unack] s t)
  ∧ (∀ s : State, s.romUp = true → s.sys.vio = true → s.opens .host 0x3008)
  ∧ (∀ (mask data : Word) (s : State), s.ready → s.accUp .side = true → bitOf s.leases 9 = false → mask ≠ 0 →
    Completes (.fltAckWrite .side mask data) s fun t => t.accSide.err = s.accSide.err ||| BitVec.ofNat 16 (2 ^ Reg.REG_ERR_lease.lo)
      ∧ t.flt.stats = s.flt.stats ∧ Frame [] s t)
  ∧ (∀ (p : Port) (tag : BitVec 6) (m : Nat) (c : Taken) (s : State), s.ready → s.turn p tag c 0x0A10 (leBytes 2 m ++ [0, 0]) →
    Completes (.fltAck p tag) s fun t =>
      ((List.range 16).all fun c => bitOf (t.getF Reg.FLT_UNACK_unack) c == (bitOf (s.getF Reg.FLT_UNACK_unack) c && !bitOf m c)) = true
      ∧ t.flt.stats = s.flt.stats ∧ RepliedOk [Reg.FLT_UNACK_unack] [] c s t)
  ∧ (∀ (a : Accessor) (c : Fin 16) (w : Fin 4) (i : Fin 16) (s : State), s.ready → s.opens a (0x3100 + 16 * c.val + 4 * w.val) →
      (s.statusLvl c (16 * w.val + i.val)).isSome = true → s.clearRefused c (16 * w.val + i.val) = false →
      (s.flt.stats.all fun x => x.cls != c.val || x.src == 16 * w.val + i.val) = true →
    Completes (.fltSrcClear a c w (BitVec.ofNat 16 (2 ^ i.val)) (BitVec.ofNat 16 (2 ^ i.val))) s fun t =>
      bitOf (t.getF Reg.FLT_UNACK_unack) c = false ∧ (t.flt.stats.all fun x => x.cls != c.val) = true
      ∧ Frame (clearFields c (16 * w.val + i.val)) s t)
  ∧ (∀ (p : Port) (tag : BitVec 6) (cls : Fin 16) (w : Fin 4) (i : Fin 16) (c : Taken) (s : State), s.ready →
      s.turn p tag c 0x0A11 (leBytes 1 cls ++ [0] ++ (List.range 4).flatMap fun j => leBytes 2 (if j = w.val then 2 ^ i.val else 0)) → c.fits 8 = true →
      (s.statusLvl cls (16 * w.val + i.val)).isSome = true → s.clearRefused cls (16 * w.val + i.val) = false →
      (s.flt.stats.all fun x => x.cls != cls.val || x.src == 16 * w.val + i.val) = true →
    Completes (.fltClear p tag) s fun t =>
      bitOf (t.getF Reg.FLT_UNACK_unack) cls = false ∧ (t.flt.stats.all fun x => x.cls != cls.val) = true
      ∧ RepliedOk (clearFields cls (16 * w.val + i.val)) (padTo 8 []) c s t)

/-- A clear names a source whose cause is present: the bit stays set, the refusal counts and no error is recorded; FLT.CLEAR
answers REFUSED_CAUSE_PRESENT with the bit. A clear of the last status after a port has read FLT_FIRST re-arms the
capture. -/
def Obligations.ClearRefused : Prop :=
  (∀ (a : Accessor) (c : Fin 16) (w : Fin 4) (i : Fin 16) (s : State), s.ready → s.opens a (0x3100 + 16 * c.val + 4 * w.val) →
      (s.statusLvl c (16 * w.val + i.val)).isSome = true → s.clearRefused c (16 * w.val + i.val) = true →
    Completes (.fltSrcClear a c w (BitVec.ofNat 16 (2 ^ i.val)) (BitVec.ofNat 16 (2 ^ i.val))) s fun t =>
      t.flt.stats = s.flt.stats ∧ t.acc a = s.acc a
      ∧ t.getF Reg.FLT_CLR_REFUSED_count = min 255 (s.getF Reg.FLT_CLR_REFUSED_count + 1) ∧ Frame [Reg.FLT_CLR_REFUSED_count] s t)
  ∧ (∀ (p : Port) (tag : BitVec 6) (cls : Fin 16) (w : Fin 4) (i : Fin 16) (c : Taken) (s : State), s.ready →
      s.turn p tag c 0x0A11 (leBytes 1 cls ++ [0] ++ (List.range 4).flatMap fun j => leBytes 2 (if j = w.val then 2 ^ i.val else 0)) → c.fits 8 = true →
      (s.statusLvl cls (16 * w.val + i.val)).isSome = true → s.clearRefused cls (16 * w.val + i.val) = true →
    Completes (.fltClear p tag) s fun t => t.flt.stats = s.flt.stats
      ∧ Replied c sCAUSE ((List.range 4).flatMap fun j => leBytes 2 (if j = w.val then 2 ^ i.val else 0)) s t
      ∧ ReplyFrame [Reg.FLT_CLR_REFUSED_count] c s t ∧ RecordsKept s t)
  ∧ (∀ (a : Accessor) (c : Fin 16) (w : Fin 4) (i : Fin 16) (s : State), s.ready → s.opens a (0x3100 + 16 * c.val + 4 * w.val) →
      s.clearRefused c (16 * w.val + i.val) = false → s.flt.stats.map (fun x => (x.cls, x.src)) = [(c.val, 16 * w.val + i.val)] →
      s.flt.firstRead = true → s.bit Reg.FLT_FIRST_valid = true →
    Completes (.fltSrcClear a c w (BitVec.ofNat 16 (2 ^ i.val)) (BitVec.ofNat 16 (2 ^ i.val))) s fun t =>
      t.flt.stats = [] ∧ t.bit Reg.FLT_FIRST_valid = false ∧ Frame (clearFields c (16 * w.val + i.val)) s t)

/-- Setting FLT_PIN.drive drives the pin. A release during the 1 ms pulse is held to the end of the pulse; outside it the
pin is released at once. The end of a pulse applies a held release, and otherwise leaves the pin to drive. In FAWN and
in BOOT the pin keeps its level. -/
def Obligations.FaultPin : Prop :=
  (∀ (a : Accessor) (s : State), s.ready → s.stIn [stFAWN, stBOOT] = false → s.opens a 0x3004 →
    Completes (.fltPinDriveWrite a 1 1) s fun t => t.bit Reg.FLT_PIN_drive = true ∧ t.bit Reg.FLT_PIN_pin = true
      ∧ Frame [Reg.FLT_PIN_drive, Reg.FLT_PIN_pin] s t)
  ∧ (∀ (p : Port) (tag : BitVec 6) (c : Taken) (s : State), s.ready → s.turn p tag c 0x0A12 [] → s.bit Reg.FLT_PIN_pulse = false → s.stIn [stFAWN, stBOOT] = false →
    Completes (.fltRelease p tag) s fun t => t.bit Reg.FLT_PIN_drive = false ∧ t.bit Reg.FLT_PIN_pin = false
      ∧ RepliedOk [Reg.FLT_PIN_drive, Reg.FLT_PIN_pin] [] c s t)
  ∧ (∀ (p : Port) (tag : BitVec 6) (c : Taken) (s : State), s.ready → s.turn p tag c 0x0A12 [] → s.bit Reg.FLT_PIN_pulse = true →
    Completes (.fltRelease p tag) s fun t => t.flt.releaseHeld = true ∧ RepliedOk [] [] c s t)
  ∧ (∀ s : State, s.ready → s.stIn [stFAWN, stBOOT] = false → s.bit Reg.FLT_PIN_pulse = true → s.flt.releaseHeld = true →
    Completes .faultNPulseEnd s fun t => t.bit Reg.FLT_PIN_pulse = false ∧ t.bit Reg.FLT_PIN_drive = false ∧ t.bit Reg.FLT_PIN_pin = false
      ∧ t.flt.releaseHeld = false ∧ Frame [Reg.FLT_PIN_pulse, Reg.FLT_PIN_drive, Reg.FLT_PIN_pin] s t)
  ∧ (∀ s : State, s.ready → s.stIn [stFAWN, stBOOT] = false → s.bit Reg.FLT_PIN_pulse = true → s.flt.releaseHeld = false →
    Completes .faultNPulseEnd s fun t => t.bit Reg.FLT_PIN_pulse = false ∧ t.bit Reg.FLT_PIN_pin = s.bit Reg.FLT_PIN_drive
      ∧ Frame [Reg.FLT_PIN_pulse, Reg.FLT_PIN_pin] s t)
  ∧ (∀ s : State, s.ready → s.stIn [stFAWN, stBOOT] = true → s.bit Reg.FLT_PIN_pulse = true → s.flt.releaseHeld = false →
    Completes .faultNPulseEnd s fun t => t.bit Reg.FLT_PIN_pulse = false ∧ Frame [Reg.FLT_PIN_pulse] s t)

/-- With no L5 status left, FLT.UNLATCH with the key from the port with authority counts 1; the same again between 10 ms and
5 s later clears the latch and the count. A wrong key is DENIED, sets the count to 0 and draws a new key that is neither
0 nor the old one. While some status stands at L5 it is answered REFUSED_CAUSE_PRESENT, and without a latch NOT_NOW.
Every answer carries the count after the command. -/
def Obligations.Unlatch : Prop :=
  (∀ (p : Port) (tag : BitVec 6) (c : Taken) (s : State), s.ready →
      s.turn p tag c 0x0A13 (leBytes 2 (s.getF Reg.FLT_UNLATCH_KEY_key) ++ [0, 0]) → c.fits 4 = true → s.latched = true → s.fltAuthority c = p →
      (s.flt.stats.any fun x => x.lvl == 5) = false → s.flt.unlatchAt = none →
    Completes (.fltUnlatch p tag) s fun t => t.getF Reg.FLT_LATCH_count = 1 ∧ t.flt.unlatchAt = some (s.time, p) ∧ t.latched = true
      ∧ RepliedOk [Reg.FLT_LATCH_count] [1, 0, 0, 0] c s t)
  ∧ (∀ (p : Port) (tag : BitVec 6) (at1 : Nat) (c : Taken) (s : State), s.ready →
      s.turn p tag c 0x0A13 (leBytes 2 (s.getF Reg.FLT_UNLATCH_KEY_key) ++ [0, 0]) → c.fits 4 = true → s.latched = true → s.fltAuthority c = p →
      (s.flt.stats.any fun x => x.lvl == 5) = false → s.flt.unlatchAt = some (at1, p) → at1 + 10000 ≤ s.time → s.time ≤ at1 + 5000000 →
    Completes (.fltUnlatch p tag) s fun t => t.latched = false ∧ t.getF Reg.FLT_LATCH_count = 0 ∧ t.flt.unlatchAt = none
      ∧ RepliedOk [Reg.FLT_LATCH_count, Reg.FLT_LATCH_latched] [0, 0, 0, 0] c s t)
  ∧ (∀ (p : Port) (tag : BitVec 6) (k : Nat) (c : Taken) (s : State), s.ready → s.turn p tag c 0x0A13 (leBytes 2 k ++ [0, 0]) → c.fits 4 = true →
      s.latched = true → s.fltAuthority c = p → k % 65536 ≠ s.getF Reg.FLT_UNLATCH_KEY_key →
    Completes (.fltUnlatch p tag) s fun t => t.latched = true ∧ t.getF Reg.FLT_LATCH_count = 0 ∧ t.getF Reg.FLT_UNLATCH_KEY_key ≠ 0
      ∧ t.getF Reg.FLT_UNLATCH_KEY_key ≠ s.getF Reg.FLT_UNLATCH_KEY_key ∧ t.flt.unlatchAt = none
      ∧ Replied c sDENIED [0, 0, 0, 0] s t ∧ ReplyFrame [Reg.FLT_LATCH_count, Reg.FLT_UNLATCH_KEY_key] c s t ∧ RecordsKept s t)
  ∧ (∀ (p : Port) (tag : BitVec 6) (c : Taken) (s : State), s.ready →
      s.turn p tag c 0x0A13 (leBytes 2 (s.getF Reg.FLT_UNLATCH_KEY_key) ++ [0, 0]) → c.fits 4 = true → s.latched = true → s.fltAuthority c = p →
      s.flt.unlatchAt = none → (s.flt.stats.any fun x => x.lvl == 5) = true →
    Completes (.fltUnlatch p tag) s fun t => t.latched = true ∧ Replied c sCAUSE (leBytes 1 (s.getF Reg.FLT_LATCH_count) ++ [0, 0, 0]) s t ∧ ReplyFrame [] c s t ∧ RecordsKept s t)
  ∧ (∀ (p : Port) (tag : BitVec 6) (k : Nat) (c : Taken) (s : State), s.ready → s.turn p tag c 0x0A13 (leBytes 2 k ++ [0, 0]) → c.fits 4 = true →
      s.latched = false →
    Completes (.fltUnlatch p tag) s fun t => Replied c sNOT_NOW (leBytes 1 (s.getF Reg.FLT_LATCH_count) ++ [0, 0, 0]) s t ∧ ReplyFrame [] c s t ∧ RecordsKept s t)

/-- GAUGE.SAVE starts a save of cause 7 that its response follows. GAUGE.PROFILE reverts to the built-in profile of the
chosen chemistry. SEQ.EVENT sets bits of SEQ_EVENT. TEL.SNAPSHOT asks for a snapshot that its response follows.
TEL.SLOT_READ returns bytes of a slot. LOG.MARK writes one entry of kind 0x0A. HERD.LIST returns the children of a port.
DIRECT.GRANT and DIRECT.END open and close direct mode. -/
def Obligations.Commands : Prop :=
  (∀ (p : Port) (tag : BitVec 6) (c : Taken) (s : State), s.ready → s.turn p tag c 0x0610 [] → c.fits 4 = true → s.sys.vkeepLow = false →
      s.sys.gaugeAlive = true → s.bit Reg.PATH_STAT_batt_present = true → s.gauge.writing = none →
    Completes (.gaugeSave p tag) s fun t => (t.gauge.writing.map (·.cause)) = some 7
      ∧ (t.mbx.taken.find? fun x => x.port == p && x.tag == tag.toNat) = some { c with wait := .gaugeSave }
      ∧ FrameSave [] [Reg.GAUGE_STORE_a_valid, Reg.GAUGE_STORE_b_valid, Reg.GAUGE_STORE_newest] s t)
  ∧ (∀ (p : Port) (tag : BitVec 6) (c : Taken) (s : State), s.ready →
      s.turn p tag c 0x0611 [1, 0, BitVec.ofNat 8 (s.getF Reg.CHG_CFG_chem), 1] → s.sys.vkeepLow = false →
    Completes (.gaugeProfile p tag) s fun t => t.nv = { s.nv with profile := none } ∧ t.gauge.profileDue = true
      ∧ Replied c sOK [] s t ∧ ReplyFrame [] c s t ∧ t.mram = s.mram)
  ∧ (∀ (p : Port) (tag : BitVec 6) (m : Nat) (c : Taken) (s : State), s.ready → s.turn p tag c 0x0910 (leBytes 2 m ++ [0, 0]) → m < 65536 →
    Completes (.seqEvent p tag) s fun t => t.getF Reg.SEQ_EVENT_ev = Nat.lor (s.getF Reg.SEQ_EVENT_ev) m
      ∧ RepliedOk [Reg.SEQ_EVENT_ev] [] c s t)
  ∧ (∀ (p : Port) (tag : BitVec 6) (y : Nat) (c : Taken) (s : State), s.ready → s.turn p tag c 0x0B10 (leBytes 1 y ++ [0, 0, 0]) → y < 2 → c.fits 8 = true →
    Completes (.telSnapshot p tag) s fun t => t.tel.req = some (y == 1 || s.tel.req == some true)
      ∧ (t.mbx.taken.find? fun x => x.port == p && x.tag == tag.toNat) = some { c with wait := .snapshot } ∧ Frame [] s t)
  ∧ (∀ (p : Port) (tag : BitVec 6) (slot off n : Nat) (c : Taken) (s : State), s.ready →
      s.turn p tag c 0x0B11 (leBytes 1 slot ++ [0] ++ leBytes 2 off ++ leBytes 2 n ++ [0, 0]) → slot < 8 → off % 4 = 0 → n % 4 = 0 → 0 < n →
      off + n ≤ 4096 → c.fits n = true → (s.tel.copies.any fun x => x.slot == some slot) = false →
    Completes (.telSlotRead p tag) s fun t => RepliedOk [] (memRead (mSNAP + 0x1000 * slot + off) n s.mram) c s t)
  ∧ (∀ (p : Port) (tag : BitVec 6) (v : Nat) (c : Taken) (s : State), s.ready → s.turn p tag c 0x0C10 (leBytes 2 v ++ [0, 0]) → v < 65536 →
    Completes (.logMark p tag) s fun t => t.logNext = s.logNext + 1 ∧ t.logKind s.logNext = 0x0A ∧ t.logCode s.logNext = v
      ∧ RepliedOk [] [] c s t)
  ∧ (∀ (p : Port) (tag : BitVec 6) (b : Bool) (c : Taken) (s : State), s.ready → s.turn p tag c 0x1012 (leBytes 1 b.toNat ++ [0, 0, 0]) → c.fits 8 = true →
      s.herdUp b = true →
    Completes (.herdList p tag) s fun t =>
      RepliedOk [] (leBytes 4 (((List.range 32).filter fun i => s.bit (Reg.SB_CHILD_valid ((if b then 32 else 0) + i))).foldl (fun a i => a + 2 ^ i) 0)
        ++ leBytes 1 ((List.range 32).filter fun i => s.bit (Reg.SB_CHILD_valid ((if b then 32 else 0) + i))).length ++ [0, 0, 0]) c s t)
  ∧ (∀ (tag : BitVec 6) (c : Taken) (s : State), s.ready → s.turn .host tag c 0x1110 [] → bitOf (s.safety 0x21) 10 = false →
      s.bit Reg.SYS_STATE_host_lost = false →
    Completes (.directGrant .host tag) s fun t => t.bit Reg.HOST_STAT_direct = true ∧ RepliedOk [Reg.HOST_STAT_direct] [] c s t)
  ∧ (∀ (tag : BitVec 6) (c : Taken) (s : State), s.ready → s.turn .host tag c 0x1111 [] →
    Completes (.directEnd .host tag) s fun t => t.bit Reg.HOST_STAT_direct = false ∧ RepliedOk [Reg.HOST_STAT_direct] [] c s t)

/-- TEL_SNAP_REQ asks for a snapshot, with a copy where copy is written too. LOG_MARK writes an entry. SEQ_EVENT takes its
masked bits. TEL_STR_CTRL.en starts the stream ring empty. SB_DS_POP removes the oldest downstream entry. A change of
CHG_CFG.chem loads the chemistry's defaults. LDOn_VSET takes its setpoint, and a write in ON also moves the target. -/
def Obligations.RegisterRows : Prop :=
  (∀ (a : Accessor) (d : Word) (s : State), s.ready → s.opens a 0x5000 →
    Completes (.telSnapReqWrite a 3 (d ||| 1)) s fun t => t.tel.req = some (d.getLsbD 1 || s.tel.req == some true) ∧ Frame [] s t)
  ∧ (∀ (a : Accessor) (d : Word) (s : State), s.ready → s.opens a 0x6010 →
    Completes (.logMarkWrite a 0xFFFF d) s fun t => FrameLog [] 0x0A d.toNat s t)
  ∧ (∀ (a : Accessor) (m d : Word) (s : State), s.ready → s.opens a 0x400C →
    Completes (.seqEventWrite a m d) s fun t => t.getF Reg.SEQ_EVENT_ev = maskMerge (s.getF Reg.SEQ_EVENT_ev) m.toNat d.toNat
      ∧ Frame [Reg.SEQ_EVENT_ev] s t)
  ∧ (∀ (a : Accessor) (s : State), s.ready → s.opens a 0x5014 → s.bit Reg.TEL_STR_CTRL_en = false →
    Completes (.telStrEnWrite a 1 1) s fun t => t.bit Reg.TEL_STR_CTRL_en = true ∧ t.strFilled = 0 ∧ t.tel.strRounds = []
      ∧ Frame [Reg.TEL_STR_CTRL_en, Reg.TEL_STR_PROD_wrap, Reg.TEL_STR_PROD_off, Reg.TEL_STR_CONS_wrap, Reg.TEL_STR_CONS_off] s t)
  ∧ (∀ (a : Accessor) (e : Nat × Nat) (s : State), s.ready → s.opens a 0x1C038 → s.sb.ds = [e] →
    Completes (.sbDsPopWrite a 1 1) s fun t => t.sb.ds = [] ∧ bitOf (t.getF Reg.SB_REQ_req) rqDOWNSTREAM = false ∧ Frame [Reg.SB_REQ_req] s t)
  ∧ (∀ (a : Accessor) (s : State), s.ready → s.opens a 0x16004 → s.chgPhase = gOFF → s.getF Reg.CHG_CFG_chem = 0 → s.getF Reg.CHG_CFG_cells = 0 →
    Completes (.chgCfgChemWrite a 3 1) s fun t => t.getF Reg.CHG_CFG_chem = 1 ∧ t.getF Reg.CHG_VCV_vcv = 4150 ∧ t.getF Reg.CHG_VPRE_vpre = 3000
      ∧ t.getF Reg.PATH_CUT_v_cut = 3000 ∧ t.gauge.profileDue = true
      ∧ Frame [Reg.CHG_CFG_chem, Reg.CHG_VCV_vcv, Reg.CHG_VPRE_vpre, Reg.PATH_CUT_v_cut, Reg.CHG_TGT_i_tgt, Reg.FE_VSYS_TGT_tgt] s t)
  ∧ (∀ (a : Accessor) (n : Fin 6) (v : Word) (s : State), s.ready → s.opens a (Reg.LDO_VSET_vset n).addr → s.ldoState n ≠ lON →
      (if n.val < 4 then 600 else 1000) ≤ v.toNat → v.toNat ≤ min 3600 (s.ceiling (0x10 + n) 3600) →
    Completes (.ldoVsetWrite a n 0xFFF v) s fun t => t.getF (Reg.LDO_VSET_vset n) = v.toNat ∧ t.ldo n = s.ldo n
      ∧ Frame [Reg.LDO_VSET_vset n] s t)
  ∧ (∀ (a : Accessor) (n : Fin 6) (v : Word) (s : State), s.ready → s.opens a (Reg.LDO_VSET_vset n).addr → s.ldoState n = lON →
      n.val < s.ldos.length → (if n.val < 4 then 600 else 1000) ≤ v.toNat → v.toNat ≤ min 3600 (s.ceiling (0x10 + n) 3600) →
    Completes (.ldoVsetWrite a n 0xFFF v) s fun t => t.getF (Reg.LDO_VSET_vset n) = v.toNat ∧ (t.ldo n).target = v.toNat
      ∧ Frame [Reg.LDO_VSET_vset n] s t)

/-- Setting RAILk_CTRL.en starts a grouped rail that has coefficients at its sense check. Clearing it turns a rail without
soft stop off, and starts the ramp down of one with it. Setting ISOn_CTRL.en puts the channel into the start queue,
clearing it turns the channel off. Setting LDOn_CTRL.en starts the ramp, clearing it turns the LDO off. FE_CTRL.fwd_en
is set and cleared, and starts and stops nothing while ISW is open and the front end off; PATH_CTRL.isw_en is cleared,
and opens nothing where ISW is open and the path in OPEN. CHG_CTRL.en takes the charger from OFF to QUAL and from any
phase to OFF. -/
def Obligations.EnableWrites : Prop :=
  (∀ (a : Accessor) (k : Fin 8) (s : State), s.ready → s.opens a (Reg.RAIL_CTRL_en k).addr → s.outRuns 0 8 k = true → s.bit (Reg.RAIL_CTRL_en k) = false →
      s.railState k = rOFF → s.bit (Reg.RAIL_GROUP_valid k) = true → s.getF (Reg.RAIL_FI_fi k) ≠ 0 → s.age.testing = [] → k.val < s.rails.length →
    Completes (.railEnSet a k) s fun t => t.bit (Reg.RAIL_CTRL_en k) = true ∧ t.railState k = rRAMP ∧ (t.rail k).start = .sense
      ∧ t.getF (Reg.RAIL_STAT2_retry_cnt k) = 0
      ∧ Frame ([Reg.RAIL_CTRL_en k, Reg.RAIL_STAT_state k, Reg.RAIL_STAT_prebias k, Reg.RAIL_STAT_sense_open k, Reg.RAIL_STAT2_retry_cnt k] ++ groupFields) s t)
  ∧ (∀ (a : Accessor) (k : Fin 8) (s : State), s.ready → s.opens a (Reg.RAIL_CTRL_en k).addr → (s.railState k = rON ∨ s.railState k = rRAMP) →
      s.bit (Reg.RAIL_CTRL_soft_stop k) = false → s.age.testing = [] →
    Completes (.railEnClear a k) s fun t => t.bit (Reg.RAIL_CTRL_en k) = false ∧ t.railState k = rOFF ∧ t.getF (Reg.RAIL_STAT_n_active k) = 0
      ∧ Frame (Reg.RAIL_CTRL_en k :: s.railOffFields k ++ groupFields) s t)
  ∧ (∀ (a : Accessor) (k : Fin 8) (s : State), s.ready → s.opens a (Reg.RAIL_CTRL_en k).addr → (s.railState k = rON ∨ s.railState k = rRAMP) →
      s.bit (Reg.RAIL_CTRL_soft_stop k) = true → s.age.testing = [] →
    Completes (.railEnClear a k) s fun t => t.bit (Reg.RAIL_CTRL_en k) = false ∧ t.railState k = rSTOPPING
      ∧ t.getF (Reg.RAIL_TGT_v_tgt k) = s.getF (Reg.RAIL_TGT_v_tgt k)
      ∧ Frame (Reg.RAIL_CTRL_en k :: s.railOffFields k ++ groupFields) s t)
  ∧ (∀ (a : Accessor) (n : Fin 12) (s : State), s.ready → s.opens a (Reg.ISO_CTRL_en n).addr → s.outRuns 2 12 n = true → s.bit (Reg.ISO_CTRL_en n) = false →
      s.isoState n = iOFF → s.present cISO 12 0 = false →
    Completes (.isoEnSet a n) s fun t => t.bit (Reg.ISO_CTRL_en n) = true ∧ t.isoState n = iWAIT
      ∧ t.isoQueue = s.isoQueue.filter (fun j => j != n.val) ++ [n.val] ∧ Frame (Reg.ISO_CTRL_en n :: isoFields n) s t)
  ∧ (∀ (a : Accessor) (n : Fin 12) (s : State), s.ready → s.opens a (Reg.ISO_CTRL_en n).addr → s.isoState n ≠ iLOCKED →
    Completes (.isoEnClear a n) s fun t => t.bit (Reg.ISO_CTRL_en n) = false ∧ t.isoState n = iOFF ∧ Frame (Reg.ISO_CTRL_en n :: isoFields n) s t)
  ∧ (∀ (a : Accessor) (n : Fin 6) (s : State), s.ready → s.opens a (Reg.LDO_CTRL_en n).addr → s.outRuns 1 6 n = true → s.bit (Reg.LDO_CTRL_en n) = false →
      s.ldoState n = lOFF →
    Completes (.ldoEnSet a n) s fun t => t.bit (Reg.LDO_CTRL_en n) = true ∧ t.ldoState n = lRAMP
      ∧ Frame [Reg.LDO_CTRL_en n, Reg.LDO_STAT_state n] s t)
  ∧ (∀ (a : Accessor) (n : Fin 6) (s : State), s.ready → s.opens a (Reg.LDO_CTRL_en n).addr → s.ldoState n ≠ lLOCKED →
    Completes (.ldoEnClear a n) s fun t => t.bit (Reg.LDO_CTRL_en n) = false ∧ t.ldoState n = lOFF ∧ Frame (Reg.LDO_CTRL_en n :: ldoFields n) s t)
  ∧ (∀ (a : Accessor) (s : State), s.ready → s.opens a Reg.FE_CTRL_fwd_en.addr → s.latched = false → s.feState = feOFF →
      s.bit Reg.PATH_STAT_isw_closed = false →
    Completes (.feFwdEnSet a) s fun t => t.bit Reg.FE_CTRL_fwd_en = true ∧ t.feState = feOFF ∧ Frame [Reg.FE_CTRL_fwd_en] s t)
  ∧ (∀ (a : Accessor) (s : State), s.ready → s.opens a Reg.FE_CTRL_fwd_en.addr → s.feState = feOFF →
    Completes (.feFwdEnClear a) s fun t => t.bit Reg.FE_CTRL_fwd_en = false ∧ t.feState = feOFF ∧ Frame [Reg.FE_CTRL_fwd_en] s t)
  ∧ (∀ (a : Accessor) (s : State), s.ready → s.opens a Reg.PATH_CTRL_isw_en.addr → s.pathMode = pOPEN → s.bit Reg.PATH_STAT_isw_closed = false →
      s.path.closing = none →
    Completes (.iswEnClear a) s fun t => t.bit Reg.PATH_CTRL_isw_en = false ∧ t.pathMode = pOPEN ∧ Frame [Reg.PATH_CTRL_isw_en] s t)
  ∧ (∀ (a : Accessor) (s : State), s.ready → s.opens a Reg.CHG_CTRL_en.addr → s.latched = false → s.bit Reg.CHG_CTRL_en = false → s.chgPhase = gOFF →
      s.service = true → s.suspended = false → s.chgBarred = false →
    Completes (.chgEnSet a) s fun t => t.bit Reg.CHG_CTRL_en = true ∧ t.chgPhase = gQUAL ∧ Frame (Reg.CHG_CTRL_en :: chgFields) s t)
  ∧ (∀ (a : Accessor) (s : State), s.ready → s.opens a Reg.CHG_CTRL_en.addr →
    Completes (.chgEnClear a) s fun t => t.bit Reg.CHG_CTRL_en = false ∧ t.chgPhase = gOFF ∧ Frame (Reg.CHG_CTRL_en :: chgFields) s t)

/-- Setting FE_CTRL.fwd_en with ISW closed, VBUS above its threshold and no FE status starts the front end; clearing it
starts the ramp down. Clearing PATH_CTRL.isw_en in BUS, where no hold-up follows, opens ISW and stops the front end.
Setting CHG_CTRL.en takes the charger to QUAL, or in the same cycle to FAULT while a cause or the cut-off stands, or to
SUSPEND while a reason holds; clearing it turns the charger off. With the L5 latch set a write that sets fwd_en,
CHG_CTRL.en or an enable of a rail, an LDO or an ISO channel is refused with limit. -/
def Obligations.PowerEnables : Prop :=
  (∀ (a : Accessor) (s : State), s.ready → s.opens a Reg.FE_CTRL_fwd_en.addr → s.latched = false → s.feState = feOFF →
      s.bit Reg.PATH_STAT_isw_closed = true → s.pathMode = pBUS → s.service = true → s.live = true → s.sys.sleep = none →
      (s.getF Reg.FE_VBUS_uv * 100 + 500 : Int) ≤ s.mv2 34 → (s.flt.stats.any fun x => x.cls == cFE) = false → s.getF (Reg.FE_FI_fi 0) ≠ 0 →
    Completes (.feFwdEnSet a) s fun t => t.bit Reg.FE_CTRL_fwd_en = true ∧ t.feState = feFWD_START
      ∧ t.getF Reg.FE_STAT_region = startRegion (clampVsys (s.mv2 33 / 10)) (s.mv2 34 / 10)
      ∧ Frame ([Reg.FE_CTRL_fwd_en, Reg.FE_STAT_region] ++ feFields ++ chgFields) s t)
  ∧ (∀ (a : Accessor) (s : State), s.ready → s.opens a Reg.FE_CTRL_fwd_en.addr → s.feIn [feFWD_START, feFWD] = true →
    Completes (.feFwdEnClear a) s fun t => t.bit Reg.FE_CTRL_fwd_en = false ∧ t.feState = feSTOPPING
      ∧ Frame (Reg.FE_CTRL_fwd_en :: feFields ++ chgFields) s t)
  ∧ (∀ (a : Accessor) (s : State), s.ready → s.opens a Reg.PATH_CTRL_isw_en.addr → s.bit Reg.PATH_CTRL_isw_en = true → s.pathMode = pBUS →
      s.holdsUp = false → s.bit Reg.SYS_RUN_STAT_ibex = false → s.feIn [feFWD_START, feFWD] = true →
    Completes (.iswEnClear a) s fun t => t.bit Reg.PATH_CTRL_isw_en = false ∧ t.bit Reg.PATH_STAT_isw_closed = false ∧ t.pathMode = pOPEN
      ∧ t.feState = feOFF ∧ t.bit Reg.PATH_STAT_dwell = true ∧ t.bit Reg.PATH_STAT_vbus_qual = false
      ∧ FrameLog ([Reg.PATH_CTRL_isw_en, Reg.PATH_STAT_vbus_qual, Reg.PATH_STAT_isw_closed, Reg.PATH_STAT_mode, Reg.PATH_STAT_dwell, Reg.PATH_EVT_handovers] ++ feFields ++ chgFields)
          6 pHANDOVER s t)
  ∧ (∀ (a : Accessor) (s : State), s.ready → s.opens a Reg.CHG_CTRL_en.addr → s.latched = false → s.bit Reg.CHG_CTRL_en = false → s.chgPhase = gOFF →
      s.service = true → s.chgBarred = false → s.suspended = false →
    Completes (.chgEnSet a) s fun t => t.bit Reg.CHG_CTRL_en = true ∧ t.chgPhase = gQUAL ∧ Frame (Reg.CHG_CTRL_en :: chgFields) s t)
  ∧ (∀ (a : Accessor) (s : State), s.ready → s.opens a Reg.CHG_CTRL_en.addr → s.latched = false → s.bit Reg.CHG_CTRL_en = false → s.chgPhase = gOFF →
      s.service = true → s.chgBarred = false → s.suspended = true →
    Completes (.chgEnSet a) s fun t => t.bit Reg.CHG_CTRL_en = true ∧ t.chgPhase = gSUSPEND ∧ Frame (Reg.CHG_CTRL_en :: chgFields) s t)
  ∧ (∀ (a : Accessor) (s : State), s.ready → s.opens a Reg.CHG_CTRL_en.addr → s.latched = false → s.bit Reg.CHG_CTRL_en = false → s.chgPhase = gOFF →
      s.service = true → s.chgBarred = true →
    Completes (.chgEnSet a) s fun t => t.bit Reg.CHG_CTRL_en = true ∧ t.chgPhase = gFAULT ∧ Frame (Reg.CHG_CTRL_en :: chgFields) s t)
  ∧ (∀ (a : Accessor) (s : State), s.ready → s.opens a Reg.CHG_CTRL_en.addr →
    Completes (.chgEnClear a) s fun t => t.bit Reg.CHG_CTRL_en = false ∧ t.chgPhase = gOFF ∧ Frame (Reg.CHG_CTRL_en :: chgFields) s t)
  ∧ (∀ (a : Accessor) (s : State), s.ready → s.opens a Reg.FE_CTRL_fwd_en.addr → s.latched = true →
    Completes (.feFwdEnSet a) s fun t => (t.acc a).err = (s.acc a).err ||| BitVec.ofNat 16 (2 ^ Reg.REG_ERR_limit.lo) ∧ Frame [] s t)
  ∧ (∀ (a : Accessor) (s : State), s.ready → s.opens a Reg.CHG_CTRL_en.addr → s.latched = true →
    Completes (.chgEnSet a) s fun t => (t.acc a).err = (s.acc a).err ||| BitVec.ofNat 16 (2 ^ Reg.REG_ERR_limit.lo) ∧ Frame [] s t)
  ∧ (∀ (a : Accessor) (k : Fin 8) (s : State), s.ready → s.opens a (Reg.RAIL_CTRL_en k).addr → s.latched = true →
    Completes (.railEnSet a k) s fun t => (t.acc a).err = (s.acc a).err ||| BitVec.ofNat 16 (2 ^ Reg.REG_ERR_limit.lo) ∧ Frame [] s t)
  ∧ (∀ (a : Accessor) (n : Fin 6) (s : State), s.ready → s.opens a (Reg.LDO_CTRL_en n).addr → s.latched = true →
    Completes (.ldoEnSet a n) s fun t => (t.acc a).err = (s.acc a).err ||| BitVec.ofNat 16 (2 ^ Reg.REG_ERR_limit.lo) ∧ Frame [] s t)
  ∧ (∀ (a : Accessor) (n : Fin 12) (s : State), s.ready → s.opens a (Reg.ISO_CTRL_en n).addr → s.latched = true →
    Completes (.isoEnSet a n) s fun t => (t.acc a).err = (s.acc a).err ||| BitVec.ofNat 16 (2 ^ Reg.REG_ERR_limit.lo) ∧ Frame [] s t)

/-- The sense check of a start with closed sense lines brings every phase in service and starts the ramp at the pre-bias, or
enters ON at once where the output already stands at the setpoint. The end of the ramp enters ON with V_tgt at the
setpoint. The soft-start check passes at 20% of the setpoint; below it the rail enters HICCUP and counts a retry, and
the hiccup ends in a new start. The end of a soft stop turns the rail off. A rail locked off whose sources are free goes
to OFF once its enable is 0. -/
def Obligations.RailStart : Prop :=
  (∀ (k : Fin 8) (vpb : Nat) (s : State), s.ready → s.railState k = rRAMP → (s.rail k).start = .sense → vpb < s.getF (Reg.RAIL_VSET_vset k) →
    Completes (.railSenseCheck k false vpb) s fun t => t.railState k = rRAMP ∧ (t.rail k).start = .ramp
      ∧ t.bit (Reg.RAIL_STAT_prebias k) = decide (s.getF (Reg.RAIL_VSET_vset k) ≤ 50 * vpb)
      ∧ t.getF (Reg.RAIL_TGT_v_tgt k) = (if s.getF (Reg.RAIL_VSET_vset k) ≤ 50 * vpb then vpb else 0)
      ∧ t.getF (Reg.RAIL_STAT_n_active k) = (s.servicePhases k).length
      ∧ ((s.servicePhases k).all fun n => t.bit (Reg.POL_PH_STAT_switching n)) = true
      ∧ Frame ([Reg.RAIL_STAT_prebias k, Reg.RAIL_TGT_v_tgt k] ++ s.phaseFields k) s t)
  ∧ (∀ (k : Fin 8) (vpb : Nat) (s : State), s.ready → s.railState k = rRAMP → (s.rail k).start = .sense →
      s.getF (Reg.RAIL_VSET_vset k) ≤ vpb → s.getF (Reg.RAIL_VSET_vset k) ≤ 50 * vpb →
    Completes (.railSenseCheck k false vpb) s fun t => t.railState k = rON ∧ t.bit (Reg.RAIL_STAT_prebias k) = true
      ∧ t.getF (Reg.RAIL_TGT_v_tgt k) = s.getF (Reg.RAIL_VSET_vset k)
      ∧ Frame ([Reg.RAIL_STAT_state k, Reg.RAIL_STAT_prebias k, Reg.RAIL_TGT_v_tgt k] ++ s.phaseFields k) s t)
  ∧ (∀ (k : Fin 8) (v : Nat) (s : State), s.ready → s.railState k = rRAMP → (s.rail k).start = .ramp → s.getF (Reg.RAIL_VSET_vset k) ≤ 5 * v →
    Completes (.railSoftstartCheck k v) s fun t => (t.rail k).start = .checked ∧ Frame [] s t)
  ∧ (∀ (k : Fin 8) (v : Nat) (s : State), s.ready → s.railState k = rRAMP → (s.rail k).start = .ramp → 5 * v < s.getF (Reg.RAIL_VSET_vset k) →
      s.getF (Reg.RAIL_STAT2_retry_cnt k) < s.getF (Reg.RAIL_PROT_retries k) → s.getF (Reg.RAIL_PROT_retries k) < 8 →
    Completes (.railSoftstartCheck k v) s fun t => t.railState k = rHICCUP
      ∧ t.getF (Reg.RAIL_STAT2_retry_cnt k) = s.getF (Reg.RAIL_STAT2_retry_cnt k) + 1
      ∧ Frame (Reg.RAIL_STAT2_retry_cnt k :: s.railOffFields k) s t)
  ∧ (∀ (k : Fin 8) (s : State), s.ready → s.railState k = rHICCUP →
    Completes (.railHiccupRestart k) s fun t => t.railState k = rRAMP ∧ t.getF (Reg.RAIL_STAT2_retry_cnt k) = s.getF (Reg.RAIL_STAT2_retry_cnt k)
      ∧ Frame [Reg.RAIL_STAT_state k, Reg.RAIL_STAT_prebias k, Reg.RAIL_STAT_sense_open k, Reg.RAIL_LOOP_STAT_stale k] s t)
  ∧ (∀ (k : Fin 8) (s : State), s.ready → s.railState k = rRAMP → ((s.rail k).start = .ramp ∨ (s.rail k).start = .checked) →
    Completes (.railRampComplete k) s fun t => t.railState k = rON ∧ t.getF (Reg.RAIL_TGT_v_tgt k) = s.getF (Reg.RAIL_VSET_vset k)
      ∧ Frame [Reg.RAIL_STAT_state k, Reg.RAIL_TGT_v_tgt k] s t)
  ∧ (∀ (k : Fin 8) (s : State), s.ready → s.railState k = rSTOPPING →
    Completes (.railSoftStopDone k) s fun t => t.railState k = rOFF ∧ t.getF (Reg.RAIL_TGT_v_tgt k) = 0 ∧ Frame (s.railOffFields k) s t)
  ∧ (∀ (k : Fin 8) (s : State), s.ready → s.railState k = rLOCKED → s.bit (Reg.RAIL_CTRL_en k) = false → s.bit (Reg.RAIL_DYN_ovclamp k) = false →
      s.railFree k = true →
    Completes (.railUnlock k) s fun t => t.railState k = rOFF ∧ Frame (s.railOffFields k) s t)

/-- Open sense lines at the start, coefficients that never arrive, and a soft start that fails with no retry left lock the
rail off and raise its class at L3, where no event of the class is unacknowledged. Pulses that end at the effective peak
limit of R143, and not ones below it, raise RAILI at L1 in ON. The end of the over-voltage clamp locks the rail off. -/
def Obligations.RailLocks : Prop :=
  (∀ (k : Fin 8) (vpb : Nat) (s : State), s.ready → s.romUp = true → s.railState k = rRAMP → (s.rail k).start = .sense → s.fresh cRAILV →
      s.groupOf k = 0 →
    Completes (.railSenseCheck k true vpb) s fun t => t.railState k = rLOCKED ∧ t.bit (Reg.RAIL_STAT_sense_open k) = true ∧ Noted cRAILV k 3 t
      ∧ FrameLog (Reg.RAIL_STAT_sense_open k :: s.railOffFields k ++ lowFields cRAILV k) 1 (evCode cRAILV k 3) s t)
  ∧ (∀ (k : Fin 8) (s : State), s.ready → s.romUp = true → (s.rail k).waitCoeff = true → s.fresh cRAILV → s.groupOf k = 0 →
    Completes (.railCoeffTimeout k) s fun t => t.railState k = rLOCKED ∧ (t.rail k).waitCoeff = false ∧ Noted cRAILV k 3 t
      ∧ FrameLog (s.railOffFields k ++ lowFields cRAILV k) 1 (evCode cRAILV k 3) s t)
  ∧ (∀ (k : Fin 8) (v : Nat) (s : State), s.ready → s.romUp = true → s.railState k = rRAMP → (s.rail k).start = .ramp →
      5 * v < s.getF (Reg.RAIL_VSET_vset k) → s.getF (Reg.RAIL_STAT2_retry_cnt k) = s.getF (Reg.RAIL_PROT_retries k) → s.fresh cRAILI → s.groupOf k = 0 →
    Completes (.railSoftstartCheck k v) s fun t => t.railState k = rLOCKED ∧ Noted cRAILI k 3 t
      ∧ FrameLog (s.railOffFields k ++ lowFields cRAILI k) 1 (evCode cRAILI k 3) s t)
  ∧ (∀ (k : Fin 8) (mA mV : Nat) (s : State), s.ready → s.romUp = true → s.railState k = rON → s.railLimit k mV ≤ (mA : Rat) / 1000 → s.present cRAILI k 1 = false →
    Completes (.railIlimSustained ⟨k, mA, mV⟩) s fun t => t.bit (Reg.RAIL_DYN_ilim_active k) = true ∧ t.present cRAILI k 1 = true ∧ Noted cRAILI k 1 t
      ∧ FrameLog (Reg.RAIL_DYN_ilim_active k :: noteFields) 1 (evCode cRAILI k 1) s t)
  ∧ (∀ (k : Fin 8) (mA mV : Nat) (s : State), s.ready → (mA : Rat) / 1000 < s.railLimit k mV → Completes (.railIlimSustained ⟨k, mA, mV⟩) s fun t => t.flt = s.flt ∧ Frame [] s t)
  ∧ (∀ (k : Fin 8) (s : State), s.ready → s.bit (Reg.RAIL_DYN_ovclamp k) = true →
    Completes (.railClampEnd k) s fun t => t.bit (Reg.RAIL_DYN_ovclamp k) = false ∧ t.railState k = rLOCKED
      ∧ Frame (Reg.RAIL_DYN_ovclamp k :: s.railOffFields k) s t)

/-- A setpoint move ends with V_tgt at the setpoint. A phase that ramps out stops switching. A load step, which either
criterion of R138 fires, brings n_max phases in, keeps one that was ramping out, counts and inhibits shedding until the
inhibit ends. An LDA pin that asserts announces every mapped rail that is ON; its deassertion, or 20 us, takes the
offset it announced out of V_tgt, and 2 ms after the last mapped pin the announce ends. LDA pins are ignored while VIO
is low. -/
def Obligations.RailDynamics : Prop :=
  (∀ (k : Fin 8) (s : State), s.ready → (s.rail k).move = true → (s.rail k).offset = 0 →
    Completes (.railSetpointMoveEnd k) s fun t => t.getF (Reg.RAIL_TGT_v_tgt k) = s.getF (Reg.RAIL_VSET_vset k) ∧ (t.rail k).move = false
      ∧ Frame [Reg.RAIL_TGT_v_tgt k] s t)
  ∧ (∀ (n : Fin 16) (k : Fin 8) (s : State), s.ready → s.railOf n = some k.val → (s.rail k).rampOut = some n.val → 0 < s.getF (Reg.RAIL_STAT_n_active k) →
    Completes (.phaseRampOutDone (.pol n)) s fun t => t.bit (Reg.POL_PH_STAT_switching n) = false
      ∧ t.getF (Reg.RAIL_STAT_n_active k) = s.getF (Reg.RAIL_STAT_n_active k) - 1 ∧ t.bit (Reg.RAIL_DYN_ramp_out k) = false
      ∧ Frame [Reg.POL_PH_STAT_switching n, Reg.RAIL_STAT_n_active k, Reg.RAIL_DYN_ramp_out k, Reg.RAIL_STAT_regime k] s t)
  ∧ (∀ s : State, s.ready → s.fe.rampOut = true → 0 < s.getF Reg.FE_STAT_n_active →
    Completes (.phaseRampOutDone .fe) s fun t => t.getF Reg.FE_STAT_n_active = s.getF Reg.FE_STAT_n_active - 1 ∧ Frame [Reg.FE_STAT_n_active] s t)
  ∧ (∀ (k : Fin 8) (e : Bool) (x : Nat) (s : State), s.ready → s.railState k = rON → (s.rail k).hold0 = false → s.age.testing = [] → s.stepSeen k e x = true →
    Completes (.loadStepFire ⟨k, e, x⟩) s fun t => t.bit (Reg.RAIL_DYN_inhibit k) = true
      ∧ t.getF (Reg.RAIL_STAT_n_active k) = min (max (s.getF (Reg.RAIL_STAT_n_active k)) (s.nMax k)) (s.servicePhases k).length
      ∧ ((s.phasesOf k).all fun n => !t.bit (Reg.POL_PH_STAT_de n)) = true
      ∧ t.getF (Reg.RAIL_EVT_step_cnt k) = min 255 (s.getF (Reg.RAIL_EVT_step_cnt k) + 1) ∧ t.bit (Reg.RAIL_DYN_ann_offset k) = false
      ∧ Frame ([Reg.RAIL_DYN_inhibit k, Reg.RAIL_EVT_step_cnt k, Reg.RAIL_DYN_ann_offset k, Reg.RAIL_TGT_v_tgt k] ++ s.phaseFields k) s t)
  ∧ (∀ (k : Fin 8) (e : Bool) (x : Nat) (s : State), s.ready → s.stepSeen k e x = false → Completes (.loadStepFire ⟨k, e, x⟩) s fun t => Frame [] s t)
  ∧ (∀ (k : Fin 8) (s : State), s.ready →
    Completes (.shedInhibitEnd k) s fun t => t.bit (Reg.RAIL_DYN_inhibit k) = false ∧ Frame [Reg.RAIL_DYN_inhibit k] s t)
  ∧ (∀ (i : Fin 4) (s : State), s.ready → s.sys.vio = true → bitOf s.sys.lda i = false → s.age.testing = [] →
    Completes (.ldaAssert i) s fun t => bitOf t.sys.lda i = true ∧
      ((List.range 8).all fun k => !(s.railState k == rON && bitOf (s.getF (Reg.RAIL_LDA_map k)) i)
        || (t.bit (Reg.RAIL_STAT_announce k) && t.getF (Reg.RAIL_EVT_ann_cnt k) == min 255 (s.getF (Reg.RAIL_EVT_ann_cnt k) + 1))) = true
      ∧ Frame (((List.range 8).filter fun k => s.railState k == rON && bitOf (s.getF (Reg.RAIL_LDA_map k)) i).flatMap fun k =>
          [Reg.RAIL_STAT_announce k, Reg.RAIL_EVT_ann_cnt k, Reg.RAIL_DYN_ann_offset k, Reg.RAIL_TGT_v_tgt k] ++ s.phaseFields k) s t)
  ∧ (∀ (i : Fin 4) (s : State), s.ready → s.sys.vio = false → Completes (.ldaAssert i) s fun t => Frame [] s t)
  ∧ (∀ (i : Fin 4) (s : State), s.ready →
    Completes (.ldaDeassert i) s fun t => bitOf t.sys.lda i = false
      ∧ ((List.range 8).all fun k => (s.rail k).annPin != some i.val || !t.bit (Reg.RAIL_DYN_ann_offset k)) = true
      ∧ Frame (((List.range 8).filter fun k => (s.rail k).annPin == some i.val).flatMap fun k => [Reg.RAIL_DYN_ann_offset k, Reg.RAIL_TGT_v_tgt k]) s t)
  ∧ (∀ (k : Fin 8) (s : State), s.ready → s.bit (Reg.RAIL_DYN_ann_offset k) = true →
    Completes (.announceOffsetReturn k) s fun t => t.bit (Reg.RAIL_DYN_ann_offset k) = false
      ∧ t.getF (Reg.RAIL_TGT_v_tgt k) = (s.getF (Reg.RAIL_TGT_v_tgt k) - (s.rail k).offset) % 2 ^ (Reg.RAIL_TGT_v_tgt k).w
      ∧ Frame [Reg.RAIL_DYN_ann_offset k, Reg.RAIL_TGT_v_tgt k] s t)
  ∧ (∀ (k : Fin 8) (s : State), s.ready → Nat.land s.sys.lda (s.getF (Reg.RAIL_LDA_map k)) = 0 →
    Completes (.announceEnd k) s fun t => t.bit (Reg.RAIL_STAT_announce k) = false ∧ Frame [Reg.RAIL_STAT_announce k] s t)

/-- The derivation for a stopped rail with phases in service takes the crossover, clamped, at a tenth as its integrator
frequency, makes the four coefficients live together with one commit entry, and ends stale. The front end's derivation,
stopped, does so for both of its sets. In direct-loop mode neither changes anything. -/
def Obligations.LoopDerivations : Prop :=
  (∀ (k : Fin 8) (fi : Nat) (s : State), s.ready → s.bit (Reg.RAIL_CTRL_direct_loop k) = false → s.bit Reg.SYS_STATE_ctl_lost = false →
      (s.servicePhases k).length ≠ 0 → s.railStopped k = true → s.staged = [] → s.bit (holdF (.rail k)) = false → (s.rail k).waitCoeff = false →
      (fi : Rat) = 10 * (clampFc (if s.getF (Reg.RAIL_LOOP_fc k) = 0 then (s.railKhz k : Rat) / 10 else s.getF (Reg.RAIL_LOOP_fc k)) 5
        (min ((s.railKhz k : Rat) / 5) 200)).1 →
    Completes (.loopDerivation k) s fun t => t.getF (Reg.RAIL_FI_fi k) = fi ∧ t.bit (Reg.RAIL_LOOP_STAT_stale k) = false ∧ t.staged = []
      ∧ FrameLog [Reg.RAIL_KP_kp k, Reg.RAIL_FI_fi k, Reg.RAIL_FZ_fz k, Reg.RAIL_FP_fp k, Reg.RAIL_LOOP_STAT_stale k, Reg.RAIL_LOOP_STAT_fc_clamped k,
          Reg.RAIL_LOOP_STAT_infeasible k, Reg.RAIL_LOOP_STAT_pm_ach k, Reg.RAIL_LOOP_STAT_src k, pendingF (.rail k)] 3 (0x1100 + 0x10 * k) s t)
  ∧ (∀ (k : Fin 8) (s : State), s.ready → s.bit (Reg.RAIL_CTRL_direct_loop k) = true →
    Completes (.loopDerivation k) s fun t => t.staged = s.staged ∧ Frame [] s t)
  ∧ (∀ s : State, s.ready → s.bit Reg.FE_CTRL_direct_loop = false → s.bit Reg.SYS_STATE_ctl_lost = false → s.feStopped = true → s.feService ≠ 0 →
      s.staged = [] → s.bit (holdF .fe) = false →
    Completes .feDerivation s fun t => t.bit (Reg.FE_LOOP_STAT_stale 0) = false ∧ t.bit (Reg.FE_LOOP_STAT_stale 1) = false ∧ t.staged = []
      ∧ FrameLog (pendingF .fe :: [0, 1].flatMap fun f => [Reg.FE_KP_kp f, Reg.FE_FI_fi f, Reg.FE_FZ_fz f, Reg.FE_FP_fp f, Reg.FE_LOOP_STAT_stale f,
          Reg.FE_LOOP_STAT_fc_clamped f, Reg.FE_LOOP_STAT_infeasible f, Reg.FE_LOOP_STAT_pm_ach f, Reg.FE_LOOP_STAT_src f]) 3 0x1400 s t)
  ∧ (∀ s : State, s.ready → s.bit Reg.FE_CTRL_direct_loop = true → Completes .feDerivation s fun t => t.staged = s.staged ∧ Frame [] s t)

/-- The first channel of the start queue goes to soft start, and its end to ON. A fall of the ISO supply pauses every
channel that runs or waits and raises ISO at L1; its return queues the paused channels in ascending order. A secondary
short, an overload or an open winding of a channel in ON locks it off with its detail bit and raises ISO at L3, where no
event of the class is unacknowledged. A locked channel whose status is clear goes to OFF once its enable is 0. -/
def Obligations.IsoRows : Prop :=
  (∀ (n : Fin 12) (rest : List Nat) (s : State), s.ready → s.isoQueue = n.val :: rest →
    Completes .isoQueueStart s fun t => t.isoState n = iSS ∧ t.isoQueue = rest.filter (fun j => j != n.val) ∧ Frame (isoFields n) s t)
  ∧ (∀ (n : Fin 12) (s : State), s.ready → s.isoState n = iSS →
    Completes (.isoSoftstartDone n) s fun t => t.isoState n = iON ∧ Frame [Reg.ISO_STAT_state n, Reg.SYS_BOOT_STAT_early_up] s t)
  ∧ (∀ s : State, s.ready → s.romUp = true → s.present cISO 12 0 = false →
    Completes .isopwrUndervoltage s fun t => ((s.isoIn [iWAIT, iSS, iON]).all fun n => t.isoState n == iPAUSED) = true ∧ Noted cISO 12 1 t
      ∧ t.present cISO 12 0 = true
      ∧ FrameLog ((s.isoIn [iWAIT, iSS, iON]).flatMap isoFields ++ noteFields) 1 (evCode cISO 12 1) s t)
  ∧ (∀ s : State, s.ready → (s.isoQueue.all fun n => s.isoState n == iWAIT) = true →
    Completes .isopwrRestored s fun t => t.isoQueue = s.isoQueue ++ s.isoIn [iPAUSED] ∧ t.present cISO 12 0 = false
      ∧ ((s.isoIn [iPAUSED]).all fun n => t.isoState n == iWAIT) = true ∧ Frame ((s.isoIn [iPAUSED]).flatMap isoFields) s t)
  ∧ (∀ (n : Fin 12) (s : State), s.ready → s.romUp = true → s.isoState n = iON → s.fresh cISO → s.groupOf (14 + n) = 0 →
    Completes (.isoSecondaryShort n) s fun t => t.isoState n = iLOCKED ∧ t.bit (Reg.ISO_FLT_short n) = true ∧ Noted cISO n 3 t
      ∧ FrameLog (Reg.ISO_FLT_short n :: isoFields n ++ judgedFields) 1 (evCode cISO n 3) s t)
  ∧ (∀ (n : Fin 12) (s : State), s.ready → s.romUp = true → s.isoState n = iON → s.fresh cISO → s.groupOf (14 + n) = 0 →
    Completes (.isoOverload n) s fun t => t.isoState n = iLOCKED ∧ t.bit (Reg.ISO_FLT_ovl n) = true ∧ Noted cISO n 3 t
      ∧ FrameLog (Reg.ISO_FLT_ovl n :: isoFields n ++ judgedFields) 1 (evCode cISO n 3) s t)
  ∧ (∀ (n : Fin 12) (b : Bool) (s : State), s.ready → s.romUp = true → s.isoState n = iON → s.fresh cISO → s.groupOf (14 + n) = 0 →
    Completes (.isoOpenWinding n b) s fun t => t.isoState n = iLOCKED ∧ t.bit (if b then Reg.ISO_FLT_open_b n else Reg.ISO_FLT_open_a n) = true
      ∧ Noted cISO n 3 t
      ∧ FrameLog ((if b then Reg.ISO_FLT_open_b n else Reg.ISO_FLT_open_a n) :: isoFields n ++ judgedFields) 1 (evCode cISO n 3) s t)
  ∧ (∀ (n : Fin 12) (s : State), s.ready → s.isoState n = iLOCKED → s.bit (Reg.ISO_CTRL_en n) = false → s.statusLvl cISO n = none →
    Completes (.isoUnlock n) s fun t => t.isoState n = iOFF ∧ Frame (isoFields n) s t)

/-- The end of a ramp enters ON at the setpoint. A current limit in any state but OFF locks the LDO off and raises RAILI at
L3, where no event of the class is unacknowledged; an LDO of the same group then loses its enable. A locked LDO whose
sources are free goes to OFF once its enable is 0. -/
def Obligations.LdoRows : Prop :=
  (∀ (n : Fin 6) (s : State), s.ready → s.ldoState n = lRAMP → n.val < s.ldos.length →
    Completes (.ldoRampDone n) s fun t => t.ldoState n = lON ∧ (t.ldo n).target = s.getF (Reg.LDO_VSET_vset n) ∧ Frame [Reg.LDO_STAT_state n] s t)
  ∧ (∀ (n : Fin 6) (s : State), s.ready → s.romUp = true → (s.ldoState n = lRAMP ∨ s.ldoState n = lON) → s.fresh cRAILI → s.groupOf (8 + n) = 0 →
    Completes (.ldoCurrentLimit n) s fun t => t.ldoState n = lLOCKED ∧ Noted cRAILI (8 + n) 3 t
      ∧ FrameLog (ldoFields n ++ judgedFields) 1 (evCode cRAILI (8 + n) 3) s t)
  ∧ (∀ (n m : Fin 6) (s : State), s.ready → s.romUp = true → (s.ldoState n = lRAMP ∨ s.ldoState n = lON) → n ≠ m → s.groupOf (8 + n) ≠ 0 →
      s.groupOf (8 + m) = s.groupOf (8 + n) → s.fresh cRAILI →
      ((List.range 26).all fun e => e == 8 + n.val || e == 8 + m.val || s.groupOf e != s.groupOf (8 + n)) = true → s.ldoState m ≠ lLOCKED →
    Completes (.ldoCurrentLimit n) s fun t => t.ldoState n = lLOCKED ∧ t.bit (Reg.LDO_CTRL_en m) = false ∧ t.ldoState m = lOFF
      ∧ FrameLog (Reg.LDO_CTRL_en m :: ldoFields m ++ ldoFields n ++ judgedFields) 1 (evCode cRAILI (8 + n) 3) s t)
  ∧ (∀ (n : Fin 6) (s : State), s.ready → s.ldoState n = lLOCKED → s.bit (Reg.LDO_CTRL_en n) = false → s.statusAt cRAILI (8 + n) 3 = false →
      s.statusAt cRAILV (8 + n) 3 = false →
    Completes (.ldoUnlock n) s fun t => t.ldoState n = lOFF ∧ Frame (ldoFields n) s t)

/-- A warning whose samples in a row beyond an armed window have reached the debounce sets its bit and raises RAILV at L1,
or ISO at L1 for a mapped monitor; before that nothing happens; while DOWN or SAFE runs a low LDO is an early loss
instead. A comparator trip raises the channel's fault at its level; one that the conversion does not confirm also raises
REF at L1, as a fault the converter finds first in two samples in a row does. A comparator copy that disagreed for the
fourth time within 24 h is retired. An over-voltage of a rail starts the clamp and locks the rail off. Power-good
becomes stable in the counting state once its samples reach pg_cnt, and not before; it falls after db samples outside
its window, which counts as chatter, and not before. -/
def Obligations.Supervision : Prop :=
  (∀ (c : Fin 28) (above : Bool) (s : State), s.ready → s.romUp = true → s.armed c above = true →
      s.getF (Reg.MON_CH_FILT_db c) ≤ s.beyondRun c false above → s.isJudged c false above = false → s.earlyLoss c above = false →
      (c.val < 14 ∨ s.isoOfMon c = none) →
    Completes (.warningJudged (isMonitor c) (indexOf c) above) s fun t => t.bit (if above then Reg.MON_CH_FLT_ov_warn c else Reg.MON_CH_FLT_uv_warn c) = true
      ∧ Noted cRAILV c 1 t ∧ FrameLog ((if above then Reg.MON_CH_FLT_ov_warn c else Reg.MON_CH_FLT_uv_warn c) :: noteFields) 1 (evCode cRAILV c 1) s t)
  ∧ (∀ (c : Fin 28) (n : Nat) (above : Bool) (s : State), s.ready → s.romUp = true → s.armed c above = true →
      s.getF (Reg.MON_CH_FILT_db c) ≤ s.beyondRun c false above → s.isJudged c false above = false → 14 ≤ c.val → s.isoOfMon c = some n →
    Completes (.warningJudged (isMonitor c) (indexOf c) above) s fun t => t.bit (if above then Reg.MON_CH_FLT_ov_warn c else Reg.MON_CH_FLT_uv_warn c) = true
      ∧ Noted cISO n 1 t ∧ FrameLog ((if above then Reg.MON_CH_FLT_ov_warn c else Reg.MON_CH_FLT_uv_warn c) :: noteFields) 1 (evCode cISO n 1) s t)
  ∧ (∀ (c : Fin 28) (above : Bool) (s : State), s.ready → s.beyondRun c false above < s.getF (Reg.MON_CH_FILT_db c) →
    Completes (.warningJudged (isMonitor c) (indexOf c) above) s fun t => t.flt = s.flt ∧ Frame [] s t)
  ∧ (∀ (n : Fin 6) (s : State), s.ready → s.romUp = true → s.ldoState n = lON → s.bit (Reg.MON_CH_CFG_en (8 + n)) = true →
      s.getF (Reg.MON_CH_FILT_db (8 + n)) ≤ s.beyondRun (8 + n) false false → s.isJudged (8 + n) false false = false →
      (s.getF Reg.SEQ_STAT_table = 2 ∨ s.getF Reg.SEQ_STAT_table = 3) →
    Completes (.warningJudged false (Fin.ofNat 14 (8 + n.val)) false) s fun t => t.bit (Reg.LDO_CTRL_en n) = false ∧ t.ldoState n = lOFF
      ∧ bitOf (t.getF Reg.SEQ_EARLY0_ldo) n = true ∧ Noted cSEQ (8 + n) 1 t
      ∧ FrameLog ([Reg.LDO_CTRL_en n, Reg.SEQ_EARLY0_ldo, Reg.SEQ_NOTES_early] ++ ldoFields n ++ noteFields) 1 (evCode cSEQ (8 + n) 1) s t)
  ∧ (∀ (c : Fin 28) (above : Bool) (v : Word) (s : State), s.ready → s.romUp = true → s.armed c above = true → s.comparators c above = true →
      s.tripped c above = false → 14 ≤ c.val → s.isoOfMon c = none →
      beyond above v (if above then s.threshold c true above - 4 * (s.nominal c : Int) else s.threshold c true above + 4 * (s.nominal c : Int)) = true →
      s.isJudged c true above = false → s.fresh cRAILV → s.groupOf (12 + c) = 0 →
      s.getF (if above then Reg.MON_CH_CFG_ov_lvl c else Reg.MON_CH_CFG_uv_lvl c) = 0 →
    Completes (.comparatorTrip c above ⟨v, none⟩) s fun t => t.bit (if above then Reg.MON_CH_FLT_ov_flt c else Reg.MON_CH_FLT_uv_flt c) = true
      ∧ Noted cRAILV c 3 t
      ∧ FrameLog ([(if above then Reg.MON_CH_FLT_ov_flt c else Reg.MON_CH_FLT_uv_flt c), Reg.MON_CH_STAT_pg c, Reg.MON_CH_STAT_chat c] ++ lowFields cRAILV c)
          1 (evCode cRAILV c 3) s t)
  ∧ (∀ (k : Fin 8) (v : Word) (s : State), s.ready → s.romUp = true → s.railState k ≠ rLOCKED → s.armed k true = true →
      beyond true v (s.threshold k true true - 4 * (s.nominal k : Int)) = true → s.comparators k true = true → s.tripped k true = false →
      s.isJudged k true true = false → s.fresh cRAILV → s.groupOf k = 0 → s.bit (Reg.MON_CH_CFG_ov_lvl k) = false →
    Completes (.comparatorTrip (Fin.castLE (by decide) k) true ⟨v, none⟩) s fun t => t.bit (Reg.RAIL_DYN_ovclamp k) = true ∧ t.bit (Reg.MON_CH_FLT_ov_flt k) = true
      ∧ t.railState k = rLOCKED ∧ Noted cRAILV k 3 t
      ∧ FrameLog ([Reg.RAIL_DYN_ovclamp k, Reg.MON_CH_FLT_ov_flt k] ++ s.railOffFields k ++ lowFields cRAILV k) 1 (evCode cRAILV k 3) s t)
  ∧ (∀ (c : Fin 28) (above : Bool) (v : Word) (s : State), s.ready → s.romUp = true → s.armed c above = true → s.comparators c above = true →
      s.tripped c above = false → 14 ≤ c.val → s.isoOfMon c = none →
      beyond above v (if above then s.threshold c true above - 4 * (s.nominal c : Int) else s.threshold c true above + 4 * (s.nominal c : Int)) = false →
      s.fresh cRAILV → s.fresh cREF → s.groupOf (12 + c) = 0 → s.getF (if above then Reg.MON_CH_CFG_ov_lvl c else Reg.MON_CH_CFG_uv_lvl c) = 0 →
    Completes (.comparatorTrip c above ⟨v, none⟩) s fun t => t.bit (Reg.MON_CH_FLT_unconf c) = true ∧ Noted cREF c 1 t
      ∧ t.bit (if above then Reg.MON_CH_FLT_ov_flt c else Reg.MON_CH_FLT_uv_flt c) = true
      ∧ FrameWide [] ([(if above then Reg.MON_CH_FLT_ov_flt c else Reg.MON_CH_FLT_uv_flt c), Reg.MON_CH_FLT_unconf c, Reg.MON_CH_STAT_pg c,
          Reg.MON_CH_STAT_chat c] ++ lowFields cRAILV c) s t)
  ∧ (∀ (c : Fin 28) (above : Bool) (s : State), s.ready → s.romUp = true → s.armed c above = true →
      2 ≤ s.beyondRun c true above → s.tripped c above = false → s.isJudged c true above = false →
      14 ≤ c.val → s.isoOfMon c = none → s.fresh cRAILV → s.fresh cREF → s.groupOf (12 + c) = 0 →
      s.getF (if above then Reg.MON_CH_CFG_ov_lvl c else Reg.MON_CH_CFG_uv_lvl c) = 0 →
    Completes (.converterFaultJudged (isMonitor c) (indexOf c) above) s fun t => t.bit (Reg.MON_CH_FLT_missed c) = true ∧ Noted cREF c 1 t ∧ Noted cRAILV c 3 t
      ∧ t.bit (if above then Reg.MON_CH_FLT_ov_flt c else Reg.MON_CH_FLT_uv_flt c) = true
      ∧ FrameWide [] ([(if above then Reg.MON_CH_FLT_ov_flt c else Reg.MON_CH_FLT_uv_flt c), Reg.MON_CH_FLT_missed c] ++ lowFields cRAILV c) s t)
  ∧ (∀ (c : Fin 28) (above : Bool) (s : State), s.ready → s.beyondRun c true above < 2 →
    Completes (.converterFaultJudged (isMonitor c) (indexOf c) above) s fun t => t.flt = s.flt ∧ Frame [] s t)
  ∧ (∀ (c : Fin 28) (above : Bool) (k : Fin 3) (v : Word) (s : State), s.ready → s.romUp = true → s.armed c above = true →
      s.comparators c above = true → s.tripped c above = false → bitOf (s.getF (copiesOut c above)) k = false →
      3 ≤ (s.age.disagreed.filter fun x => x.1 == c.val && x.2.1 == above && x.2.2.1 == k.val && decide (s.time ≤ x.2.2.2 + 86400000000)).length →
    Completes (.comparatorTrip c above ⟨v, some k⟩) s fun t => bitOf (t.getF (copiesOut c above)) k = true ∧ t.tripped c above = true)
  ∧ (∀ (c : Fin 28) (s : State), s.ready → s.counting c = true → s.getF (Reg.MON_CH_PG_pg_cnt c) ≤ (s.mon c).cnt →
    Completes (.pgStable c) s fun t => t.bit (Reg.MON_CH_STAT_pg c) = true ∧ Frame [Reg.MON_CH_STAT_pg c, Reg.SYS_BOOT_STAT_early_up] s t)
  ∧ (∀ (c : Fin 28) (s : State), s.ready → (s.mon c).cnt < s.getF (Reg.MON_CH_PG_pg_cnt c) → Completes (.pgStable c) s fun t => Frame [] s t)
  ∧ (∀ (c : Fin 28) (s : State), s.ready → s.bit (Reg.MON_CH_STAT_pg c) = true →
      (s.counting c = false ∨ s.getF (Reg.MON_CH_FILT_db c) ≤ (s.mon c).outN) →
    Completes (.pgFall c) s fun t => t.bit (Reg.MON_CH_STAT_pg c) = false
      ∧ t.getF (Reg.MON_CH_STAT_chat c) = min 255 (s.getF (Reg.MON_CH_STAT_chat c) + 1) ∧ Frame [Reg.MON_CH_STAT_pg c, Reg.MON_CH_STAT_chat c] s t)
  ∧ (∀ (c : Fin 28) (s : State), s.ready → s.counting c = true → (s.mon c).outN < s.getF (Reg.MON_CH_FILT_db c) →
      s.tripped c false = false → s.tripped c true = false →
    Completes (.pgFall c) s fun t => Frame [] s t)

/-- The end of a scan round makes every channel of TEL_CH the value of that round; the reserved channels 86 to 95 read
invalid. Without a snapshot or a stream pending, and with the reference trio not in dispute, it writes no memory window
but log entries and touches only the blocks of telemetry, phases, rails, front end, path, charger, ISO, LDO, supervision
and AGE and the fault collector. -/
def Obligations.RoundEnd : Prop :=
  (∀ (r : ScanRound) (s : State), s.ready → r.wf = true → s.live = true → s.st ≠ stFAWN → s.tel.snap = none → s.tel.req = none → s.age.testing = [] →
      trioOf (signed 16 (r.chan.getD 72 0).toNat) (signed 16 (r.chan.getD 73 0).toNat) (signed 16 (r.chan.getD 74 0).toNat) = .agree →
    Completes (.scanRoundEnd r) s fun t =>
      ((List.range 128).all fun c => t.getF (Reg.TEL_CH_val c) == (if 86 ≤ c && c < 96 then 0x8000 else (r.chan.getD c 0).toNat)) = true
      ∧ FrameWide [0x05, 0x09, 0x10, 0x11, 0x14, 0x15, 0x16, 0x18, 0x19, 0x1A] (Reg.HOST_INT_STAT_chg :: noteFields) s t)

/-- With the request taken from the command, the EN_RUN pin is only remembered. With it taken from the pin, its rise in
STANDBY starts the UP table, and its fall in RUN or in STANDBY with no table running starts the DOWN table, here with an
END at the table's first step. -/
def Obligations.RunRequest : Prop :=
  (∀ (l : Bool) (s : State), s.ready → s.live = true → s.sys.sleep = none → (s.st ≠ stBOOT ∨ s.sys.kind ≠ .wake) → s.getF Reg.SYS_RUN_CFG_run_src = 1 →
      s.bit Reg.SYS_RUN_STAT_run_req = s.bit Reg.SYS_RUN_STAT_cmd_run →
    Completes (.enRunFilter l) s fun t => t.sys.pinReq = l ∧ t.sys.wakeEnRun = l ∧ Frame [] s t)
  ∧ (∀ s : State, s.ready → s.live = true → s.sys.sleep = none → s.st = stSTANDBY → s.getF Reg.SYS_RUN_CFG_run_src = 0 →
      s.bit Reg.SYS_RUN_STAT_run_req = false → s.bit Reg.MBX_STAT_paused = false → s.getF Reg.SEQ_STAT_table = 0 → s.sys.run = false →
      s.latched = false → s.bit (pendingF .seq) = false → s.getF (Reg.SEQ_STEP_W0_op 0) = 0 →
    Completes (.enRunFilter true) s fun t => t.bit Reg.SYS_RUN_STAT_run_req = true ∧ t.getF Reg.SEQ_STAT_table = 1 ∧ t.getF Reg.SEQ_STAT_step = 0
      ∧ t.seq.ended = true ∧ Frame (Reg.SYS_RUN_STAT_run_req :: seqFields) s t)
  ∧ (∀ s : State, s.ready → s.live = true → s.sys.sleep = none → (s.st = stRUN ∨ s.st = stSTANDBY) → s.getF Reg.SYS_RUN_CFG_run_src = 0 →
      s.bit Reg.SYS_RUN_STAT_run_req = true → s.bit Reg.MBX_STAT_paused = false → s.getF Reg.SEQ_STAT_table = 0 →
      s.latched = false → s.bit (pendingF .seq) = false → s.getF (Reg.SEQ_STEP_W0_op 64) = 0 →
    Completes (.enRunFilter false) s fun t => t.bit Reg.SYS_RUN_STAT_run_req = false ∧ t.getF Reg.SEQ_STAT_table = 2 ∧ t.seq.ended = true
      ∧ Frame (Reg.SYS_RUN_STAT_run_req :: seqFields) s t)

/-- A step whose condition is met logs its outcome and enters the next, which here ends the table or sets an LDO's enable. A
timeout in DOWN or SAFE forces an LDO's discharge, counts and goes on with SEQ at L1. In UP it follows the step's
policy: go on, retry with the enable cleared for a time and set again, or fail into DOWN with up_failed and SEQ at L3. -/
def Obligations.SequencerSteps : Prop :=
  (∀ (tb i : Nat) (s : State), s.ready → s.getF Reg.SEQ_STAT_table = tb → s.getF Reg.SEQ_STAT_step = i → s.stepWaits = true → s.condMet s.seqIdx = true →
      s.seq.fell = false → i < 63 → s.bit (pendingF .seq) = false → s.getF (Reg.SEQ_STEP_W0_op (s.seqIdx + 1)) = 0 →
    Completes .seqStepDone s fun t => t.getF Reg.SEQ_STAT_step = i + 1 ∧ t.seq.ended = true ∧ t.getF Reg.SEQ_STAT_table = tb
      ∧ FrameLog [Reg.SEQ_STAT_step, Reg.SEQ_STAT_phase, Reg.SEQ_EVENT_ev] 4 (tb * 0x4000 + i) s t)
  ∧ (∀ (n : Fin 6) (s : State), s.ready → s.stepWaits = true → s.condMet s.seqIdx = true → s.seq.fell = false → s.getF Reg.SEQ_STAT_step < 63 →
      s.bit (pendingF .seq) = false → s.getF (Reg.SEQ_STEP_W0_op (s.seqIdx + 1)) = 4 → s.getF (Reg.SEQ_STEP_W0_idx (s.seqIdx + 1)) = n.val →
      s.ldoState n = lOFF → s.bit (Reg.LDO_CTRL_en n) = false → s.outRuns 1 6 n = true →
    Completes .seqStepDone s fun t => t.getF Reg.SEQ_STAT_step = s.getF Reg.SEQ_STAT_step + 1 ∧ t.getF Reg.SEQ_STAT_phase = 1 ∧ t.seq.since = s.time
      ∧ t.bit (Reg.LDO_CTRL_en n) = true ∧ t.ldoState n = lRAMP
      ∧ FrameLog [Reg.SEQ_STAT_step, Reg.SEQ_STAT_phase, Reg.SEQ_EVENT_ev, Reg.LDO_CTRL_en n, Reg.LDO_STAT_state n] 4
          (s.getF Reg.SEQ_STAT_table * 0x4000 + s.getF Reg.SEQ_STAT_step) s t)
  ∧ (∀ (n : Fin 6) (s : State), s.ready → s.romUp = true → s.stepWaits = true → (s.getF Reg.SEQ_STAT_table = 2 ∨ s.getF Reg.SEQ_STAT_table = 3) →
      s.getF (Reg.SEQ_STEP_W1_cond s.seqIdx) = 2 → s.getF (Reg.SEQ_STEP_W1_arg s.seqIdx) = 8 + n.val → s.offMet (8 + n) = false →
      n.val < s.ldos.length → s.getF Reg.SEQ_STAT_step < 63 → s.bit (pendingF .seq) = false → s.getF (Reg.SEQ_STEP_W0_op (s.seqIdx + 1)) = 0 →
    Completes .seqStepTimeout s fun t => (t.ldo n).discharge = true ∧ t.getF Reg.SEQ_STAT_step = s.getF Reg.SEQ_STAT_step + 1
      ∧ t.getF Reg.SEQ_NOTES_forced = min 31 (s.getF Reg.SEQ_NOTES_forced + 1) ∧ Noted cSEQ (s.getF Reg.SEQ_STAT_step) 1 t
      ∧ FrameWide [] ([Reg.SEQ_STAT_step, Reg.SEQ_STAT_phase, Reg.SEQ_NOTES_forced] ++ noteFields) s t)
  ∧ (∀ s : State, s.ready → s.romUp = true → s.stepWaits = true → s.getF Reg.SEQ_STAT_table = 1 →
      (s.getF (Reg.SEQ_STEP_W1_cond s.seqIdx) = 1 ∨ s.getF (Reg.SEQ_STEP_W1_cond s.seqIdx) = 2 ∨ s.getF (Reg.SEQ_STEP_W1_cond s.seqIdx) = 4) →
      s.condMet s.seqIdx = false → s.getF (Reg.SEQ_STEP_W0_policy s.seqIdx) = 2 → s.seq.fell = false → s.getF Reg.SEQ_STAT_step < 63 →
      s.bit (pendingF .seq) = false → s.getF (Reg.SEQ_STEP_W0_op (s.seqIdx + 1)) = 0 →
    Completes .seqStepTimeout s fun t => t.getF Reg.SEQ_STAT_step = s.getF Reg.SEQ_STAT_step + 1
      ∧ t.getF Reg.SEQ_NOTES_cont = min 31 (s.getF Reg.SEQ_NOTES_cont + 1) ∧ Noted cSEQ (s.getF Reg.SEQ_STAT_step) 1 t
      ∧ FrameWide [] ([Reg.SEQ_STAT_step, Reg.SEQ_STAT_phase, Reg.SEQ_NOTES_cont] ++ noteFields) s t)
  ∧ (∀ (n : Fin 6) (s : State), s.ready → s.stepWaits = true → s.getF Reg.SEQ_STAT_table = 1 → s.getF (Reg.SEQ_STEP_W1_cond s.seqIdx) = 1 →
      s.condMet s.seqIdx = false → s.getF (Reg.SEQ_STEP_W0_policy s.seqIdx) = 1 → s.seq.retried = false → s.getF (Reg.SEQ_STEP_W0_op s.seqIdx) = 4 →
      s.getF (Reg.SEQ_STEP_W0_idx s.seqIdx) = n.val → s.ldoState n ≠ lLOCKED →
    Completes .seqStepTimeout s fun t => t.getF Reg.SEQ_STAT_phase = 2 ∧ t.seq.retried = true ∧ t.bit (Reg.LDO_CTRL_en n) = false ∧ t.ldoState n = lOFF
      ∧ Frame ([Reg.SEQ_STAT_phase, Reg.LDO_CTRL_en n] ++ ldoFields n) s t)
  ∧ (∀ (n : Fin 6) (s : State), s.ready → s.getF Reg.SEQ_STAT_table = 1 → s.getF Reg.SEQ_STAT_phase = 2 → s.getF (Reg.SEQ_STEP_W0_op s.seqIdx) = 4 →
      s.getF (Reg.SEQ_STEP_W0_idx s.seqIdx) = n.val → s.outRuns 1 6 n = true → s.bit (Reg.LDO_CTRL_en n) = false → s.ldoState n = lOFF →
    Completes .seqRetryReenable s fun t => t.getF Reg.SEQ_STAT_phase = 1 ∧ t.bit (Reg.LDO_CTRL_en n) = true ∧ t.ldoState n = lRAMP
      ∧ Frame [Reg.SEQ_STAT_phase, Reg.LDO_CTRL_en n, Reg.LDO_STAT_state n] s t)
  ∧ (∀ s : State, s.ready → s.romUp = true → s.stepWaits = true → s.getF Reg.SEQ_STAT_table = 1 → s.getF (Reg.SEQ_STEP_W1_cond s.seqIdx) = 1 →
      s.condMet s.seqIdx = false → s.getF (Reg.SEQ_STEP_W0_policy s.seqIdx) = 0 → s.latched = false → s.bit (pendingF .seq) = false →
      s.getF (Reg.SEQ_STEP_W0_op 64) = 0 → s.fresh cSEQ →
    Completes .seqStepTimeout s fun t => t.bit Reg.SYS_RUN_STAT_up_failed = true ∧ t.getF Reg.SEQ_RESULT_table = 1 ∧ t.getF Reg.SEQ_RESULT_outcome = 1
      ∧ t.getF Reg.SEQ_RESULT_step = s.getF Reg.SEQ_STAT_step ∧ t.getF Reg.SEQ_STAT_table = 2 ∧ Noted cSEQ (s.getF Reg.SEQ_STAT_step) 3 t
      ∧ FrameWide [] ([Reg.SYS_RUN_STAT_up_failed, Reg.SEQ_RESULT_table, Reg.SEQ_RESULT_outcome, Reg.SEQ_RESULT_step, Reg.HOST_INT_STAT_seq]
          ++ seqFields ++ judgedFields) s t)

/-- UP that completes with the run request still true enters RUN, and the return state records RUN. DOWN that completes
enters STANDBY, and the return state records STANDBY, or begins the reset boot that waited for it. SAFE that completes
clears the enable of every output not kept, and SAFE can then be resumed. -/
def Obligations.TablesEnd : Prop :=
  (∀ s : State, s.ready → s.live = true → s.seq.ended = true → s.getF Reg.SEQ_STAT_table = 1 → s.st = stSTANDBY → s.bit Reg.SYS_RUN_STAT_safe = false →
      s.bit Reg.SYS_RUN_STAT_ibex = false → s.bit Reg.SYS_RUN_STAT_activating = false → s.bit Reg.SYS_RUN_STAT_run_req = true →
    Completes .seqTableComplete s fun t => t.st = stRUN ∧ t.sys.run = true ∧ t.bit Reg.SYS_RUN_STAT_return_state = true ∧ t.getF Reg.SEQ_RESULT_table = 1 ∧ t.getF Reg.SEQ_RESULT_outcome = 0
      ∧ t.getF Reg.SEQ_STAT_table = 0 ∧ t.bit Reg.SYS_RUN_STAT_up_failed = false
      ∧ FrameLog ([Reg.SEQ_RESULT_table, Reg.SEQ_RESULT_outcome, Reg.SEQ_RESULT_step, Reg.HOST_INT_STAT_seq, Reg.SEQ_STAT_table, Reg.SEQ_STAT_phase,
          Reg.SEQ_STAT_step, Reg.SYS_RUN_STAT_up_failed, Reg.SYS_RUN_STAT_return_state] ++ stateFields) 2 (16 * stSTANDBY + stRUN) s t)
  ∧ (∀ s : State, s.ready → s.live = true → s.seq.ended = true → s.getF Reg.SEQ_STAT_table = 2 → s.st = stRUN → s.bit Reg.SYS_RUN_STAT_safe = false →
      s.bit Reg.SYS_RUN_STAT_ibex = false → s.bit Reg.SYS_RUN_STAT_activating = false → s.seq.rose = false → s.sys.resetAfterDown = false →
    Completes .seqTableComplete s fun t => t.st = stSTANDBY ∧ t.sys.run = false ∧ t.bit Reg.SYS_RUN_STAT_return_state = false ∧ t.getF Reg.SEQ_RESULT_table = 2 ∧ t.getF Reg.SEQ_RESULT_outcome = 0
      ∧ t.getF Reg.SEQ_STAT_table = 0
      ∧ FrameLog ([Reg.SEQ_RESULT_table, Reg.SEQ_RESULT_outcome, Reg.SEQ_RESULT_step, Reg.HOST_INT_STAT_seq, Reg.SEQ_STAT_table, Reg.SEQ_STAT_phase,
          Reg.SEQ_STAT_step, Reg.SYS_RUN_STAT_return_state] ++ stateFields) 2 (16 * stRUN + stSTANDBY) s t)
  ∧ (∀ s : State, s.ready → s.live = true → s.seq.ended = true → s.getF Reg.SEQ_STAT_table = 2 → s.sys.resetAfterDown = true →
    Completes .seqTableComplete s fun t => t.st = stBOOT ∧ t.sys.kind = .reset ∧ t.bit Reg.SYS_RESET_CAUSE_cmd = true ∧ t.mbx.taken = []
      ∧ t.staged = [] ∧ RecordsKept s t ∧ t.pending = s.pending)
  ∧ (∀ s : State, s.ready → s.live = true → s.seq.ended = true → s.getF Reg.SEQ_STAT_table = 3 → s.st = stSAFE → s.bit Reg.SYS_RUN_STAT_safe = true → s.age.testing = [] →
    Completes .seqTableComplete s fun t => t.seq.safeDone = true ∧ t.st = stSAFE ∧ t.getF Reg.SEQ_STAT_table = 0
      ∧ ((List.range 8).all fun k => bitOf (s.getF Reg.SEQ_KEEP0_rail) k || !t.bit (Reg.RAIL_CTRL_en k)) = true
      ∧ ((List.range 6).all fun n => bitOf (s.getF Reg.SEQ_KEEP0_ldo) n || !t.bit (Reg.LDO_CTRL_en n)) = true
      ∧ ((List.range 12).all fun n => bitOf (s.getF Reg.SEQ_KEEP1_iso) n || !t.bit (Reg.ISO_CTRL_en n)) = true
      ∧ (s.bit Reg.SEQ_KEEP1_fe = true ∨ t.bit Reg.FE_CTRL_fwd_en = false) ∧ (s.bit Reg.SEQ_KEEP1_isw = true ∨ t.bit Reg.PATH_CTRL_isw_en = false)
      ∧ FrameWide [0x10, 0x11, 0x14, 0x15, 0x16, 0x18, 0x19, 0x1A] ([Reg.SEQ_RESULT_table, Reg.SEQ_RESULT_outcome, Reg.SEQ_RESULT_step,
          Reg.HOST_INT_STAT_seq, Reg.HOST_INT_STAT_chg, Reg.SEQ_STAT_table, Reg.SEQ_STAT_phase, Reg.SEQ_STAT_step, Reg.SYS_RUN_STAT_ibex]
          ++ noteFields) s t)

/-- The first event at L1 or above latches its class, source, level and time into FLT_FIRST, with FLT_OVF and FLT_COUNT at
0; a later one leaves them, sets FLT_OVF and counts. An event of a class that is unacknowledged enters one level higher. -/
def Obligations.FirstSource : Prop :=
  (∀ (k : Fin 8) (mA mV : Nat) (s : State), s.ready → s.romUp = true → s.railState k = rON → s.railLimit k mV ≤ (mA : Rat) / 1000 → s.present cRAILI k 1 = false →
      s.bit Reg.FLT_FIRST_valid = false →
    Completes (.railIlimSustained ⟨k, mA, mV⟩) s fun t => t.bit Reg.FLT_FIRST_valid = true ∧ t.getF Reg.FLT_FIRST_class = cRAILI ∧ t.getF Reg.FLT_FIRST_source = k
      ∧ t.getF Reg.FLT_FIRST_level = 1 ∧ t.bit Reg.FLT_OVF_ovf = false ∧ t.getF Reg.FLT_COUNT_count = 0
      ∧ ((List.range 4).all fun m => t.getF (Reg.FLT_FIRST_T_time m) == s.time / 65536 ^ m % 65536) = true
      ∧ FrameLog (Reg.RAIL_DYN_ilim_active k :: noteFields) 1 (evCode cRAILI k 1) s t)
  ∧ (∀ (k : Fin 8) (mA mV : Nat) (s : State), s.ready → s.romUp = true → s.railState k = rON → s.railLimit k mV ≤ (mA : Rat) / 1000 → s.present cRAILI k 1 = false →
      s.bit Reg.FLT_FIRST_valid = true →
    Completes (.railIlimSustained ⟨k, mA, mV⟩) s fun t => t.bit Reg.FLT_OVF_ovf = true ∧ t.getF Reg.FLT_COUNT_count = min 255 (s.getF Reg.FLT_COUNT_count + 1)
      ∧ FrameLog [Reg.RAIL_DYN_ilim_active k, Reg.HOST_INT_STAT_flt, Reg.FLT_OVF_ovf, Reg.FLT_COUNT_count, Reg.SB_REQ_req, Reg.FLT_PIN_drive,
          Reg.FLT_PIN_pulse, Reg.FLT_PIN_pin] 1 (evCode cRAILI k 1) s t)
  ∧ (∀ (p : Fin 2) (s : State), s.ready → s.romUp = true → s.service = true → s.feSwitches = true → s.feService = 2 → ¬ s.fresh cFE → s.latched = false →
    Completes (.feOpenPhase p) s fun t => Noted cFE p 3 t ∧ t.feState = feLOCKED)

/-- The start ramp ends in FWD, the stop ramp in OFF; CHANGE ends in REV where it was ordered, in FWD with ISW closed, and
else in OFF. A region change follows the thresholds of R158. VSYS over-voltage and VDRV under-voltage lock a running
front end off and raise FE at L3, an open phase leaves service at L2, and pulses that end at the effective peak limit,
the fourth skipped turn-on and VHB over-voltage in REV raise L1, where no event of the class is unacknowledged; the
third VHB over-voltage locks the front end off and ends a hold-up. A load step holds the front end in all phases, in
continuous conduction but for FWD_START, which runs in diode emulation (log entry 43). A locked front end whose bits are
clear goes to OFF. Which loop wins is a free value (log entry 6). -/
def Obligations.FrontEnd : Prop :=
  (∀ s : State, s.ready → s.feState = feFWD_START →
    Completes .feStartRampDone s fun t => t.feState = feFWD ∧ Frame (feFields ++ chgFields) s t)
  ∧ (∀ s : State, s.ready → s.feState = feSTOPPING → s.bit Reg.FE_CTRL_fwd_en = false →
    Completes .feStopRampDone s fun t => t.feState = feOFF ∧ t.getF Reg.FE_STAT_n_active = 0 ∧ Frame (feFields ++ chgFields) s t)
  ∧ (∀ s : State, s.ready → s.feState = feCHANGE → s.fe.revOrdered = true → s.getF (Reg.FE_FI_fi 1) ≠ 0 →
    Completes .feChangeDone s fun t => t.feState = feREV ∧ t.fe.revOrdered = false ∧ Frame (Reg.FE_STAT_region :: feFields ++ chgFields) s t)
  ∧ (∀ s : State, s.ready → s.feState = feCHANGE → s.fe.revOrdered = false → s.bit Reg.PATH_STAT_isw_closed = true → s.bit Reg.FE_CTRL_fwd_en = true →
      s.getF (Reg.FE_FI_fi 0) ≠ 0 → s.pathMode ≠ pRETURN →
    Completes .feChangeDone s fun t => t.feState = feFWD ∧ t.getF Reg.FE_STAT_region = startRegion s.chargerVsys (s.mv2 34 / 10)
      ∧ Frame (Reg.FE_STAT_region :: feFields ++ chgFields) s t)
  ∧ (∀ s : State, s.ready → s.feState = feCHANGE → s.fe.revOrdered = false → s.bit Reg.PATH_STAT_isw_closed = false →
    Completes .feChangeDone s fun t => t.feState = feOFF ∧ Frame (feFields ++ chgFields) s t)
  ∧ (∀ (vin : Nat) (s : State), s.ready → s.feSwitches = true → s.bit (pendingF .fe) = false →
    Completes (.feRegionChange vin) s fun t => t.getF Reg.FE_STAT_region = nextRegion (s.getF Reg.FE_STAT_region) s.feTarget vin
      ∧ Frame [Reg.FE_STAT_region] s t)
  ∧ (∀ s : State, s.ready → s.romUp = true → s.service = true → s.present cFE 2 1 = false → s.feStopped = false → [pHANDOVER, pHOLD, pRETURN].contains s.pathMode = false →
      s.fresh cFE →
    Completes .feVsysOv s fun t => t.feState = feLOCKED ∧ t.fe.lockBits.contains Reg.FE_FLT_vsys_ov = true ∧ t.bit Reg.FE_FLT_vsys_ov = true ∧ Noted cFE 2 3 t
      ∧ FrameLog (Reg.FE_FLT_vsys_ov :: feFields ++ chgFields ++ judgedFields) 1 (evCode cFE 2 3) s t)
  ∧ (∀ s : State, s.ready → s.romUp = true → s.service = true → s.present cFE 2 4 = false → s.feStopped = false → [pHANDOVER, pHOLD, pRETURN].contains s.pathMode = false →
      s.fresh cFE →
    Completes .feVdrvUv s fun t => t.feState = feLOCKED ∧ t.bit Reg.FE_FLT_vdrv_uv = true ∧ Noted cFE 2 3 t
      ∧ FrameLog (Reg.FE_FLT_vdrv_uv :: feFields ++ chgFields ++ judgedFields) 1 (evCode cFE 2 3) s t)
  ∧ (∀ s : State, s.ready → s.romUp = true → s.feState = feREV → s.fe.ovStop = false → s.present cFE 2 2 = false →
    Completes (.feVhbOv false) s fun t => t.feState = feREV ∧ t.bit Reg.FE_FLT_vhb_ov = true ∧ t.getF Reg.FE_STAT_n_active = 0 ∧ t.fe.ovStop = true
      ∧ Noted cFE 2 1 t ∧ FrameLog ([Reg.FE_FLT_vhb_ov, Reg.FE_STAT_n_active] ++ noteFields) 1 (evCode cFE 2 1) s t)
  ∧ (∀ s : State, s.ready → s.romUp = true → s.feState = feREV → s.fe.ovStop = false → s.pathMode = pHOLD → s.bit Reg.SYS_RUN_STAT_ibex = true →
      s.st = stIBEX → s.fresh cFE →
    Completes (.feVhbOv true) s fun t => t.feState = feLOCKED ∧ t.bit Reg.FE_FLT_vhb_ov = true ∧ t.pathMode = pOPEN ∧ t.bit Reg.SYS_RUN_STAT_ibex = false
      ∧ Noted cFE 2 3 t
      ∧ t.bit Reg.PATH_STAT_isw_closed = false
      ∧ FrameWide [] ([Reg.FE_FLT_vhb_ov, Reg.PATH_STAT_mode, Reg.PATH_STAT_isw_closed, Reg.SYS_RUN_STAT_ibex] ++ stateFields ++ feFields ++ chgFields ++ judgedFields) s t)
  ∧ (∀ s : State, s.ready → s.fe.ovStop = true →
    Completes .feVhbOvRelease s fun t => t.getF Reg.FE_STAT_n_active = s.feService ∧ t.fe.ovStop = false ∧ t.present cFE 2 2 = false
      ∧ Frame [Reg.FE_STAT_n_active] s t)
  ∧ (∀ (p : Fin 2) (s : State), s.ready → s.romUp = true → s.feSwitches = true → s.present cFE p 3 = false →
    Completes (.feBootstrapUv p true) s fun t => t.bit Reg.FE_FLT_bs_uv = true ∧ Noted cFE p 1 t
      ∧ FrameLog (Reg.FE_FLT_bs_uv :: noteFields) 1 (evCode cFE p 1) s t)
  ∧ (∀ (p : Fin 2) (s : State), s.ready → s.romUp = true → s.feSwitches = true → s.getF Reg.FE_STAT_ph_out = 0 → s.fe.ovStop = false → s.fresh cFE →
    Completes (.feOpenPhase p) s fun t => bitOf (t.getF Reg.FE_STAT_ph_out) p = true ∧ t.getF Reg.FE_STAT_n_active = 1 ∧ Noted cFE p 2 t
      ∧ t.bit (if p.val = 0 then Reg.FE_FLT_ph0_open else Reg.FE_FLT_ph1_open) = true
      ∧ FrameLog ([Reg.FE_STAT_ph_out, Reg.FE_STAT_n_active, Reg.FE_LOOP_STAT_stale 0, Reg.FE_LOOP_STAT_stale 1,
          if p.val = 0 then Reg.FE_FLT_ph0_open else Reg.FE_FLT_ph1_open] ++ judgedFields) 1 (evCode cFE p 2) s t)
  ∧ (∀ (p : Fin 2) (mA mV : Nat) (s : State), s.ready → s.romUp = true → s.feSwitches = true → s.feLimit mV ≤ (mA : Rat) / 1000 → s.present cFE p 0 = false →
    Completes (.feIlimSustained ⟨p, mA, mV⟩) s fun t => t.bit Reg.FE_STAT_ilim_active = true ∧ t.bit Reg.FE_FLT_ilim_sust = true ∧ Noted cFE p 1 t
      ∧ FrameLog ([Reg.FE_STAT_ilim_active, Reg.FE_FLT_ilim_sust] ++ noteFields) 1 (evCode cFE p 1) s t)
  ∧ (∀ (e : Bool) (s : State), s.ready → s.feSwitches = true → s.fe.ovStop = false →
    Completes (.feStepInhibitStart e) s fun t => t.fe.inhibit = true ∧ t.getF Reg.FE_STAT_n_active = s.feService
      ∧ t.bit Reg.FE_STAT_de = decide (s.feState = feFWD_START)
      ∧ Frame ((if e then [Reg.FE_STAT_loop] else []) ++ [Reg.FE_STAT_n_active, Reg.FE_STAT_de]) s t)
  ∧ (∀ s : State, s.ready → Completes .feStepInhibitEnd s fun t => t.fe.inhibit = false ∧ Frame [] s t)
  ∧ (∀ s : State, s.ready → Completes .feRevHoldEnd s fun t => t.fe.revHold = false ∧ Frame [] s t)
  ∧ (∀ s : State, s.ready → s.feState = feLOCKED → (s.fe.lockBits.all fun f => !s.bit f) = true → s.bit Reg.FE_CTRL_fwd_en = false →
    Completes .feUnlock s fun t => t.feState = feOFF ∧ t.fe.lockBits = [] ∧ Frame (feFields ++ chgFields) s t)

/-- A qualified VBUS in OPEN, with ISW enabled and no dwell, orders ISW closed; the completed close enters BUS. A cause of
R173 opens ISW. A loss in BUS with a battery starts the hand-over into REV; it completes in HOLD with IBEX, or is
reported late. Without hold-up it ends in OPEN. In HOLD a qualified VBUS starts the return; matched voltages order ISW
closed, and the completed close changes the front end to FWD, with which the return ends. A match that times out leads
to a slewed close, which an opening cause holds off, with PATH at L1, as a slewed close that times out does. An
exhausted hold-up ends in OPEN with PATH at L3. A hand-over without a battery ends in OPEN. In SAFE the deep-discharge
cut-off raises PATH at L4 and takes the charger to FAULT; its end opens BATFET, and with a qualified VBUS sets no ship
latch. -/
def Obligations.PowerPath : Prop :=
  (∀ s : State, s.ready → s.live = true → s.sys.stage ≠ .dead → s.stIn [stBOOT, stSTANDBY, stRUN, stIBEX, stSAFE, stACTIVATE, stRECOVERY] = true → s.pathMode = pOPEN →
      s.bit Reg.PATH_STAT_vbus_qual = false → s.bit Reg.PATH_CTRL_isw_en = true → s.bit Reg.PATH_STAT_dwell = false → s.path.closing = none →
      s.latched = false → s.sys.sleep = none →
    Completes .vbusQualified s fun t => t.bit Reg.PATH_STAT_vbus_qual = true ∧ t.path.closing = some (decide (s.mv2 35 - s.mv2 34 > 1000)) ∧ t.path.opening = []
      ∧ Frame [Reg.PATH_STAT_vbus_qual] s t)
  ∧ (∀ s : State, s.ready → s.path.closing.isSome = true → s.path.opening = [] → s.pathMode = pOPEN → s.bit Reg.FE_CTRL_fwd_en = false →
    Completes .iswCloseComplete s fun t => t.bit Reg.PATH_STAT_isw_closed = true ∧ t.pathMode = pBUS ∧ t.path.closing = none
      ∧ Frame ([Reg.PATH_STAT_isw_closed, Reg.PATH_STAT_mode] ++ chgFields) s t)
  ∧ (∀ (c : IswCause) (s : State), s.ready → s.romUp = true → s.st ≠ stFAWN → s.sys.sleep = none → s.path.opening = [] → s.bit Reg.PATH_STAT_isw_closed = true → s.present cFE 3 7 = false →
      s.present cFE 3 9 = false →
    Completes (.iswOpeningCause c) s fun t => t.bit Reg.PATH_STAT_isw_closed = false ∧ t.path.opening = (if c = .reverseCurrent then [] else [c])
      ∧ (c = .overVoltage → t.bit Reg.FE_FLT_vbus_ov = true ∧ Noted cFE 3 1 t) ∧ (c = .reversePolarity → t.bit Reg.FE_FLT_vbus_rev = true ∧ Noted cFE 3 1 t)
      ∧ FrameWide [] ([Reg.PATH_STAT_isw_closed, Reg.FE_FLT_vbus_ov, Reg.FE_FLT_vbus_rev] ++ feFields ++ chgFields ++ noteFields) s t)
  ∧ (∀ (c : LossCause) (s : State), s.ready → s.live = true → s.st ≠ stFAWN → (c = .window → s.bit Reg.PATH_STAT_vbus_qual = true) → s.pathMode = pBUS →
      s.holdsUp = true → s.feState ≠ feCHANGE → s.getF (Reg.FE_FI_fi 1) ≠ 0 →
    Completes (.vbusLoss c) s fun t => t.bit Reg.PATH_STAT_vbus_qual = false ∧ t.pathMode = pHANDOVER ∧ t.bit Reg.PATH_STAT_isw_closed = false
      ∧ t.feState = feREV ∧ t.getF Reg.PATH_EVT_handovers = min (2 ^ Reg.PATH_EVT_handovers.w - 1) (s.getF Reg.PATH_EVT_handovers + 1)
      ∧ FrameLog ([Reg.PATH_STAT_vbus_qual, Reg.PATH_STAT_mode, Reg.PATH_STAT_isw_closed, Reg.PATH_EVT_handovers, Reg.FE_STAT_region] ++ feFields ++ chgFields)
          6 pHANDOVER s t)
  ∧ (∀ (c : LossCause) (s : State), s.ready → s.live = true → s.st ≠ stFAWN → (c = .window → s.bit Reg.PATH_STAT_vbus_qual = true) → s.pathMode = pBUS →
      s.holdsUp = false → s.bit Reg.SYS_RUN_STAT_ibex = false →
    Completes (.vbusLoss c) s fun t => t.bit Reg.PATH_STAT_vbus_qual = false ∧ t.pathMode = pOPEN ∧ t.bit Reg.PATH_STAT_isw_closed = false
      ∧ t.bit Reg.PATH_STAT_dwell = true
      ∧ FrameLog ([Reg.PATH_STAT_vbus_qual, Reg.PATH_STAT_mode, Reg.PATH_STAT_isw_closed, Reg.PATH_EVT_handovers, Reg.PATH_STAT_dwell] ++ feFields ++ chgFields)
          6 pHANDOVER s t)
  ∧ (∀ (us : Nat) (s : State), s.ready → s.pathMode = pHANDOVER → s.bit Reg.PATH_STAT_batt_present = true →
    Completes (.handoverComplete true us) s fun t => t.pathMode = pHOLD ∧ t.bit Reg.SYS_RUN_STAT_ibex = true ∧ t.bit Reg.PATH_STAT_dwell = true
      ∧ t.getF Reg.PATH_HO_TIME_t = min 65534 us ∧ t.bit Reg.PATH_STAT_vhb_reg = true
      ∧ FrameWide [] ([Reg.PATH_STAT_mode, Reg.PATH_STAT_dwell, Reg.PATH_HO_TIME_t, Reg.PATH_STAT_vhb_reg, Reg.SYS_RUN_STAT_ibex,
          Reg.SYS_RUN_STAT_return_state] ++ stateFields ++ chgFields) s t)
  ∧ (∀ (us : Nat) (s : State), s.ready → s.romUp = true → s.pathMode = pHANDOVER → s.bit Reg.PATH_STAT_batt_present = true →
    Completes (.handoverComplete false us) s fun t => t.pathMode = pHOLD ∧ t.bit Reg.PATH_FLT_ho_slow = true ∧ t.getF Reg.PATH_HO_TIME_t = 65535
      ∧ Noted cPATH 0 1 t
      ∧ FrameWide [] ([Reg.PATH_STAT_mode, Reg.PATH_STAT_dwell, Reg.PATH_HO_TIME_t, Reg.PATH_STAT_vhb_reg, Reg.SYS_RUN_STAT_ibex,
          Reg.SYS_RUN_STAT_return_state, Reg.PATH_FLT_ho_slow] ++ stateFields ++ chgFields ++ noteFields) s t)
  ∧ (∀ s : State, s.ready → s.pathMode = pHOLD → s.bit Reg.PATH_STAT_vbus_qual = true → s.bit Reg.PATH_CTRL_isw_en = true →
    Completes .dwellEnd s fun t => t.bit Reg.PATH_STAT_dwell = false ∧ t.pathMode = pRETURN
      ∧ Frame ([Reg.PATH_STAT_dwell, Reg.PATH_STAT_mode] ++ chgFields) s t)
  ∧ (∀ s : State, s.ready → s.returning = true → s.path.opening = [] → s.feState = feREV →
    Completes .returnMatch s fun t => t.path.closing = some false ∧ Frame [] s t)
  ∧ (∀ s : State, s.ready → s.path.closing.isSome = true → s.path.opening = [] → s.pathMode = pRETURN → s.path.slewed = false → s.feState = feREV →
    Completes .iswCloseComplete s fun t => t.bit Reg.PATH_STAT_isw_closed = true ∧ t.feState = feCHANGE ∧ t.path.closing = none
      ∧ Frame (Reg.PATH_STAT_isw_closed :: feFields ++ chgFields) s t)
  ∧ (∀ s : State, s.ready → s.feState = feCHANGE → s.fe.revOrdered = false → s.bit Reg.PATH_STAT_isw_closed = true → s.bit Reg.FE_CTRL_fwd_en = true →
      s.getF (Reg.FE_FI_fi 0) ≠ 0 → s.pathMode = pRETURN → s.st = stIBEX → s.bit Reg.SYS_RUN_STAT_ibex = true → s.bit Reg.SYS_RUN_STAT_safe = false →
      s.bit Reg.SYS_RUN_STAT_activating = false →
    Completes .feChangeDone s fun t => t.feState = feFWD ∧ t.pathMode = pBUS ∧ t.bit Reg.SYS_RUN_STAT_ibex = false
      ∧ t.st = (if s.sys.run then stRUN else stSTANDBY)
      ∧ FrameWide [] ([Reg.FE_STAT_region, Reg.PATH_STAT_mode, Reg.PATH_EVT_returns, Reg.SYS_RUN_STAT_ibex] ++ stateFields ++ feFields ++ chgFields) s t)
  ∧ (∀ s : State, s.ready → s.romUp = true → s.returning = true → s.feState = feREV →
    Completes .returnMatchTimeout s fun t => t.feState = feOFF ∧ t.path.slewed = true ∧ t.path.closing = (if s.path.opening = [] then some true else none) ∧ t.bit Reg.PATH_FLT_match_fail = true
      ∧ Noted cPATH 0 1 t ∧ FrameLog (Reg.PATH_FLT_match_fail :: feFields ++ chgFields ++ noteFields) 1 (evCode cPATH 0 1) s t)
  ∧ (∀ s : State, s.ready → s.romUp = true → s.path.closing = some true → s.pathMode = pOPEN → s.bit Reg.SYS_RUN_STAT_ibex = false →
    Completes .iswCloseTimeout s fun t => t.path.closing = none ∧ t.bit Reg.FE_FLT_isw_slow = true ∧ t.bit Reg.PATH_STAT_vbus_qual = false
      ∧ Noted cPATH 0 1 t
      ∧ FrameWide [] ([Reg.FE_FLT_isw_slow, Reg.PATH_STAT_vbus_qual, Reg.PATH_STAT_isw_closed] ++ feFields ++ chgFields ++ noteFields) s t)
  ∧ (∀ s : State, s.ready → s.romUp = true → (s.pathMode = pHOLD ∨ s.pathMode = pRETURN) → s.feState ≠ feLOCKED → s.fresh cPATH →
    Completes .holdupExhausted s fun t => t.pathMode = pOPEN ∧ t.feState = feOFF ∧ t.bit Reg.PATH_FLT_hold_exh = true ∧ Noted cPATH 0 3 t
      ∧ FrameWide [] ([Reg.PATH_STAT_mode, Reg.PATH_STAT_isw_closed, Reg.PATH_FLT_hold_exh, Reg.SYS_RUN_STAT_ibex] ++ stateFields ++ feFields ++ chgFields
          ++ judgedFields) s t)
  ∧ (∀ (reg : Bool) (us : Nat) (s : State), s.ready → s.pathMode = pHANDOVER → s.bit Reg.PATH_STAT_batt_present = false → s.feState ≠ feLOCKED →
      s.bit Reg.SYS_RUN_STAT_ibex = false →
    Completes (.handoverComplete reg us) s fun t => t.pathMode = pOPEN ∧ t.feState = feOFF ∧ t.bit Reg.SYS_RUN_STAT_ibex = false
      ∧ Frame ([Reg.PATH_STAT_mode, Reg.PATH_STAT_dwell, Reg.PATH_HO_TIME_t, Reg.PATH_STAT_vhb_reg] ++ feFields ++ chgFields) s t)
  ∧ (∀ s : State, s.ready → s.romUp = true → s.st = stSAFE → s.bit Reg.SYS_RUN_STAT_safe = true → s.bit Reg.PATH_STAT_batt_present = true →
      s.bit Reg.PATH_FLT_cutoff = false → s.sys.gaugeAlive = false → s.latched = false → s.sys.sleep = none → s.fresh cPATH →
    Completes .deepDischargeCutoff s fun t => t.bit Reg.PATH_FLT_cutoff = true ∧ t.path.cutPending = true ∧ t.st = stSAFE
      ∧ t.chgPhase = (if s.chgPhase = gOFF then gOFF else gFAULT) ∧ Noted cPATH 0 4 t
      ∧ FrameLog (Reg.PATH_FLT_cutoff :: chgFields ++ judgedFields) 1 (evCode cPATH 0 4) s t)
  ∧ (∀ s : State, s.ready → s.path.cutPending = true → s.bit Reg.PATH_FLT_cutoff = true → s.bit Reg.PATH_STAT_vbus_qual = true → s.pathMode = pBUS →
    Completes .cutoffBatfetOff s fun t => t.getF Reg.PATH_STAT_bf_mode = 0 ∧ t.path.cutPending = false ∧ t.sys.ship = s.sys.ship
      ∧ Frame [Reg.PATH_STAT_bf_mode] s t)

/-- With no suspend reason and no cause, the charger goes from QUAL to PRE or CC by its lowest cell, from PRE to CC, CC to
CV, CV to TOPOFF with a save of the learned record, TOPOFF to DONE, and from DONE back to QUAL. A suspend reason takes
an active charger that no cause bars to SUSPEND, and its end back to QUAL. Over-voltage, over-temperature, an empty pack
and the safety timer take it to FAULT with their bits and levels, where no event of the class is unacknowledged; with
every bit and cause gone it goes to QUAL. In TOPOFF the cells above the lowest bleed in the bleed window only. -/
def Obligations.Charger : Prop :=
  (∀ (cell : Nat) (s : State), s.ready → s.chgPhase = gQUAL → s.suspended = false → s.causeOn cCHG 0 = false →
    Completes (.chgQualDone cell) s fun t => t.chgPhase = (if cell < s.getF Reg.CHG_VPRE_vpre then gPRE else gCC) ∧ t.bit Reg.CHG_STAT_phase_evt = true
      ∧ Frame chgFields s t)
  ∧ (∀ s : State, s.ready → s.chgPhase = gPRE → s.suspended = false → s.causeOn cCHG 0 = false →
    Completes .chgPreToCc s fun t => t.chgPhase = gCC ∧ Frame chgFields s t)
  ∧ (∀ s : State, s.ready → s.chgPhase = gCC → s.suspended = false → s.causeOn cCHG 0 = false →
    Completes .chgCcToCv s fun t => t.chgPhase = gCV ∧ Frame chgFields s t)
  ∧ (∀ s : State, s.ready → s.chgPhase = gCV → s.suspended = false → s.causeOn cCHG 0 = false → s.getF Reg.CHG_TOPOFF_t_topoff ≠ 0 →
      s.sys.gaugeAlive = true → s.gauge.writing = none → s.sys.vkeepLow = false →
    Completes .chgCvToTopoff s fun t => t.chgPhase = gTOPOFF ∧ (t.gauge.writing.map (·.cause)) = some 2
      ∧ FrameSave [] ([Reg.GAUGE_STORE_a_valid, Reg.GAUGE_STORE_b_valid, Reg.GAUGE_STORE_newest] ++ chgFields) s t)
  ∧ (∀ s : State, s.ready → s.chgPhase = gTOPOFF → s.suspended = false → s.causeOn cCHG 0 = false →
    Completes .chgTopoffToDone s fun t => t.chgPhase = gDONE ∧ t.bit Reg.CHG_STAT_done_evt = true ∧ t.bit Reg.CHG_STAT_balancing = false ∧ Frame chgFields s t)
  ∧ (∀ s : State, s.ready → s.chgPhase = gDONE → s.suspended = false → s.chgBarred = false →
    Completes (.chgRecharge true) s fun t => t.chgPhase = gQUAL ∧ t.bit Reg.CHG_STAT_rech_evt = true ∧ Frame (Reg.CHG_STAT_rech_evt :: chgFields) s t)
  ∧ (∀ (temp : Bool) (s : State), s.ready → s.chgIn [gQUAL, gPRE, gCC, gCV, gTOPOFF] = true → (temp = true ∨ s.suspended = true) → s.chgBarred = false →
    Completes (.chgSuspend temp) s fun t => t.chgPhase = gSUSPEND ∧ (temp = true → t.bit Reg.CHG_STAT_susp_temp = true)
      ∧ Frame (Reg.CHG_STAT_susp_temp :: chgFields) s t)
  ∧ (∀ s : State, s.ready → s.chgPhase = gSUSPEND → s.suspSource = false → s.suspIbex = false → s.suspSafe = false → s.chgBarred = false →
    Completes .chgSuspendEnd s fun t => t.chgPhase = gQUAL ∧ t.bit Reg.CHG_STAT_susp_temp = false ∧ Frame (Reg.CHG_STAT_susp_temp :: chgFields) s t)
  ∧ (∀ (c : ChgCause) (s : State), s.ready → s.romUp = true → s.chgIn [gQUAL, gPRE, gCC, gCV, gTOPOFF, gSUSPEND] = true →
      (c = .ov → s.getF Reg.PATH_STAT_bf_mode = 2) → (c = .packUv → s.chgIn [gQUAL, gPRE] = true) →
      s.present cCHG 0 (match c with | .ov => 0 | .ot => 1 | .packUv => 3) = false → s.fresh cCHG →
    Completes (.chgFault c) s fun t => t.chgPhase = gFAULT
      ∧ t.bit (match c with | .ov => Reg.CHG_FLT_ov | .ot => Reg.CHG_FLT_ot | .packUv => Reg.CHG_FLT_pack_uv) = true
      ∧ Noted cCHG 0 (match c with | .ov => 3 | .ot => 2 | .packUv => 1) t
      ∧ FrameLog ((match c with | .ov => Reg.CHG_FLT_ov | .ot => Reg.CHG_FLT_ot | .packUv => Reg.CHG_FLT_pack_uv) :: chgFields ++ judgedFields) 1
          (evCode cCHG 0 (match c with | .ov => 3 | .ot => 2 | .packUv => 1)) s t)
  ∧ (∀ s : State, s.ready → s.romUp = true → s.chgIn [gPRE, gCC, gCV] = true → s.present cCHG 0 2 = false →
    Completes .chgSafetyTimerExpiry s fun t => t.chgPhase = gFAULT ∧ t.bit Reg.CHG_FLT_timer = true ∧ Noted cCHG 0 1 t
      ∧ FrameLog (Reg.CHG_FLT_timer :: chgFields ++ noteFields) 1 (evCode cCHG 0 1) s t)
  ∧ (∀ s : State, s.ready → s.chgPhase = gFAULT → s.bit Reg.CHG_FLT_ov = false → s.bit Reg.CHG_FLT_ot = false → s.bit Reg.CHG_FLT_timer = false →
      s.bit Reg.CHG_FLT_pack_uv = false → s.bit Reg.CHG_FLT_removed = false → s.causeOn cCHG 0 = false → s.bit Reg.PATH_FLT_cutoff = false →
      s.suspended = false →
    Completes .chgFaultRecover s fun t => t.chgPhase = gQUAL ∧ Frame chgFields s t)
  ∧ (∀ (v : List Int) (s : State), s.ready → s.chgPhase = gTOPOFF → s.bit Reg.CHG_CTRL_bal_en = true →
      (List.range s.cells).mapM (fun k => s.chan (28 + k)) = some v →
    Completes (.balanceWindow true) s fun t => t.chg.bleeding = bleeders (s.getF Reg.CHG_TOPOFF_bal_delta) s.chg.bleeding v
      ∧ t.bit Reg.CHG_STAT_balancing = !(bleeders (s.getF Reg.CHG_TOPOFF_bal_delta) s.chg.bleeding v).isEmpty ∧ Frame [Reg.CHG_STAT_balancing] s t)
  ∧ (∀ s : State, s.ready → s.chgPhase = gTOPOFF →
    Completes (.balanceWindow false) s fun t => t.bit Reg.CHG_STAT_balancing = false ∧ Frame [Reg.CHG_STAT_balancing] s t)

/-- A rise of presence reads the pack's code, blocks BATFET and starts an insertion with every gauge output invalid; the
check after it ends the block; without a record the first estimate takes the profile. The fall of presence clears the
pack, and while the charger charges it faults. A charge sample is the shunt voltage, clipped at 50 mV, over R_sh: its
charge over the sample time adds to GAUGE_Q modulo 2^64, and its current is shown. A filter cycle publishes the means of
the cells over its window in every case, and with a pack changes only the gauge's state, its record banks and what its
flags report; where VKEEP_LOW meets its mirror write, no valid mirror is left. Rest is flagged once; the record timer
starts a write of the learned record, whose bank reads invalid from then on, and the end of a record write finishes it. -/
def Obligations.BatteryAndGauge : Prop :=
  (∀ (ntc1 : Nat) (s : State), s.ready → s.live = true → s.st ≠ stFAWN → s.bit Reg.PATH_STAT_batt_present = false → s.sys.gaugeAlive = true →
      (ntc1 + 50) / 100 < 16 →
    Completes (.batteryPresenceRise ntc1) s fun t => t.bit Reg.PATH_STAT_batt_present = true ∧ t.getF Reg.GAUGE_PACK_code = (ntc1 + 50) / 100
      ∧ t.bit Reg.GAUGE_PACK_id_valid = true ∧ t.path.bfBlocked = true ∧ t.getF Reg.PATH_STAT_bf_mode = 0 ∧ t.gauge.ins = .counting
      ∧ (gaugeOutputs.all fun f => t.getF f == 2 ^ f.w - 1) = true ∧ t.bit Reg.GAUGE_FLAGS_settling = true ∧ t.bit Reg.GAUGE_FLAGS_absent = false
      ∧ FrameLog ([Reg.PATH_STAT_batt_present, Reg.GAUGE_PACK_code, Reg.GAUGE_PACK_id_valid, Reg.PATH_STAT_bf_mode, Reg.CHG_TGT_i_tgt, Reg.FE_VSYS_TGT_tgt,
          Reg.GAUGE_FLAGS_settling, Reg.GAUGE_FLAGS_absent, Reg.GAUGE_FLAGS_anchored, Reg.GAUGE_FLAGS_disputed, Reg.GAUGE_FLAGS_rest,
          Reg.HOST_INT_STAT_gauge, Reg.SB_REQ_req] ++ gaugeOutputs) 6 s.pathMode s t)
  ∧ (∀ (bats : Nat) (s : State), s.ready → s.bit Reg.PATH_STAT_batt_present = true → s.path.bfBlocked = true → s.gauge.ins = .counting → 2000 * s.cells ≤ bats →
    Completes (.insertionCheck bats) s fun t => t.path.bfBlocked = false ∧ t.gauge.ins = .settling ∧ Frame [Reg.PATH_STAT_bf_mode] s t)
  ∧ (∀ (bats : Nat) (s : State), s.ready → s.romUp = true → s.bit Reg.PATH_STAT_batt_present = true → s.path.bfBlocked = true → s.gauge.ins = .counting →
      bats < 2000 * s.cells →
    Completes (.insertionCheck bats) s fun t => t.path.bfBlocked = false ∧ t.gauge.ins = .none ∧ t.bit Reg.GAUGE_FLAGS_absent = true ∧ Noted cGAUGE 0 1 t
      ∧ FrameLog ([Reg.PATH_STAT_bf_mode, Reg.GAUGE_FLAGS_absent, Reg.GAUGE_FLAGS_settling, Reg.HOST_INT_STAT_gauge, Reg.SB_REQ_req] ++ gaugeOutputs
          ++ noteFields) 1 (evCode cGAUGE 0 1) s t)
  ∧ (∀ (cells : List Nat) (i : Int) (s : State), s.ready → cells.length = 4 → s.sys.gaugeAlive = true → s.gauge.ins = .settling → s.newestRecord = none →
    Completes (.insertionFirstEstimate cells i) s fun t => t.gauge.ins = .estimated ∧ t.gauge.learned = s.fromProfile
      ∧ t.gauge.cells.length = s.gauge.cells.length ∧ Frame [] s t)
  ∧ (∀ s : State, s.ready → s.live = true → s.st ≠ stFAWN → s.bit Reg.PATH_STAT_batt_present = true → s.chgIn [gPRE, gCC, gCV, gTOPOFF] = false →
      s.pathMode ≠ pHOLD → s.pathMode ≠ pRETURN →
    Completes .batteryPresenceLoss s fun t => t.bit Reg.PATH_STAT_batt_present = false ∧ t.bit Reg.GAUGE_FLAGS_absent = true
      ∧ t.getF Reg.PATH_STAT_bf_mode = 0
      ∧ FrameSave [0x17] [Reg.PATH_STAT_batt_present, Reg.PATH_STAT_bf_mode, Reg.CHG_TGT_i_tgt, Reg.FE_VSYS_TGT_tgt, Reg.HOST_INT_STAT_gauge,
          Reg.SB_REQ_req] s t)
  ∧ (∀ (v : Nat) (s : State), s.ready → s.romUp = true → s.bit Reg.PATH_STAT_batt_present = true → s.chgIn [gPRE, gCC, gCV, gTOPOFF] = true →
      s.pathMode ≠ pHOLD → s.pathMode ≠ pRETURN → s.present cCHG 0 4 = false →
    Completes (.batteryRemovalFast v) s fun t => t.bit Reg.PATH_STAT_batt_present = false ∧ t.chgPhase = gFAULT ∧ t.bit Reg.CHG_FLT_removed = true
      ∧ t.path.removedTgt = some (10 * v) ∧ Noted cCHG 0 1 t
      ∧ FrameSave [0x17] ([Reg.PATH_STAT_batt_present, Reg.CHG_FLT_removed, Reg.HOST_INT_STAT_gauge] ++ chgFields ++ noteFields) s t)
  ∧ (∀ (nV : Int) (carry : Nat) (s : State), s.ready → s.sys.vkeep = true →
    Completes (.chargeSample nV carry) s fun t =>
      (t.chargeQ - (s.chargeQ + roundQ ((max (-50000000) (min 50000000 nV) : Rat) / s.shunt * ((if s.aonSamples then 1000000 else 1000) + carry : Nat) / 1000)))
        % 2 ^ 64 = 0
      ∧ (t.iBat - roundQ (10 * ((max (-50000000) (min 50000000 nV) : Rat) / s.shunt))) % 2 ^ 32 = 0
      ∧ t.gauge.win.clipped = (s.gauge.win.clipped || decide (nV < -50000000) || decide (50000000 < nV))
      ∧ Frame ([Reg.GAUGE_Q_q 0, Reg.GAUGE_Q_q 1, Reg.GAUGE_Q_q 2, Reg.GAUGE_Q_q 3, Reg.GAUGE_IBAT_i 0, Reg.GAUGE_IBAT_i 1, Reg.GAUGE_FLAGS_rest,
          Reg.HOST_INT_STAT_gauge, Reg.SB_REQ_req] ++ if s.st = stFAWN then [Reg.TEL_CH_val 116] else []) s t)
  ∧ (∀ (cut : Bool) (s : State), s.ready → s.live = true → s.st ≠ stFAWN → s.sys.gaugeAlive = false → s.bit (pendingF .gauge) = false → s.gauge.win.cellN ≠ 0 →
    Completes (.gaugeFilterCycle cut) s fun t =>
      ((List.range s.cells).all fun m => t.getF (Reg.GAUGE_CELL_v m) == (roundQ (10 * s.winVolt m)).toNat % 2 ^ (Reg.GAUGE_CELL_v m).w) = true
      ∧ t.gauge = { s.gauge with win := {} }
      ∧ Frame [Reg.GAUGE_CELL_v 0, Reg.GAUGE_CELL_v 1, Reg.GAUGE_CELL_v 2, Reg.GAUGE_CELL_v 3, Reg.GAUGE_TEMP_t] s t)
  ∧ (∀ (cut : Bool) (s : State), s.ready → s.live = true → s.st ≠ stFAWN → s.sys.gaugeAlive = true → s.bit Reg.GAUGE_FLAGS_absent = false →
      s.gauge.profileDue = false → s.gauge.win.cellN ≠ 0 →
    Completes (.gaugeFilterCycle cut) s fun t =>
      ((List.range s.cells).all fun m => t.getF (Reg.GAUGE_CELL_v m) == (roundQ (10 * s.winVolt m)).toNat % 2 ^ (Reg.GAUGE_CELL_v m).w) = true
      ∧ t.bit Reg.GAUGE_FLAGS_t_sub = s.ntc0.isNone ∧ t.bit Reg.GAUGE_FLAGS_over_range = s.gauge.win.clipped ∧ t.gauge.win = {}
      ∧ (cut = true → t.gauge.mirror = none)
      ∧ FrameSave [0x17] (Reg.HOST_INT_STAT_gauge :: noteFields) s t)
  ∧ (∀ s : State, s.ready → s.sys.gaugeAlive = true → s.bit Reg.PATH_STAT_batt_present = true → s.bit Reg.GAUGE_FLAGS_rest = false → s.rested = true →
    Completes .restReached s fun t => t.bit Reg.GAUGE_FLAGS_rest = true ∧ t.gauge.anchorDue = true ∧ t.bit Reg.HOST_INT_STAT_gauge = true
      ∧ Frame [Reg.GAUGE_FLAGS_rest, Reg.HOST_INT_STAT_gauge, Reg.SB_REQ_req] s t)
  ∧ (∀ s : State, s.ready → s.sys.gaugeAlive = true → s.bit Reg.GAUGE_FLAGS_rest = false → s.gauge.writing = none → s.sys.vkeepLow = false →
    Completes .learnedRecordTimer s fun t => (t.gauge.writing.map (·.cause)) = some 1
      ∧ (t.gauge.writing.all fun w => !t.bit (if w.bankB then Reg.GAUGE_STORE_b_valid else Reg.GAUGE_STORE_a_valid)) = true
      ∧ FrameSave [] [Reg.GAUGE_STORE_a_valid, Reg.GAUGE_STORE_b_valid, Reg.GAUGE_STORE_newest] s t)
  ∧ (∀ (w : RecWrite) (s : State), s.ready → s.gauge.writing = some w → s.gauge.waiting = none → s.mbx.taken = [] → w.bytes.length ≤ 128 →
    Completes .learnedRecordWriteDone s fun t => t.gauge.writing = none ∧ memRead (bankAddr w.bankB) w.bytes.length t.mram = w.bytes
      ∧ t.getF Reg.GAUGE_STORE_cause = w.cause % 2 ^ Reg.GAUGE_STORE_cause.w ∧ t.bit Reg.GAUGE_STORE_pending = false
      ∧ FrameSave [] [Reg.GAUGE_STORE_cause, Reg.GAUGE_STORE_pending, Reg.GAUGE_STORE_a_valid, Reg.GAUGE_STORE_b_valid, Reg.GAUGE_STORE_newest] s t)

/-- SYS.SLEEP in STANDBY answers and starts the FAWN entry sequence, as SYS.SHIP and the idle timer do, with the charger,
the front end and ISW off; elsewhere SYS.SLEEP is answered NOT_NOW. An early rail that does not discharge raises SEQ at
L1. The sequence ends in FAWN with every output off. A level source that asserts before abandons it. A wake source, the
wake timer or the charge drawn starts a wake boot; the ship latch is armed and then released into a reset boot. -/
def Obligations.SleepAndWake : Prop :=
  (∀ (p : Port) (tag : BitVec 6) (c : Taken) (s : State), s.ready → s.turn p tag c 0x0114 [] → s.st = stSTANDBY → s.updIdle = true →
      s.sys.wakePin = false → s.wakeHeld = false → s.sys.sleep = none → s.earlyDefs = [] → s.bit Reg.SYS_RUN_STAT_ibex = false →
    Completes (.sysSleep p tag) s fun t => t.sys.sleep = some ⟨false, [], none⟩ ∧ t.chgPhase = gOFF ∧ (t.feState = feOFF ∨ t.feState = feLOCKED)
      ∧ t.getF Reg.PATH_STAT_bf_mode = 0 ∧ (t.path.held = true ∨ t.bit Reg.PATH_STAT_isw_closed = false)
      ∧ RepliedOk ([Reg.PATH_STAT_isw_closed, Reg.PATH_STAT_mode] ++ feFields ++ chgFields) [] c s t)
  ∧ (∀ (p : Port) (tag : BitVec 6) (c : Taken) (s : State), s.ready → s.runnable p tag c → c.opcode = 0x0114 → c.payload = [] → s.st ≠ stSTANDBY →
      s.sys.wakePin = false →
    Completes (.sysSleep p tag) s fun t => t.sys.sleep = s.sys.sleep ∧ t.bit Reg.SYS_RUN_STAT_sleep_refused = true
      ∧ Replied c sNOT_NOW [] s t ∧ ReplyFrame [Reg.SYS_RUN_STAT_sleep_refused] c s t ∧ RecordsKept s t)
  ∧ (∀ (p : Port) (tag : BitVec 6) (c : Taken) (s : State), s.ready → s.turn p tag c 0x0115 [] → c.force = true → s.mv2 35 < 6000 → s.mv2 34 < 6000 →
      s.sys.sleep = none → s.earlyDefs = [] → s.bit Reg.SYS_RUN_STAT_ibex = false →
    Completes (.sysShip p tag) s fun t => t.sys.sleep = some ⟨true, [], none⟩ ∧ t.sys.ship = .requested ∧ t.chgPhase = gOFF
      ∧ t.bit Reg.PATH_STAT_isw_closed = false ∧ RepliedOk ([Reg.PATH_STAT_isw_closed, Reg.PATH_STAT_mode] ++ feFields ++ chgFields) [] c s t)
  ∧ (∀ s : State, s.ready → s.bit Reg.SYS_SLEEP_CFG_auto_sleep = true → s.st = stSTANDBY → s.romUp = true → s.bit Reg.SYS_RUN_STAT_run_req = false →
      (s.bit Reg.SYS_WAKE_EN_en_run && s.sys.wakeEnRun) = false → (s.bit Reg.SYS_WAKE_EN_vbus && s.sys.wakeVbus) = false → s.mbx.taken = [] →
      s.mbx.hostStamps = [] → s.mbx.sidePosts = [] → s.updIdle = true → s.chgIn [gPRE, gCC, gCV, gTOPOFF] = false → s.sys.sleep = none →
      s.earlyDefs = [] → s.bit Reg.SYS_RUN_STAT_ibex = false →
    Completes .idleTimerExpiry s fun t => t.sys.sleep = some ⟨false, [], none⟩ ∧ t.chgPhase = gOFF ∧ t.getF Reg.PATH_STAT_bf_mode = 0
      ∧ FrameWide [] ([Reg.PATH_STAT_isw_closed, Reg.PATH_STAT_mode] ++ feFields ++ chgFields) s t)
  ∧ (∀ (d : Fin 4) (s : State), s.ready → s.romUp = true → (s.sys.sleep.any fun p => p.discharging.contains d) = true →
    Completes (.earlyRailDischargeTimeout d) s fun t => (t.sys.sleep.any fun p => p.discharging.contains d) = false ∧ t.sys.sleep.isSome = true
      ∧ Noted cSEQ d 1 t ∧ FrameLog noteFields 1 (evCode cSEQ d 1) s t)
  ∧ (∀ (p : Sleep) (s : State), s.ready → s.sys.sleep = some p → s.st ≠ stFAWN → s.tel.copies = [] → s.age.testing = [] →
    Completes .fawnEntryComplete s fun t => t.st = stFAWN ∧ t.sys.sleep = none ∧ t.sys.ctlAlive = false ∧ t.sys.gaugeAlive = false ∧ t.sys.fawnSince = s.time
      ∧ ((List.range 8).all fun k => t.railStopped k) = true ∧ ((List.range 6).all fun n => t.ldoState n == lOFF || t.ldoState n == lLOCKED) = true
      ∧ ((List.range 12).all fun n => t.isoState n == iOFF || t.isoState n == iLOCKED) = true ∧ t.feStopped = true
      ∧ t.bit Reg.SYS_STATE_host_lost = false ∧ t.bit Reg.HOST_STAT_direct = false ∧ (p.ship = true → t.sys.ship = .latched)
      ∧ FrameSave [0x10, 0x11, 0x14, 0x17, 0x18, 0x19, 0x1A] (stateFields ++ chgFields ++ wakeFields
          ++ [Reg.SYS_STATE_host_lost, Reg.HOST_STAT_direct, Reg.MBX_STAT_ready]) s t)
  ∧ (∀ s : State, s.ready → s.asleep = true →
    Completes (.wakeEvent .sideband) s fun t => WakeBegun Reg.SYS_WAKE_SRC_sideband s t)
  ∧ (∀ s : State, s.ready → s.asleep = true → s.bit Reg.SYS_WAKE_EN_wake = true →
    Completes (.wakeEvent .wake) s fun t => t.sys.wakePin = true ∧ WakeBegun Reg.SYS_WAKE_SRC_wake s t)
  ∧ (∀ s : State, s.ready → s.asleep = true → s.getF Reg.SYS_WAKE_TIMER_period ≠ 0 →
    Completes .wakeTimerExpiry s fun t => WakeBegun Reg.SYS_WAKE_SRC_timer s t)
  ∧ (∀ (nV : Int) (carry : Nat) (s : State), s.ready → s.asleep = true → s.getF Reg.SYS_WAKE_DQ_dq = 0 →
    Completes (.fawnGaugeInterval nV carry) s fun t => t.sys.fawnQ = t.chargeQ - s.sys.fawnQ0
      ∧ (t.chargeQ - (s.chargeQ + roundQ ((max (-50000000) (min 50000000 nV) : Rat) / s.shunt * (1000000 + carry : Nat) / 1000))) % 2 ^ 64 = 0
      ∧ t.gauge.restS = (if max s.gauge.intMax (roundQ (10 * ((max (-50000000) (min 50000000 nV) : Rat) / s.shunt))).natAbs < s.gauge.fawnThr
          then s.gauge.restS + 10 else 0)
      ∧ Frame [Reg.GAUGE_Q_q 0, Reg.GAUGE_Q_q 1, Reg.GAUGE_Q_q 2, Reg.GAUGE_Q_q 3, Reg.GAUGE_IBAT_i 0, Reg.GAUGE_IBAT_i 1, Reg.TEL_CH_val 116] s t)
  ∧ (∀ (nV : Int) (carry : Nat) (s : State), s.ready → s.asleep = true → s.getF Reg.SYS_WAKE_DQ_dq ≠ 0 →
      (s.getF Reg.SYS_WAKE_DQ_dq : Int) * 3600000 < -((s.takeSample nV carry).chargeQ - s.sys.fawnQ0) →
    Completes (.fawnGaugeInterval nV carry) s fun t => WakeBegun Reg.SYS_WAKE_SRC_gauge (s.takeSample nV carry) t)
  ∧ (∀ (p : Sleep) (s : State), s.ready → s.live = true → s.st = stSTANDBY → s.sys.sleep = some p → p.edge = none → s.bit Reg.SYS_WAKE_EN_wake = true →
      s.bit Reg.CHG_CTRL_en = false → s.bit Reg.PATH_CTRL_isw_en = false → s.bit Reg.FE_CTRL_fwd_en = false →
    Completes (.wakeSourceAsserted .wake) s fun t => t.sys.wakePin = true ∧ t.sys.sleep = none ∧ t.sys.ship = .off ∧ Frame [Reg.PATH_STAT_bf_mode] s t)
  ∧ (∀ s : State, s.ready → s.sys.ship = .latched → Completes .shipLatchArm s fun t => t.sys.ship = .armed ∧ Frame [] s t)
  ∧ (∀ s : State, s.ready → s.sys.ship = .armed → s.sys.vkeep = true →
    Completes .shipLatchRelease s fun t => t.sys.ship = .off ∧ BootBegun .reset [] s t)

/-- The deep-discharge cut-off raises PATH at L4: the device enters SAFE and starts the SAFE table, here one whose first
step is END, and the charger is held in FAULT. With PATH unacknowledged the same event is L5: the latch is set with a
new key, every output turns off, ISW opens, and SAFE is entered without a table. The end of the cut-off opens BATFET,
and without a qualified VBUS sets the ship latch. -/
def Obligations.SafeAndLatch : Prop :=
  (∀ s : State, s.ready → s.romUp = true → s.st = stRUN → s.bit Reg.PATH_STAT_batt_present = true → s.bit Reg.PATH_FLT_cutoff = false → s.fresh cPATH →
      s.bit Reg.SYS_RUN_STAT_safe = false → s.latched = false → s.getF Reg.SEQ_STAT_table = 0 → s.sys.sleep = none → s.bit (pendingF .seq) = false →
      s.getF (Reg.SEQ_STEP_W0_op 128) = 0 →
    Completes .deepDischargeCutoff s fun t => t.st = stSAFE ∧ t.bit Reg.SYS_RUN_STAT_safe = true ∧ t.getF Reg.SEQ_STAT_table = 3 ∧ t.seq.ended = true
      ∧ t.seq.safeDone = false ∧ t.bit Reg.PATH_FLT_cutoff = true ∧ t.chgPhase = (if s.chgPhase = gOFF then gOFF else gFAULT) ∧ Noted cPATH 0 4 t
      ∧ FrameSave [0x17] ([Reg.PATH_FLT_cutoff, Reg.SYS_RUN_STAT_safe, Reg.UPD_STAT_deferred] ++ seqFields ++ stateFields ++ chgFields ++ judgedFields) s t)
  ∧ (∀ s : State, s.ready → s.romUp = true → s.st = stRUN → s.bit Reg.PATH_STAT_batt_present = true → s.bit Reg.PATH_FLT_cutoff = false → ¬ s.fresh cPATH →
      s.getF Reg.SEQ_STAT_table = 0 → s.sys.sleep = none → s.bit Reg.SYS_RUN_STAT_ibex = false →
    Completes .deepDischargeCutoff s fun t => t.latched = true ∧ t.st = stSAFE ∧ t.getF Reg.SEQ_STAT_table = 0 ∧ Noted cPATH 0 5 t
      ∧ t.getF Reg.FLT_UNLATCH_KEY_key ≠ 0 ∧ t.getF Reg.FLT_UNLATCH_KEY_key ≠ s.getF Reg.FLT_UNLATCH_KEY_key ∧ t.getF Reg.FLT_LATCH_count = 0
      ∧ ((List.range 8).all fun k => t.railStopped k && !t.bit (Reg.RAIL_CTRL_en k)) = true
      ∧ ((List.range 6).all fun n => (t.ldoState n == lOFF || t.ldoState n == lLOCKED) && !t.bit (Reg.LDO_CTRL_en n)) = true
      ∧ ((List.range 12).all fun n => (t.isoState n == iOFF || t.isoState n == iLOCKED) && !t.bit (Reg.ISO_CTRL_en n)) = true
      ∧ t.chgIn [gOFF, gFAULT] = true ∧ t.feStopped = true ∧ t.bit Reg.FE_CTRL_fwd_en = false ∧ t.bit Reg.PATH_CTRL_isw_en = false ∧ t.bit Reg.PATH_STAT_isw_closed = false
      ∧ FrameSave [0x03, 0x10, 0x11, 0x14, 0x15, 0x16, 0x17, 0x18, 0x19, 0x1A] ([Reg.SYS_RUN_STAT_safe, Reg.UPD_STAT_deferred, Reg.HOST_INT_STAT_flt,
          Reg.HOST_INT_STAT_chg] ++ stateFields) s t)
  ∧ (∀ s : State, s.ready → s.path.cutPending = true → s.bit Reg.PATH_FLT_cutoff = true → s.bit Reg.PATH_STAT_vbus_qual = false → s.pathMode = pOPEN →
    Completes .cutoffBatfetOff s fun t => t.getF Reg.PATH_STAT_bf_mode = 0 ∧ t.path.cutPending = false ∧ t.sys.ship = .latched
      ∧ Frame [Reg.PATH_STAT_bf_mode] s t)

/-- A round's end takes the snapshot that is wanted into its slot of the ring and numbers it. The end of a copy writes the
commit word of its slot in MRAM and logs it. A stream record of one round holds its start time and its channels, and
moves the producer index; one that does not fit is dropped and counted. -/
def Obligations.Telemetry : Prop :=
  (∀ (r : ScanRound) (q : SnapReq) (s : State), s.ready → r.wf = true → s.live = true → s.st ≠ stFAWN → s.tel.snap = some q → q.copy = false → s.tel.req = none →
      s.age.testing = [] → (s.mbx.taken.all fun c => c.wait != .inRound) = true →
      trioOf (signed 16 (r.chan.getD 72 0).toNat) (signed 16 (r.chan.getD 73 0).toNat) (signed 16 (r.chan.getD 74 0).toNat) = .agree →
    Completes (.scanRoundEnd r) s fun t => t.tel.snap = none ∧ t.tel.snapSeq = s.tel.snapSeq + 1
      ∧ memRead (0x70000 + 0x200 * (s.tel.snapSeq % 16)) 8 t.win = leBytes 4 s.tel.snapSeq ++ leBytes 2 1 ++ leBytes 2 q.trigger
      ∧ memRead (0x70000 + 0x200 * (s.tel.snapSeq % 16) + 0x100) 256 t.win = (roundWords r).flatMap fun v => leBytes 2 v.toNat)
  ∧ (∀ (c : Copy) (i : Nat) (s : State), s.ready → s.live = true → s.tel.copies = [c] → c.slot = some i → i < 8 → s.sys.vkeepLow = false →
    Completes .snapshotCopyDone s fun t => t.tel.copies = []
      ∧ memRead (mSNAP + 0x1000 * i + 0xFFC) 4 t.mram = leBytes 4 (not32 (s.mramNat (mSNAP + 0x1000 * i + 0xFE0) 4))
      ∧ LoggedOne 9 1 s t ∧ Kept [] s t ∧ NvKept s t ∧ t.otp.words = s.otp.words)
  ∧ (∀ (vs : List Word) (s : State), s.ready → s.romUp = true → s.bit Reg.TEL_STR_CTRL_en = true → s.getF Reg.TEL_STR_DEC_dec = 1 → s.tel.strRounds = [vs] →
      vs.length = s.strChans.length → s.getF Reg.TEL_STR_PROD_off + s.recLen ≤ 32768 → s.strFilled + s.recLen ≤ 32768 →
    Completes .streamRecord s fun t => t.tel.strRounds = [] ∧ t.getF Reg.TEL_STR_PROD_off = (s.getF Reg.TEL_STR_PROD_off + s.recLen) % 32768
      ∧ memRead (0x48000 + s.getF Reg.TEL_STR_PROD_off) 8 t.win = leBytes 8 s.tel.strStart
      ∧ memRead (0x48000 + s.getF Reg.TEL_STR_PROD_off + 8) (2 * vs.length) t.win = (vs.flatMap fun v => leBytes 2 v.toNat)
      ∧ Kept [Reg.TEL_STR_PROD_off, Reg.TEL_STR_PROD_wrap, Reg.HOST_INT_STAT_tel] s t ∧ StoresKept s t ∧ t.logNext = s.logNext)
  ∧ (∀ s : State, s.ready → s.romUp = true → s.bit Reg.TEL_STR_CTRL_en = true → s.tel.strRounds.length = s.getF Reg.TEL_STR_DEC_dec →
      32768 - s.strFilled < s.recLen →
    Completes .streamRecord s fun t => t.tel.strRounds = []
      ∧ t.getF Reg.TEL_STR_STAT_ovf = min (2 ^ Reg.TEL_STR_STAT_ovf.w - 1) (s.getF Reg.TEL_STR_STAT_ovf + 1) ∧ Frame [Reg.TEL_STR_STAT_ovf] s t)

/-- SB_REG_WR of the wake timer under the side-band's lease merges its mask; without the lease it sets the port's
REG_ERR.lease and the status word shows a refusal. BUF_WR writes its bytes and MBX_POST posts its descriptor with its
stamp. SB_REG_RD of one register, SB_MEM_RD, BUF_RD, MBX_RESP, MBX_STAT, DS_READ and SB_STATUS send what they name;
MBX_RESP consumes the entry it sent whole, DS_READ pops its entry. The Alert Response, RELEASE, IDENTIFY and ASSIGN have
their effects, a cut-off transaction is recorded, and a bleat is sent, read or left unanswered. -/
def Obligations.SideBand : Prop :=
  (∀ (h : SbHead) (m d : Word) (s : State), s.ready → s.sbUp = true → s.sys.sleep = none → s.sbNoPec h = false → h.ending = .complete → s.opens .side 0x58 →
    Completes (.sbRegWr h 0x58 1 [m ++ d]) s fun t => t.getF Reg.SYS_WAKE_TIMER_period = maskMerge (s.getF Reg.SYS_WAKE_TIMER_period) m.toNat d.toNat
      ∧ t.sb.prev = 0 ∧ t.sbOut = [] ∧ Frame [Reg.SYS_WAKE_TIMER_period] s t)
  ∧ (∀ (h : SbHead) (m d : Word) (s : State), s.ready → s.sbUp = true → s.sys.sleep = none → s.sbNoPec h = false → h.ending = .complete →
      s.accessRefusal .side 0x58 [] = some Reg.REG_ERR_lease →
    Completes (.sbRegWr h 0x58 1 [m ++ d]) s fun t => bitOf (t.peek .side 0x34) Reg.REG_ERR_lease.lo = true
      ∧ t.sb.prev = 1 ∧ t.sbOut = [] ∧ Frame [] s t)
  ∧ (∀ (h : SbHead) (o : Word) (bytes : List Byte) (s : State), s.ready → s.sbUp = true → s.sys.sleep = none → s.sbNoPec h = false → h.ending = .complete →
      o.toNat % 4 = 0 → bytes.length % 4 = 0 → 4 ≤ bytes.length → bytes.length ≤ 32 → o.toNat + bytes.length ≤ 0x1000 →
    Completes (.bufWr h o (BitVec.ofNat 8 bytes.length) bytes) s fun t => memRead o.toNat bytes.length t.sbBuf = bytes
      ∧ (∀ a, (a < o.toNat ∨ o.toNat + bytes.length ≤ a) → memGet a t.sbBuf = memGet a s.sbBuf) ∧ t.sb.prev = 0 ∧ t.sbOut = []
      ∧ Kept [] s t ∧ RecordsKept s t ∧ WinKept s t)
  ∧ (∀ (h : SbHead) (desc : List Byte) (s : State), s.ready → s.sbUp = true → s.sys.sleep = none → s.sbNoPec h = false → h.ending = .complete → desc.length = 32 →
      (desc.headD 0).toNat ≤ 3 → s.sideTags.contains (desc.headD 0).toNat = false →
    Completes (.mbxPost h desc) s fun t => t.mbx.sidePosts = s.mbx.sidePosts ++
        [⟨(desc.headD 0).toNat, desc, s.time, if s.bit Reg.SYS_STATE_host_lost then 0x7FFF else 0⟩]
      ∧ t.sb.prev = 0 ∧ t.sbOut = [] ∧ Frame [] s t)
  ∧ (∀ (h : SbHead) (addr : BitVec 24) (s : State), s.ready → s.sbUp = true → s.sys.sleep = none → s.sbNoPec h = false → h.ending = .complete → h.pec = false →
      h.clocked = 2 → addr.toNat % 4 = 0 → addr.toNat < 0x3104 → multiword addr.toNat = none →
    Completes (.sbRegRd h addr 1) s fun t => t.sbOut = leBytes 2 (s.peek .side addr.toNat)
      ∧ Frame (((fieldsAt addr.toNat).filter fun q => q.2.acc = .rc).map (·.1)) s t)
  ∧ (∀ (h : SbHead) (addr : BitVec 24) (s : State), s.ready → s.sbUp = true → s.sys.sleep = none → s.sbNoPec h = false → h.ending = .complete → h.pec = false →
      h.clocked = 4 → addr.toNat % 4 = 0 → 0x70000 ≤ addr.toNat → addr.toNat < 0x72000 →
    Completes (.sbMemRd h addr 1) s fun t => t.sbOut = memRead addr.toNat 4 s.win ∧ Frame [] s t)
  ∧ (∀ (h : SbHead) (o : Word) (n : Byte) (s : State), s.ready → s.sbUp = true → s.sys.sleep = none → s.sbNoPec h = false → h.ending = .complete → h.pec = false →
      h.clocked = n.toNat → o.toNat % 4 = 0 → 4 ≤ n.toNat → n.toNat ≤ 32 → o.toNat + n.toNat ≤ 0x1000 →
    Completes (.bufRd h o n) s fun t => t.sbOut = memRead o.toNat n.toNat s.sbBuf ∧ Frame [] s t)
  ∧ (∀ (h : SbHead) (r : SideResp) (s : State), s.ready → s.sbUp = true → s.sys.sleep = none → s.sbNoPec h = false → h.ending = .complete → h.pec = false →
      h.clocked = 33 → s.mbx.sideResps.head? = some r → r.entry.length = 32 →
    Completes (.mbxResp h) s fun t => t.sbOut = 32 :: r.entry ∧ t.mbx.sideResps = s.mbx.sideResps.tail ∧ Frame [] s t)
  ∧ (∀ (h : SbHead) (s : State), s.ready → s.sbUp = true → s.sys.sleep = none → s.sbNoPec h = false → h.ending = .complete → h.pec = false → h.clocked = 2 →
    Completes (.mbxStat h) s fun t => t.sbOut = leBytes 2 (s.peek .side 0x1C018) ∧ Frame [] s t)
  ∧ (∀ (h : SbHead) (route reason : Nat) (s : State), s.ready → s.sbUp = true → s.sys.sleep = none → s.sbNoPec h = false → h.ending = .complete → h.pec = false →
      h.clocked = 4 → s.sb.ds.head? = some (route, reason) →
    Completes (.dsRead h) s fun t => t.sbOut = leBytes 3 route ++ leBytes 1 reason ∧ t.sb.ds = s.sb.ds.tail ∧ Frame [Reg.SB_REQ_req] s t)
  ∧ (∀ (h : SbHead) (s : State), s.ready → s.sbUp = true → s.sys.sleep = none → s.sbNoPec h = false → h.ending = .complete → h.pec = false → h.clocked = 4 →
    Completes (.sbStatus h) s fun t => t.sbOut = leBytes 4 s.sbStatus ∧ Frame [] s t)
  ∧ (∀ s : State, s.ready → s.sbUp = true → s.sys.sleep = none → s.bit Reg.SB_CFG_ara_en = true → s.bit Reg.SB_CFG_bleat_pec = false → s.sbAlert = true →
    Completes (.alertResponse true) s fun t => t.sbOut = [BitVec.ofNat 8 (2 * (0x40 + s.getF Reg.SB_ADDR_index))] ∧ t.sbAlert = false ∧ Frame [] s t)
  ∧ (∀ s : State, s.ready → s.enumUp = true → s.sys.sleep = none →
    Completes .release s fun t => t.getF Reg.SB_ADDR_src = 2 ∧ Frame [Reg.SB_ADDR_src] s t)
  ∧ (∀ s : State, s.ready → s.enumUp = true → s.sys.sleep = none → s.getF Reg.SB_ADDR_src ≠ 1 →
    Completes (.identify true) s fun t => t.sbOut.take 8 = (leBytes 8 s.uid).reverse ∧ t.sbOut.length = 10
      ∧ (t.sbOut.getD 8 0).toNat = s.now Reg.UPD_SEL_herd_lvl ∧ Frame [] s t)
  ∧ (∀ (uid : BitVec 64) (index : BitVec 6) (s : State), s.ready → s.enumUp = true → s.sys.sleep = none → uid.toNat = s.uid →
    Completes (.assign uid index) s fun t => t.getF Reg.SB_ADDR_src = 1 ∧ t.getF Reg.SB_ADDR_index = index.toNat ∧ t.bit Reg.SB_CFG_bleat_en = true
      ∧ Frame [Reg.SB_ADDR_src, Reg.SB_ADDR_index, Reg.SB_CFG_bleat_en] s t)
  ∧ (∀ (w : Bool) (s : State), s.ready → s.sbUp = true → s.romUp = true → s.present cCOMM 1 0 = false →
    Completes (.sbBusTimeout w) s fun t => t.bit Reg.SB_ERR_timeout = true ∧ (w = true → t.sb.prev = 2)
      ∧ FrameLog (Reg.SB_ERR_timeout :: noteFields) 1 (evCode cCOMM 1 0) s t)
  ∧ (∀ (w : Bool) (s : State), s.ready → s.sbUp = true → s.romUp = true → s.present cCOMM 1 0 = false →
    Completes (.sbAbortAck w) s fun t => t.bit Reg.SB_ERR_abort_ack = true ∧ (w = true → t.sb.prev = 2)
      ∧ FrameLog (Reg.SB_ERR_abort_ack :: noteFields) 1 (evCode cCOMM 1 0) s t)
  ∧ (∀ s : State, s.ready → s.mayBleat = true →
    Completes .bleat s fun t => t.sb.pulsed = true ∧ Frame [] s t)
  ∧ (∀ (i : Fin 7) (s : State), s.ready → s.sb.pulsed = true → s.sbUp = true → s.bleatBit = some i.val → s.bit Reg.SB_CFG_bleat_pec = false →
      i.val ≠ rqDOWNSTREAM →
    Completes (.bleatRead true) s fun t => t.sbOut = [BitVec.ofNat 8 (i.val + 1)] ∧ bitOf (t.getF Reg.SB_REQ_req) i.val = false
      ∧ t.sb.unanswered = 0 ∧ t.sb.pulsed = false ∧ Frame [Reg.SB_REQ_req] s t)
  ∧ (∀ s : State, s.ready → s.sb.pulsed = true → s.sbUp = true → s.sb.unanswered = 7 →
    Completes .bleatUnanswered s fun t => t.bit Reg.SB_STAT_bleat_fail = true ∧ t.sb.unanswered = 8 ∧ t.sb.pulsed = false ∧ t.mayBleat = false
      ∧ Frame [Reg.SB_STAT_bleat_fail] s t)

/-- A herd line that a bus clear does not free sets the port's fault bit with COMM at L1, and the first STOP that succeeds
clears the bit. A child's bleat joins the raw queue, and becomes a downstream entry with HOST_INT_STAT.herd and the
DOWNSTREAM reason; the entry of a child that is itself a bridge gains a hop. HERD.ENUMERATE of port B records the
children that answered and their levels. HERD.FORWARD waits for the child's entry: it is answered OK with the entry and
its payload, or TIMEOUT when none comes. -/
def Obligations.Herds : Prop :=
  (∀ (p : HerdPort) (s : State), s.ready → s.herdRuns p = true → s.present cCOMM (2 + (herdBit p).toNat) 0 = false →
    Completes (.herdBusFault p false) s fun t => t.bit (herdFault p) = true ∧ Noted cCOMM (2 + (herdBit p).toNat) 1 t
      ∧ t.present cCOMM (2 + (herdBit p).toNat) 0 = true
      ∧ FrameLog (herdFault p :: noteFields) 1 (evCode cCOMM (2 + (herdBit p).toNat) 1) s t)
  ∧ (∀ (p : HerdPort) (s : State), s.ready → s.herdRuns p = true → s.bit (herdFault p) = true →
    Completes (.herdBusClearRetry p true) s fun t => t.bit (herdFault p) = false ∧ t.present cCOMM (2 + (herdBit p).toNat) 0 = false
      ∧ Frame [herdFault p] s t)
  ∧ (∀ (p : HerdPort) (i : BitVec 6) (r : Byte) (s : State), s.ready → s.herdRuns p = true → s.sb.raw.length < 4 →
    Completes (.herdChildBleat p i r) s fun t => t.sb.raw = s.sb.raw ++ [⟨p, i.toNat, r.toNat⟩] ∧ Frame [] s t)
  ∧ (∀ (route : BitVec 20) (r : Byte) (x : RawBleat) (s : State), s.ready → s.firmware → s.bridge = true → s.sb.raw.head? = some x →
      x.reason ≠ rqDOWNSTREAM + 1 → s.sb.ds.length < 16 →
    Completes (.downstreamEntry route r) s fun t => t.sb.raw = s.sb.raw.tail ∧ t.sb.ds = s.sb.ds ++ [(x.index % 64 + 2 ^ 18, x.reason)]
      ∧ bitOf (t.getF Reg.SB_REQ_req) rqDOWNSTREAM = true ∧ t.bit Reg.HOST_INT_STAT_herd = true
      ∧ Frame [Reg.SB_REQ_req, Reg.HOST_INT_STAT_herd] s t)
  ∧ (∀ (route : BitVec 20) (r : Byte) (x : RawBleat) (s : State), s.ready → s.firmware → s.bridge = true → s.sb.raw.head? = some x →
      x.reason = rqDOWNSTREAM + 1 → s.sb.ds.length < 16 → 0 < route.toNat / 2 ^ 18 → route.toNat / 2 ^ 18 < 3 →
    Completes (.downstreamEntry route r) s fun t => t.sb.raw = s.sb.raw.tail
      ∧ t.sb.ds = s.sb.ds ++ [(x.index % 64 + route.toNat % 4096 * 64 + (route.toNat / 2 ^ 18 + 1) * 2 ^ 18, r.toNat)]
      ∧ t.bit Reg.HOST_INT_STAT_herd = true ∧ Frame [Reg.SB_REQ_req, Reg.HOST_INT_STAT_herd] s t)
  ∧ (∀ (p : Port) (tag : BitVec 6) (a b : List Byte) (c : Taken) (s : State), s.ready → s.turn p tag c 0x1010 [2, 0, 0, 0] → c.fits 4 = true →
      s.herdUp true = true → b.length ≤ 32 →
    Completes (.herdEnumerate p tag a b true false true false) s fun t => t.getF Reg.SB_HERD_STAT_cnt_b = b.length
      ∧ ((List.range 32).all fun i => t.bit (Reg.SB_CHILD_valid (32 + i)) == decide (i < b.length)
          && decide (t.getF (Reg.SB_CHILD_level (32 + i)) = (b.getD i 0).toNat)) = true
      ∧ RepliedOk (Reg.SB_HERD_STAT_cnt_b :: (List.range 32).flatMap fun i => [Reg.SB_CHILD_valid (32 + i), Reg.SB_CHILD_level (32 + i)])
          ([0] ++ leBytes 1 b.length ++ [0, 0]) c s t)
  ∧ (∀ (p : Port) (tag hop : BitVec 6) (d : List Byte) (c : Taken) (s : State), s.ready →
      s.turn p tag c 0x1011 (leBytes 4 (2 ^ 18 + hop.toNat) ++ [0, 0, 0, 0] ++ d) → d.length = 32 → remotePtr d = 0 → remoteCap d = 0 → c.rptr = true →
      32 ≤ c.rcap → s.bit (Reg.SB_CHILD_valid hop.toNat) = true →
    Completes (.herdForward p tag false) s fun t => t.forwarding p tag = some { c with wait := .forward } ∧ Frame [] s t)
  ∧ (∀ (p : Port) (tag : BitVec 6) (entry payload : List Byte) (c : Taken) (s : State), s.ready → s.mbxRuns = true → s.forwarding p tag = some c →
      entry.length = 32 → c.fits (32 + payload.length) = true → c.rcap < 0x10000 → c.rptr = true →
      (p = .host → 0x41000 ≤ c.raddr ∧ c.raddr + c.rcap ≤ 0x44000) →
    Completes (.forwardResponseReceived p tag entry payload true) s fun t => RepliedOk [] (entry ++ payload) c s t)
  ∧ (∀ (p : Port) (tag : BitVec 6) (c : Taken) (s : State), s.ready → s.mbxRuns = true → s.forwarding p tag = some c →
      (p = .host → c.rptr = true → 0x41000 ≤ c.raddr ∧ c.raddr + c.rcap ≤ 0x44000) →
    Completes (.forwardTimeout p tag) s fun t => Replied c sTIMEOUT [] s t ∧ ReplyFrame [] c s t ∧ RecordsKept s t)

/-- UPD.BEGIN of a PACKAGE clears the target slot, names it and starts receiving. UPD.DATA of a block of a CONTROL image
writes it behind the header at its offset and counts it. UPD.END of a verified PACKAGE writes both commit words.
UPD.ACTIVATE in IBEX is deferred; in RUN it starts the activation: state, selector, pause. UPD.ABORT clears the commit
words of the target slot and returns to idle with outcome 5, cancelling a deferral, and the inactivity timeout does the
same with outcome 6; in activating UPD.ABORT is answered NOT_NOW. -/
def Obligations.Updates : Prop :=
  (∀ (p : Port) (tag : BitVec 6) (b : Bool) (c : Taken) (s : State), s.ready → s.runnable p tag c → c.opcode = 0x0E10 → s.admits c = true →
      s.sys.vkeepLow = false → c.badLen 256 = false → c.fits 4 = true → hdrForm c.payload = true → hdrType c.payload = 3 →
      s.keyUsable (hdrKey c.payload) = true → s.updBusy = false → hdrLen c.payload ≤ largestOf 3 → s.herdOk (hdrHerd c.payload) = true →
      s.upd.running = some b →
    Completes (.updBegin p tag true) s fun t => t.getF Reg.UPD_STAT_state = 1 ∧ t.getF Reg.UPD_STAT_type = 3 ∧ t.target = !b
      ∧ t.getF Reg.UPD_STAT_port = portCode p ∧ t.bit Reg.UPD_STAT_verified = false ∧ t.rxBytes = 0 ∧ t.upd.hdr = c.payload
      ∧ SlotCleared (!b) s t ∧ t.logKind s.logNext = 0x0E ∧ Replied c sOK ([(!b).toNat].flatMap (leBytes 1) ++ [0, 0, 0]) s t
      ∧ ReplyFrame [Reg.UPD_STAT_deferred, Reg.UPD_STAT_verified, Reg.UPD_STAT_port, Reg.UPD_STAT_type, Reg.UPD_STAT_target,
          Reg.UPD_STAT_state, Reg.UPD_RX_bytes 0, Reg.UPD_RX_bytes 1] c s t
      ∧ t.nv = s.nv ∧ t.otp.words = s.otp.words)
  ∧ (∀ (p : Port) (tag : BitVec 6) (off : Nat) (bs : List Byte) (c : Taken) (s : State), s.ready → s.turn p tag c 0x0E11 (leBytes 4 off ++ bs) →
      s.sys.vkeepLow = false → s.getF Reg.UPD_STAT_state = 1 → s.getF Reg.UPD_STAT_type = 1 → s.getF Reg.UPD_STAT_port = portCode p →
      c.ptr = true → c.fits 4 = true → bs.length % 4 = 0 → 4 ≤ bs.length → bs.length ≤ 1024 → s.rxBytes = off → off % 1024 = 0 →
      (bs.length = 1024 ∨ off + bs.length = hdrLen s.upd.hdr) → off + bs.length ≤ hdrLen s.upd.hdr → hdrLen s.upd.hdr ≤ largestBody false →
    Completes (.updData p tag) s fun t => t.rxBytes = off + bs.length
      ∧ memRead (areaBase s.target false + 256 + off) bs.length t.mram = bs
      ∧ (∀ a, (a < areaBase s.target false + 256 + off ∨ areaBase s.target false + 256 + off + bs.length ≤ a) → memGet a t.mram = memGet a s.mram)
      ∧ Replied c sOK (leBytes 4 (off + bs.length)) s t ∧ ReplyFrame [Reg.UPD_RX_bytes 0, Reg.UPD_RX_bytes 1] c s t
      ∧ t.nv = s.nv ∧ t.otp.words = s.otp.words)
  ∧ (∀ (p : Port) (tag : BitVec 6) (c : Taken) (s : State), s.ready → s.turn p tag c 0x0E12 [] → s.sys.vkeepLow = false → s.st ≠ stRECOVERY →
      s.getF Reg.UPD_STAT_state = 1 → s.getF Reg.UPD_STAT_type = 3 → s.getF Reg.UPD_STAT_port = portCode p → hdrLen s.upd.hdr ≤ s.rxBytes →
      s.areaReady s.target false = true → s.areaReady s.target true = true →
    Completes (.updEnd p tag true) s fun t => t.bit Reg.UPD_STAT_verified = true ∧ t.committed s.target false = true ∧ t.committed s.target true = true
      ∧ (∀ a, (∀ g, a < commitAt s.target g ∨ commitAt s.target g + 4 ≤ a) → memGet a t.mram = memGet a s.mram)
      ∧ Replied c sOK [] s t ∧ ReplyFrame [Reg.UPD_STAT_verified] c s t ∧ t.nv = s.nv ∧ t.otp.words = s.otp.words)
  ∧ (∀ (p : Port) (tag : BitVec 6) (c : Taken) (s : State), s.ready → s.turn p tag c 0x0E13 [] → s.st = stIBEX → c.force = false →
      s.bit Reg.UPD_STAT_verified = true → s.getF Reg.UPD_STAT_state = 1 → s.getF Reg.UPD_STAT_port = portCode p → s.getF Reg.UPD_STAT_type = 2 →
      pairOk (s.header s.target false) (s.header s.target true) = true → s.bit Reg.SYS_RUN_STAT_ibex = true →
    Completes (.updActivate p tag) s fun t => t.bit Reg.UPD_STAT_deferred = true ∧ t.bit Reg.SYS_RUN_STAT_act_deferred = true
      ∧ RepliedOk [Reg.UPD_STAT_deferred, Reg.SYS_RUN_STAT_act_deferred] [] c s t)
  ∧ (∀ (p : Port) (tag : BitVec 6) (c : Taken) (s : State), s.ready → s.turn p tag c 0x0E13 [] → s.st = stRUN → s.sys.vkeepLow = false →
      s.mbx.taken = [c] → s.bit Reg.UPD_STAT_verified = true → s.getF Reg.UPD_STAT_state = 1 → s.getF Reg.UPD_STAT_port = portCode p →
      s.getF Reg.UPD_STAT_type = 2 → pairOk (s.header s.target false) (s.header s.target true) = true → s.bit Reg.SYS_RUN_STAT_ibex = false →
      s.bit Reg.SYS_RUN_STAT_safe = false →
    Completes (.updActivate p tag) s fun t => t.getF Reg.UPD_STAT_state = 2 ∧ t.st = stACTIVATE ∧ t.bit Reg.MBX_STAT_paused = true
      ∧ t.selector = ⟨s.target, true, false⟩ ∧ t.upd.running = some s.target ∧ Replied c sOK [] s t
      ∧ KeptBut [0x17] (answerFields ++ stateFields ++ [Reg.UPD_STAT_state, Reg.UPD_STAT_deferred, Reg.SYS_RUN_STAT_act_deferred,
          Reg.SYS_RUN_STAT_activating, Reg.MBX_STAT_paused]) s t
      ∧ (∀ a, (a < mGAUGE ∨ mGAUGE + 0x1000 ≤ a) → memGet a t.mram = memGet a s.mram) ∧ t.otp.words = s.otp.words
      ∧ NvKept { s with nv := { s.nv with sel := some ⟨s.target, true, false⟩, selPrev := s.nv.sel } } t ∧ t.time = s.time ∧ t.pending = s.pending)
  ∧ (∀ (p : Port) (tag : BitVec 6) (c : Taken) (s : State), s.ready → s.turn p tag c 0x0E14 [] → s.sys.vkeepLow = false →
      s.getF Reg.UPD_STAT_state = 1 → s.getF Reg.UPD_STAT_port = portCode p →
    Completes (.updAbort p tag) s fun t => t.getF Reg.UPD_STAT_state = 0 ∧ t.getF Reg.UPD_RESULT_outcome = 5 ∧ t.bit Reg.UPD_STAT_deferred = false
      ∧ t.bit Reg.HOST_INT_STAT_upd = true ∧ SlotCleared s.target s t ∧ t.logKind s.logNext = 0x0E ∧ Replied c sOK [] s t
      ∧ ReplyFrame [Reg.UPD_RESULT_outcome, Reg.UPD_STAT_state, Reg.UPD_STAT_verified, Reg.UPD_STAT_deferred, Reg.SYS_RUN_STAT_act_deferred,
          Reg.HOST_INT_STAT_upd] c s t ∧ t.nv = s.nv ∧ t.otp.words = s.otp.words)
  ∧ (∀ (p : Port) (tag : BitVec 6) (c : Taken) (s : State), s.ready → s.turn p tag c 0x0E14 [] → s.getF Reg.UPD_STAT_state = 2 →
    Completes (.updAbort p tag) s fun t => Replied c sNOT_NOW [] s t ∧ ReplyFrame [] c s t ∧ RecordsKept s t)
  ∧ (∀ s : State, s.ready → s.romUp = true → s.sys.vkeepLow = false → s.getF Reg.UPD_STAT_state = 1 →
    Completes .updInactivityTimeout s fun t => t.getF Reg.UPD_STAT_state = 0 ∧ t.getF Reg.UPD_RESULT_outcome = 6
      ∧ t.bit Reg.HOST_INT_STAT_upd = true ∧ SlotCleared s.target s t ∧ LoggedOne 0x0E (0x6000 + s.getF Reg.UPD_STAT_type * 256
          + s.getF Reg.UPD_STAT_target * 128 + s.getF Reg.UPD_STAT_port * 64) s t
      ∧ Kept [Reg.UPD_RESULT_outcome, Reg.UPD_STAT_state, Reg.UPD_STAT_verified, Reg.UPD_STAT_deferred, Reg.SYS_RUN_STAT_act_deferred,
          Reg.HOST_INT_STAT_upd, Reg.SB_REQ_req] s t ∧ t.nv = s.nv ∧ t.otp.words = s.otp.words)

/-- OTP.PROGRAM of an unprogrammed word that reads back as ordered makes it hold the value, and in SAFETY marks a pending
critical change; pulses that do not read back are answered CRC and the word holds what it reads. A locked region is
answered DENIED. OTP.LOCK sets its lock bits. A re-read that finds nothing resets its age; a region with a failing word
is flagged with FUSE at L1, by the re-read and by its retry alike. A corrected memory error is MEM at L0; an
uncorrectable word of MRAM reads as failed from then on, with MEM at L1. -/
def Obligations.FusesAndMemory : Prop :=
  (∀ (p : Port) (tag : BitVec 6) (r i v : Nat) (c : Taken) (s : State), s.ready →
      s.turn p tag c 0x0D10 (leBytes 1 r ++ [0] ++ leBytes 2 i ++ leBytes 2 v ++ [0, 0]) → c.force = true → c.fits 2 = true → s.otpReady c = true →
      s.otpPolicy p = true → r < 7 → r ≠ 2 → r ≠ 3 → i < otpWords r → v < 0x10000 → bitOf s.otp.wlock r = false → s.fuse r i = 0 → v ≠ 0 →
    Completes (.otpProgram p tag (BitVec.ofNat 16 v)) s fun t => t.fuse r i = v
      ∧ (∀ k, k ≠ otpKey r i → cellGet k 0 t.otp.words = cellGet k 0 s.otp.words)
      ∧ Replied c sOK (leBytes 2 v) s t ∧ ReplyFrame [] c s t ∧ t.mram = s.mram ∧ t.nv = s.nv)
  ∧ (∀ (p : Port) (tag : BitVec 6) (x : Nat) (c : Taken) (s : State), s.ready → s.turn p tag c 0x0D10 ([3, 0] ++ leBytes 2 (7 + x) ++ [10, 0, 0, 0]) →
      c.force = true → c.fits 2 = true → s.otpReady c = true → s.otpPolicy p = true → 0 < x → x < 9 → bitOf s.otp.wlock 3 = false → s.fuse 3 (7 + x) = 0 →
    Completes (.otpProgram p tag 10) s fun t => t.fuse 3 (7 + x) = 10 ∧ t.bit Reg.OTP_STAT_pend_crit = true ∧ t.otp.latch = s.otp.latch
      ∧ (∀ k, k ≠ otpKey 3 (7 + x) → cellGet k 0 t.otp.words = cellGet k 0 s.otp.words)
      ∧ Replied c sOK [10, 0] s t ∧ ReplyFrame [Reg.OTP_STAT_pend_crit] c s t ∧ t.mram = s.mram ∧ t.nv = s.nv)
  ∧ (∀ (p : Port) (tag : BitVec 6) (r : Nat) (rb : Word) (c : Taken) (s : State), s.ready → s.turn p tag c 0x0D10 (leBytes 1 r ++ [0, 0, 0, 1, 0, 0, 0]) →
      c.force = true → c.fits 2 = true → s.otpReady c = true → s.otpPolicy p = true → r < 7 → r ≠ 2 → r ≠ 3 → bitOf s.otp.wlock r = false →
      s.fuse r 0 = 0 → rb ≠ 1 →
    Completes (.otpProgram p tag rb) s fun t => t.fuse r 0 = rb.toNat ∧ Replied c sCRC [] s t ∧ ReplyFrame [] c s t
      ∧ (∀ k, k ≠ otpKey r 0 → cellGet k 0 t.otp.words = cellGet k 0 s.otp.words) ∧ t.mram = s.mram ∧ t.nv = s.nv)
  ∧ (∀ (p : Port) (tag : BitVec 6) (r : Nat) (rb : Word) (c : Taken) (s : State), s.ready → s.turn p tag c 0x0D10 (leBytes 1 r ++ [0, 0, 0, 1, 0, 0, 0]) →
      c.force = true → c.fits 2 = true → s.otpReady c = true → r < 7 → r ≠ 2 → r ≠ 3 → bitOf s.otp.wlock r = true →
    Completes (.otpProgram p tag rb) s fun t => Replied c sDENIED [] s t ∧ ReplyFrame [] c s t ∧ RecordsKept s t)
  ∧ (∀ (p : Port) (tag : BitVec 6) (r : Nat) (c : Taken) (s : State), s.ready → s.turn p tag c 0x0D11 (leBytes 1 r ++ [3, 0, 0]) → c.force = true →
      s.otpReady c = true → s.otpPolicy p = true → r < 7 → bitOf s.otp.wlock r = false → bitOf s.otp.rlock r = false →
    Completes (.otpLock p tag true) s fun t => bitOf t.otp.wlock r = true ∧ bitOf t.otp.rlock r = true ∧ RepliedOk [] [] c s t)
  ∧ (∀ s : State, s.ready → s.ageRuns = true → s.sys.vkeepLow = false →
    Completes (.otpReread []) s fun t => t.getF Reg.OTP_RT_AGE_hours = 0 ∧ t.otp.retry = false ∧ Frame [Reg.OTP_RT_AGE_hours] s t)
  ∧ (∀ (i : Fin 128) (s : State), s.ready → s.ageRuns = true → s.sys.vkeepLow = false → s.fresh cFUSE → s.present cFUSE 0 0 = false →
      ((List.range 8).filter fun r => !(badKeys [i.val] r).isEmpty) = [0] →
    Completes (.otpReread [i.val]) s fun t => bitOf (t.getF Reg.OTP_RT_mism) 0 = true ∧ t.getF Reg.OTP_RT_AGE_hours = 0 ∧ Noted cFUSE 0 1 t
      ∧ FrameLog ([Reg.OTP_RT_AGE_hours, Reg.OTP_RT_mism] ++ noteFields) 1 (evCode cFUSE 0 1) s t)
  ∧ (∀ (i : Fin 128) (s : State), s.ready → s.ageRuns = true → s.sys.vkeepLow = false → s.otp.retry = true → s.fresh cFUSE → s.present cFUSE 0 0 = false →
      ((List.range 8).filter fun r => !(badKeys [i.val] r).isEmpty) = [0] →
    Completes (.otpRereadRetry [i.val]) s fun t => bitOf (t.getF Reg.OTP_RT_mism) 0 = true ∧ t.otp.retry = false ∧ Noted cFUSE 0 1 t
      ∧ FrameLog ([Reg.OTP_RT_AGE_hours, Reg.OTP_RT_mism] ++ noteFields) 1 (evCode cFUSE 0 1) s t)
  ∧ (∀ (a : Nat) (s : State), s.ready → s.romUp = true → s.sys.vkeep = true → a < 0x200000 → s.fresh cMEM → s.present cMEM 0 0 = false →
    Completes (.secdedError (.mram a) true) s fun t => FrameLog noteFields 1 (evCode cMEM 0 0) s t)
  ∧ (∀ (b : Fin 8) (row : Nat) (s : State), s.ready → s.romUp = true → s.sys.vkeep = true → s.fresh cMEM → s.present cMEM (1 + b.val) 0 = false →
    Completes (.secdedError (.sram b row) false) s fun t => Noted cMEM (1 + b.val) 1 t ∧ FrameLog noteFields 1 (evCode cMEM (1 + b.val) 1) s t)
  ∧ (∀ (a : Nat) (s : State), s.ready → s.romUp = true → s.sys.vkeep = true → a < mSTORE → s.fresh cMEM → s.present cMEM 0 0 = false →
    Completes (.secdedError (.mram a) false) s fun t => t.mramBad (a / 4 * 4) 4 = true ∧ Noted cMEM 0 1 t ∧ t.mram = s.mram
      ∧ t.otp.words = s.otp.words ∧ t.time = s.time ∧ t.pending = s.pending ∧ LoggedOne 1 (evCode cMEM 0 1) s t
      ∧ Kept ([Reg.GAUGE_STORE_a_valid, Reg.GAUGE_STORE_b_valid, Reg.GAUGE_STORE_newest] ++ noteFields) s t)

/-- AGE.VETO discards the waiting items that are no repairs, AGE.APPROVE applies a waiting reference correction at once, and
AGE.PLAN answers the record of the live plan. A boot test and a run-time test of a phase mark it busy; a test without a
failing tine ends it, one with a failing spare retires the tine, records it in MRAM and in the fuses and raises TINE at
L0; an overdue test is flagged. A comparator copy that fails its self-test is retired with REF at L1. A plan run records
its history entry and proposes a reference correction, and a due item is applied at its row and the plan becomes the
live one. -/
def Obligations.Ageing : Prop :=
  (∀ (p : Port) (tag : BitVec 6) (x : Plan) (c : Taken) (s : State), s.ready → s.turn p tag c 0x0F10 (leBytes 2 x.id ++ [0, 0]) → s.sys.vkeepLow = false →
      s.age.prop = some x → x.id < 65536 → (x.items.any fun y => y.waits && y.cls == 2) = true →
    Completes (.ageVeto p tag) s fun t => t.age.prop = some { x with items := x.items.map fun y => if y.waits && y.cls != 2 then { y with state := 3 } else y }
      ∧ t.logKind s.logNext = 0x0D ∧ t.logCode s.logNext = x.id ∧ RepliedOk [] [] c s t)
  ∧ (∀ (p : Port) (tag : BitVec 6) (x : Plan) (y : PlanItem) (c : Taken) (s : State), s.ready → s.turn p tag c 0x0F11 (leBytes 2 x.id ++ [0, 0]) →
      s.sys.vkeepLow = false → x.id < 65536 → y.kind = 5 → y.waits = true → -2500 ≤ y.value → y.value ≤ 2500 →
      s.age.prop = some { x with items := [y] } →
    Completes (.ageApprove p tag) s fun t => t.getI Reg.AGE_REFCORR_corr = y.value ∧ t.age.prop = none
      ∧ t.nv = { s.nv with live := some { x with items := [{ y with state := 1 }] } } ∧ Replied c sOK [] s t
      ∧ ReplyFrame [Reg.AGE_REFCORR_corr] c s t ∧ t.mram = s.mram ∧ t.otp.words = s.otp.words)
  ∧ (∀ (p : Port) (tag : BitVec 6) (x : Plan) (c : Taken) (s : State), s.ready → s.turn p tag c 0x0F12 [0, 0, 0, 0] → c.rptr = true → s.nv.live = some x →
      c.fits (s.planBytes x 0).length = true → c.rcap < 0x10000 →
    Completes (.agePlan p tag) s fun t => RepliedOk [] (s.planBytes x 0) c s t)
  ∧ (∀ (n : Fin 16) (s : State), s.ready → s.romUp = true → s.st = stSTANDBY → s.getF Reg.SYS_STATE_prev_state = stBOOT → s.age.testing = [] →
      (s.age.bootDone.any fun m => decide (n.val ≤ m)) = false → (match s.railOf n with | some k => s.railStopped k | none => true) = true →
    Completes (.bootTineTest n) s fun t => t.age.testing = [n.val] ∧ t.bit (Reg.AGE_PH_busy n) = true ∧ Frame [Reg.AGE_PH_busy n] s t)
  ∧ (∀ (n : Fin 16) (k : Fin 8) (s : State), s.ready → s.romUp = true → s.st = stRUN → s.pathMode = pBUS → s.getF Reg.UPD_STAT_state ≠ 2 → s.age.testing = [] →
      s.railOf n = some k.val → s.bit (Reg.POL_PH_STAT_in_service n) = true → s.railStopped k = true → s.railHeld k = false →
      (s.servicePhases k).head? = some n.val →
    Completes (.runtimeTineTestStart n) s fun t => t.age.testing = [n.val] ∧ t.age.live = [n.val] ∧ t.bit (Reg.AGE_PH_busy n) = true
      ∧ Frame [Reg.AGE_PH_busy n] s t)
  ∧ (∀ (n : Fin 16) (l : List TineReading) (s : State), s.ready → s.age.testing = [n.val] → (l.all fun x => decide (x.tine < 36) && tineCause x == 0) = true →
      (match s.railOf n with | some k => (s.rail k).waitTest | none => false) = false →
    Completes (.tineTestDone n l) s fun t => t.age.testing = [] ∧ t.bit (Reg.AGE_PH_busy n) = false ∧ t.getF (Reg.AGE_PH_aborts n) = 0
      ∧ t.bit (Reg.AGE_PH_overdue n) = false ∧ Frame [Reg.AGE_PH_busy n, Reg.AGE_PH_aborts n, Reg.AGE_PH_overdue n] s t)
  ∧ (∀ (n : Fin 16) (x : TineReading) (s : State), s.ready → s.romUp = true → s.sys.vkeepLow = false → s.age.testing = [n.val] → x.tine < 36 → tineCause x ≠ 0 →
      (s.tinesOut n).contains x.tine = false → (s.tinesOn n).contains x.tine = false → 24 < (s.tinesOn n).length + (s.spares n).length →
      s.bit (Reg.POL_PH_STAT_in_service n) = true → (match s.railOf n with | some k => (s.rail k).waitTest | none => false) = false →
      s.fresh cTINE → s.present cTINE n 0 = false → ((List.range 32).all fun i => s.fuse 7 i == 0) = true →
    Completes (.tineTestDone n [x]) s fun t => (t.tinesOut n).contains x.tine = true ∧ (t.tinesOn n).contains x.tine = false
      ∧ t.nv = { s.nv with repair := s.nv.repair ++ [8192 + n.val * 512 + x.tine * 8 + tineCause x] }
      ∧ t.fuse 7 0 = 8192 + n.val * 512 + x.tine * 8 + tineCause x ∧ t.age.testing = []
      ∧ KeptBut [9, 0x10] (Reg.OTP_REPAIR_used :: noteFields) s t ∧ t.mram = s.mram ∧ t.sbBuf = s.sbBuf ∧ t.time = s.time ∧ t.pending = s.pending
      ∧ LogGrows s t)
  ∧ (∀ (n : Fin 16) (s : State), s.ready → s.romUp = true →
    Completes (.tineTestOverdue n) s fun t => t.bit (Reg.AGE_PH_overdue n) = true ∧ Frame [Reg.AGE_PH_overdue n] s t)
  ∧ (∀ (ch : Fin 28) (copy : Fin 3) (s : State), s.ready → s.romUp = true → s.sys.vkeepLow = false → s.armed ch true = true →
      bitOf (s.getF (Reg.AGE_CMP_ret_ov ch)) copy = false → s.fresh cREF → s.present cREF ch 6 = false →
      ((List.range 32).all fun i => s.fuse 7 i == 0) = true →
    Completes (.comparatorSelfTest ch true copy false) s fun t => bitOf (t.getF (Reg.AGE_CMP_ret_ov ch)) copy = true ∧ Noted cREF ch 1 t
      ∧ t.nv = { s.nv with repair := s.nv.repair ++ [2 * 8192 + ch.val * 256 + 128 + copy.val * 32] }
      ∧ t.fuse 7 0 = 2 * 8192 + ch.val * 256 + 128 + copy.val * 32
      ∧ Kept ([Reg.AGE_CMP_ret_ov ch, Reg.OTP_REPAIR_used] ++ noteFields) s t ∧ t.mram = s.mram ∧ t.sbBuf = s.sbBuf ∧ t.time = s.time
      ∧ t.pending = s.pending ∧ LogGrows s t)
  ∧ (∀ (x : PlanInput) (s : State), s.ready → s.ageRuns = true → s.sys.ctlAlive = true → s.sys.vkeepLow = false → x.wf = true → s.planRails = [] →
      s.getF Reg.AGE_HOLD_t_req = 0 → x.refDrift = -(s.getI Reg.AGE_REFCORR_corr) → -2500 ≤ x.refDrift → x.refDrift ≤ 2500 →
    Completes (.planRun x) s fun t => ((List.range 5).all fun d => t.getF (Reg.AGE_RING_slow d) == x.ring.getD d 0 % 65536) = true
      ∧ t.nv.histNext = s.nv.histNext + 1 ∧ memRead (mHIST + 32 * (s.nv.histNext % 8192)) 4 t.mram = leBytes 4 s.nv.histNext
      ∧ memRead (mHIST + 32 * (s.nv.histNext % 8192) + 28) 4 t.mram = leBytes 4 (not32 s.nv.histNext) ∧ t.age.prop = s.age.prop
      ∧ (∀ a, (a < mHIST + 32 * (s.nv.histNext % 8192) ∨ mHIST + 32 * (s.nv.histNext % 8192) + 32 ≤ a) → memGet a t.mram = memGet a s.mram)
      ∧ Kept ([Reg.AGE_LIFE_life, Reg.AGE_STAT_hold_short] ++ (List.range 5).map Reg.AGE_RING_slow) s t ∧ t.sbBuf = s.sbBuf
      ∧ t.otp.words = s.otp.words ∧ t.time = s.time ∧ t.pending = s.pending ∧ WinKept s t)
  ∧ (∀ (x : PlanInput) (s : State), s.ready → s.ageRuns = true → s.sys.ctlAlive = true → s.sys.vkeepLow = false → x.wf = true → s.planRails = [] →
      s.getF Reg.AGE_HOLD_t_req = 0 → s.getI Reg.AGE_REFCORR_corr = 0 → 20 ≤ x.refDrift → x.refDrift ≤ 2500 → s.age.prop = none →
      s.bit Reg.AGE_CFG_plan_en = true → s.bit Reg.AGE_CFG_approve = false → s.nv.planId < 65536 → s.base Reg.AGE_REFCORR_corr = none →
      x.byRepair = false →
    Completes (.planRun x) s fun t => t.bit Reg.HOST_INT_STAT_age = true
      ∧ t.age.prop = some ⟨if s.nv.planId + 1 < 65536 then s.nv.planId + 1 else 1, s.time, [⟨5, 0, 0, 0, 0, -x.refDrift, some (s.time + 60000000)⟩]⟩
      ∧ t.logKind s.logNext = 0x0D ∧ t.nv.histNext = s.nv.histNext + 1
      ∧ (∀ a, (a < mHIST + 32 * (s.nv.histNext % 8192) ∨ mHIST + 32 * (s.nv.histNext % 8192) + 32 ≤ a) → memGet a t.mram = memGet a s.mram)
      ∧ Kept ([Reg.AGE_LIFE_life, Reg.AGE_STAT_hold_short, Reg.HOST_INT_STAT_age] ++ (List.range 5).map Reg.AGE_RING_slow) s t ∧ t.sbBuf = s.sbBuf
      ∧ t.otp.words = s.otp.words ∧ t.time = s.time ∧ t.pending = s.pending ∧ LogGrows s t)
  ∧ (∀ (x : Plan) (y : PlanItem) (s : State), s.ready → s.planActs = true → s.sys.vkeepLow = false → y.kind = 5 → y.state = 0 → y.due.isSome = true → -2500 ≤ y.value →
      y.value ≤ 2500 → s.age.prop = some { x with items := [y] } →
    Completes (.planItemApply 0) s fun t => t.getI Reg.AGE_REFCORR_corr = y.value ∧ t.age.prop = none
      ∧ t.nv = { s.nv with live := some { x with items := [{ y with state := 1 }] } }
      ∧ LoggedOne 0x0D (x.id % 65536) s t ∧ Kept [Reg.AGE_REFCORR_corr] s t ∧ t.mram = s.mram ∧ t.sbBuf = s.sbBuf ∧ t.otp.words = s.otp.words
      ∧ t.time = s.time ∧ t.pending = s.pending)
end

