-- ==== Sys2Proof/Laws/Cells.lean ====
section
/-!
SUPPORT. The sparse files of numbers and bytes: what a store reads as afterwards, and that every store keeps the canonical form.
-/

namespace Sys2Proof.Machine

/-! Files of numbers. -/

theorem Cells.wf_tail {p : Nat × Nat} {r : Cells} (h : Cells.wf (p :: r) = true) : Cells.wf r = true := by
  cases r with
  | nil => rfl
  | cons q s => exact (Bool.and_eq_true _ _ ▸ h).2

theorem Cells.wf_lt {a w b u : Nat} {r : Cells} (h : Cells.wf ((a, w) :: (b, u) :: r) = true) : a < b :=
  of_decide_eq_true (Bool.and_eq_true _ _ ▸ h).1

/-- A key at or below the head of a canonical file is not listed behind it. -/
theorem cellGet_behind (d : Nat) (r : Cells) :
    ∀ a w x, Cells.wf ((a, w) :: r) = true → x ≤ a → cellGet x d r = d := by
  induction r with
  | nil => intros; rfl
  | cons q s ih =>
    obtain ⟨b, u⟩ := q
    intro a w x h hx
    have hab := Cells.wf_lt h
    have : b ≠ x := by omega
    simp only [cellGet, this, ↓reduceIte]
    exact ih b u x (Cells.wf_tail h) (by omega)

/-- The stored number reads back. -/
theorem cellGet_cellSet_same (k v d : Nat) (l : Cells) (h : Cells.wf l = true) : cellGet k d (cellSet k v d l) = v := by
  induction l with
  | nil => unfold cellSet; split <;> simp_all [cellGet]
  | cons p r ih =>
    obtain ⟨a, w⟩ := p
    unfold cellSet
    split
    · rename_i h1
      have : a ≠ k := by omega
      simp only [cellGet, this, ↓reduceIte]
      exact ih (Cells.wf_tail h)
    · split
      · rename_i h1 h2
        subst h2
        split
        · rename_i hv
          rw [cellGet_behind d r a w a h (le_refl a), hv]
        · simp [cellGet]
      · rename_i h1 h2
        split
        · rename_i hv
          simp only [cellGet, h2, ↓reduceIte]
          rw [cellGet_behind d r a w k h (by omega), hv]
        · simp [cellGet]

/-- Storing under one key leaves the others. -/
theorem cellGet_cellSet_ne (k j v d e : Nat) (l : Cells) (h : j ≠ k) : cellGet j e (cellSet k v d l) = cellGet j e l := by
  have hk : k ≠ j := Ne.symm h
  induction l with
  | nil => unfold cellSet; split <;> simp [cellGet, hk]
  | cons p r ih =>
    obtain ⟨a, w⟩ := p
    unfold cellSet
    split
    · simp only [cellGet, ih]
    · split
      · rename_i h2
        subst h2
        split <;> simp [cellGet, hk]
      · split <;> simp [cellGet, hk]

/-- The head of a file after a store: the old head or the stored key. -/
theorem cellSet_wf (k v d : Nat) (l : Cells) (h : Cells.wf l = true) : Cells.wf (cellSet k v d l) = true := by
  induction l with
  | nil => unfold cellSet; split <;> rfl
  | cons p r ih =>
    obtain ⟨a, w⟩ := p
    have hr := Cells.wf_tail h
    unfold cellSet
    split
    · rename_i h1
      have hs := ih hr
      cases r with
      | nil =>
        simp only [cellSet] at hs ⊢
        split
        · rfl
        · simp [Cells.wf, h1]
      | cons q s =>
        obtain ⟨b, u⟩ := q
        have hab := Cells.wf_lt h
        unfold cellSet at hs ⊢
        split
        · simp_all [Cells.wf]
        · split
          · split
            · cases s with
              | nil => rfl
              | cons t s' =>
                obtain ⟨c, x⟩ := t
                have := Cells.wf_lt hr
                simp_all [Cells.wf]
                omega
            · simp_all [Cells.wf]
          · split <;> simp_all [Cells.wf]
    · split
      · rename_i h1 h2
        split
        · exact hr
        · subst h2
          cases r with
          | nil => rfl
          | cons q s => exact h
      · rename_i h1 h2
        split
        · exact h
        · have : k < a := by omega
          simp [Cells.wf, this, h]

/-! Byte memories. -/

theorem Memory.wf_tail {p : Host.Cell} {r : Mem} (h : Memory.wf (p :: r) = true) : Memory.wf r = true := by
  cases r with
  | nil => rfl
  | cons q s => exact (Bool.and_eq_true _ _ ▸ h).2

theorem Memory.wf_head {a : Nat} {v : Byte} {r : Mem} (h : Memory.wf ((a, v) :: r) = true) : v ≠ 0 := by
  cases r with
  | nil => simpa [Memory.wf] using h
  | cons q s => simp [Memory.wf] at h; exact h.1.2

theorem Memory.wf_lt {a b : Nat} {v u : Byte} {r : Mem} (h : Memory.wf ((a, v) :: (b, u) :: r) = true) : a < b := by
  simp [Memory.wf] at h; exact h.1.1

theorem Memory.wf_cons {a : Nat} {v : Byte} {r : Mem} (hv : v ≠ 0) (hr : Memory.wf r = true)
    (hl : ∀ b u s, r = (b, u) :: s → a < b) : Memory.wf ((a, v) :: r) = true := by
  cases r with
  | nil => simpa [Memory.wf] using hv
  | cons q s =>
    obtain ⟨b, u⟩ := q
    simp only [Memory.wf, Bool.and_eq_true, decide_eq_true_eq]
    exact ⟨⟨hl b u s rfl, by simpa using hv⟩, hr⟩

theorem memGet_behind (r : Mem) :
    ∀ (a : Nat) (w : Byte) (x : Nat), Memory.wf ((a, w) :: r) = true → x ≤ a → memGet x r = 0 := by
  induction r with
  | nil => intros; rfl
  | cons q s ih =>
    obtain ⟨b, u⟩ := q
    intro a w x h hx
    have hab := Memory.wf_lt h
    have : b ≠ x := by omega
    simp only [memGet, this, ↓reduceIte]
    exact ih b u x (Memory.wf_tail h) (by omega)

/-- The stored byte reads back. -/
theorem memGet_memSet_same (a : Nat) (v : Byte) (m : Mem) (h : Memory.wf m = true) : memGet a (memSet a v m) = v := by
  induction m with
  | nil => unfold memSet; split <;> simp_all [memGet]
  | cons p r ih =>
    obtain ⟨b, w⟩ := p
    unfold memSet
    split
    · rename_i h1
      have : b ≠ a := by omega
      simp only [memGet, this, ↓reduceIte]
      exact ih (Memory.wf_tail h)
    · split
      · rename_i h1 h2
        subst h2
        split
        · rename_i hv
          rw [memGet_behind r b w b h (le_refl b), hv]
        · simp [memGet]
      · rename_i h1 h2
        split
        · rename_i hv
          simp only [memGet, h2, ↓reduceIte]
          rw [memGet_behind r b w a h (by omega), hv]
        · simp [memGet]

/-- Storing one byte leaves the others. -/
theorem memGet_memSet_ne (a x : Nat) (v : Byte) (m : Mem) (h : x ≠ a) : memGet x (memSet a v m) = memGet x m := by
  have hk : a ≠ x := Ne.symm h
  induction m with
  | nil => unfold memSet; split <;> simp [memGet, hk]
  | cons p r ih =>
    obtain ⟨b, w⟩ := p
    unfold memSet
    split
    · simp only [memGet, ih]
    · split
      · rename_i h2
        subst h2
        split <;> simp [memGet, hk]
      · split <;> simp [memGet, hk]

/-- The first address of a memory after a store. -/
theorem memSet_head (a : Nat) (v : Byte) (m : Mem) (b : Nat) (u : Byte) (s : Mem) (c : Nat)
    (h : memSet a v m = (b, u) :: s) (hc : c < a) (hm : ∀ b u s, m = (b, u) :: s → c < b) (hwf : Memory.wf m = true) : c < b := by
  cases m with
  | nil =>
    unfold memSet at h
    split at h <;> simp at h
    omega
  | cons p r =>
    obtain ⟨x, w⟩ := p
    have hx := hm x w r rfl
    unfold memSet at h
    split at h
    · simp at h; omega
    · split at h
      · split at h
        · subst h
          have := Memory.wf_lt hwf
          omega
        · simp at h; omega
      · split at h <;> simp at h <;> omega

/-- Every store keeps the canonical form. -/
theorem memSet_wf (a : Nat) (v : Byte) (m : Mem) (h : Memory.wf m = true) : Memory.wf (memSet a v m) = true := by
  induction m with
  | nil =>
    unfold memSet
    split
    · rfl
    · rename_i hv; simpa [Memory.wf] using hv
  | cons p r ih =>
    obtain ⟨b, w⟩ := p
    have hr := Memory.wf_tail h
    have hw := Memory.wf_head h
    unfold memSet
    split
    · rename_i h1
      refine Memory.wf_cons hw (ih hr) fun c u s hs => memSet_head a v r c u s b hs h1 ?_ hr
      intro c u s hs
      subst hs
      exact Memory.wf_lt h
    · split
      · split
        · exact hr
        · rename_i h2 hv
          subst h2
          exact Memory.wf_cons hv hr fun c u s hs => by subst hs; exact Memory.wf_lt h
      · split
        · exact h
        · rename_i h1 h2 hv
          refine Memory.wf_cons hv h fun c u s hs => ?_
          simp at hs
          omega

/-- A list of bytes reads back where it was stored. -/
theorem memGet_memWrite_in (l : List Byte) :
    ∀ (a : Nat) (m : Mem) (i : Nat) (hi : i < l.length), Memory.wf m = true → memGet (a + i) (memWrite a l m) = l[i] := by
  induction l with
  | nil => intro a m i hi; simp at hi
  | cons b r ih =>
    intro a m i hi hwf
    unfold memWrite
    cases i with
    | zero =>
      have hout : ∀ (l : List Byte) (c x : Nat) (n : Mem), x < c → memGet x (memWrite c l n) = memGet x n := by
        intro l
        induction l with
        | nil => intros; rfl
        | cons e t iht =>
          intro c x n hx
          unfold memWrite
          rw [iht (c + 1) x _ (by omega), memGet_memSet_ne c x e n (by omega)]
      simp only [Nat.add_zero, List.getElem_cons_zero]
      rw [hout r (a + 1) a _ (by omega), memGet_memSet_same a b m hwf]
    | succ j =>
      have := ih (a + 1) (memSet a b m) j (by simpa using hi) (memSet_wf a b m hwf)
      rw [show a + (j + 1) = a + 1 + j by omega, this]
      rfl

/-- Bytes outside the stored range stay. -/
theorem memGet_memWrite_out (l : List Byte) :
    ∀ (a x : Nat) (m : Mem), (x < a ∨ a + l.length ≤ x) → memGet x (memWrite a l m) = memGet x m := by
  induction l with
  | nil => intros; rfl
  | cons b r ih =>
    intro a x m h
    simp only [List.length_cons] at h
    unfold memWrite
    rw [ih (a + 1) x _ (by omega), memGet_memSet_ne a x b m (by omega)]

theorem memWrite_wf (l : List Byte) : ∀ (a : Nat) (m : Mem), Memory.wf m = true → Memory.wf (memWrite a l m) = true := by
  induction l with
  | nil => intro a m h; exact h
  | cons b r ih =>
    intro a m h
    unfold memWrite
    exact ih (a + 1) _ (memSet_wf a b m h)

end Sys2Proof.Machine
end

