-- ==== Sys2Proof/Laws/Fields.lean ====
section
/-!
SUPPORT. Reading register fields after the named operations: a set field reads its value, every other one is as before.
-/

namespace Sys2Proof.Machine

/-! Setting a field. -/

theorem getF_setF_same (s : State) (f : Fld) (v : Nat) (h : Cells.wf s.fields = true) : (s.setF f v).getF f = v % 2 ^ f.w :=
  cellGet_cellSet_same _ _ _ _ h

theorem getF_setF_ne (s : State) (f g : Fld) (v : Nat) (h : g.key ≠ f.key) : (s.setF f v).getF g = s.getF g :=
  cellGet_cellSet_ne _ _ _ _ _ _ h

theorem getF_setB_same (s : State) (f : Fld) (b : Bool) (h : Cells.wf s.fields = true) : (s.setB f b).getF f = b.toNat % 2 ^ f.w :=
  getF_setF_same s f _ h

theorem getF_setB_ne (s : State) (f g : Fld) (b : Bool) (h : g.key ≠ f.key) : (s.setB f b).getF g = s.getF g :=
  getF_setF_ne s f g _ h

theorem getF_setI_ne (s : State) (f g : Fld) (i : Int) (h : g.key ≠ f.key) : (s.setI f i).getF g = s.getF g :=
  getF_setF_ne s f g _ h

theorem bit_setB_same (s : State) (f : Fld) (b : Bool) (hw : 0 < f.w) (h : Cells.wf s.fields = true) : (s.setB f b).bit f = b := by
  have h2 : 1 < 2 ^ f.w := Nat.one_lt_two_pow (by omega)
  unfold State.bit
  rw [getF_setB_same s f b h]
  cases b <;> simp [Nat.mod_eq_of_lt h2]

theorem bit_setB_ne (s : State) (f g : Fld) (b : Bool) (h : g.key ≠ f.key) : (s.setB f b).bit g = s.bit g := by
  unfold State.bit
  rw [getF_setB_ne s f g b h]

theorem bit_setF_ne (s : State) (f g : Fld) (v : Nat) (h : g.key ≠ f.key) : (s.setF f v).bit g = s.bit g := by
  unfold State.bit
  rw [getF_setF_ne s f g v h]

@[simp] theorem setF_fields_wf (s : State) (f : Fld) (v : Nat) (h : Cells.wf s.fields = true) : Cells.wf (s.setF f v).fields = true :=
  cellSet_wf _ _ _ _ h

theorem setMany_nil (s : State) : s.setMany [] = s := rfl

theorem setMany_cons (s : State) (p : Fld × Nat) (l : List (Fld × Nat)) : s.setMany (p :: l) = (s.setF p.1 p.2).setMany l := rfl

theorem setMany_append (s : State) (l m : List (Fld × Nat)) : s.setMany (l ++ m) = (s.setMany l).setMany m := by
  simp [State.setMany]

theorem getF_setMany_ne (l : List (Fld × Nat)) : ∀ (s : State) (g : Fld), (∀ p ∈ l, g.key ≠ p.1.key) → (s.setMany l).getF g = s.getF g := by
  induction l with
  | nil => intros; rfl
  | cons p r ih =>
    intro s g h
    rw [setMany_cons, ih _ g (fun q hq => h q (List.mem_cons_of_mem _ hq)), getF_setF_ne _ _ _ _ (h p List.mem_cons_self)]

theorem setMany_fields_wf (l : List (Fld × Nat)) : ∀ s : State, Cells.wf s.fields = true → Cells.wf (s.setMany l).fields = true := by
  induction l with
  | nil => intro s h; exact h
  | cons p r ih => intro s h; rw [setMany_cons]; exact ih _ (setF_fields_wf s p.1 p.2 h)

/-! Setting a field changes nothing else. -/

theorem setF_eq (s : State) (f : Fld) (v : Nat) :
    s.setF f v = { s with fields := cellSet f.key (v % 2 ^ f.w) f.rst s.fields } := rfl

theorem setMany_eq (l : List (Fld × Nat)) : ∀ s : State, s.setMany l = { s with fields := (s.setMany l).fields } := by
  induction l with
  | nil => intro s; rfl
  | cons p r ih => intro s; rw [setMany_cons, ih]; rfl

/-! The log. -/

theorem getF_logAt (s : State) (time kind code : Nat) (d : List Byte) (f : Fld) : (s.logAt time kind code d).getF f = s.getF f := rfl

@[simp] theorem getF_log (s : State) (kind code : Nat) (d : List Byte) (f : Fld) : (s.log kind code d).getF f = s.getF f := rfl

/-! The end of a row. -/

/-- A quiet state is its own end of a row. -/
theorem settle_quiet (s : State) (h : s.quiet) : s.settle = s := by
  obtain ⟨h1, h2, h3⟩ := h
  have hd : ∀ n, s.drain n = s := by
    intro n
    cases n with
    | zero => rfl
    | succ n => simp [State.drain, h1]
  simp only [State.settle, hd, State.runDeferred, h2, Bool.false_and, Bool.false_eq_true, ↓reduceIte, State.stopTests, h3,
    List.isEmpty_nil]
  have hf : { s.flt with evs := [] } = s.flt := by rw [← h1]
  rw [State.updFlt, hf]

/-- A row that raises no event answers its state. -/
theorem done_quiet (s : State) (h : s.quiet) : s.done = .next s := by
  rw [State.done, settle_quiet s h]

end Sys2Proof.Machine
end

