-- ==== Sys2Proof/Laws/State.lean ====
section
/-!
SUPPORT. One lemma for each part of the state under each update of a part: what an update leaves as it was, and what it puts.
-/

namespace Sys2Proof.Machine

/-! `updSys`. -/

@[simp] theorem updSys_sys (s : State) (g : Sys → Sys) : (s.updSys g).sys = g s.sys := rfl
@[simp] theorem updSys_time (s : State) (g : Sys → Sys) : (s.updSys g).time = s.time := rfl
@[simp] theorem updSys_half (s : State) (g : Sys → Sys) : (s.updSys g).half = s.half := rfl
@[simp] theorem updSys_clk (s : State) (g : Sys → Sys) : (s.updSys g).clk = s.clk := rfl
@[simp] theorem updSys_fields (s : State) (g : Sys → Sys) : (s.updSys g).fields = s.fields := rfl
@[simp] theorem updSys_staged (s : State) (g : Sys → Sys) : (s.updSys g).staged = s.staged := rfl
@[simp] theorem updSys_accHost (s : State) (g : Sys → Sys) : (s.updSys g).accHost = s.accHost := rfl
@[simp] theorem updSys_accSide (s : State) (g : Sys → Sys) : (s.updSys g).accSide = s.accSide := rfl
@[simp] theorem updSys_accCtl (s : State) (g : Sys → Sys) : (s.updSys g).accCtl = s.accCtl := rfl
@[simp] theorem updSys_accGauge (s : State) (g : Sys → Sys) : (s.updSys g).accGauge = s.accGauge := rfl
@[simp] theorem updSys_flt (s : State) (g : Sys → Sys) : (s.updSys g).flt = s.flt := rfl
@[simp] theorem updSys_mbx (s : State) (g : Sys → Sys) : (s.updSys g).mbx = s.mbx := rfl
@[simp] theorem updSys_seq (s : State) (g : Sys → Sys) : (s.updSys g).seq = s.seq := rfl
@[simp] theorem updSys_rails (s : State) (g : Sys → Sys) : (s.updSys g).rails = s.rails := rfl
@[simp] theorem updSys_isoQueue (s : State) (g : Sys → Sys) : (s.updSys g).isoQueue = s.isoQueue := rfl
@[simp] theorem updSys_ldos (s : State) (g : Sys → Sys) : (s.updSys g).ldos = s.ldos := rfl
@[simp] theorem updSys_mons (s : State) (g : Sys → Sys) : (s.updSys g).mons = s.mons := rfl
@[simp] theorem updSys_fe (s : State) (g : Sys → Sys) : (s.updSys g).fe = s.fe := rfl
@[simp] theorem updSys_path (s : State) (g : Sys → Sys) : (s.updSys g).path = s.path := rfl
@[simp] theorem updSys_chg (s : State) (g : Sys → Sys) : (s.updSys g).chg = s.chg := rfl
@[simp] theorem updSys_tel (s : State) (g : Sys → Sys) : (s.updSys g).tel = s.tel := rfl
@[simp] theorem updSys_otp (s : State) (g : Sys → Sys) : (s.updSys g).otp = s.otp := rfl
@[simp] theorem updSys_sb (s : State) (g : Sys → Sys) : (s.updSys g).sb = s.sb := rfl
@[simp] theorem updSys_gauge (s : State) (g : Sys → Sys) : (s.updSys g).gauge = s.gauge := rfl
@[simp] theorem updSys_upd (s : State) (g : Sys → Sys) : (s.updSys g).upd = s.upd := rfl
@[simp] theorem updSys_age (s : State) (g : Sys → Sys) : (s.updSys g).age = s.age := rfl
@[simp] theorem updSys_nv (s : State) (g : Sys → Sys) : (s.updSys g).nv = s.nv := rfl
@[simp] theorem updSys_granted (s : State) (g : Sys → Sys) : (s.updSys g).granted = s.granted := rfl
@[simp] theorem updSys_logNext (s : State) (g : Sys → Sys) : (s.updSys g).logNext = s.logNext := rfl
@[simp] theorem updSys_win (s : State) (g : Sys → Sys) : (s.updSys g).win = s.win := rfl
@[simp] theorem updSys_sbBuf (s : State) (g : Sys → Sys) : (s.updSys g).sbBuf = s.sbBuf := rfl
@[simp] theorem updSys_mram (s : State) (g : Sys → Sys) : (s.updSys g).mram = s.mram := rfl
@[simp] theorem updSys_spiOut (s : State) (g : Sys → Sys) : (s.updSys g).spiOut = s.spiOut := rfl
@[simp] theorem updSys_sbOut (s : State) (g : Sys → Sys) : (s.updSys g).sbOut = s.sbOut := rfl
@[simp] theorem updSys_free (s : State) (g : Sys → Sys) : (s.updSys g).free = s.free := rfl
@[simp] theorem updSys_pending (s : State) (g : Sys → Sys) : (s.updSys g).pending = s.pending := rfl
@[simp] theorem updSys_getF (s : State) (g : Sys → Sys) (f : Fld) : (s.updSys g).getF f = s.getF f := rfl
@[simp] theorem updSys_bit (s : State) (g : Sys → Sys) (f : Fld) : (s.updSys g).bit f = s.bit f := rfl

/-! `updFlt`. -/

@[simp] theorem updFlt_sys (s : State) (g : Flt → Flt) : (s.updFlt g).sys = s.sys := rfl
@[simp] theorem updFlt_time (s : State) (g : Flt → Flt) : (s.updFlt g).time = s.time := rfl
@[simp] theorem updFlt_half (s : State) (g : Flt → Flt) : (s.updFlt g).half = s.half := rfl
@[simp] theorem updFlt_clk (s : State) (g : Flt → Flt) : (s.updFlt g).clk = s.clk := rfl
@[simp] theorem updFlt_fields (s : State) (g : Flt → Flt) : (s.updFlt g).fields = s.fields := rfl
@[simp] theorem updFlt_staged (s : State) (g : Flt → Flt) : (s.updFlt g).staged = s.staged := rfl
@[simp] theorem updFlt_accHost (s : State) (g : Flt → Flt) : (s.updFlt g).accHost = s.accHost := rfl
@[simp] theorem updFlt_accSide (s : State) (g : Flt → Flt) : (s.updFlt g).accSide = s.accSide := rfl
@[simp] theorem updFlt_accCtl (s : State) (g : Flt → Flt) : (s.updFlt g).accCtl = s.accCtl := rfl
@[simp] theorem updFlt_accGauge (s : State) (g : Flt → Flt) : (s.updFlt g).accGauge = s.accGauge := rfl
@[simp] theorem updFlt_flt (s : State) (g : Flt → Flt) : (s.updFlt g).flt = g s.flt := rfl
@[simp] theorem updFlt_mbx (s : State) (g : Flt → Flt) : (s.updFlt g).mbx = s.mbx := rfl
@[simp] theorem updFlt_seq (s : State) (g : Flt → Flt) : (s.updFlt g).seq = s.seq := rfl
@[simp] theorem updFlt_rails (s : State) (g : Flt → Flt) : (s.updFlt g).rails = s.rails := rfl
@[simp] theorem updFlt_isoQueue (s : State) (g : Flt → Flt) : (s.updFlt g).isoQueue = s.isoQueue := rfl
@[simp] theorem updFlt_ldos (s : State) (g : Flt → Flt) : (s.updFlt g).ldos = s.ldos := rfl
@[simp] theorem updFlt_mons (s : State) (g : Flt → Flt) : (s.updFlt g).mons = s.mons := rfl
@[simp] theorem updFlt_fe (s : State) (g : Flt → Flt) : (s.updFlt g).fe = s.fe := rfl
@[simp] theorem updFlt_path (s : State) (g : Flt → Flt) : (s.updFlt g).path = s.path := rfl
@[simp] theorem updFlt_chg (s : State) (g : Flt → Flt) : (s.updFlt g).chg = s.chg := rfl
@[simp] theorem updFlt_tel (s : State) (g : Flt → Flt) : (s.updFlt g).tel = s.tel := rfl
@[simp] theorem updFlt_otp (s : State) (g : Flt → Flt) : (s.updFlt g).otp = s.otp := rfl
@[simp] theorem updFlt_sb (s : State) (g : Flt → Flt) : (s.updFlt g).sb = s.sb := rfl
@[simp] theorem updFlt_gauge (s : State) (g : Flt → Flt) : (s.updFlt g).gauge = s.gauge := rfl
@[simp] theorem updFlt_upd (s : State) (g : Flt → Flt) : (s.updFlt g).upd = s.upd := rfl
@[simp] theorem updFlt_age (s : State) (g : Flt → Flt) : (s.updFlt g).age = s.age := rfl
@[simp] theorem updFlt_nv (s : State) (g : Flt → Flt) : (s.updFlt g).nv = s.nv := rfl
@[simp] theorem updFlt_granted (s : State) (g : Flt → Flt) : (s.updFlt g).granted = s.granted := rfl
@[simp] theorem updFlt_logNext (s : State) (g : Flt → Flt) : (s.updFlt g).logNext = s.logNext := rfl
@[simp] theorem updFlt_win (s : State) (g : Flt → Flt) : (s.updFlt g).win = s.win := rfl
@[simp] theorem updFlt_sbBuf (s : State) (g : Flt → Flt) : (s.updFlt g).sbBuf = s.sbBuf := rfl
@[simp] theorem updFlt_mram (s : State) (g : Flt → Flt) : (s.updFlt g).mram = s.mram := rfl
@[simp] theorem updFlt_spiOut (s : State) (g : Flt → Flt) : (s.updFlt g).spiOut = s.spiOut := rfl
@[simp] theorem updFlt_sbOut (s : State) (g : Flt → Flt) : (s.updFlt g).sbOut = s.sbOut := rfl
@[simp] theorem updFlt_free (s : State) (g : Flt → Flt) : (s.updFlt g).free = s.free := rfl
@[simp] theorem updFlt_pending (s : State) (g : Flt → Flt) : (s.updFlt g).pending = s.pending := rfl
@[simp] theorem updFlt_getF (s : State) (g : Flt → Flt) (f : Fld) : (s.updFlt g).getF f = s.getF f := rfl
@[simp] theorem updFlt_bit (s : State) (g : Flt → Flt) (f : Fld) : (s.updFlt g).bit f = s.bit f := rfl

/-! `updMbx`. -/

@[simp] theorem updMbx_sys (s : State) (g : Mbx → Mbx) : (s.updMbx g).sys = s.sys := rfl
@[simp] theorem updMbx_time (s : State) (g : Mbx → Mbx) : (s.updMbx g).time = s.time := rfl
@[simp] theorem updMbx_half (s : State) (g : Mbx → Mbx) : (s.updMbx g).half = s.half := rfl
@[simp] theorem updMbx_clk (s : State) (g : Mbx → Mbx) : (s.updMbx g).clk = s.clk := rfl
@[simp] theorem updMbx_fields (s : State) (g : Mbx → Mbx) : (s.updMbx g).fields = s.fields := rfl
@[simp] theorem updMbx_staged (s : State) (g : Mbx → Mbx) : (s.updMbx g).staged = s.staged := rfl
@[simp] theorem updMbx_accHost (s : State) (g : Mbx → Mbx) : (s.updMbx g).accHost = s.accHost := rfl
@[simp] theorem updMbx_accSide (s : State) (g : Mbx → Mbx) : (s.updMbx g).accSide = s.accSide := rfl
@[simp] theorem updMbx_accCtl (s : State) (g : Mbx → Mbx) : (s.updMbx g).accCtl = s.accCtl := rfl
@[simp] theorem updMbx_accGauge (s : State) (g : Mbx → Mbx) : (s.updMbx g).accGauge = s.accGauge := rfl
@[simp] theorem updMbx_flt (s : State) (g : Mbx → Mbx) : (s.updMbx g).flt = s.flt := rfl
@[simp] theorem updMbx_mbx (s : State) (g : Mbx → Mbx) : (s.updMbx g).mbx = g s.mbx := rfl
@[simp] theorem updMbx_seq (s : State) (g : Mbx → Mbx) : (s.updMbx g).seq = s.seq := rfl
@[simp] theorem updMbx_rails (s : State) (g : Mbx → Mbx) : (s.updMbx g).rails = s.rails := rfl
@[simp] theorem updMbx_isoQueue (s : State) (g : Mbx → Mbx) : (s.updMbx g).isoQueue = s.isoQueue := rfl
@[simp] theorem updMbx_ldos (s : State) (g : Mbx → Mbx) : (s.updMbx g).ldos = s.ldos := rfl
@[simp] theorem updMbx_mons (s : State) (g : Mbx → Mbx) : (s.updMbx g).mons = s.mons := rfl
@[simp] theorem updMbx_fe (s : State) (g : Mbx → Mbx) : (s.updMbx g).fe = s.fe := rfl
@[simp] theorem updMbx_path (s : State) (g : Mbx → Mbx) : (s.updMbx g).path = s.path := rfl
@[simp] theorem updMbx_chg (s : State) (g : Mbx → Mbx) : (s.updMbx g).chg = s.chg := rfl
@[simp] theorem updMbx_tel (s : State) (g : Mbx → Mbx) : (s.updMbx g).tel = s.tel := rfl
@[simp] theorem updMbx_otp (s : State) (g : Mbx → Mbx) : (s.updMbx g).otp = s.otp := rfl
@[simp] theorem updMbx_sb (s : State) (g : Mbx → Mbx) : (s.updMbx g).sb = s.sb := rfl
@[simp] theorem updMbx_gauge (s : State) (g : Mbx → Mbx) : (s.updMbx g).gauge = s.gauge := rfl
@[simp] theorem updMbx_upd (s : State) (g : Mbx → Mbx) : (s.updMbx g).upd = s.upd := rfl
@[simp] theorem updMbx_age (s : State) (g : Mbx → Mbx) : (s.updMbx g).age = s.age := rfl
@[simp] theorem updMbx_nv (s : State) (g : Mbx → Mbx) : (s.updMbx g).nv = s.nv := rfl
@[simp] theorem updMbx_granted (s : State) (g : Mbx → Mbx) : (s.updMbx g).granted = s.granted := rfl
@[simp] theorem updMbx_logNext (s : State) (g : Mbx → Mbx) : (s.updMbx g).logNext = s.logNext := rfl
@[simp] theorem updMbx_win (s : State) (g : Mbx → Mbx) : (s.updMbx g).win = s.win := rfl
@[simp] theorem updMbx_sbBuf (s : State) (g : Mbx → Mbx) : (s.updMbx g).sbBuf = s.sbBuf := rfl
@[simp] theorem updMbx_mram (s : State) (g : Mbx → Mbx) : (s.updMbx g).mram = s.mram := rfl
@[simp] theorem updMbx_spiOut (s : State) (g : Mbx → Mbx) : (s.updMbx g).spiOut = s.spiOut := rfl
@[simp] theorem updMbx_sbOut (s : State) (g : Mbx → Mbx) : (s.updMbx g).sbOut = s.sbOut := rfl
@[simp] theorem updMbx_free (s : State) (g : Mbx → Mbx) : (s.updMbx g).free = s.free := rfl
@[simp] theorem updMbx_pending (s : State) (g : Mbx → Mbx) : (s.updMbx g).pending = s.pending := rfl
@[simp] theorem updMbx_getF (s : State) (g : Mbx → Mbx) (f : Fld) : (s.updMbx g).getF f = s.getF f := rfl
@[simp] theorem updMbx_bit (s : State) (g : Mbx → Mbx) (f : Fld) : (s.updMbx g).bit f = s.bit f := rfl

/-! `updSeq`. -/

@[simp] theorem updSeq_sys (s : State) (g : SeqSt → SeqSt) : (s.updSeq g).sys = s.sys := rfl
@[simp] theorem updSeq_time (s : State) (g : SeqSt → SeqSt) : (s.updSeq g).time = s.time := rfl
@[simp] theorem updSeq_half (s : State) (g : SeqSt → SeqSt) : (s.updSeq g).half = s.half := rfl
@[simp] theorem updSeq_clk (s : State) (g : SeqSt → SeqSt) : (s.updSeq g).clk = s.clk := rfl
@[simp] theorem updSeq_fields (s : State) (g : SeqSt → SeqSt) : (s.updSeq g).fields = s.fields := rfl
@[simp] theorem updSeq_staged (s : State) (g : SeqSt → SeqSt) : (s.updSeq g).staged = s.staged := rfl
@[simp] theorem updSeq_accHost (s : State) (g : SeqSt → SeqSt) : (s.updSeq g).accHost = s.accHost := rfl
@[simp] theorem updSeq_accSide (s : State) (g : SeqSt → SeqSt) : (s.updSeq g).accSide = s.accSide := rfl
@[simp] theorem updSeq_accCtl (s : State) (g : SeqSt → SeqSt) : (s.updSeq g).accCtl = s.accCtl := rfl
@[simp] theorem updSeq_accGauge (s : State) (g : SeqSt → SeqSt) : (s.updSeq g).accGauge = s.accGauge := rfl
@[simp] theorem updSeq_flt (s : State) (g : SeqSt → SeqSt) : (s.updSeq g).flt = s.flt := rfl
@[simp] theorem updSeq_mbx (s : State) (g : SeqSt → SeqSt) : (s.updSeq g).mbx = s.mbx := rfl
@[simp] theorem updSeq_seq (s : State) (g : SeqSt → SeqSt) : (s.updSeq g).seq = g s.seq := rfl
@[simp] theorem updSeq_rails (s : State) (g : SeqSt → SeqSt) : (s.updSeq g).rails = s.rails := rfl
@[simp] theorem updSeq_isoQueue (s : State) (g : SeqSt → SeqSt) : (s.updSeq g).isoQueue = s.isoQueue := rfl
@[simp] theorem updSeq_ldos (s : State) (g : SeqSt → SeqSt) : (s.updSeq g).ldos = s.ldos := rfl
@[simp] theorem updSeq_mons (s : State) (g : SeqSt → SeqSt) : (s.updSeq g).mons = s.mons := rfl
@[simp] theorem updSeq_fe (s : State) (g : SeqSt → SeqSt) : (s.updSeq g).fe = s.fe := rfl
@[simp] theorem updSeq_path (s : State) (g : SeqSt → SeqSt) : (s.updSeq g).path = s.path := rfl
@[simp] theorem updSeq_chg (s : State) (g : SeqSt → SeqSt) : (s.updSeq g).chg = s.chg := rfl
@[simp] theorem updSeq_tel (s : State) (g : SeqSt → SeqSt) : (s.updSeq g).tel = s.tel := rfl
@[simp] theorem updSeq_otp (s : State) (g : SeqSt → SeqSt) : (s.updSeq g).otp = s.otp := rfl
@[simp] theorem updSeq_sb (s : State) (g : SeqSt → SeqSt) : (s.updSeq g).sb = s.sb := rfl
@[simp] theorem updSeq_gauge (s : State) (g : SeqSt → SeqSt) : (s.updSeq g).gauge = s.gauge := rfl
@[simp] theorem updSeq_upd (s : State) (g : SeqSt → SeqSt) : (s.updSeq g).upd = s.upd := rfl
@[simp] theorem updSeq_age (s : State) (g : SeqSt → SeqSt) : (s.updSeq g).age = s.age := rfl
@[simp] theorem updSeq_nv (s : State) (g : SeqSt → SeqSt) : (s.updSeq g).nv = s.nv := rfl
@[simp] theorem updSeq_granted (s : State) (g : SeqSt → SeqSt) : (s.updSeq g).granted = s.granted := rfl
@[simp] theorem updSeq_logNext (s : State) (g : SeqSt → SeqSt) : (s.updSeq g).logNext = s.logNext := rfl
@[simp] theorem updSeq_win (s : State) (g : SeqSt → SeqSt) : (s.updSeq g).win = s.win := rfl
@[simp] theorem updSeq_sbBuf (s : State) (g : SeqSt → SeqSt) : (s.updSeq g).sbBuf = s.sbBuf := rfl
@[simp] theorem updSeq_mram (s : State) (g : SeqSt → SeqSt) : (s.updSeq g).mram = s.mram := rfl
@[simp] theorem updSeq_spiOut (s : State) (g : SeqSt → SeqSt) : (s.updSeq g).spiOut = s.spiOut := rfl
@[simp] theorem updSeq_sbOut (s : State) (g : SeqSt → SeqSt) : (s.updSeq g).sbOut = s.sbOut := rfl
@[simp] theorem updSeq_free (s : State) (g : SeqSt → SeqSt) : (s.updSeq g).free = s.free := rfl
@[simp] theorem updSeq_pending (s : State) (g : SeqSt → SeqSt) : (s.updSeq g).pending = s.pending := rfl
@[simp] theorem updSeq_getF (s : State) (g : SeqSt → SeqSt) (f : Fld) : (s.updSeq g).getF f = s.getF f := rfl
@[simp] theorem updSeq_bit (s : State) (g : SeqSt → SeqSt) (f : Fld) : (s.updSeq g).bit f = s.bit f := rfl

/-! `updTel`. -/

@[simp] theorem updTel_sys (s : State) (g : Tel → Tel) : (s.updTel g).sys = s.sys := rfl
@[simp] theorem updTel_time (s : State) (g : Tel → Tel) : (s.updTel g).time = s.time := rfl
@[simp] theorem updTel_half (s : State) (g : Tel → Tel) : (s.updTel g).half = s.half := rfl
@[simp] theorem updTel_clk (s : State) (g : Tel → Tel) : (s.updTel g).clk = s.clk := rfl
@[simp] theorem updTel_fields (s : State) (g : Tel → Tel) : (s.updTel g).fields = s.fields := rfl
@[simp] theorem updTel_staged (s : State) (g : Tel → Tel) : (s.updTel g).staged = s.staged := rfl
@[simp] theorem updTel_accHost (s : State) (g : Tel → Tel) : (s.updTel g).accHost = s.accHost := rfl
@[simp] theorem updTel_accSide (s : State) (g : Tel → Tel) : (s.updTel g).accSide = s.accSide := rfl
@[simp] theorem updTel_accCtl (s : State) (g : Tel → Tel) : (s.updTel g).accCtl = s.accCtl := rfl
@[simp] theorem updTel_accGauge (s : State) (g : Tel → Tel) : (s.updTel g).accGauge = s.accGauge := rfl
@[simp] theorem updTel_flt (s : State) (g : Tel → Tel) : (s.updTel g).flt = s.flt := rfl
@[simp] theorem updTel_mbx (s : State) (g : Tel → Tel) : (s.updTel g).mbx = s.mbx := rfl
@[simp] theorem updTel_seq (s : State) (g : Tel → Tel) : (s.updTel g).seq = s.seq := rfl
@[simp] theorem updTel_rails (s : State) (g : Tel → Tel) : (s.updTel g).rails = s.rails := rfl
@[simp] theorem updTel_isoQueue (s : State) (g : Tel → Tel) : (s.updTel g).isoQueue = s.isoQueue := rfl
@[simp] theorem updTel_ldos (s : State) (g : Tel → Tel) : (s.updTel g).ldos = s.ldos := rfl
@[simp] theorem updTel_mons (s : State) (g : Tel → Tel) : (s.updTel g).mons = s.mons := rfl
@[simp] theorem updTel_fe (s : State) (g : Tel → Tel) : (s.updTel g).fe = s.fe := rfl
@[simp] theorem updTel_path (s : State) (g : Tel → Tel) : (s.updTel g).path = s.path := rfl
@[simp] theorem updTel_chg (s : State) (g : Tel → Tel) : (s.updTel g).chg = s.chg := rfl
@[simp] theorem updTel_tel (s : State) (g : Tel → Tel) : (s.updTel g).tel = g s.tel := rfl
@[simp] theorem updTel_otp (s : State) (g : Tel → Tel) : (s.updTel g).otp = s.otp := rfl
@[simp] theorem updTel_sb (s : State) (g : Tel → Tel) : (s.updTel g).sb = s.sb := rfl
@[simp] theorem updTel_gauge (s : State) (g : Tel → Tel) : (s.updTel g).gauge = s.gauge := rfl
@[simp] theorem updTel_upd (s : State) (g : Tel → Tel) : (s.updTel g).upd = s.upd := rfl
@[simp] theorem updTel_age (s : State) (g : Tel → Tel) : (s.updTel g).age = s.age := rfl
@[simp] theorem updTel_nv (s : State) (g : Tel → Tel) : (s.updTel g).nv = s.nv := rfl
@[simp] theorem updTel_granted (s : State) (g : Tel → Tel) : (s.updTel g).granted = s.granted := rfl
@[simp] theorem updTel_logNext (s : State) (g : Tel → Tel) : (s.updTel g).logNext = s.logNext := rfl
@[simp] theorem updTel_win (s : State) (g : Tel → Tel) : (s.updTel g).win = s.win := rfl
@[simp] theorem updTel_sbBuf (s : State) (g : Tel → Tel) : (s.updTel g).sbBuf = s.sbBuf := rfl
@[simp] theorem updTel_mram (s : State) (g : Tel → Tel) : (s.updTel g).mram = s.mram := rfl
@[simp] theorem updTel_spiOut (s : State) (g : Tel → Tel) : (s.updTel g).spiOut = s.spiOut := rfl
@[simp] theorem updTel_sbOut (s : State) (g : Tel → Tel) : (s.updTel g).sbOut = s.sbOut := rfl
@[simp] theorem updTel_free (s : State) (g : Tel → Tel) : (s.updTel g).free = s.free := rfl
@[simp] theorem updTel_pending (s : State) (g : Tel → Tel) : (s.updTel g).pending = s.pending := rfl
@[simp] theorem updTel_getF (s : State) (g : Tel → Tel) (f : Fld) : (s.updTel g).getF f = s.getF f := rfl
@[simp] theorem updTel_bit (s : State) (g : Tel → Tel) (f : Fld) : (s.updTel g).bit f = s.bit f := rfl

/-! `updFe`. -/

@[simp] theorem updFe_sys (s : State) (g : FeSt → FeSt) : (s.updFe g).sys = s.sys := rfl
@[simp] theorem updFe_time (s : State) (g : FeSt → FeSt) : (s.updFe g).time = s.time := rfl
@[simp] theorem updFe_half (s : State) (g : FeSt → FeSt) : (s.updFe g).half = s.half := rfl
@[simp] theorem updFe_clk (s : State) (g : FeSt → FeSt) : (s.updFe g).clk = s.clk := rfl
@[simp] theorem updFe_fields (s : State) (g : FeSt → FeSt) : (s.updFe g).fields = s.fields := rfl
@[simp] theorem updFe_staged (s : State) (g : FeSt → FeSt) : (s.updFe g).staged = s.staged := rfl
@[simp] theorem updFe_accHost (s : State) (g : FeSt → FeSt) : (s.updFe g).accHost = s.accHost := rfl
@[simp] theorem updFe_accSide (s : State) (g : FeSt → FeSt) : (s.updFe g).accSide = s.accSide := rfl
@[simp] theorem updFe_accCtl (s : State) (g : FeSt → FeSt) : (s.updFe g).accCtl = s.accCtl := rfl
@[simp] theorem updFe_accGauge (s : State) (g : FeSt → FeSt) : (s.updFe g).accGauge = s.accGauge := rfl
@[simp] theorem updFe_flt (s : State) (g : FeSt → FeSt) : (s.updFe g).flt = s.flt := rfl
@[simp] theorem updFe_mbx (s : State) (g : FeSt → FeSt) : (s.updFe g).mbx = s.mbx := rfl
@[simp] theorem updFe_seq (s : State) (g : FeSt → FeSt) : (s.updFe g).seq = s.seq := rfl
@[simp] theorem updFe_rails (s : State) (g : FeSt → FeSt) : (s.updFe g).rails = s.rails := rfl
@[simp] theorem updFe_isoQueue (s : State) (g : FeSt → FeSt) : (s.updFe g).isoQueue = s.isoQueue := rfl
@[simp] theorem updFe_ldos (s : State) (g : FeSt → FeSt) : (s.updFe g).ldos = s.ldos := rfl
@[simp] theorem updFe_mons (s : State) (g : FeSt → FeSt) : (s.updFe g).mons = s.mons := rfl
@[simp] theorem updFe_fe (s : State) (g : FeSt → FeSt) : (s.updFe g).fe = g s.fe := rfl
@[simp] theorem updFe_path (s : State) (g : FeSt → FeSt) : (s.updFe g).path = s.path := rfl
@[simp] theorem updFe_chg (s : State) (g : FeSt → FeSt) : (s.updFe g).chg = s.chg := rfl
@[simp] theorem updFe_tel (s : State) (g : FeSt → FeSt) : (s.updFe g).tel = s.tel := rfl
@[simp] theorem updFe_otp (s : State) (g : FeSt → FeSt) : (s.updFe g).otp = s.otp := rfl
@[simp] theorem updFe_sb (s : State) (g : FeSt → FeSt) : (s.updFe g).sb = s.sb := rfl
@[simp] theorem updFe_gauge (s : State) (g : FeSt → FeSt) : (s.updFe g).gauge = s.gauge := rfl
@[simp] theorem updFe_upd (s : State) (g : FeSt → FeSt) : (s.updFe g).upd = s.upd := rfl
@[simp] theorem updFe_age (s : State) (g : FeSt → FeSt) : (s.updFe g).age = s.age := rfl
@[simp] theorem updFe_nv (s : State) (g : FeSt → FeSt) : (s.updFe g).nv = s.nv := rfl
@[simp] theorem updFe_granted (s : State) (g : FeSt → FeSt) : (s.updFe g).granted = s.granted := rfl
@[simp] theorem updFe_logNext (s : State) (g : FeSt → FeSt) : (s.updFe g).logNext = s.logNext := rfl
@[simp] theorem updFe_win (s : State) (g : FeSt → FeSt) : (s.updFe g).win = s.win := rfl
@[simp] theorem updFe_sbBuf (s : State) (g : FeSt → FeSt) : (s.updFe g).sbBuf = s.sbBuf := rfl
@[simp] theorem updFe_mram (s : State) (g : FeSt → FeSt) : (s.updFe g).mram = s.mram := rfl
@[simp] theorem updFe_spiOut (s : State) (g : FeSt → FeSt) : (s.updFe g).spiOut = s.spiOut := rfl
@[simp] theorem updFe_sbOut (s : State) (g : FeSt → FeSt) : (s.updFe g).sbOut = s.sbOut := rfl
@[simp] theorem updFe_free (s : State) (g : FeSt → FeSt) : (s.updFe g).free = s.free := rfl
@[simp] theorem updFe_pending (s : State) (g : FeSt → FeSt) : (s.updFe g).pending = s.pending := rfl
@[simp] theorem updFe_getF (s : State) (g : FeSt → FeSt) (f : Fld) : (s.updFe g).getF f = s.getF f := rfl
@[simp] theorem updFe_bit (s : State) (g : FeSt → FeSt) (f : Fld) : (s.updFe g).bit f = s.bit f := rfl

/-! `updPath`. -/

@[simp] theorem updPath_sys (s : State) (g : PathSt → PathSt) : (s.updPath g).sys = s.sys := rfl
@[simp] theorem updPath_time (s : State) (g : PathSt → PathSt) : (s.updPath g).time = s.time := rfl
@[simp] theorem updPath_half (s : State) (g : PathSt → PathSt) : (s.updPath g).half = s.half := rfl
@[simp] theorem updPath_clk (s : State) (g : PathSt → PathSt) : (s.updPath g).clk = s.clk := rfl
@[simp] theorem updPath_fields (s : State) (g : PathSt → PathSt) : (s.updPath g).fields = s.fields := rfl
@[simp] theorem updPath_staged (s : State) (g : PathSt → PathSt) : (s.updPath g).staged = s.staged := rfl
@[simp] theorem updPath_accHost (s : State) (g : PathSt → PathSt) : (s.updPath g).accHost = s.accHost := rfl
@[simp] theorem updPath_accSide (s : State) (g : PathSt → PathSt) : (s.updPath g).accSide = s.accSide := rfl
@[simp] theorem updPath_accCtl (s : State) (g : PathSt → PathSt) : (s.updPath g).accCtl = s.accCtl := rfl
@[simp] theorem updPath_accGauge (s : State) (g : PathSt → PathSt) : (s.updPath g).accGauge = s.accGauge := rfl
@[simp] theorem updPath_flt (s : State) (g : PathSt → PathSt) : (s.updPath g).flt = s.flt := rfl
@[simp] theorem updPath_mbx (s : State) (g : PathSt → PathSt) : (s.updPath g).mbx = s.mbx := rfl
@[simp] theorem updPath_seq (s : State) (g : PathSt → PathSt) : (s.updPath g).seq = s.seq := rfl
@[simp] theorem updPath_rails (s : State) (g : PathSt → PathSt) : (s.updPath g).rails = s.rails := rfl
@[simp] theorem updPath_isoQueue (s : State) (g : PathSt → PathSt) : (s.updPath g).isoQueue = s.isoQueue := rfl
@[simp] theorem updPath_ldos (s : State) (g : PathSt → PathSt) : (s.updPath g).ldos = s.ldos := rfl
@[simp] theorem updPath_mons (s : State) (g : PathSt → PathSt) : (s.updPath g).mons = s.mons := rfl
@[simp] theorem updPath_fe (s : State) (g : PathSt → PathSt) : (s.updPath g).fe = s.fe := rfl
@[simp] theorem updPath_path (s : State) (g : PathSt → PathSt) : (s.updPath g).path = g s.path := rfl
@[simp] theorem updPath_chg (s : State) (g : PathSt → PathSt) : (s.updPath g).chg = s.chg := rfl
@[simp] theorem updPath_tel (s : State) (g : PathSt → PathSt) : (s.updPath g).tel = s.tel := rfl
@[simp] theorem updPath_otp (s : State) (g : PathSt → PathSt) : (s.updPath g).otp = s.otp := rfl
@[simp] theorem updPath_sb (s : State) (g : PathSt → PathSt) : (s.updPath g).sb = s.sb := rfl
@[simp] theorem updPath_gauge (s : State) (g : PathSt → PathSt) : (s.updPath g).gauge = s.gauge := rfl
@[simp] theorem updPath_upd (s : State) (g : PathSt → PathSt) : (s.updPath g).upd = s.upd := rfl
@[simp] theorem updPath_age (s : State) (g : PathSt → PathSt) : (s.updPath g).age = s.age := rfl
@[simp] theorem updPath_nv (s : State) (g : PathSt → PathSt) : (s.updPath g).nv = s.nv := rfl
@[simp] theorem updPath_granted (s : State) (g : PathSt → PathSt) : (s.updPath g).granted = s.granted := rfl
@[simp] theorem updPath_logNext (s : State) (g : PathSt → PathSt) : (s.updPath g).logNext = s.logNext := rfl
@[simp] theorem updPath_win (s : State) (g : PathSt → PathSt) : (s.updPath g).win = s.win := rfl
@[simp] theorem updPath_sbBuf (s : State) (g : PathSt → PathSt) : (s.updPath g).sbBuf = s.sbBuf := rfl
@[simp] theorem updPath_mram (s : State) (g : PathSt → PathSt) : (s.updPath g).mram = s.mram := rfl
@[simp] theorem updPath_spiOut (s : State) (g : PathSt → PathSt) : (s.updPath g).spiOut = s.spiOut := rfl
@[simp] theorem updPath_sbOut (s : State) (g : PathSt → PathSt) : (s.updPath g).sbOut = s.sbOut := rfl
@[simp] theorem updPath_free (s : State) (g : PathSt → PathSt) : (s.updPath g).free = s.free := rfl
@[simp] theorem updPath_pending (s : State) (g : PathSt → PathSt) : (s.updPath g).pending = s.pending := rfl
@[simp] theorem updPath_getF (s : State) (g : PathSt → PathSt) (f : Fld) : (s.updPath g).getF f = s.getF f := rfl
@[simp] theorem updPath_bit (s : State) (g : PathSt → PathSt) (f : Fld) : (s.updPath g).bit f = s.bit f := rfl

/-! `updChg`. -/

@[simp] theorem updChg_sys (s : State) (g : ChgSt → ChgSt) : (s.updChg g).sys = s.sys := rfl
@[simp] theorem updChg_time (s : State) (g : ChgSt → ChgSt) : (s.updChg g).time = s.time := rfl
@[simp] theorem updChg_half (s : State) (g : ChgSt → ChgSt) : (s.updChg g).half = s.half := rfl
@[simp] theorem updChg_clk (s : State) (g : ChgSt → ChgSt) : (s.updChg g).clk = s.clk := rfl
@[simp] theorem updChg_fields (s : State) (g : ChgSt → ChgSt) : (s.updChg g).fields = s.fields := rfl
@[simp] theorem updChg_staged (s : State) (g : ChgSt → ChgSt) : (s.updChg g).staged = s.staged := rfl
@[simp] theorem updChg_accHost (s : State) (g : ChgSt → ChgSt) : (s.updChg g).accHost = s.accHost := rfl
@[simp] theorem updChg_accSide (s : State) (g : ChgSt → ChgSt) : (s.updChg g).accSide = s.accSide := rfl
@[simp] theorem updChg_accCtl (s : State) (g : ChgSt → ChgSt) : (s.updChg g).accCtl = s.accCtl := rfl
@[simp] theorem updChg_accGauge (s : State) (g : ChgSt → ChgSt) : (s.updChg g).accGauge = s.accGauge := rfl
@[simp] theorem updChg_flt (s : State) (g : ChgSt → ChgSt) : (s.updChg g).flt = s.flt := rfl
@[simp] theorem updChg_mbx (s : State) (g : ChgSt → ChgSt) : (s.updChg g).mbx = s.mbx := rfl
@[simp] theorem updChg_seq (s : State) (g : ChgSt → ChgSt) : (s.updChg g).seq = s.seq := rfl
@[simp] theorem updChg_rails (s : State) (g : ChgSt → ChgSt) : (s.updChg g).rails = s.rails := rfl
@[simp] theorem updChg_isoQueue (s : State) (g : ChgSt → ChgSt) : (s.updChg g).isoQueue = s.isoQueue := rfl
@[simp] theorem updChg_ldos (s : State) (g : ChgSt → ChgSt) : (s.updChg g).ldos = s.ldos := rfl
@[simp] theorem updChg_mons (s : State) (g : ChgSt → ChgSt) : (s.updChg g).mons = s.mons := rfl
@[simp] theorem updChg_fe (s : State) (g : ChgSt → ChgSt) : (s.updChg g).fe = s.fe := rfl
@[simp] theorem updChg_path (s : State) (g : ChgSt → ChgSt) : (s.updChg g).path = s.path := rfl
@[simp] theorem updChg_chg (s : State) (g : ChgSt → ChgSt) : (s.updChg g).chg = g s.chg := rfl
@[simp] theorem updChg_tel (s : State) (g : ChgSt → ChgSt) : (s.updChg g).tel = s.tel := rfl
@[simp] theorem updChg_otp (s : State) (g : ChgSt → ChgSt) : (s.updChg g).otp = s.otp := rfl
@[simp] theorem updChg_sb (s : State) (g : ChgSt → ChgSt) : (s.updChg g).sb = s.sb := rfl
@[simp] theorem updChg_gauge (s : State) (g : ChgSt → ChgSt) : (s.updChg g).gauge = s.gauge := rfl
@[simp] theorem updChg_upd (s : State) (g : ChgSt → ChgSt) : (s.updChg g).upd = s.upd := rfl
@[simp] theorem updChg_age (s : State) (g : ChgSt → ChgSt) : (s.updChg g).age = s.age := rfl
@[simp] theorem updChg_nv (s : State) (g : ChgSt → ChgSt) : (s.updChg g).nv = s.nv := rfl
@[simp] theorem updChg_granted (s : State) (g : ChgSt → ChgSt) : (s.updChg g).granted = s.granted := rfl
@[simp] theorem updChg_logNext (s : State) (g : ChgSt → ChgSt) : (s.updChg g).logNext = s.logNext := rfl
@[simp] theorem updChg_win (s : State) (g : ChgSt → ChgSt) : (s.updChg g).win = s.win := rfl
@[simp] theorem updChg_sbBuf (s : State) (g : ChgSt → ChgSt) : (s.updChg g).sbBuf = s.sbBuf := rfl
@[simp] theorem updChg_mram (s : State) (g : ChgSt → ChgSt) : (s.updChg g).mram = s.mram := rfl
@[simp] theorem updChg_spiOut (s : State) (g : ChgSt → ChgSt) : (s.updChg g).spiOut = s.spiOut := rfl
@[simp] theorem updChg_sbOut (s : State) (g : ChgSt → ChgSt) : (s.updChg g).sbOut = s.sbOut := rfl
@[simp] theorem updChg_free (s : State) (g : ChgSt → ChgSt) : (s.updChg g).free = s.free := rfl
@[simp] theorem updChg_pending (s : State) (g : ChgSt → ChgSt) : (s.updChg g).pending = s.pending := rfl
@[simp] theorem updChg_getF (s : State) (g : ChgSt → ChgSt) (f : Fld) : (s.updChg g).getF f = s.getF f := rfl
@[simp] theorem updChg_bit (s : State) (g : ChgSt → ChgSt) (f : Fld) : (s.updChg g).bit f = s.bit f := rfl

/-! `updOtp`. -/

@[simp] theorem updOtp_sys (s : State) (g : Otp → Otp) : (s.updOtp g).sys = s.sys := rfl
@[simp] theorem updOtp_time (s : State) (g : Otp → Otp) : (s.updOtp g).time = s.time := rfl
@[simp] theorem updOtp_half (s : State) (g : Otp → Otp) : (s.updOtp g).half = s.half := rfl
@[simp] theorem updOtp_clk (s : State) (g : Otp → Otp) : (s.updOtp g).clk = s.clk := rfl
@[simp] theorem updOtp_fields (s : State) (g : Otp → Otp) : (s.updOtp g).fields = s.fields := rfl
@[simp] theorem updOtp_staged (s : State) (g : Otp → Otp) : (s.updOtp g).staged = s.staged := rfl
@[simp] theorem updOtp_accHost (s : State) (g : Otp → Otp) : (s.updOtp g).accHost = s.accHost := rfl
@[simp] theorem updOtp_accSide (s : State) (g : Otp → Otp) : (s.updOtp g).accSide = s.accSide := rfl
@[simp] theorem updOtp_accCtl (s : State) (g : Otp → Otp) : (s.updOtp g).accCtl = s.accCtl := rfl
@[simp] theorem updOtp_accGauge (s : State) (g : Otp → Otp) : (s.updOtp g).accGauge = s.accGauge := rfl
@[simp] theorem updOtp_flt (s : State) (g : Otp → Otp) : (s.updOtp g).flt = s.flt := rfl
@[simp] theorem updOtp_mbx (s : State) (g : Otp → Otp) : (s.updOtp g).mbx = s.mbx := rfl
@[simp] theorem updOtp_seq (s : State) (g : Otp → Otp) : (s.updOtp g).seq = s.seq := rfl
@[simp] theorem updOtp_rails (s : State) (g : Otp → Otp) : (s.updOtp g).rails = s.rails := rfl
@[simp] theorem updOtp_isoQueue (s : State) (g : Otp → Otp) : (s.updOtp g).isoQueue = s.isoQueue := rfl
@[simp] theorem updOtp_ldos (s : State) (g : Otp → Otp) : (s.updOtp g).ldos = s.ldos := rfl
@[simp] theorem updOtp_mons (s : State) (g : Otp → Otp) : (s.updOtp g).mons = s.mons := rfl
@[simp] theorem updOtp_fe (s : State) (g : Otp → Otp) : (s.updOtp g).fe = s.fe := rfl
@[simp] theorem updOtp_path (s : State) (g : Otp → Otp) : (s.updOtp g).path = s.path := rfl
@[simp] theorem updOtp_chg (s : State) (g : Otp → Otp) : (s.updOtp g).chg = s.chg := rfl
@[simp] theorem updOtp_tel (s : State) (g : Otp → Otp) : (s.updOtp g).tel = s.tel := rfl
@[simp] theorem updOtp_otp (s : State) (g : Otp → Otp) : (s.updOtp g).otp = g s.otp := rfl
@[simp] theorem updOtp_sb (s : State) (g : Otp → Otp) : (s.updOtp g).sb = s.sb := rfl
@[simp] theorem updOtp_gauge (s : State) (g : Otp → Otp) : (s.updOtp g).gauge = s.gauge := rfl
@[simp] theorem updOtp_upd (s : State) (g : Otp → Otp) : (s.updOtp g).upd = s.upd := rfl
@[simp] theorem updOtp_age (s : State) (g : Otp → Otp) : (s.updOtp g).age = s.age := rfl
@[simp] theorem updOtp_nv (s : State) (g : Otp → Otp) : (s.updOtp g).nv = s.nv := rfl
@[simp] theorem updOtp_granted (s : State) (g : Otp → Otp) : (s.updOtp g).granted = s.granted := rfl
@[simp] theorem updOtp_logNext (s : State) (g : Otp → Otp) : (s.updOtp g).logNext = s.logNext := rfl
@[simp] theorem updOtp_win (s : State) (g : Otp → Otp) : (s.updOtp g).win = s.win := rfl
@[simp] theorem updOtp_sbBuf (s : State) (g : Otp → Otp) : (s.updOtp g).sbBuf = s.sbBuf := rfl
@[simp] theorem updOtp_mram (s : State) (g : Otp → Otp) : (s.updOtp g).mram = s.mram := rfl
@[simp] theorem updOtp_spiOut (s : State) (g : Otp → Otp) : (s.updOtp g).spiOut = s.spiOut := rfl
@[simp] theorem updOtp_sbOut (s : State) (g : Otp → Otp) : (s.updOtp g).sbOut = s.sbOut := rfl
@[simp] theorem updOtp_free (s : State) (g : Otp → Otp) : (s.updOtp g).free = s.free := rfl
@[simp] theorem updOtp_pending (s : State) (g : Otp → Otp) : (s.updOtp g).pending = s.pending := rfl
@[simp] theorem updOtp_getF (s : State) (g : Otp → Otp) (f : Fld) : (s.updOtp g).getF f = s.getF f := rfl
@[simp] theorem updOtp_bit (s : State) (g : Otp → Otp) (f : Fld) : (s.updOtp g).bit f = s.bit f := rfl

/-! `updGauge`. -/

@[simp] theorem updGauge_sys (s : State) (g : Gauge → Gauge) : (s.updGauge g).sys = s.sys := rfl
@[simp] theorem updGauge_time (s : State) (g : Gauge → Gauge) : (s.updGauge g).time = s.time := rfl
@[simp] theorem updGauge_half (s : State) (g : Gauge → Gauge) : (s.updGauge g).half = s.half := rfl
@[simp] theorem updGauge_clk (s : State) (g : Gauge → Gauge) : (s.updGauge g).clk = s.clk := rfl
@[simp] theorem updGauge_fields (s : State) (g : Gauge → Gauge) : (s.updGauge g).fields = s.fields := rfl
@[simp] theorem updGauge_staged (s : State) (g : Gauge → Gauge) : (s.updGauge g).staged = s.staged := rfl
@[simp] theorem updGauge_accHost (s : State) (g : Gauge → Gauge) : (s.updGauge g).accHost = s.accHost := rfl
@[simp] theorem updGauge_accSide (s : State) (g : Gauge → Gauge) : (s.updGauge g).accSide = s.accSide := rfl
@[simp] theorem updGauge_accCtl (s : State) (g : Gauge → Gauge) : (s.updGauge g).accCtl = s.accCtl := rfl
@[simp] theorem updGauge_accGauge (s : State) (g : Gauge → Gauge) : (s.updGauge g).accGauge = s.accGauge := rfl
@[simp] theorem updGauge_flt (s : State) (g : Gauge → Gauge) : (s.updGauge g).flt = s.flt := rfl
@[simp] theorem updGauge_mbx (s : State) (g : Gauge → Gauge) : (s.updGauge g).mbx = s.mbx := rfl
@[simp] theorem updGauge_seq (s : State) (g : Gauge → Gauge) : (s.updGauge g).seq = s.seq := rfl
@[simp] theorem updGauge_rails (s : State) (g : Gauge → Gauge) : (s.updGauge g).rails = s.rails := rfl
@[simp] theorem updGauge_isoQueue (s : State) (g : Gauge → Gauge) : (s.updGauge g).isoQueue = s.isoQueue := rfl
@[simp] theorem updGauge_ldos (s : State) (g : Gauge → Gauge) : (s.updGauge g).ldos = s.ldos := rfl
@[simp] theorem updGauge_mons (s : State) (g : Gauge → Gauge) : (s.updGauge g).mons = s.mons := rfl
@[simp] theorem updGauge_fe (s : State) (g : Gauge → Gauge) : (s.updGauge g).fe = s.fe := rfl
@[simp] theorem updGauge_path (s : State) (g : Gauge → Gauge) : (s.updGauge g).path = s.path := rfl
@[simp] theorem updGauge_chg (s : State) (g : Gauge → Gauge) : (s.updGauge g).chg = s.chg := rfl
@[simp] theorem updGauge_tel (s : State) (g : Gauge → Gauge) : (s.updGauge g).tel = s.tel := rfl
@[simp] theorem updGauge_otp (s : State) (g : Gauge → Gauge) : (s.updGauge g).otp = s.otp := rfl
@[simp] theorem updGauge_sb (s : State) (g : Gauge → Gauge) : (s.updGauge g).sb = s.sb := rfl
@[simp] theorem updGauge_gauge (s : State) (g : Gauge → Gauge) : (s.updGauge g).gauge = g s.gauge := rfl
@[simp] theorem updGauge_upd (s : State) (g : Gauge → Gauge) : (s.updGauge g).upd = s.upd := rfl
@[simp] theorem updGauge_age (s : State) (g : Gauge → Gauge) : (s.updGauge g).age = s.age := rfl
@[simp] theorem updGauge_nv (s : State) (g : Gauge → Gauge) : (s.updGauge g).nv = s.nv := rfl
@[simp] theorem updGauge_granted (s : State) (g : Gauge → Gauge) : (s.updGauge g).granted = s.granted := rfl
@[simp] theorem updGauge_logNext (s : State) (g : Gauge → Gauge) : (s.updGauge g).logNext = s.logNext := rfl
@[simp] theorem updGauge_win (s : State) (g : Gauge → Gauge) : (s.updGauge g).win = s.win := rfl
@[simp] theorem updGauge_sbBuf (s : State) (g : Gauge → Gauge) : (s.updGauge g).sbBuf = s.sbBuf := rfl
@[simp] theorem updGauge_mram (s : State) (g : Gauge → Gauge) : (s.updGauge g).mram = s.mram := rfl
@[simp] theorem updGauge_spiOut (s : State) (g : Gauge → Gauge) : (s.updGauge g).spiOut = s.spiOut := rfl
@[simp] theorem updGauge_sbOut (s : State) (g : Gauge → Gauge) : (s.updGauge g).sbOut = s.sbOut := rfl
@[simp] theorem updGauge_free (s : State) (g : Gauge → Gauge) : (s.updGauge g).free = s.free := rfl
@[simp] theorem updGauge_pending (s : State) (g : Gauge → Gauge) : (s.updGauge g).pending = s.pending := rfl
@[simp] theorem updGauge_getF (s : State) (g : Gauge → Gauge) (f : Fld) : (s.updGauge g).getF f = s.getF f := rfl
@[simp] theorem updGauge_bit (s : State) (g : Gauge → Gauge) (f : Fld) : (s.updGauge g).bit f = s.bit f := rfl

/-! `updUpd`. -/

@[simp] theorem updUpd_sys (s : State) (g : Upd → Upd) : (s.updUpd g).sys = s.sys := rfl
@[simp] theorem updUpd_time (s : State) (g : Upd → Upd) : (s.updUpd g).time = s.time := rfl
@[simp] theorem updUpd_half (s : State) (g : Upd → Upd) : (s.updUpd g).half = s.half := rfl
@[simp] theorem updUpd_clk (s : State) (g : Upd → Upd) : (s.updUpd g).clk = s.clk := rfl
@[simp] theorem updUpd_fields (s : State) (g : Upd → Upd) : (s.updUpd g).fields = s.fields := rfl
@[simp] theorem updUpd_staged (s : State) (g : Upd → Upd) : (s.updUpd g).staged = s.staged := rfl
@[simp] theorem updUpd_accHost (s : State) (g : Upd → Upd) : (s.updUpd g).accHost = s.accHost := rfl
@[simp] theorem updUpd_accSide (s : State) (g : Upd → Upd) : (s.updUpd g).accSide = s.accSide := rfl
@[simp] theorem updUpd_accCtl (s : State) (g : Upd → Upd) : (s.updUpd g).accCtl = s.accCtl := rfl
@[simp] theorem updUpd_accGauge (s : State) (g : Upd → Upd) : (s.updUpd g).accGauge = s.accGauge := rfl
@[simp] theorem updUpd_flt (s : State) (g : Upd → Upd) : (s.updUpd g).flt = s.flt := rfl
@[simp] theorem updUpd_mbx (s : State) (g : Upd → Upd) : (s.updUpd g).mbx = s.mbx := rfl
@[simp] theorem updUpd_seq (s : State) (g : Upd → Upd) : (s.updUpd g).seq = s.seq := rfl
@[simp] theorem updUpd_rails (s : State) (g : Upd → Upd) : (s.updUpd g).rails = s.rails := rfl
@[simp] theorem updUpd_isoQueue (s : State) (g : Upd → Upd) : (s.updUpd g).isoQueue = s.isoQueue := rfl
@[simp] theorem updUpd_ldos (s : State) (g : Upd → Upd) : (s.updUpd g).ldos = s.ldos := rfl
@[simp] theorem updUpd_mons (s : State) (g : Upd → Upd) : (s.updUpd g).mons = s.mons := rfl
@[simp] theorem updUpd_fe (s : State) (g : Upd → Upd) : (s.updUpd g).fe = s.fe := rfl
@[simp] theorem updUpd_path (s : State) (g : Upd → Upd) : (s.updUpd g).path = s.path := rfl
@[simp] theorem updUpd_chg (s : State) (g : Upd → Upd) : (s.updUpd g).chg = s.chg := rfl
@[simp] theorem updUpd_tel (s : State) (g : Upd → Upd) : (s.updUpd g).tel = s.tel := rfl
@[simp] theorem updUpd_otp (s : State) (g : Upd → Upd) : (s.updUpd g).otp = s.otp := rfl
@[simp] theorem updUpd_sb (s : State) (g : Upd → Upd) : (s.updUpd g).sb = s.sb := rfl
@[simp] theorem updUpd_gauge (s : State) (g : Upd → Upd) : (s.updUpd g).gauge = s.gauge := rfl
@[simp] theorem updUpd_upd (s : State) (g : Upd → Upd) : (s.updUpd g).upd = g s.upd := rfl
@[simp] theorem updUpd_age (s : State) (g : Upd → Upd) : (s.updUpd g).age = s.age := rfl
@[simp] theorem updUpd_nv (s : State) (g : Upd → Upd) : (s.updUpd g).nv = s.nv := rfl
@[simp] theorem updUpd_granted (s : State) (g : Upd → Upd) : (s.updUpd g).granted = s.granted := rfl
@[simp] theorem updUpd_logNext (s : State) (g : Upd → Upd) : (s.updUpd g).logNext = s.logNext := rfl
@[simp] theorem updUpd_win (s : State) (g : Upd → Upd) : (s.updUpd g).win = s.win := rfl
@[simp] theorem updUpd_sbBuf (s : State) (g : Upd → Upd) : (s.updUpd g).sbBuf = s.sbBuf := rfl
@[simp] theorem updUpd_mram (s : State) (g : Upd → Upd) : (s.updUpd g).mram = s.mram := rfl
@[simp] theorem updUpd_spiOut (s : State) (g : Upd → Upd) : (s.updUpd g).spiOut = s.spiOut := rfl
@[simp] theorem updUpd_sbOut (s : State) (g : Upd → Upd) : (s.updUpd g).sbOut = s.sbOut := rfl
@[simp] theorem updUpd_free (s : State) (g : Upd → Upd) : (s.updUpd g).free = s.free := rfl
@[simp] theorem updUpd_pending (s : State) (g : Upd → Upd) : (s.updUpd g).pending = s.pending := rfl
@[simp] theorem updUpd_getF (s : State) (g : Upd → Upd) (f : Fld) : (s.updUpd g).getF f = s.getF f := rfl
@[simp] theorem updUpd_bit (s : State) (g : Upd → Upd) (f : Fld) : (s.updUpd g).bit f = s.bit f := rfl

/-! `updAge`. -/

@[simp] theorem updAge_sys (s : State) (g : AgeSt → AgeSt) : (s.updAge g).sys = s.sys := rfl
@[simp] theorem updAge_time (s : State) (g : AgeSt → AgeSt) : (s.updAge g).time = s.time := rfl
@[simp] theorem updAge_half (s : State) (g : AgeSt → AgeSt) : (s.updAge g).half = s.half := rfl
@[simp] theorem updAge_clk (s : State) (g : AgeSt → AgeSt) : (s.updAge g).clk = s.clk := rfl
@[simp] theorem updAge_fields (s : State) (g : AgeSt → AgeSt) : (s.updAge g).fields = s.fields := rfl
@[simp] theorem updAge_staged (s : State) (g : AgeSt → AgeSt) : (s.updAge g).staged = s.staged := rfl
@[simp] theorem updAge_accHost (s : State) (g : AgeSt → AgeSt) : (s.updAge g).accHost = s.accHost := rfl
@[simp] theorem updAge_accSide (s : State) (g : AgeSt → AgeSt) : (s.updAge g).accSide = s.accSide := rfl
@[simp] theorem updAge_accCtl (s : State) (g : AgeSt → AgeSt) : (s.updAge g).accCtl = s.accCtl := rfl
@[simp] theorem updAge_accGauge (s : State) (g : AgeSt → AgeSt) : (s.updAge g).accGauge = s.accGauge := rfl
@[simp] theorem updAge_flt (s : State) (g : AgeSt → AgeSt) : (s.updAge g).flt = s.flt := rfl
@[simp] theorem updAge_mbx (s : State) (g : AgeSt → AgeSt) : (s.updAge g).mbx = s.mbx := rfl
@[simp] theorem updAge_seq (s : State) (g : AgeSt → AgeSt) : (s.updAge g).seq = s.seq := rfl
@[simp] theorem updAge_rails (s : State) (g : AgeSt → AgeSt) : (s.updAge g).rails = s.rails := rfl
@[simp] theorem updAge_isoQueue (s : State) (g : AgeSt → AgeSt) : (s.updAge g).isoQueue = s.isoQueue := rfl
@[simp] theorem updAge_ldos (s : State) (g : AgeSt → AgeSt) : (s.updAge g).ldos = s.ldos := rfl
@[simp] theorem updAge_mons (s : State) (g : AgeSt → AgeSt) : (s.updAge g).mons = s.mons := rfl
@[simp] theorem updAge_fe (s : State) (g : AgeSt → AgeSt) : (s.updAge g).fe = s.fe := rfl
@[simp] theorem updAge_path (s : State) (g : AgeSt → AgeSt) : (s.updAge g).path = s.path := rfl
@[simp] theorem updAge_chg (s : State) (g : AgeSt → AgeSt) : (s.updAge g).chg = s.chg := rfl
@[simp] theorem updAge_tel (s : State) (g : AgeSt → AgeSt) : (s.updAge g).tel = s.tel := rfl
@[simp] theorem updAge_otp (s : State) (g : AgeSt → AgeSt) : (s.updAge g).otp = s.otp := rfl
@[simp] theorem updAge_sb (s : State) (g : AgeSt → AgeSt) : (s.updAge g).sb = s.sb := rfl
@[simp] theorem updAge_gauge (s : State) (g : AgeSt → AgeSt) : (s.updAge g).gauge = s.gauge := rfl
@[simp] theorem updAge_upd (s : State) (g : AgeSt → AgeSt) : (s.updAge g).upd = s.upd := rfl
@[simp] theorem updAge_age (s : State) (g : AgeSt → AgeSt) : (s.updAge g).age = g s.age := rfl
@[simp] theorem updAge_nv (s : State) (g : AgeSt → AgeSt) : (s.updAge g).nv = s.nv := rfl
@[simp] theorem updAge_granted (s : State) (g : AgeSt → AgeSt) : (s.updAge g).granted = s.granted := rfl
@[simp] theorem updAge_logNext (s : State) (g : AgeSt → AgeSt) : (s.updAge g).logNext = s.logNext := rfl
@[simp] theorem updAge_win (s : State) (g : AgeSt → AgeSt) : (s.updAge g).win = s.win := rfl
@[simp] theorem updAge_sbBuf (s : State) (g : AgeSt → AgeSt) : (s.updAge g).sbBuf = s.sbBuf := rfl
@[simp] theorem updAge_mram (s : State) (g : AgeSt → AgeSt) : (s.updAge g).mram = s.mram := rfl
@[simp] theorem updAge_spiOut (s : State) (g : AgeSt → AgeSt) : (s.updAge g).spiOut = s.spiOut := rfl
@[simp] theorem updAge_sbOut (s : State) (g : AgeSt → AgeSt) : (s.updAge g).sbOut = s.sbOut := rfl
@[simp] theorem updAge_free (s : State) (g : AgeSt → AgeSt) : (s.updAge g).free = s.free := rfl
@[simp] theorem updAge_pending (s : State) (g : AgeSt → AgeSt) : (s.updAge g).pending = s.pending := rfl
@[simp] theorem updAge_getF (s : State) (g : AgeSt → AgeSt) (f : Fld) : (s.updAge g).getF f = s.getF f := rfl
@[simp] theorem updAge_bit (s : State) (g : AgeSt → AgeSt) (f : Fld) : (s.updAge g).bit f = s.bit f := rfl

/-! `updNv`. -/

@[simp] theorem updNv_sys (s : State) (g : Nv → Nv) : (s.updNv g).sys = s.sys := rfl
@[simp] theorem updNv_time (s : State) (g : Nv → Nv) : (s.updNv g).time = s.time := rfl
@[simp] theorem updNv_half (s : State) (g : Nv → Nv) : (s.updNv g).half = s.half := rfl
@[simp] theorem updNv_clk (s : State) (g : Nv → Nv) : (s.updNv g).clk = s.clk := rfl
@[simp] theorem updNv_fields (s : State) (g : Nv → Nv) : (s.updNv g).fields = s.fields := rfl
@[simp] theorem updNv_staged (s : State) (g : Nv → Nv) : (s.updNv g).staged = s.staged := rfl
@[simp] theorem updNv_accHost (s : State) (g : Nv → Nv) : (s.updNv g).accHost = s.accHost := rfl
@[simp] theorem updNv_accSide (s : State) (g : Nv → Nv) : (s.updNv g).accSide = s.accSide := rfl
@[simp] theorem updNv_accCtl (s : State) (g : Nv → Nv) : (s.updNv g).accCtl = s.accCtl := rfl
@[simp] theorem updNv_accGauge (s : State) (g : Nv → Nv) : (s.updNv g).accGauge = s.accGauge := rfl
@[simp] theorem updNv_flt (s : State) (g : Nv → Nv) : (s.updNv g).flt = s.flt := rfl
@[simp] theorem updNv_mbx (s : State) (g : Nv → Nv) : (s.updNv g).mbx = s.mbx := rfl
@[simp] theorem updNv_seq (s : State) (g : Nv → Nv) : (s.updNv g).seq = s.seq := rfl
@[simp] theorem updNv_rails (s : State) (g : Nv → Nv) : (s.updNv g).rails = s.rails := rfl
@[simp] theorem updNv_isoQueue (s : State) (g : Nv → Nv) : (s.updNv g).isoQueue = s.isoQueue := rfl
@[simp] theorem updNv_ldos (s : State) (g : Nv → Nv) : (s.updNv g).ldos = s.ldos := rfl
@[simp] theorem updNv_mons (s : State) (g : Nv → Nv) : (s.updNv g).mons = s.mons := rfl
@[simp] theorem updNv_fe (s : State) (g : Nv → Nv) : (s.updNv g).fe = s.fe := rfl
@[simp] theorem updNv_path (s : State) (g : Nv → Nv) : (s.updNv g).path = s.path := rfl
@[simp] theorem updNv_chg (s : State) (g : Nv → Nv) : (s.updNv g).chg = s.chg := rfl
@[simp] theorem updNv_tel (s : State) (g : Nv → Nv) : (s.updNv g).tel = s.tel := rfl
@[simp] theorem updNv_otp (s : State) (g : Nv → Nv) : (s.updNv g).otp = s.otp := rfl
@[simp] theorem updNv_sb (s : State) (g : Nv → Nv) : (s.updNv g).sb = s.sb := rfl
@[simp] theorem updNv_gauge (s : State) (g : Nv → Nv) : (s.updNv g).gauge = s.gauge := rfl
@[simp] theorem updNv_upd (s : State) (g : Nv → Nv) : (s.updNv g).upd = s.upd := rfl
@[simp] theorem updNv_age (s : State) (g : Nv → Nv) : (s.updNv g).age = s.age := rfl
@[simp] theorem updNv_nv (s : State) (g : Nv → Nv) : (s.updNv g).nv = g s.nv := rfl
@[simp] theorem updNv_granted (s : State) (g : Nv → Nv) : (s.updNv g).granted = s.granted := rfl
@[simp] theorem updNv_logNext (s : State) (g : Nv → Nv) : (s.updNv g).logNext = s.logNext := rfl
@[simp] theorem updNv_win (s : State) (g : Nv → Nv) : (s.updNv g).win = s.win := rfl
@[simp] theorem updNv_sbBuf (s : State) (g : Nv → Nv) : (s.updNv g).sbBuf = s.sbBuf := rfl
@[simp] theorem updNv_mram (s : State) (g : Nv → Nv) : (s.updNv g).mram = s.mram := rfl
@[simp] theorem updNv_spiOut (s : State) (g : Nv → Nv) : (s.updNv g).spiOut = s.spiOut := rfl
@[simp] theorem updNv_sbOut (s : State) (g : Nv → Nv) : (s.updNv g).sbOut = s.sbOut := rfl
@[simp] theorem updNv_free (s : State) (g : Nv → Nv) : (s.updNv g).free = s.free := rfl
@[simp] theorem updNv_pending (s : State) (g : Nv → Nv) : (s.updNv g).pending = s.pending := rfl
@[simp] theorem updNv_getF (s : State) (g : Nv → Nv) (f : Fld) : (s.updNv g).getF f = s.getF f := rfl
@[simp] theorem updNv_bit (s : State) (g : Nv → Nv) (f : Fld) : (s.updNv g).bit f = s.bit f := rfl

/-! `updRail`. -/

@[simp] theorem updRail_sys (s : State) (k : Nat) (g : RailSt → RailSt) : (s.updRail k g).sys = s.sys := rfl
@[simp] theorem updRail_time (s : State) (k : Nat) (g : RailSt → RailSt) : (s.updRail k g).time = s.time := rfl
@[simp] theorem updRail_half (s : State) (k : Nat) (g : RailSt → RailSt) : (s.updRail k g).half = s.half := rfl
@[simp] theorem updRail_clk (s : State) (k : Nat) (g : RailSt → RailSt) : (s.updRail k g).clk = s.clk := rfl
@[simp] theorem updRail_fields (s : State) (k : Nat) (g : RailSt → RailSt) : (s.updRail k g).fields = s.fields := rfl
@[simp] theorem updRail_staged (s : State) (k : Nat) (g : RailSt → RailSt) : (s.updRail k g).staged = s.staged := rfl
@[simp] theorem updRail_accHost (s : State) (k : Nat) (g : RailSt → RailSt) : (s.updRail k g).accHost = s.accHost := rfl
@[simp] theorem updRail_accSide (s : State) (k : Nat) (g : RailSt → RailSt) : (s.updRail k g).accSide = s.accSide := rfl
@[simp] theorem updRail_accCtl (s : State) (k : Nat) (g : RailSt → RailSt) : (s.updRail k g).accCtl = s.accCtl := rfl
@[simp] theorem updRail_accGauge (s : State) (k : Nat) (g : RailSt → RailSt) : (s.updRail k g).accGauge = s.accGauge := rfl
@[simp] theorem updRail_flt (s : State) (k : Nat) (g : RailSt → RailSt) : (s.updRail k g).flt = s.flt := rfl
@[simp] theorem updRail_mbx (s : State) (k : Nat) (g : RailSt → RailSt) : (s.updRail k g).mbx = s.mbx := rfl
@[simp] theorem updRail_seq (s : State) (k : Nat) (g : RailSt → RailSt) : (s.updRail k g).seq = s.seq := rfl
@[simp] theorem updRail_rails (s : State) (k : Nat) (g : RailSt → RailSt) : (s.updRail k g).rails = s.rails.modify k g := rfl
@[simp] theorem updRail_isoQueue (s : State) (k : Nat) (g : RailSt → RailSt) : (s.updRail k g).isoQueue = s.isoQueue := rfl
@[simp] theorem updRail_ldos (s : State) (k : Nat) (g : RailSt → RailSt) : (s.updRail k g).ldos = s.ldos := rfl
@[simp] theorem updRail_mons (s : State) (k : Nat) (g : RailSt → RailSt) : (s.updRail k g).mons = s.mons := rfl
@[simp] theorem updRail_fe (s : State) (k : Nat) (g : RailSt → RailSt) : (s.updRail k g).fe = s.fe := rfl
@[simp] theorem updRail_path (s : State) (k : Nat) (g : RailSt → RailSt) : (s.updRail k g).path = s.path := rfl
@[simp] theorem updRail_chg (s : State) (k : Nat) (g : RailSt → RailSt) : (s.updRail k g).chg = s.chg := rfl
@[simp] theorem updRail_tel (s : State) (k : Nat) (g : RailSt → RailSt) : (s.updRail k g).tel = s.tel := rfl
@[simp] theorem updRail_otp (s : State) (k : Nat) (g : RailSt → RailSt) : (s.updRail k g).otp = s.otp := rfl
@[simp] theorem updRail_sb (s : State) (k : Nat) (g : RailSt → RailSt) : (s.updRail k g).sb = s.sb := rfl
@[simp] theorem updRail_gauge (s : State) (k : Nat) (g : RailSt → RailSt) : (s.updRail k g).gauge = s.gauge := rfl
@[simp] theorem updRail_upd (s : State) (k : Nat) (g : RailSt → RailSt) : (s.updRail k g).upd = s.upd := rfl
@[simp] theorem updRail_age (s : State) (k : Nat) (g : RailSt → RailSt) : (s.updRail k g).age = s.age := rfl
@[simp] theorem updRail_nv (s : State) (k : Nat) (g : RailSt → RailSt) : (s.updRail k g).nv = s.nv := rfl
@[simp] theorem updRail_granted (s : State) (k : Nat) (g : RailSt → RailSt) : (s.updRail k g).granted = s.granted := rfl
@[simp] theorem updRail_logNext (s : State) (k : Nat) (g : RailSt → RailSt) : (s.updRail k g).logNext = s.logNext := rfl
@[simp] theorem updRail_win (s : State) (k : Nat) (g : RailSt → RailSt) : (s.updRail k g).win = s.win := rfl
@[simp] theorem updRail_sbBuf (s : State) (k : Nat) (g : RailSt → RailSt) : (s.updRail k g).sbBuf = s.sbBuf := rfl
@[simp] theorem updRail_mram (s : State) (k : Nat) (g : RailSt → RailSt) : (s.updRail k g).mram = s.mram := rfl
@[simp] theorem updRail_spiOut (s : State) (k : Nat) (g : RailSt → RailSt) : (s.updRail k g).spiOut = s.spiOut := rfl
@[simp] theorem updRail_sbOut (s : State) (k : Nat) (g : RailSt → RailSt) : (s.updRail k g).sbOut = s.sbOut := rfl
@[simp] theorem updRail_free (s : State) (k : Nat) (g : RailSt → RailSt) : (s.updRail k g).free = s.free := rfl
@[simp] theorem updRail_pending (s : State) (k : Nat) (g : RailSt → RailSt) : (s.updRail k g).pending = s.pending := rfl
@[simp] theorem updRail_getF (s : State) (k : Nat) (g : RailSt → RailSt) (f : Fld) : (s.updRail k g).getF f = s.getF f := rfl
@[simp] theorem updRail_bit (s : State) (k : Nat) (g : RailSt → RailSt) (f : Fld) : (s.updRail k g).bit f = s.bit f := rfl

/-! `updLdo`. -/

@[simp] theorem updLdo_sys (s : State) (k : Nat) (g : LdoSt → LdoSt) : (s.updLdo k g).sys = s.sys := rfl
@[simp] theorem updLdo_time (s : State) (k : Nat) (g : LdoSt → LdoSt) : (s.updLdo k g).time = s.time := rfl
@[simp] theorem updLdo_half (s : State) (k : Nat) (g : LdoSt → LdoSt) : (s.updLdo k g).half = s.half := rfl
@[simp] theorem updLdo_clk (s : State) (k : Nat) (g : LdoSt → LdoSt) : (s.updLdo k g).clk = s.clk := rfl
@[simp] theorem updLdo_fields (s : State) (k : Nat) (g : LdoSt → LdoSt) : (s.updLdo k g).fields = s.fields := rfl
@[simp] theorem updLdo_staged (s : State) (k : Nat) (g : LdoSt → LdoSt) : (s.updLdo k g).staged = s.staged := rfl
@[simp] theorem updLdo_accHost (s : State) (k : Nat) (g : LdoSt → LdoSt) : (s.updLdo k g).accHost = s.accHost := rfl
@[simp] theorem updLdo_accSide (s : State) (k : Nat) (g : LdoSt → LdoSt) : (s.updLdo k g).accSide = s.accSide := rfl
@[simp] theorem updLdo_accCtl (s : State) (k : Nat) (g : LdoSt → LdoSt) : (s.updLdo k g).accCtl = s.accCtl := rfl
@[simp] theorem updLdo_accGauge (s : State) (k : Nat) (g : LdoSt → LdoSt) : (s.updLdo k g).accGauge = s.accGauge := rfl
@[simp] theorem updLdo_flt (s : State) (k : Nat) (g : LdoSt → LdoSt) : (s.updLdo k g).flt = s.flt := rfl
@[simp] theorem updLdo_mbx (s : State) (k : Nat) (g : LdoSt → LdoSt) : (s.updLdo k g).mbx = s.mbx := rfl
@[simp] theorem updLdo_seq (s : State) (k : Nat) (g : LdoSt → LdoSt) : (s.updLdo k g).seq = s.seq := rfl
@[simp] theorem updLdo_rails (s : State) (k : Nat) (g : LdoSt → LdoSt) : (s.updLdo k g).rails = s.rails := rfl
@[simp] theorem updLdo_isoQueue (s : State) (k : Nat) (g : LdoSt → LdoSt) : (s.updLdo k g).isoQueue = s.isoQueue := rfl
@[simp] theorem updLdo_ldos (s : State) (k : Nat) (g : LdoSt → LdoSt) : (s.updLdo k g).ldos = s.ldos.modify k g := rfl
@[simp] theorem updLdo_mons (s : State) (k : Nat) (g : LdoSt → LdoSt) : (s.updLdo k g).mons = s.mons := rfl
@[simp] theorem updLdo_fe (s : State) (k : Nat) (g : LdoSt → LdoSt) : (s.updLdo k g).fe = s.fe := rfl
@[simp] theorem updLdo_path (s : State) (k : Nat) (g : LdoSt → LdoSt) : (s.updLdo k g).path = s.path := rfl
@[simp] theorem updLdo_chg (s : State) (k : Nat) (g : LdoSt → LdoSt) : (s.updLdo k g).chg = s.chg := rfl
@[simp] theorem updLdo_tel (s : State) (k : Nat) (g : LdoSt → LdoSt) : (s.updLdo k g).tel = s.tel := rfl
@[simp] theorem updLdo_otp (s : State) (k : Nat) (g : LdoSt → LdoSt) : (s.updLdo k g).otp = s.otp := rfl
@[simp] theorem updLdo_sb (s : State) (k : Nat) (g : LdoSt → LdoSt) : (s.updLdo k g).sb = s.sb := rfl
@[simp] theorem updLdo_gauge (s : State) (k : Nat) (g : LdoSt → LdoSt) : (s.updLdo k g).gauge = s.gauge := rfl
@[simp] theorem updLdo_upd (s : State) (k : Nat) (g : LdoSt → LdoSt) : (s.updLdo k g).upd = s.upd := rfl
@[simp] theorem updLdo_age (s : State) (k : Nat) (g : LdoSt → LdoSt) : (s.updLdo k g).age = s.age := rfl
@[simp] theorem updLdo_nv (s : State) (k : Nat) (g : LdoSt → LdoSt) : (s.updLdo k g).nv = s.nv := rfl
@[simp] theorem updLdo_granted (s : State) (k : Nat) (g : LdoSt → LdoSt) : (s.updLdo k g).granted = s.granted := rfl
@[simp] theorem updLdo_logNext (s : State) (k : Nat) (g : LdoSt → LdoSt) : (s.updLdo k g).logNext = s.logNext := rfl
@[simp] theorem updLdo_win (s : State) (k : Nat) (g : LdoSt → LdoSt) : (s.updLdo k g).win = s.win := rfl
@[simp] theorem updLdo_sbBuf (s : State) (k : Nat) (g : LdoSt → LdoSt) : (s.updLdo k g).sbBuf = s.sbBuf := rfl
@[simp] theorem updLdo_mram (s : State) (k : Nat) (g : LdoSt → LdoSt) : (s.updLdo k g).mram = s.mram := rfl
@[simp] theorem updLdo_spiOut (s : State) (k : Nat) (g : LdoSt → LdoSt) : (s.updLdo k g).spiOut = s.spiOut := rfl
@[simp] theorem updLdo_sbOut (s : State) (k : Nat) (g : LdoSt → LdoSt) : (s.updLdo k g).sbOut = s.sbOut := rfl
@[simp] theorem updLdo_free (s : State) (k : Nat) (g : LdoSt → LdoSt) : (s.updLdo k g).free = s.free := rfl
@[simp] theorem updLdo_pending (s : State) (k : Nat) (g : LdoSt → LdoSt) : (s.updLdo k g).pending = s.pending := rfl
@[simp] theorem updLdo_getF (s : State) (k : Nat) (g : LdoSt → LdoSt) (f : Fld) : (s.updLdo k g).getF f = s.getF f := rfl
@[simp] theorem updLdo_bit (s : State) (k : Nat) (g : LdoSt → LdoSt) (f : Fld) : (s.updLdo k g).bit f = s.bit f := rfl

/-! `updMon`. -/

@[simp] theorem updMon_sys (s : State) (k : Nat) (g : MonSt → MonSt) : (s.updMon k g).sys = s.sys := rfl
@[simp] theorem updMon_time (s : State) (k : Nat) (g : MonSt → MonSt) : (s.updMon k g).time = s.time := rfl
@[simp] theorem updMon_half (s : State) (k : Nat) (g : MonSt → MonSt) : (s.updMon k g).half = s.half := rfl
@[simp] theorem updMon_clk (s : State) (k : Nat) (g : MonSt → MonSt) : (s.updMon k g).clk = s.clk := rfl
@[simp] theorem updMon_fields (s : State) (k : Nat) (g : MonSt → MonSt) : (s.updMon k g).fields = s.fields := rfl
@[simp] theorem updMon_staged (s : State) (k : Nat) (g : MonSt → MonSt) : (s.updMon k g).staged = s.staged := rfl
@[simp] theorem updMon_accHost (s : State) (k : Nat) (g : MonSt → MonSt) : (s.updMon k g).accHost = s.accHost := rfl
@[simp] theorem updMon_accSide (s : State) (k : Nat) (g : MonSt → MonSt) : (s.updMon k g).accSide = s.accSide := rfl
@[simp] theorem updMon_accCtl (s : State) (k : Nat) (g : MonSt → MonSt) : (s.updMon k g).accCtl = s.accCtl := rfl
@[simp] theorem updMon_accGauge (s : State) (k : Nat) (g : MonSt → MonSt) : (s.updMon k g).accGauge = s.accGauge := rfl
@[simp] theorem updMon_flt (s : State) (k : Nat) (g : MonSt → MonSt) : (s.updMon k g).flt = s.flt := rfl
@[simp] theorem updMon_mbx (s : State) (k : Nat) (g : MonSt → MonSt) : (s.updMon k g).mbx = s.mbx := rfl
@[simp] theorem updMon_seq (s : State) (k : Nat) (g : MonSt → MonSt) : (s.updMon k g).seq = s.seq := rfl
@[simp] theorem updMon_rails (s : State) (k : Nat) (g : MonSt → MonSt) : (s.updMon k g).rails = s.rails := rfl
@[simp] theorem updMon_isoQueue (s : State) (k : Nat) (g : MonSt → MonSt) : (s.updMon k g).isoQueue = s.isoQueue := rfl
@[simp] theorem updMon_ldos (s : State) (k : Nat) (g : MonSt → MonSt) : (s.updMon k g).ldos = s.ldos := rfl
@[simp] theorem updMon_mons (s : State) (k : Nat) (g : MonSt → MonSt) : (s.updMon k g).mons = s.mons.modify k g := rfl
@[simp] theorem updMon_fe (s : State) (k : Nat) (g : MonSt → MonSt) : (s.updMon k g).fe = s.fe := rfl
@[simp] theorem updMon_path (s : State) (k : Nat) (g : MonSt → MonSt) : (s.updMon k g).path = s.path := rfl
@[simp] theorem updMon_chg (s : State) (k : Nat) (g : MonSt → MonSt) : (s.updMon k g).chg = s.chg := rfl
@[simp] theorem updMon_tel (s : State) (k : Nat) (g : MonSt → MonSt) : (s.updMon k g).tel = s.tel := rfl
@[simp] theorem updMon_otp (s : State) (k : Nat) (g : MonSt → MonSt) : (s.updMon k g).otp = s.otp := rfl
@[simp] theorem updMon_sb (s : State) (k : Nat) (g : MonSt → MonSt) : (s.updMon k g).sb = s.sb := rfl
@[simp] theorem updMon_gauge (s : State) (k : Nat) (g : MonSt → MonSt) : (s.updMon k g).gauge = s.gauge := rfl
@[simp] theorem updMon_upd (s : State) (k : Nat) (g : MonSt → MonSt) : (s.updMon k g).upd = s.upd := rfl
@[simp] theorem updMon_age (s : State) (k : Nat) (g : MonSt → MonSt) : (s.updMon k g).age = s.age := rfl
@[simp] theorem updMon_nv (s : State) (k : Nat) (g : MonSt → MonSt) : (s.updMon k g).nv = s.nv := rfl
@[simp] theorem updMon_granted (s : State) (k : Nat) (g : MonSt → MonSt) : (s.updMon k g).granted = s.granted := rfl
@[simp] theorem updMon_logNext (s : State) (k : Nat) (g : MonSt → MonSt) : (s.updMon k g).logNext = s.logNext := rfl
@[simp] theorem updMon_win (s : State) (k : Nat) (g : MonSt → MonSt) : (s.updMon k g).win = s.win := rfl
@[simp] theorem updMon_sbBuf (s : State) (k : Nat) (g : MonSt → MonSt) : (s.updMon k g).sbBuf = s.sbBuf := rfl
@[simp] theorem updMon_mram (s : State) (k : Nat) (g : MonSt → MonSt) : (s.updMon k g).mram = s.mram := rfl
@[simp] theorem updMon_spiOut (s : State) (k : Nat) (g : MonSt → MonSt) : (s.updMon k g).spiOut = s.spiOut := rfl
@[simp] theorem updMon_sbOut (s : State) (k : Nat) (g : MonSt → MonSt) : (s.updMon k g).sbOut = s.sbOut := rfl
@[simp] theorem updMon_free (s : State) (k : Nat) (g : MonSt → MonSt) : (s.updMon k g).free = s.free := rfl
@[simp] theorem updMon_pending (s : State) (k : Nat) (g : MonSt → MonSt) : (s.updMon k g).pending = s.pending := rfl
@[simp] theorem updMon_getF (s : State) (k : Nat) (g : MonSt → MonSt) (f : Fld) : (s.updMon k g).getF f = s.getF f := rfl
@[simp] theorem updMon_bit (s : State) (k : Nat) (g : MonSt → MonSt) (f : Fld) : (s.updMon k g).bit f = s.bit f := rfl

/-! Register fields and the log. -/

@[simp] theorem setF_sys (s : State) (x : Fld) (v : Nat) : (s.setF x v).sys = s.sys := rfl
@[simp] theorem setB_sys (s : State) (x : Fld) (b : Bool) : (s.setB x b).sys = s.sys := rfl
@[simp] theorem setI_sys (s : State) (x : Fld) (i : Int) : (s.setI x i).sys = s.sys := rfl
@[simp] theorem setMany_sys (s : State) (l : List (Fld × Nat)) : (s.setMany l).sys = s.sys := by rw [setMany_eq]
@[simp] theorem log_sys (s : State) (kind code : Nat) (d : List Byte) : (s.log kind code d).sys = s.sys := rfl
@[simp] theorem setF_time (s : State) (x : Fld) (v : Nat) : (s.setF x v).time = s.time := rfl
@[simp] theorem setB_time (s : State) (x : Fld) (b : Bool) : (s.setB x b).time = s.time := rfl
@[simp] theorem setI_time (s : State) (x : Fld) (i : Int) : (s.setI x i).time = s.time := rfl
@[simp] theorem setMany_time (s : State) (l : List (Fld × Nat)) : (s.setMany l).time = s.time := by rw [setMany_eq]
@[simp] theorem log_time (s : State) (kind code : Nat) (d : List Byte) : (s.log kind code d).time = s.time := rfl
@[simp] theorem setF_half (s : State) (x : Fld) (v : Nat) : (s.setF x v).half = s.half := rfl
@[simp] theorem setB_half (s : State) (x : Fld) (b : Bool) : (s.setB x b).half = s.half := rfl
@[simp] theorem setI_half (s : State) (x : Fld) (i : Int) : (s.setI x i).half = s.half := rfl
@[simp] theorem setMany_half (s : State) (l : List (Fld × Nat)) : (s.setMany l).half = s.half := by rw [setMany_eq]
@[simp] theorem log_half (s : State) (kind code : Nat) (d : List Byte) : (s.log kind code d).half = s.half := rfl
@[simp] theorem setF_clk (s : State) (x : Fld) (v : Nat) : (s.setF x v).clk = s.clk := rfl
@[simp] theorem setB_clk (s : State) (x : Fld) (b : Bool) : (s.setB x b).clk = s.clk := rfl
@[simp] theorem setI_clk (s : State) (x : Fld) (i : Int) : (s.setI x i).clk = s.clk := rfl
@[simp] theorem setMany_clk (s : State) (l : List (Fld × Nat)) : (s.setMany l).clk = s.clk := by rw [setMany_eq]
@[simp] theorem log_clk (s : State) (kind code : Nat) (d : List Byte) : (s.log kind code d).clk = s.clk := rfl
@[simp] theorem log_fields (s : State) (kind code : Nat) (d : List Byte) : (s.log kind code d).fields = s.fields := rfl
@[simp] theorem setF_staged (s : State) (x : Fld) (v : Nat) : (s.setF x v).staged = s.staged := rfl
@[simp] theorem setB_staged (s : State) (x : Fld) (b : Bool) : (s.setB x b).staged = s.staged := rfl
@[simp] theorem setI_staged (s : State) (x : Fld) (i : Int) : (s.setI x i).staged = s.staged := rfl
@[simp] theorem setMany_staged (s : State) (l : List (Fld × Nat)) : (s.setMany l).staged = s.staged := by rw [setMany_eq]
@[simp] theorem log_staged (s : State) (kind code : Nat) (d : List Byte) : (s.log kind code d).staged = s.staged := rfl
@[simp] theorem setF_accHost (s : State) (x : Fld) (v : Nat) : (s.setF x v).accHost = s.accHost := rfl
@[simp] theorem setB_accHost (s : State) (x : Fld) (b : Bool) : (s.setB x b).accHost = s.accHost := rfl
@[simp] theorem setI_accHost (s : State) (x : Fld) (i : Int) : (s.setI x i).accHost = s.accHost := rfl
@[simp] theorem setMany_accHost (s : State) (l : List (Fld × Nat)) : (s.setMany l).accHost = s.accHost := by rw [setMany_eq]
@[simp] theorem log_accHost (s : State) (kind code : Nat) (d : List Byte) : (s.log kind code d).accHost = s.accHost := rfl
@[simp] theorem setF_accSide (s : State) (x : Fld) (v : Nat) : (s.setF x v).accSide = s.accSide := rfl
@[simp] theorem setB_accSide (s : State) (x : Fld) (b : Bool) : (s.setB x b).accSide = s.accSide := rfl
@[simp] theorem setI_accSide (s : State) (x : Fld) (i : Int) : (s.setI x i).accSide = s.accSide := rfl
@[simp] theorem setMany_accSide (s : State) (l : List (Fld × Nat)) : (s.setMany l).accSide = s.accSide := by rw [setMany_eq]
@[simp] theorem log_accSide (s : State) (kind code : Nat) (d : List Byte) : (s.log kind code d).accSide = s.accSide := rfl
@[simp] theorem setF_accCtl (s : State) (x : Fld) (v : Nat) : (s.setF x v).accCtl = s.accCtl := rfl
@[simp] theorem setB_accCtl (s : State) (x : Fld) (b : Bool) : (s.setB x b).accCtl = s.accCtl := rfl
@[simp] theorem setI_accCtl (s : State) (x : Fld) (i : Int) : (s.setI x i).accCtl = s.accCtl := rfl
@[simp] theorem setMany_accCtl (s : State) (l : List (Fld × Nat)) : (s.setMany l).accCtl = s.accCtl := by rw [setMany_eq]
@[simp] theorem log_accCtl (s : State) (kind code : Nat) (d : List Byte) : (s.log kind code d).accCtl = s.accCtl := rfl
@[simp] theorem setF_accGauge (s : State) (x : Fld) (v : Nat) : (s.setF x v).accGauge = s.accGauge := rfl
@[simp] theorem setB_accGauge (s : State) (x : Fld) (b : Bool) : (s.setB x b).accGauge = s.accGauge := rfl
@[simp] theorem setI_accGauge (s : State) (x : Fld) (i : Int) : (s.setI x i).accGauge = s.accGauge := rfl
@[simp] theorem setMany_accGauge (s : State) (l : List (Fld × Nat)) : (s.setMany l).accGauge = s.accGauge := by rw [setMany_eq]
@[simp] theorem log_accGauge (s : State) (kind code : Nat) (d : List Byte) : (s.log kind code d).accGauge = s.accGauge := rfl
@[simp] theorem setF_flt (s : State) (x : Fld) (v : Nat) : (s.setF x v).flt = s.flt := rfl
@[simp] theorem setB_flt (s : State) (x : Fld) (b : Bool) : (s.setB x b).flt = s.flt := rfl
@[simp] theorem setI_flt (s : State) (x : Fld) (i : Int) : (s.setI x i).flt = s.flt := rfl
@[simp] theorem setMany_flt (s : State) (l : List (Fld × Nat)) : (s.setMany l).flt = s.flt := by rw [setMany_eq]
@[simp] theorem log_flt (s : State) (kind code : Nat) (d : List Byte) : (s.log kind code d).flt = s.flt := rfl
@[simp] theorem setF_mbx (s : State) (x : Fld) (v : Nat) : (s.setF x v).mbx = s.mbx := rfl
@[simp] theorem setB_mbx (s : State) (x : Fld) (b : Bool) : (s.setB x b).mbx = s.mbx := rfl
@[simp] theorem setI_mbx (s : State) (x : Fld) (i : Int) : (s.setI x i).mbx = s.mbx := rfl
@[simp] theorem setMany_mbx (s : State) (l : List (Fld × Nat)) : (s.setMany l).mbx = s.mbx := by rw [setMany_eq]
@[simp] theorem log_mbx (s : State) (kind code : Nat) (d : List Byte) : (s.log kind code d).mbx = s.mbx := rfl
@[simp] theorem setF_seq (s : State) (x : Fld) (v : Nat) : (s.setF x v).seq = s.seq := rfl
@[simp] theorem setB_seq (s : State) (x : Fld) (b : Bool) : (s.setB x b).seq = s.seq := rfl
@[simp] theorem setI_seq (s : State) (x : Fld) (i : Int) : (s.setI x i).seq = s.seq := rfl
@[simp] theorem setMany_seq (s : State) (l : List (Fld × Nat)) : (s.setMany l).seq = s.seq := by rw [setMany_eq]
@[simp] theorem log_seq (s : State) (kind code : Nat) (d : List Byte) : (s.log kind code d).seq = s.seq := rfl
@[simp] theorem setF_rails (s : State) (x : Fld) (v : Nat) : (s.setF x v).rails = s.rails := rfl
@[simp] theorem setB_rails (s : State) (x : Fld) (b : Bool) : (s.setB x b).rails = s.rails := rfl
@[simp] theorem setI_rails (s : State) (x : Fld) (i : Int) : (s.setI x i).rails = s.rails := rfl
@[simp] theorem setMany_rails (s : State) (l : List (Fld × Nat)) : (s.setMany l).rails = s.rails := by rw [setMany_eq]
@[simp] theorem log_rails (s : State) (kind code : Nat) (d : List Byte) : (s.log kind code d).rails = s.rails := rfl
@[simp] theorem setF_isoQueue (s : State) (x : Fld) (v : Nat) : (s.setF x v).isoQueue = s.isoQueue := rfl
@[simp] theorem setB_isoQueue (s : State) (x : Fld) (b : Bool) : (s.setB x b).isoQueue = s.isoQueue := rfl
@[simp] theorem setI_isoQueue (s : State) (x : Fld) (i : Int) : (s.setI x i).isoQueue = s.isoQueue := rfl
@[simp] theorem setMany_isoQueue (s : State) (l : List (Fld × Nat)) : (s.setMany l).isoQueue = s.isoQueue := by rw [setMany_eq]
@[simp] theorem log_isoQueue (s : State) (kind code : Nat) (d : List Byte) : (s.log kind code d).isoQueue = s.isoQueue := rfl
@[simp] theorem setF_ldos (s : State) (x : Fld) (v : Nat) : (s.setF x v).ldos = s.ldos := rfl
@[simp] theorem setB_ldos (s : State) (x : Fld) (b : Bool) : (s.setB x b).ldos = s.ldos := rfl
@[simp] theorem setI_ldos (s : State) (x : Fld) (i : Int) : (s.setI x i).ldos = s.ldos := rfl
@[simp] theorem setMany_ldos (s : State) (l : List (Fld × Nat)) : (s.setMany l).ldos = s.ldos := by rw [setMany_eq]
@[simp] theorem log_ldos (s : State) (kind code : Nat) (d : List Byte) : (s.log kind code d).ldos = s.ldos := rfl
@[simp] theorem setF_mons (s : State) (x : Fld) (v : Nat) : (s.setF x v).mons = s.mons := rfl
@[simp] theorem setB_mons (s : State) (x : Fld) (b : Bool) : (s.setB x b).mons = s.mons := rfl
@[simp] theorem setI_mons (s : State) (x : Fld) (i : Int) : (s.setI x i).mons = s.mons := rfl
@[simp] theorem setMany_mons (s : State) (l : List (Fld × Nat)) : (s.setMany l).mons = s.mons := by rw [setMany_eq]
@[simp] theorem log_mons (s : State) (kind code : Nat) (d : List Byte) : (s.log kind code d).mons = s.mons := rfl
@[simp] theorem setF_fe (s : State) (x : Fld) (v : Nat) : (s.setF x v).fe = s.fe := rfl
@[simp] theorem setB_fe (s : State) (x : Fld) (b : Bool) : (s.setB x b).fe = s.fe := rfl
@[simp] theorem setI_fe (s : State) (x : Fld) (i : Int) : (s.setI x i).fe = s.fe := rfl
@[simp] theorem setMany_fe (s : State) (l : List (Fld × Nat)) : (s.setMany l).fe = s.fe := by rw [setMany_eq]
@[simp] theorem log_fe (s : State) (kind code : Nat) (d : List Byte) : (s.log kind code d).fe = s.fe := rfl
@[simp] theorem setF_path (s : State) (x : Fld) (v : Nat) : (s.setF x v).path = s.path := rfl
@[simp] theorem setB_path (s : State) (x : Fld) (b : Bool) : (s.setB x b).path = s.path := rfl
@[simp] theorem setI_path (s : State) (x : Fld) (i : Int) : (s.setI x i).path = s.path := rfl
@[simp] theorem setMany_path (s : State) (l : List (Fld × Nat)) : (s.setMany l).path = s.path := by rw [setMany_eq]
@[simp] theorem log_path (s : State) (kind code : Nat) (d : List Byte) : (s.log kind code d).path = s.path := rfl
@[simp] theorem setF_chg (s : State) (x : Fld) (v : Nat) : (s.setF x v).chg = s.chg := rfl
@[simp] theorem setB_chg (s : State) (x : Fld) (b : Bool) : (s.setB x b).chg = s.chg := rfl
@[simp] theorem setI_chg (s : State) (x : Fld) (i : Int) : (s.setI x i).chg = s.chg := rfl
@[simp] theorem setMany_chg (s : State) (l : List (Fld × Nat)) : (s.setMany l).chg = s.chg := by rw [setMany_eq]
@[simp] theorem log_chg (s : State) (kind code : Nat) (d : List Byte) : (s.log kind code d).chg = s.chg := rfl
@[simp] theorem setF_tel (s : State) (x : Fld) (v : Nat) : (s.setF x v).tel = s.tel := rfl
@[simp] theorem setB_tel (s : State) (x : Fld) (b : Bool) : (s.setB x b).tel = s.tel := rfl
@[simp] theorem setI_tel (s : State) (x : Fld) (i : Int) : (s.setI x i).tel = s.tel := rfl
@[simp] theorem setMany_tel (s : State) (l : List (Fld × Nat)) : (s.setMany l).tel = s.tel := by rw [setMany_eq]
@[simp] theorem log_tel (s : State) (kind code : Nat) (d : List Byte) : (s.log kind code d).tel = s.tel := rfl
@[simp] theorem setF_otp (s : State) (x : Fld) (v : Nat) : (s.setF x v).otp = s.otp := rfl
@[simp] theorem setB_otp (s : State) (x : Fld) (b : Bool) : (s.setB x b).otp = s.otp := rfl
@[simp] theorem setI_otp (s : State) (x : Fld) (i : Int) : (s.setI x i).otp = s.otp := rfl
@[simp] theorem setMany_otp (s : State) (l : List (Fld × Nat)) : (s.setMany l).otp = s.otp := by rw [setMany_eq]
@[simp] theorem log_otp (s : State) (kind code : Nat) (d : List Byte) : (s.log kind code d).otp = s.otp := rfl
@[simp] theorem setF_sb (s : State) (x : Fld) (v : Nat) : (s.setF x v).sb = s.sb := rfl
@[simp] theorem setB_sb (s : State) (x : Fld) (b : Bool) : (s.setB x b).sb = s.sb := rfl
@[simp] theorem setI_sb (s : State) (x : Fld) (i : Int) : (s.setI x i).sb = s.sb := rfl
@[simp] theorem setMany_sb (s : State) (l : List (Fld × Nat)) : (s.setMany l).sb = s.sb := by rw [setMany_eq]
@[simp] theorem log_sb (s : State) (kind code : Nat) (d : List Byte) : (s.log kind code d).sb = s.sb := rfl
@[simp] theorem setF_gauge (s : State) (x : Fld) (v : Nat) : (s.setF x v).gauge = s.gauge := rfl
@[simp] theorem setB_gauge (s : State) (x : Fld) (b : Bool) : (s.setB x b).gauge = s.gauge := rfl
@[simp] theorem setI_gauge (s : State) (x : Fld) (i : Int) : (s.setI x i).gauge = s.gauge := rfl
@[simp] theorem setMany_gauge (s : State) (l : List (Fld × Nat)) : (s.setMany l).gauge = s.gauge := by rw [setMany_eq]
@[simp] theorem log_gauge (s : State) (kind code : Nat) (d : List Byte) : (s.log kind code d).gauge = s.gauge := rfl
@[simp] theorem setF_upd (s : State) (x : Fld) (v : Nat) : (s.setF x v).upd = s.upd := rfl
@[simp] theorem setB_upd (s : State) (x : Fld) (b : Bool) : (s.setB x b).upd = s.upd := rfl
@[simp] theorem setI_upd (s : State) (x : Fld) (i : Int) : (s.setI x i).upd = s.upd := rfl
@[simp] theorem setMany_upd (s : State) (l : List (Fld × Nat)) : (s.setMany l).upd = s.upd := by rw [setMany_eq]
@[simp] theorem log_upd (s : State) (kind code : Nat) (d : List Byte) : (s.log kind code d).upd = s.upd := rfl
@[simp] theorem setF_age (s : State) (x : Fld) (v : Nat) : (s.setF x v).age = s.age := rfl
@[simp] theorem setB_age (s : State) (x : Fld) (b : Bool) : (s.setB x b).age = s.age := rfl
@[simp] theorem setI_age (s : State) (x : Fld) (i : Int) : (s.setI x i).age = s.age := rfl
@[simp] theorem setMany_age (s : State) (l : List (Fld × Nat)) : (s.setMany l).age = s.age := by rw [setMany_eq]
@[simp] theorem log_age (s : State) (kind code : Nat) (d : List Byte) : (s.log kind code d).age = s.age := rfl
@[simp] theorem setF_nv (s : State) (x : Fld) (v : Nat) : (s.setF x v).nv = s.nv := rfl
@[simp] theorem setB_nv (s : State) (x : Fld) (b : Bool) : (s.setB x b).nv = s.nv := rfl
@[simp] theorem setI_nv (s : State) (x : Fld) (i : Int) : (s.setI x i).nv = s.nv := rfl
@[simp] theorem setMany_nv (s : State) (l : List (Fld × Nat)) : (s.setMany l).nv = s.nv := by rw [setMany_eq]
@[simp] theorem log_nv (s : State) (kind code : Nat) (d : List Byte) : (s.log kind code d).nv = s.nv := rfl
@[simp] theorem setF_granted (s : State) (x : Fld) (v : Nat) : (s.setF x v).granted = s.granted := rfl
@[simp] theorem setB_granted (s : State) (x : Fld) (b : Bool) : (s.setB x b).granted = s.granted := rfl
@[simp] theorem setI_granted (s : State) (x : Fld) (i : Int) : (s.setI x i).granted = s.granted := rfl
@[simp] theorem setMany_granted (s : State) (l : List (Fld × Nat)) : (s.setMany l).granted = s.granted := by rw [setMany_eq]
@[simp] theorem log_granted (s : State) (kind code : Nat) (d : List Byte) : (s.log kind code d).granted = s.granted := rfl
@[simp] theorem setF_logNext (s : State) (x : Fld) (v : Nat) : (s.setF x v).logNext = s.logNext := rfl
@[simp] theorem setB_logNext (s : State) (x : Fld) (b : Bool) : (s.setB x b).logNext = s.logNext := rfl
@[simp] theorem setI_logNext (s : State) (x : Fld) (i : Int) : (s.setI x i).logNext = s.logNext := rfl
@[simp] theorem setMany_logNext (s : State) (l : List (Fld × Nat)) : (s.setMany l).logNext = s.logNext := by rw [setMany_eq]
@[simp] theorem setF_win (s : State) (x : Fld) (v : Nat) : (s.setF x v).win = s.win := rfl
@[simp] theorem setB_win (s : State) (x : Fld) (b : Bool) : (s.setB x b).win = s.win := rfl
@[simp] theorem setI_win (s : State) (x : Fld) (i : Int) : (s.setI x i).win = s.win := rfl
@[simp] theorem setMany_win (s : State) (l : List (Fld × Nat)) : (s.setMany l).win = s.win := by rw [setMany_eq]
@[simp] theorem setF_sbBuf (s : State) (x : Fld) (v : Nat) : (s.setF x v).sbBuf = s.sbBuf := rfl
@[simp] theorem setB_sbBuf (s : State) (x : Fld) (b : Bool) : (s.setB x b).sbBuf = s.sbBuf := rfl
@[simp] theorem setI_sbBuf (s : State) (x : Fld) (i : Int) : (s.setI x i).sbBuf = s.sbBuf := rfl
@[simp] theorem setMany_sbBuf (s : State) (l : List (Fld × Nat)) : (s.setMany l).sbBuf = s.sbBuf := by rw [setMany_eq]
@[simp] theorem log_sbBuf (s : State) (kind code : Nat) (d : List Byte) : (s.log kind code d).sbBuf = s.sbBuf := rfl
@[simp] theorem setF_mram (s : State) (x : Fld) (v : Nat) : (s.setF x v).mram = s.mram := rfl
@[simp] theorem setB_mram (s : State) (x : Fld) (b : Bool) : (s.setB x b).mram = s.mram := rfl
@[simp] theorem setI_mram (s : State) (x : Fld) (i : Int) : (s.setI x i).mram = s.mram := rfl
@[simp] theorem setMany_mram (s : State) (l : List (Fld × Nat)) : (s.setMany l).mram = s.mram := by rw [setMany_eq]
@[simp] theorem log_mram (s : State) (kind code : Nat) (d : List Byte) : (s.log kind code d).mram = s.mram := rfl
@[simp] theorem setF_spiOut (s : State) (x : Fld) (v : Nat) : (s.setF x v).spiOut = s.spiOut := rfl
@[simp] theorem setB_spiOut (s : State) (x : Fld) (b : Bool) : (s.setB x b).spiOut = s.spiOut := rfl
@[simp] theorem setI_spiOut (s : State) (x : Fld) (i : Int) : (s.setI x i).spiOut = s.spiOut := rfl
@[simp] theorem setMany_spiOut (s : State) (l : List (Fld × Nat)) : (s.setMany l).spiOut = s.spiOut := by rw [setMany_eq]
@[simp] theorem log_spiOut (s : State) (kind code : Nat) (d : List Byte) : (s.log kind code d).spiOut = s.spiOut := rfl
@[simp] theorem setF_sbOut (s : State) (x : Fld) (v : Nat) : (s.setF x v).sbOut = s.sbOut := rfl
@[simp] theorem setB_sbOut (s : State) (x : Fld) (b : Bool) : (s.setB x b).sbOut = s.sbOut := rfl
@[simp] theorem setI_sbOut (s : State) (x : Fld) (i : Int) : (s.setI x i).sbOut = s.sbOut := rfl
@[simp] theorem setMany_sbOut (s : State) (l : List (Fld × Nat)) : (s.setMany l).sbOut = s.sbOut := by rw [setMany_eq]
@[simp] theorem log_sbOut (s : State) (kind code : Nat) (d : List Byte) : (s.log kind code d).sbOut = s.sbOut := rfl
@[simp] theorem setF_free (s : State) (x : Fld) (v : Nat) : (s.setF x v).free = s.free := rfl
@[simp] theorem setB_free (s : State) (x : Fld) (b : Bool) : (s.setB x b).free = s.free := rfl
@[simp] theorem setI_free (s : State) (x : Fld) (i : Int) : (s.setI x i).free = s.free := rfl
@[simp] theorem setMany_free (s : State) (l : List (Fld × Nat)) : (s.setMany l).free = s.free := by rw [setMany_eq]
@[simp] theorem log_free (s : State) (kind code : Nat) (d : List Byte) : (s.log kind code d).free = s.free := rfl
@[simp] theorem setF_pending (s : State) (x : Fld) (v : Nat) : (s.setF x v).pending = s.pending := rfl
@[simp] theorem setB_pending (s : State) (x : Fld) (b : Bool) : (s.setB x b).pending = s.pending := rfl
@[simp] theorem setI_pending (s : State) (x : Fld) (i : Int) : (s.setI x i).pending = s.pending := rfl
@[simp] theorem setMany_pending (s : State) (l : List (Fld × Nat)) : (s.setMany l).pending = s.pending := by rw [setMany_eq]
@[simp] theorem log_pending (s : State) (kind code : Nat) (d : List Byte) : (s.log kind code d).pending = s.pending := rfl
@[simp] theorem log_logNext (s : State) (kind code : Nat) (d : List Byte) : (s.log kind code d).logNext = s.logNext + 1 := rfl

end Sys2Proof.Machine
end

