-- ==== Sys2Proof/Laws/Log.lean ====
section
/-!
SUPPORT. What appending a log entry does: the entry's kind and code read back from its slot, and every other byte stays.
-/

namespace Sys2Proof.Machine

@[simp] theorem leBytes_length (n v : Nat) : (leBytes n v).length = n := by
  induction n generalizing v with
  | zero => rfl
  | succ n ih => simp [leBytes, ih]

@[simp] theorem padTo_length (n : Nat) (l : List Byte) : (padTo n l).length = n := by
  simp [padTo]

theorem leNat_leBytes (n v : Nat) : leNat (leBytes n v) = v % 256 ^ n := by
  induction n generalizing v with
  | zero => simp [leBytes, leNat, Nat.mod_one]
  | succ n ih =>
    simp only [leBytes, leNat, ih, BitVec.toNat_ofNat]
    rw [show (256 : Nat) ^ (n + 1) = 256 * 256 ^ n from by rw [Nat.pow_succ, Nat.mul_comm], Nat.mod_mul]

/-- A stored list read back in place. -/
theorem memRead_memWrite (l : List Byte) (a i n : Nat) (m : Mem) (h : Memory.wf m = true) (hi : i + n ≤ l.length) :
    memRead (a + i) n (memWrite a l m) = (l.drop i).take n := by
  apply List.ext_getElem
  · simp [memRead]; omega
  · intro j h1 h2
    simp [memRead] at h1
    simp only [memRead, List.getElem_map, List.getElem_range, List.getElem_take, List.getElem_drop]
    rw [show a + i + j = a + (i + j) by omega, memGet_memWrite_in l a m (i + j) (by omega) h]

/-- Reading outside a stored range. -/
theorem memRead_memWrite_out (l : List Byte) (a b n : Nat) (m : Mem) (h : b + n ≤ a ∨ a + l.length ≤ b) :
    memRead b n (memWrite a l m) = memRead b n m := by
  unfold memRead
  apply List.map_congr_left
  intro j hj
  have := List.mem_range.1 hj
  exact memGet_memWrite_out l a (b + j) m (by omega)

/-- The bytes of an entry. -/
def entryBytes (time q kind st code : Nat) (d : List Byte) : List Byte :=
  leBytes 8 time ++ leBytes 4 q ++ leBytes 1 kind ++ leBytes 1 st ++ leBytes 2 code ++ padTo 16 d

theorem logAt_win (s : State) (time kind code : Nat) (d : List Byte) :
    (s.logAt time kind code d).win = memWrite (logSlot s.logNext) (entryBytes time s.logNext kind s.st code d) s.win := rfl

theorem entryBytes_length (time q kind st code : Nat) (d : List Byte) : (entryBytes time q kind st code d).length = 32 := by
  simp [entryBytes]

theorem entryBytes_kind (time q kind st code : Nat) (d : List Byte) :
    ((entryBytes time q kind st code d).drop 12).take 1 = leBytes 1 kind := by
  simp [entryBytes, List.drop_append, List.drop_of_length_le]

theorem entryBytes_code (time q kind st code : Nat) (d : List Byte) :
    ((entryBytes time q kind st code d).drop 14).take 2 = leBytes 2 code := by
  simp [entryBytes, List.drop_append, List.drop_of_length_le]

/-- Appending one entry: its kind and code stand in its slot, all else of the windows is as before (R304-R306). -/
theorem log_logged (s : State) (kind code : Nat) (d : List Byte) (h : s.canonical) (hk : kind < 256) (hc : code < 65536) :
    LoggedOne kind code s (s.log kind code d) := by
  have hw : Memory.wf s.win = true := h.2.2.2.1
  refine ⟨rfl, ?_, ?_, ?_⟩
  · simp only [State.logKind]
    rw [State.log, logAt_win, memRead_memWrite _ _ _ _ _ hw (by rw [entryBytes_length]; omega), entryBytes_kind, leNat_leBytes]
    simpa using Nat.mod_eq_of_lt hk
  · simp only [State.logCode]
    rw [State.log, logAt_win, memRead_memWrite _ _ _ _ _ hw (by rw [entryBytes_length]; omega), entryBytes_code, leNat_leBytes]
    simpa using Nat.mod_eq_of_lt hc
  · intro a ha
    rw [State.log, logAt_win, memGet_memWrite_out _ _ _ _ (by rw [entryBytes_length]; exact ha)]

theorem log_canonical (s : State) (kind code : Nat) (d : List Byte) (h : s.canonical) : (s.log kind code d).canonical :=
  ⟨h.1, h.2.1, h.2.2.1, memWrite_wf _ _ _ h.2.2.2.1, h.2.2.2.2⟩

theorem setF_canonical (s : State) (f : Fld) (v : Nat) (h : s.canonical) : (s.setF f v).canonical :=
  ⟨setF_fields_wf s f v h.1, h.2⟩

theorem setMany_canonical (l : List (Fld × Nat)) (s : State) (h : s.canonical) : (s.setMany l).canonical := by
  refine ⟨setMany_fields_wf l s h.1, ?_⟩
  simpa using h.2

end Sys2Proof.Machine
end

