-- ==== Sys2Proof/Laws/Frames.lean ====
section
/-!
SUPPORT. How frames compose: which operations keep the fields outside a list.
-/

namespace Sys2Proof.Machine

theorem Kept.refl (l : List Fld) (s : State) : Kept l s s := fun _ _ => rfl

theorem Kept.trans {l : List Fld} {s t u : State} (h : Kept l s t) (k : Kept l t u) : Kept l s u :=
  fun f hf => (k f hf).trans (h f hf)

theorem Kept.mono {l m : List Fld} {s t : State} (h : Kept l s t) (hm : ∀ f ∈ l, f.key ∈ m.map Fld.key) : Kept m s t := by
  intro f hf
  refine h f fun hl => hf ?_
  obtain ⟨g, hg, hk⟩ := List.mem_map.1 hl
  exact hk ▸ hm g hg

/-- A change that leaves every field. -/
theorem Kept.of_fields {l : List Fld} {s t u : State} (h : Kept l s t) (hf : u.fields = t.fields) : Kept l s u := by
  intro f hk
  rw [← h f hk]
  simp [State.getF, hf]

theorem Kept.setF {l : List Fld} {s t : State} (h : Kept l s t) (f : Fld) (v : Nat) (hf : f.key ∈ l.map Fld.key) :
    Kept l s (t.setF f v) := by
  intro g hg
  rw [← h g hg]
  exact getF_setF_ne t f g v fun e => hg (e ▸ hf)

theorem Kept.setB {l : List Fld} {s t : State} (h : Kept l s t) (f : Fld) (b : Bool) (hf : f.key ∈ l.map Fld.key) :
    Kept l s (t.setB f b) := h.setF f _ hf

theorem Kept.setMany {l : List Fld} {s : State} (m : List (Fld × Nat)) :
    ∀ {t : State}, Kept l s t → (∀ p ∈ m, p.1.key ∈ l.map Fld.key) → Kept l s (t.setMany m) := by
  induction m with
  | nil => intro t h _; exact h
  | cons p r ih =>
    intro t h hm
    rw [setMany_cons]
    exact ih (h.setF p.1 p.2 (hm p List.mem_cons_self)) fun q hq => hm q (List.mem_cons_of_mem _ hq)

theorem Kept.count {l : List Fld} {s t : State} (h : Kept l s t) (f : Fld) (hf : f.key ∈ l.map Fld.key) : Kept l s (t.count f) := by
  unfold State.count
  split
  · exact h.setF f _ hf
  · exact h

theorem Kept.setBitOf {l : List Fld} {s t : State} (h : Kept l s t) (f : Fld) (i : Nat) (b : Bool) (hf : f.key ∈ l.map Fld.key) :
    Kept l s (t.setBitOf f i b) := by
  unfold State.setBitOf
  split
  · exact h
  · split <;> exact h.setF f _ hf

theorem Kept.each {l : List Fld} {s : State} (xs : List Nat) (g : Nat → State → State)
    (hg : ∀ x ∈ xs, ∀ t, Kept l s t → Kept l s (g x t)) : ∀ t, Kept l s t → Kept l s (t.each xs g) := by
  induction xs with
  | nil => intro t h; exact h
  | cons x r ih =>
    intro t h
    exact ih (fun y hy => hg y (List.mem_cons_of_mem _ hy)) _ (hg x List.mem_cons_self t h)

/-- A side-band reason changes SB_REQ alone. -/
theorem Kept.request {l : List Fld} {s t : State} (h : Kept l s t) (b : Nat) (hf : Reg.SB_REQ_req.key ∈ l.map Fld.key) :
    Kept l s (t.request b) := by
  unfold State.request
  split
  · exact h
  · dsimp only
    split
    · exact (h.setBitOf Reg.SB_REQ_req b true hf).of_fields rfl
    · exact h.setBitOf Reg.SB_REQ_req b true hf

/-! What setting a single bit of a field reads as. -/

theorem bitOf_add_pow (v i j : Nat) (h : bitOf v i = false) : bitOf (v + 2 ^ i) j = (bitOf v j || decide (i = j)) := by
  have hb : ∀ v i, bitOf v i = v.testBit i := by
    intro v i
    simp [bitOf, Nat.testBit_eq_decide_div_mod_eq]
  rw [hb] at h
  rw [hb, hb]
  rcases Nat.lt_trichotomy i j with hij | hij | hij
  · have hk : (v + 2 ^ i).testBit j = v.testBit j := by
      have e : v + 2 ^ i = v ||| 2 ^ i := by
        apply Nat.eq_of_testBit_eq
        intro k
        rw [Nat.testBit_or, Nat.testBit_two_pow]
        have := Nat.testBit_two_pow_add_eq v i
        rcases Nat.lt_trichotomy i k with h1 | h1 | h1
        · have hz : decide (i = k) = false := by simp; omega
          rw [hz, Bool.or_false]
          have hd : v / 2 ^ i % 2 = 0 := by
            have := Nat.testBit_eq_decide_div_mod_eq (x := v) (i := i)
            rw [h] at this
            have := of_decide_eq_false this.symm
            omega
          rw [Nat.testBit_eq_decide_div_mod_eq, Nat.testBit_eq_decide_div_mod_eq]
          congr 1
          obtain ⟨m, rfl⟩ : ∃ m, k = i + 1 + m := ⟨k - i - 1, by omega⟩
          rw [show 2 ^ (i + 1 + m) = 2 ^ i * (2 * 2 ^ m) from by rw [pow_add, pow_succ]; ring]
          rw [← Nat.div_div_eq_div_mul, ← Nat.div_div_eq_div_mul, Nat.add_div_right _ (Nat.two_pow_pos i)]
          rw [← Nat.div_div_eq_div_mul, ← Nat.div_div_eq_div_mul]
          rw [show (v / 2 ^ i).succ / 2 = v / 2 ^ i / 2 from by omega]
        · subst h1
          rw [Nat.add_comm, this, h]; simp
        · have hz : decide (i = k) = false := by simp; omega
          rw [hz, Bool.or_false, Nat.add_comm, Nat.testBit_two_pow_add_gt h1]
      rw [e, Nat.testBit_or, Nat.testBit_two_pow]
      simp; omega
    rw [hk]; simp; omega
  · subst hij
    rw [Nat.add_comm, Nat.testBit_two_pow_add_eq, h]; simp
  · rw [Nat.add_comm, Nat.testBit_two_pow_add_gt hij]
    simp; omega

end Sys2Proof.Machine
end

