-- ==== Sys2Proof/Laws/Events.lean ====
section
/-!
SUPPORT. The end of a row that raised one event of level 1 or 2 whose class has no unacknowledged event: it takes its own level,
and leaves its status, its log entry, the interrupt, and for L2 the derate of a rail (R280-R283, R287, R289, R297).
-/

namespace Sys2Proof.Machine

theorem bitOf_mod (v i w : Nat) (h : i < w) : bitOf (v % 2 ^ w) i = bitOf v i := by
  have hb : ∀ v i, bitOf v i = v.testBit i := by
    intro v i
    simp [bitOf, Nat.testBit_eq_decide_div_mod_eq]
  rw [hb, hb, Nat.testBit_mod_two_pow]
  simp [h]

theorem bitOf_setBitOf (s : State) (f : Fld) (i j : Nat) (hj : j < f.w) (h : Cells.wf s.fields = true) :
    bitOf ((s.setBitOf f i true).getF f) j = (bitOf (s.getF f) j || decide (i = j)) := by
  unfold State.setBitOf
  split
  · rename_i hb
    by_cases hij : i = j
    · subst hij; simp [hb]
    · simp [hij]
  · rename_i hb
    simp only [↓reduceIte]
    rw [getF_setF_same s f _ h, bitOf_mod _ _ _ hj, bitOf_add_pow _ _ _ (by simpa using hb)]

theorem getF_setBitOf_ne (s : State) (f g : Fld) (i : Nat) (b : Bool) (h : g.key ≠ f.key) : (s.setBitOf f i b).getF g = s.getF g := by
  unfold State.setBitOf
  split
  · rfl
  · split <;> exact getF_setF_ne s f g _ h

/-- A state changed by classification and recording only in its fields, collector, telemetry, side-band and log. -/
def OnlyRecords (s t : State) : Prop :=
  t = { s with fields := t.fields, flt := t.flt, tel := t.tel, sb := t.sb, win := t.win, logNext := t.logNext }

theorem keepStatus_none (cls src l : Nat) (x : List Status) (h : (x.find? fun y => y.cls == cls && y.src == src) = none) :
    ((keepStatus cls src l x).find? fun y => y.cls == cls && y.src == src) = some ⟨cls, src, l⟩ := by
  induction x with
  | nil => simp [keepStatus]
  | cons y r ih =>
    have hy : ¬(y.cls = cls ∧ y.src = src) := by
      intro hc
      simp [List.find?, hc.1, hc.2] at h
    have hr : (r.find? fun y => y.cls == cls && y.src == src) = none := by
      rw [List.find?_eq_none] at h ⊢
      exact fun z hz => h z (List.mem_cons_of_mem _ hz)
    have hb : (y.cls == cls && y.src == src) = false := by
      by_contra hb
      simp at hb
      exact hy hb
    have hd : (decide (y.cls = cls) && decide (y.src = src)) = false := by
      by_contra hb
      simp at hb
      exact hy hb
    unfold keepStatus
    rw [if_neg (by rw [hd]; simp)]
    rw [List.find?_cons_of_neg (by rw [hb]; simp)]
    exact ih hr

theorem OnlyRecords.refl (s : State) : OnlyRecords s s := rfl

theorem OnlyRecords.trans {s t u : State} (h : OnlyRecords s t) (k : OnlyRecords t u) : OnlyRecords s u := by
  unfold OnlyRecords at *
  rw [h] at k
  exact k

theorem OnlyRecords.setF {s t : State} (h : OnlyRecords s t) (f : Fld) (v : Nat) : OnlyRecords s (t.setF f v) := h.trans rfl
theorem OnlyRecords.setB {s t : State} (h : OnlyRecords s t) (f : Fld) (b : Bool) : OnlyRecords s (t.setB f b) := h.trans rfl
theorem OnlyRecords.updFlt {s t : State} (h : OnlyRecords s t) (g : Flt → Flt) : OnlyRecords s (t.updFlt g) := h.trans rfl
theorem OnlyRecords.log {s t : State} (h : OnlyRecords s t) (k c : Nat) (d : List Byte) : OnlyRecords s (t.log k c d) := h.trans rfl

theorem OnlyRecords.setMany {s t : State} (h : OnlyRecords s t) (l : List (Fld × Nat)) : OnlyRecords s (t.setMany l) := by
  refine h.trans ?_
  unfold OnlyRecords
  rw [setMany_eq]

theorem OnlyRecords.setBitOf {s t : State} (h : OnlyRecords s t) (f : Fld) (i : Nat) (b : Bool) : OnlyRecords s (t.setBitOf f i b) := by
  unfold State.setBitOf
  split
  · exact h
  · split <;> exact h.setF _ _

theorem OnlyRecords.count {s t : State} (h : OnlyRecords s t) (f : Fld) : OnlyRecords s (t.count f) := by
  unfold State.count
  split
  · exact h.setF _ _
  · exact h

theorem OnlyRecords.request {s t : State} (h : OnlyRecords s t) (b : Nat) : OnlyRecords s (t.request b) := by
  unfold State.request
  split
  · exact h
  · dsimp only
    split
    · exact (h.setBitOf _ _ _).trans rfl
    · exact h.setBitOf _ _ _

theorem OnlyRecords.sampleSnap {s t : State} (h : OnlyRecords s t) : OnlyRecords s t.sampleSnap := by
  unfold State.sampleSnap
  split
  · split
    · exact h.trans rfl
    · exact h
  · exact h

theorem OnlyRecords.latchFirst {s t : State} (h : OnlyRecords s t) (e : Ev) (l : Nat) : OnlyRecords s (t.latchFirst e l) := by
  unfold State.latchFirst
  split
  · exact (h.setB _ _).count _
  · exact (((((h.setMany _).setF _ _).setF _ _).setF _ _).setF _ _).updFlt _

theorem Kept.latchFirst {l : List Fld} {s t : State} (h : Kept l s t) (e : Ev) (n : Nat)
    (hf : ∀ f ∈ noteFields, f.key ∈ l.map Fld.key) : Kept l s (t.latchFirst e n) := by
  have m : ∀ f, f ∈ noteFields → f.key ∈ l.map Fld.key := hf
  unfold State.latchFirst
  split
  · exact (h.setB _ _ (m _ (by simp [noteFields]))).count _ (m _ (by simp [noteFields]))
  · refine Kept.of_fields ?_ rfl
    refine Kept.each _ _ ?_ _ ?_
    · intro x hx t ht
      refine ht.setF _ _ (m _ ?_)
      simp at hx
      rcases hx with rfl | rfl | rfl | rfl <;> simp [noteFields]
    · refine h.setMany _ ?_
      intro p hp
      simp at hp
      rcases hp with rfl | rfl | rfl | rfl | rfl | rfl <;> exact m _ (by simp [noteFields])

/-- A series of field writes. -/
theorem each_setF_eq (g : Nat → Fld) (v : Nat → Nat) (l : List Nat) :
    ∀ t : State, (t.each l fun m u => u.setF (g m) (v m)) = t.setMany (l.map fun m => (g m, v m)) := by
  induction l with
  | nil => intro t; rfl
  | cons x r ih => intro t; exact ih _

theorem latchFirst_log (s : State) (e : Ev) (n : Nat) :
    (s.latchFirst e n).win = s.win ∧ (s.latchFirst e n).logNext = s.logNext ∧ (s.latchFirst e n).flt.stats = s.flt.stats
      ∧ (s.latchFirst e n).flt.evs = s.flt.evs ∧ (s.latchFirst e n).flt.causes = s.flt.causes := by
  unfold State.latchFirst
  split
  · unfold State.count
    split <;> exact ⟨rfl, rfl, rfl, rfl, rfl⟩
  · dsimp only
    rw [each_setF_eq]
    simp

end Sys2Proof.Machine
end

