-- ==== Sys2Proof/Tests/Slice0.lean ====
section
/-!
SUPPORT. Checks of the model: ill-formed commands are refused, worked examples of the rules, and for every statement with
hypotheses a state and operands that meet them.
-/

set_option linter.unusedVariables false

namespace Sys2Proof.Tests

open Sys2Proof Sys2Proof.Machine

/-! States. -/

/-- A state of this code and boot stage with some fields set; both cores live and VIO is up. -/
def wAt (st : Nat) (stage : BootStage) (l : List (Fld × Nat)) : State :=
  { State.reset with sys := { State.reset.sys with stage := stage, vio := true, ctlAlive := true, gaugeAlive := true } }.setMany
    ((Reg.SYS_STATE_state, st) :: (Reg.MBX_STAT_ready, 1) :: l)

abbrev wRun (l : List (Fld × Nat)) : State := wAt stRUN .done l
abbrev wStandby (l : List (Fld × Nat)) : State := wAt stSTANDBY .done l
abbrev wBoot (stage : BootStage) : State := wAt stBOOT stage []
abbrev wBits : RoundBits := ⟨0, 0, 0, 0, 0, 0⟩

/-- A valid early definition 0 for LDO 5. -/
def wEarly : State := { wBoot (.verify false false) with otp := { State.reset.otp with latch := [(0x200, 0x8000 + 0x1000 + 0x500)] } }

/-- The bytes of a header of R421 that answers. -/
def wHdr (ty : Nat) : List Byte :=
  let b := padTo 0xFC (leBytes 4 0x49565246 ++ leBytes 1 ty ++ leBytes 1 0 ++ leBytes 2 0x4880 ++ [1, 0, 0, 1, 1, 1, 0, 255] ++ leBytes 4 0)
  b ++ leBytes 4 (crc32 b)

/-- An image of a slot with its commit word. -/
def wImage (slot gauge : Bool) (m : Mem) : Mem :=
  let a := areaBase slot gauge
  let h := wHdr (if gauge then 2 else 1)
  memWrite (a + areaSize gauge - 4) (leBytes 4 (not32 (hdrCrc h))) (memWrite a h m)

/-- Slot A holds both images, and generation key 0 is trusted. -/
def wImages (stage : BootStage) : State :=
  { wBoot stage with mram := wImage false false (wImage false true []), otp := { State.reset.otp with words := [(1024, 7)] } }

/-- A taken command with the highest tag of its port, its flags clear. -/
def wC (p : Port) (op : Nat) (payload : List Byte) : Taken :=
  { port := p, tag := (match p with | .host => 63 | .side => 3), opcode := op, force := false, ptr := false, rptr := false, raddr := 0,
    rcap := 0, cookie := 0, payload := payload, stamp := 0, auth := 0x7FFF }

/-- The same with a pointed response at the end of its port's data area. -/
def wCr (p : Port) (op : Nat) (payload : List Byte) : Taken :=
  { wC p op payload with rptr := true, raddr := (match p with | .host => 0x43800 | .side => 0x800), rcap := 0x800 }

/-- A state in which this command, posted in the tick before, is the only one in progress. -/
def wWith (c : Taken) (s : State) : State := { s with time := 1, mbx := { s.mbx with taken := [c] } }

/-- A host descriptor for slot 0 and a side-band descriptor with tag 3, without payload. -/
def wDesc (op : Nat) : List Byte := padTo 32 (leBytes 2 0 ++ leBytes 2 op)
def wSideDesc (op : Nat) : List Byte := padTo 32 ([3, 0] ++ leBytes 2 op)

/-- The host has posted that descriptor. -/
def wPosted (op : Nat) : State :=
  let s := wRun [(Reg.MBX_CMD_PROD_prod, 1)]
  { s with win := memWrite 0x40000 (wDesc op) s.win, mbx := { s.mbx with hostStamps := [0] } }

/-! Ill-formed commands. -/

theorem test_fuse_read_wf : (Instr.fuseReadComplete ⟨[1024], 0, true, true, []⟩).wellFormed = false := by decide
theorem test_clk_window_wf : (Instr.clkMonitorWindow ⟨[0], [true]⟩).wellFormed = false := by decide
theorem test_scan_round_wf : (Instr.scanRoundEnd ⟨[], [], [], wBits⟩).wellFormed = false := by decide
theorem test_first_estimate_wf : (Instr.insertionFirstEstimate [3300] 0).wellFormed = false := by decide
theorem test_plan_wf : (Instr.planRun ⟨false, [], 0, [], [], []⟩).wellFormed = false := by decide
theorem test_tine_wf : (Instr.tineTestDone 0 [⟨36, 100, 0⟩]).wellFormed = false := by decide
theorem test_reread_wf : (Instr.otpReread [1024]).wellFormed = false := by decide
theorem test_reread_retry_wf : (Instr.otpRereadRetry [5000]).wellFormed = false := by decide
theorem test_forward_wf : (Instr.forwardResponseReceived .host 0 [] [] true).wellFormed = false := by decide
theorem test_status_wf : (Instr.status ⟨0x20000000, true⟩).wellFormed = false := by decide
theorem test_reg_rd_wf : (Instr.regRd 3 1 0 1).wellFormed = false := by decide
theorem test_reg_wr_wf : (Instr.regWr 2 1 [] 0 true).wellFormed = false := by decide
theorem test_mem_rd_wf : (Instr.memRd 5 1 0 1).wellFormed = false := by decide
theorem test_mem_wr_wf : (Instr.memWr 4 1 [] 0 true).wellFormed = false := by decide
theorem test_doorbell_wf : (Instr.doorbell 0x10000000 0 true).wellFormed = false := by decide

/-! The hypotheses of the statements can be met, clause by clause. -/

/-- VKEEP_LOW_ASSERT waits at reset. -/
def wQueued : State := { State.reset with pending := [.vkeepLowAssert 4200] }

theorem wit_CanonicalKept : ∃ s t : State, s.canonical ∧ step s = .next t ∧ t.pending = [] :=
  ⟨wQueued, _, by decide, rfl, rfl⟩

theorem wit_EventsTaken : ∃ s t : State, s.flt.evs = [] ∧ step s = .next t ∧ t.pending = [] :=
  ⟨wQueued, _, by decide, rfl, rfl⟩

theorem wit_EmptyQueueTick :
    (∃ s : State, s.pending = [] ∧ (allInstances.all fun i => !s.bit (pendingF i)) = true)
    ∧ (∃ (n : Fin 12) (f : Fld) (v : Nat) (s : State), s.ready ∧ s.pending = [] ∧ s.romUp = true ∧ (allInstances.all fun i => i == .iso n || !s.bit (pendingF i)) = true ∧ s.bit (pendingF (.iso n)) = true ∧ s.bit (holdF (.iso n)) = false ∧ s.instRuns (.iso n) = false ∧ s.staged = [(f, v)] ∧ inInst (.iso n) f = true ∧ f.key ≠ (pendingF (.iso n)).key ∧ v < 2 ^ f.w) :=
  ⟨⟨State.reset, by decide⟩,
   ⟨11, Reg.ISO_SUP_ipk 11, 40, { wRun [(pendingF (.iso 11), 1)] with staged := [(Reg.ISO_SUP_ipk 11, 40)] }, by decide⟩⟩

theorem wit_WellFormedCompletes :
    (∃ (c : Instr) (s : State), c.wellFormed = true) :=
  ⟨.vkeepLost, State.reset, by decide⟩

theorem wit_IllFormedStops :
    (∃ (c : Instr) (s : State), c.wellFormed = false) :=
  ⟨.scanRoundEnd ⟨[], [], [], wBits⟩, State.reset, by decide⟩

theorem wit_SupplyRows :
    (∃ s : State, s.sys.vkeep = false)
    ∧ (∃ (mv : Word) (s : State), s.ready ∧ s.sys.vkeep = true ∧ s.sys.vkeepLow = false ∧ s.live = true ∧ s.gauge.writing = none ∧ s.tel.copies = [])
    ∧ (∃ (mv : Word) (s : State), s.ready ∧ s.sys.vkeep = true ∧ s.sys.vkeepLow = true ∧ s.live = true ∧ s.tel.abandoned = [] ∧ s.age.basesDue = [] ∧ s.age.prop = none)
    ∧ (∃ s : State, s.sys.vkeep = true) :=
  ⟨⟨{ State.reset with sys := { State.reset.sys with vkeep := false } }, by decide⟩,
   ⟨0, wRun [], by decide⟩,
   ⟨0, { wRun [] with sys := { (wRun []).sys with vkeepLow := true } }, by decide⟩,
   ⟨State.reset, by decide⟩⟩

theorem wit_ResetPin :
    (∃ s : State, s.sys.vkeep = true ∧ s.sys.resetHeld = false ∧ s.sys.fuseHold = false ∧ Cells.wf s.fields = true)
    ∧ (∃ s : State, s.sys.vkeep = true ∧ s.sys.resetHeld = false ∧ s.sys.fuseHold = true ∧ Cells.wf s.fields = true)
    ∧ (∃ s : State, Cells.wf s.fields = true ∧ s.sys.vkeep = true ∧ s.sys.resetHeld = true) :=
  ⟨⟨wRun [(Reg.RAIL_STAT_state 7, 2), (Reg.FLT_PIN_drive, 1)], by decide⟩,
   ⟨{ State.reset with sys := { State.reset.sys with fuseHold := true } }, by decide⟩,
   ⟨{ State.reset with sys := { State.reset.sys with resetHeld := true } }, by decide⟩⟩

theorem wit_BootReads :
    (∃ (i mv : Nat) (s : State), i < 16 ∧ 120 * i < mv + 60 ∧ mv < 120 * i + 60 ∧ Cells.wf s.fields = true ∧ s.sys.vkeep = true ∧ s.sys.strap = none)
    ∧ (∃ (r : FuseRead) (s : State) (k : Nat), r.wf = true ∧ Cells.wf s.fields = true ∧ s.live = true ∧ s.sys.stage = .fuses ∧ s.st = stBOOT ∧ (badKeys r.bad 2 ++ badKeys r.bad 3).head? = some k)
    ∧ (∃ (r : FuseRead) (s : State), r.bad = [] ∧ r.sram = [] ∧ s.ready ∧ s.live = true ∧ s.sys.stage = .fuses ∧ s.st = stBOOT ∧ s.selector.trial = false ∧ s.sys.heldBefore = false ∧ s.path.opening = [] ∧ (s.bit Reg.CLK_STAT_xtal_seen && !s.clk.xtalRuns) = false) :=
  ⟨⟨15, 1859, State.reset, by decide⟩,
   ⟨⟨[160], 0, true, true, []⟩, State.reset, 512, by decide⟩,
   ⟨⟨[], 0, true, true, []⟩, State.reset, by decide⟩⟩

theorem wit_EarlyOutputs :
    (∃ (d : Fin 4) (s : State), s.ready ∧ s.romUp = true ∧ s.sys.stage ≠ .dead ∧ s.sys.earlyStopped = false ∧ s.earlyValid d = true ∧ s.sys.earlyUp.contains d.val = false ∧ s.sys.sleep = none ∧ ((s.st = stRECOVERY → s.earlyRec d = true)) ∧ s.earlyDefs.all (fun e => decide (d.val ≤ e) || s.sys.earlyGood.contains e) = true ∧ s.earlyKind d = 1 ∧ s.earlyIdx d < 6 ∧ s.earlyPgEn d = false ∧ s.bit (Reg.LDO_CTRL_en (s.earlyIdx d)) = false ∧ s.latched = false ∧ s.ldoState (s.earlyIdx d) = lOFF)
    ∧ (∃ (d : Fin 4) (s : State), s.ready ∧ s.romUp = true ∧ s.sys.earlyUp.contains d.val = true ∧ s.sys.earlyGood.contains d.val = false ∧ s.sys.earlyStopped = false ∧ s.earlyKind d = 1 ∧ s.earlyIdx d < 6 ∧ s.ldoState (s.earlyIdx d) = lRAMP ∧ s.fresh cSEQ) :=
  ⟨⟨0, wEarly, by decide⟩,
   ⟨0, { wEarly.setF (Reg.LDO_STAT_state 5) 1 with sys := { wEarly.sys with earlyUp := [0] } }, by decide⟩⟩

theorem wit_BootSlots :
    (∃ (slot second : Bool) (s : State), s.ready ∧ s.live = true ∧ s.sys.stage = .verify slot second ∧ s.slotOk slot = true)
    ∧ (∃ (slot : Bool) (s : State), s.ready ∧ s.live = true ∧ s.sys.stage = .verify slot false)
    ∧ (∃ (slot : Bool) (s : State), s.ready ∧ s.live = true ∧ s.sys.stage = .cores slot false)
    ∧ (∃ (slot : Bool) (s : State), s.ready ∧ s.live = true ∧ s.sys.stage = .cores slot true ∧ s.st = stBOOT ∧ bitOf (s.safety 0x21) 9 = false ∧ s.sys.earlyUp = [] ∧ s.upd.running = none)
    ∧ (∃ (slot second : Bool) (s : State), s.ready ∧ s.live = true ∧ s.sys.stage = .cores slot second ∧ s.st = stBOOT ∧ s.sys.kind ≠ .wake ∧ s.bit Reg.SYS_RUN_STAT_safe = false ∧ s.bit Reg.SYS_RUN_STAT_ibex = false ∧ s.bit Reg.SYS_RUN_STAT_activating = false ∧ s.nv.store = [] ∧ s.staged = [] ∧ (allInstances.all fun i => !s.bit (pendingF i)) = true ∧ s.bit Reg.PATH_STAT_batt_present = false ∧ s.bit Reg.CHG_CTRL_en = false ∧ s.bit Reg.PATH_STAT_isw_closed = false ∧ s.bit Reg.PATH_STAT_vbus_qual = false ∧ s.sys.pinReq = false ∧ s.bit Reg.SYS_RUN_STAT_cmd_run = false ∧ s.bit Reg.SYS_RUN_STAT_run_req = false) :=
  ⟨⟨false, true, wImages (.verify false true), by decide +kernel⟩,
   ⟨true, wBoot (.verify true false), by decide⟩,
   ⟨true, wBoot (.cores true false), by decide⟩,
   ⟨false, wBoot (.cores false true), by decide⟩,
   ⟨false, false, wBoot (.cores false false), by decide⟩⟩

theorem wit_LostCores :
    (∃ s : State, s.ready ∧ s.firmware ∧ s.bit Reg.SYS_STATE_ctl_lost = false ∧ s.present cCORE 0 0 = false)
    ∧ (∃ s : State, s.ready ∧ s.firmware ∧ s.bit Reg.SYS_STATE_gauge_lost = false ∧ s.present cCORE 1 0 = false)
    ∧ (∃ s : State, s.ready ∧ s.romUp = true ∧ s.sys.stage = .done ∧ s.st ≠ stRECOVERY ∧ s.starting .control = true ∧ s.bit Reg.SYS_STATE_ctl_lost = true ∧ s.mbx.taken = [] ∧ s.upd.act = none)
    ∧ (∃ s : State, s.ready ∧ s.romUp = true ∧ s.sys.stage = .done ∧ s.st ≠ stRECOVERY ∧ s.starting .gauge = true ∧ s.bit Reg.SYS_STATE_gauge_lost = true ∧ s.upd.act = none ∧ s.bit Reg.PATH_STAT_batt_present = false ∧ s.fresh cGAUGE)
    ∧ (∃ s : State, s.ready ∧ s.firmware ∧ s.sys.ctlGrace = true ∧ s.bit Reg.SYS_STATE_ctl_lost = true ∧ bitOf (s.safety 0x21) 0 = false ∧ s.fresh cCORE ∧ s.present cCORE 0 1 = false)
    ∧ (∃ s : State, s.ready ∧ s.firmware ∧ s.sys.gaugeGrace = true ∧ s.bit Reg.SYS_STATE_gauge_lost = true ∧ bitOf (s.safety 0x21) 0 = false ∧ s.fresh cCORE ∧ s.present cCORE 1 1 = false) :=
  ⟨⟨wRun [], by decide⟩,
   ⟨wRun [], by decide⟩,
   ⟨{ wRun [(Reg.SYS_STATE_ctl_lost, 1)] with sys := { (wRun []).sys with ctlAlive := false, ctlStarting := true } }, by decide⟩,
   ⟨{ wRun [(Reg.SYS_STATE_gauge_lost, 1), (Reg.GAUGE_FLAGS_stale, 1)] with sys := { (wRun []).sys with gaugeAlive := false, gaugeStarting := true } }, by decide⟩,
   ⟨{ wRun [(Reg.SYS_STATE_ctl_lost, 1)] with sys := { (wRun []).sys with ctlGrace := true } }, by decide⟩,
   ⟨{ wRun [(Reg.SYS_STATE_gauge_lost, 1)] with sys := { (wRun []).sys with gaugeGrace := true } }, by decide⟩⟩

theorem wit_ActivationRows :
    (∃ (a : Act) (s : State), s.ready ∧ s.live = true ∧ s.upd.act = some a ∧ a.back = none ∧ a.resumed = false ∧ s.runLevel = s.bit Reg.SYS_RUN_STAT_run_req)
    ∧ (∃ (a : Act) (s : State), s.ready ∧ s.upd.act = some a ∧ a.back = none ∧ a.resumed = true ∧ a.ctlUp = true ∧ a.gaugeUp = true ∧ s.sys.vkeepLow = false ∧ s.st = stACTIVATE ∧ s.sys.run = false ∧ s.bit Reg.SYS_RUN_STAT_ibex = false ∧ s.bit Reg.SYS_RUN_STAT_safe = false)
    ∧ (∃ (a : Act) (s : State), s.ready ∧ s.upd.act = some a ∧ a.back = none ∧ a.resumed = false ∧ s.sys.vkeepLow = false ∧ s.mbx.taken = [])
    ∧ (∃ (a : Act) (s : State), s.ready ∧ s.upd.act = some a ∧ a.back = none ∧ (a.ctlUp && a.gaugeUp) = false ∧ s.sys.vkeepLow = false ∧ s.mbx.taken = [])
    ∧ (∃ s : State, s.ready ∧ s.upd.trial = true ∧ s.upd.act = none ∧ s.romUp = true ∧ (s.sys.ctlAlive && s.sys.gaugeAlive) = false ∧ s.sys.vkeepLow = false ∧ s.mbx.taken = []) :=
  ⟨⟨⟨false, true, true, false, true, true, false, none⟩, { wAt stACTIVATE .done [(Reg.MBX_STAT_paused, 1), (Reg.SYS_RUN_STAT_activating, 1)] with upd := { State.reset.upd with act := some ⟨false, true, true, false, true, true, false, none⟩ } }, by decide⟩,
   ⟨⟨false, true, true, true, true, true, true, none⟩, { wAt stACTIVATE .done [(Reg.SYS_RUN_STAT_activating, 1), (Reg.UPD_STAT_state, 2)] with upd := { State.reset.upd with act := some ⟨false, true, true, true, true, true, true, none⟩ } }, by decide⟩,
   ⟨⟨false, true, true, true, false, false, false, none⟩, { wAt stACTIVATE .done [(Reg.SYS_RUN_STAT_activating, 1)] with upd := { State.reset.upd with act := some ⟨false, true, true, true, false, false, false, none⟩ } }, by decide⟩,
   ⟨⟨true, false, true, true, true, false, true, none⟩, { wAt stACTIVATE .done [(Reg.SYS_RUN_STAT_activating, 1)] with upd := { State.reset.upd with act := some ⟨true, false, true, true, true, false, true, none⟩ } }, by decide⟩,
   ⟨{ wStandby [] with upd := { State.reset.upd with trial := true }, sys := { (wStandby []).sys with gaugeAlive := false } }, by decide⟩⟩

theorem wit_Clocks :
    (∃ (m : ClkWindow) (s : State), s.ready ∧ m.wf = true ∧ s.romUp = true ∧ (∀ i < 7, s.clockRuns i = false ∨ (-4000 ≤ m.dev.getD i 0 ∧ m.dev.getD i 0 ≤ 4000 ∧ m.lock.getD i true = true)))
    ∧ (∃ (m : ClkWindow) (s : State), s.ready ∧ m.wf = true ∧ s.romUp = true ∧ s.st ≠ stFAWN ∧ (m.dev.getD 1 0 < -4000 ∨ 4000 < m.dev.getD 1 0) ∧ (∀ i < 7, i = 1 ∨ s.clockRuns i = false ∨ (-4000 ≤ m.dev.getD i 0 ∧ m.dev.getD i 0 ≤ 4000 ∧ m.lock.getD i true = true)) ∧ s.present cCLK 1 0 = false)
    ∧ (∃ s : State, Cells.wf s.fields = true ∧ s.sys.vkeep = true ∧ s.clk.xtalRuns = false ∧ s.time ≤ 1000000 ∧ s.bit Reg.CLK_STAT_xtal_seen = false)
    ∧ (∃ s : State, s.ready ∧ s.sys.vkeep = true ∧ s.clk.xtalRuns = true ∧ s.romUp = true ∧ s.present cCLK 7 0 = false) :=
  ⟨⟨⟨[4000, 0, 9000, 9000, 9000, -4000, 0], [true, true, false, false, false]⟩, wRun [], by decide⟩,
   ⟨⟨[0, 4001, 0, 0, 0, 0, 0], [true, true, true, true, true]⟩, wRun [], by decide⟩,
   ⟨{ wRun [] with time := 1000000 }, by decide⟩,
   ⟨{ wRun [(Reg.CLK_STAT_aon_xtal, 1)] with clk := { State.reset.clk with xtalRuns := true } }, by decide⟩⟩

theorem wit_Synchronisation :
    (∃ (khz : Nat) (s : State), s.ready ∧ s.syncOk khz = true ∧ s.present cCLK 8 0 = false)
    ∧ (∃ s : State, s.ready ∧ s.romUp = true ∧ s.bit Reg.CLK_STAT_sync_locked = true ∧ s.present cCLK 8 0 = false)
    ∧ (∃ (khz : Nat) (s : State), s.ready ∧ s.syncOk khz = true ∧ s.present cCLK 8 0 = true)
    ∧ (∃ (k : Fin 8) (khz : Nat) (s : State), s.ready ∧ s.live = true ∧ s.stIn [stFAWN, stBOOT] = false ∧ s.syncOk khz = true ∧ s.present cCLK 8 0 = false ∧ s.bit Reg.CLK_SYNC_synco_en = true ∧ s.railOf 0 = some k.val ∧ s.railStopped k = false ∧ s.getF (Reg.RAIL_FSW_sync_mult k) ≠ 0)
    ∧ (∃ (khz : Nat) (s : State), s.ready ∧ s.live = true ∧ s.stIn [stFAWN, stBOOT] = false ∧ s.syncOk khz = true ∧ s.present cCLK 8 0 = false ∧ s.bit Reg.CLK_SYNC_synco_en = false) :=
  ⟨⟨3000, wRun [(Reg.CLK_SYNC_synci_en, 1)], by decide⟩,
   ⟨{ wRun [(Reg.CLK_STAT_sync_locked, 1)] with clk := { State.reset.clk with synci := some 500, synciLast := 500 } }, by decide⟩,
   ⟨500, { wRun [(Reg.CLK_SYNC_synci_en, 1)] with flt := { State.reset.flt with causes := [(cCLK, 8, 0)] } }, by decide⟩,
   ⟨7, 3000, wRun [(Reg.CLK_SYNC_synci_en, 1), (Reg.CLK_SYNC_synco_en, 1), (Reg.RAIL_GROUP_valid 7, 1), (Reg.RAIL_GROUP_first 7, 0), (Reg.RAIL_GROUP_last 7, 0), (Reg.RAIL_FSW_sync_mult 7, 1), (Reg.RAIL_STAT_state 7, 2)], by decide +kernel⟩,
   ⟨500, wRun [(Reg.CLK_SYNC_synci_en, 1)], by decide⟩⟩

theorem wit_DieRows :
    (∃ (d : Fin 4) (k : Nat) (s : State), s.ready ∧ s.romUp = true ∧ s.dieRails d = [k] ∧ s.fresh cRAILI ∧ s.groupOf k = 0 ∧ s.age.testing = [])
    ∧ (∃ (d : Fin 4) (k : Nat) (s : State), s.ready ∧ s.romUp = true ∧ s.dieRails d = [k] ∧ s.fresh cTHERM ∧ s.groupOf k = 0 ∧ s.age.testing = [] ∧ s.present cTHERM k (8 + d) = false)
    ∧ (∃ (d : Fin 4) (s : State), Cells.wf s.fields = true)
    ∧ (∃ (k : Fin 8) (s : State), s.ready ∧ s.romUp = true ∧ s.bit (Reg.RAIL_GROUP_valid k) = true ∧ s.fresh cTHERM ∧ s.present cTHERM k 0 = false)
    ∧ (∃ (x : Int) (s : State), s.ready ∧ s.romUp = true ∧ (s.ceiling 0x20 150 : Int) - 10 ≤ x ∧ x < s.ceiling 0x20 150 ∧ s.present cTHERM 36 0 = false)
    ∧ (∃ (x : Int) (s : State), s.ready ∧ s.romUp = true ∧ (s.ceiling 0x20 150 : Int) ≤ x ∧ s.present cTHERM 36 1 = false ∧ s.fresh cTHERM ∧ s.bit Reg.SYS_RUN_STAT_safe = true) :=
  ⟨⟨0, 7, wRun [(Reg.RAIL_GROUP_valid 7, 1), (Reg.RAIL_GROUP_first 7, 0), (Reg.RAIL_GROUP_last 7, 3), (Reg.RAIL_STAT_state 7, 2)], by decide⟩,
   ⟨3, 0, wRun [(Reg.RAIL_GROUP_valid 0, 1), (Reg.RAIL_GROUP_first 0, 15), (Reg.RAIL_GROUP_last 0, 15), (Reg.RAIL_STAT_state 0, 2)], by decide⟩,
   ⟨3, wRun [(Reg.POL_PH_DIE_shut 15, 1)], by decide⟩,
   ⟨7, wRun [(Reg.RAIL_GROUP_valid 7, 1)], by decide⟩,
   ⟨149, wRun [], by decide⟩,
   ⟨150, wAt stSAFE .done [(Reg.SYS_RUN_STAT_safe, 1)], by decide⟩⟩

theorem wit_RcReads :
    (∃ (p : Port) (addr : BitVec 20) (s : State), s.ready ∧ s.accUp (portAcc p) = true ∧ addr.toNat < 0x40000 ∧ addr.toNat ≠ 0x16038)
    ∧ (∃ (p : Port) (s : State), s.ready ∧ s.accUp (portAcc p) = true)
    ∧ (∃ (a : Accessor) (addr : BitVec 20) (s : State), s.ready ∧ s.accUp a = true ∧ (a = .control ∨ a = .gauge) ∧ addr.toNat < 0x40000)
    ∧ (∃ (p : Port) (addr : BitVec 20) (s : State), s.ready ∧ s.accUp (portAcc p) = true ∧ (stagingOf addr.toNat).isSome = true) :=
  ⟨⟨.host, 0x1105C, wRun [(Reg.RAIL_EVT_step_cnt 0, 3)], by decide⟩,
   ⟨.side, { wRun [(Reg.CHG_FLT_ov, 1)] with flt := { State.reset.flt with causes := [(cCHG, 0, 4)] } }, by decide⟩,
   ⟨.gauge, 0x16038, wRun [(Reg.CHG_FLT_ov, 1)], by decide⟩,
   ⟨.host, 0x18DFC, wRun [], by decide⟩⟩

theorem wit_RegisterWrites :
    (∃ (a : Accessor) (addr : BitVec 20) (data : Word) (s : State), s.ready)
    ∧ (∃ (a : Accessor) (addr : BitVec 20) (mask data : Word) (s : State), s.ready ∧ s.accUp a = true ∧ mask ≠ 0 ∧ addr.toNat < 0x40000 ∧ addr.toNat ≠ 0x34 ∧ regAt (liveAddr addr.toNat) = none)
    ∧ (∃ (a : Accessor) (mask data : Word) (s : State), s.ready ∧ s.accUp a = true ∧ a ≠ .side ∧ mask ≠ 0)
    ∧ (∃ (a : Accessor) (s : State), s.ready ∧ s.accUp a = true) :=
  ⟨⟨.host, 0x2000, 5, wRun [], by decide⟩,
   ⟨.control, 0x3FFFC, 1, 0, wRun [], by decide⟩,
   ⟨.host, 0x8001, 0xFFFF, wRun [], by decide⟩,
   ⟨.side, { wRun [] with time := 65536 }, by decide⟩⟩

theorem wit_Buffered :
    (∃ (i : Instance) (s : State), s.ready ∧ s.romUp = true ∧ (∀ k, i ≠ .rail k) ∧ i ≠ .fe ∧ i ≠ .mon ∧ i ≠ .tel ∧ s.bit (holdF i) = false ∧ s.bit (pendingF i) = true ∧ (s.staged.all fun p => p.1.key != (pendingF i).key) = true)
    ∧ (∃ (k : Fin 8) (v : Nat) (s : State), s.ready ∧ s.romUp = true ∧ s.bit (holdF (.rail k)) = false ∧ s.bit (pendingF (.rail k)) = true ∧ s.staged = [(Reg.RAIL_VSET_vset k, v)] ∧ s.railState k = rOFF)
    ∧ (∃ (i : Instance) (s : State), s.ready ∧ s.romUp = true ∧ (s.bit (holdF i) = true ∨ s.bit (pendingF i) = false))
    ∧ (∃ (a : Accessor) (i : Instance) (s : State), s.ready ∧ s.opens a (commitAddr i))
    ∧ (∃ (a : Accessor) (i : Instance) (h : Bool) (s : State), s.ready ∧ s.opens a (commitAddr i)) :=
  ⟨⟨.flt, { wRun [(pendingF .flt, 1)] with staged := [(Reg.FLT_GRP_g0 6, 31)] }, by decide⟩,
   ⟨7, 65536, { wRun [(pendingF (.rail 7), 1)] with staged := [(Reg.RAIL_VSET_vset 7, 65536)] }, by decide⟩,
   ⟨.iso 11, wRun [(holdF (.iso 11), 1), (pendingF (.iso 11), 1)], by decide⟩,
   ⟨.control, .fe, { wRun [(pendingF .fe, 1)] with staged := [(Reg.FE_KP_kp 0, 9)] }, by decide⟩,
   ⟨.host, .mon, true, wRun [(Reg.HOST_STAT_direct, 1)], by decide⟩⟩

theorem wit_HostFrames :
    (∃ (h : BitVec 32) (s : State), s.ready ∧ s.hostPort = true ∧ frameOp h = 1)
    ∧ (∃ (addr : BitVec 20) (n : Nat) (s : State), s.ready ∧ s.hostPort = true ∧ addr.toNat % 4 = 0 ∧ addr.toNat < 0x40000 ∧ (multiword addr.toNat = none ∨ multiword addr.toNat = some (addr.toNat, 4)) ∧ 1 ≤ n)
    ∧ (∃ (addr : BitVec 20) (count : BitVec 8) (crc : Word) (n : Nat) (s : State), s.ready ∧ s.hostPort = true ∧ crc.toNat ≠ crc16 (beWord (headerOf 2 addr.toNat count.toNat).toNat))
    ∧ (∃ (op : BitVec 4) (low : BitVec 28) (n : Nat) (s : State), s.ready ∧ s.hostPort = true ∧ frameReserved op = true)
    ∧ (∃ (w : BitVec 32) (s : State), s.ready ∧ s.hostPort = true ∧ w.toNat / 65536 ≠ 0)
    ∧ (∃ (addr : BitVec 20) (n : Nat) (s : State), s.ready ∧ s.hostPort = true ∧ addr.toNat % 4 = 0 ∧ inWindow addr.toNat = true ∧ (addr.toNat < 0x44000 ∨ 0x48000 ≤ addr.toNat) ∧ 1 ≤ n)
    ∧ (∃ (addr : BitVec 20) (w : BitVec 32) (s : State), s.ready ∧ s.hostPort = true ∧ addr.toNat % 4 = 0 ∧ 0x41000 ≤ addr.toNat ∧ addr.toNat < 0x44000)
    ∧ (∃ (op : BitVec 4) (low : BitVec 28) (crc : Word) (n : Nat) (s : State), s.ready ∧ s.hostPort = false ∧ frameReserved op = true) :=
  ⟨⟨0x1FFFFFFF, wRun [], by decide⟩,
   ⟨0x20, 1, wRun [], by decide⟩,
   ⟨4, 2, 0, 9, wRun [], by decide +kernel⟩,
   ⟨7, 1, 1, wRun [], by decide +kernel⟩,
   ⟨0xFFFF0001, wRun [], by decide⟩,
   ⟨0x71FFC, 1, wRun [], by decide⟩,
   ⟨0x43FFC, 0xFFFFFFFF, wRun [], by decide⟩,
   ⟨15, 0xFFFFFFF, 0, 1, wBoot .fuses, by decide⟩⟩

theorem wit_HostLines :
    (∃ s : State, s.ready ∧ s.sys.vio = true ∧ s.sys.lda = 0)
    ∧ (∃ s : State, s.ready ∧ s.sys.vio = false)
    ∧ (∃ (mask data : Word) (s : State), s.ready ∧ s.accUp .host = true ∧ s.stIn [stFAWN, stBOOT, stRECOVERY] = false ∧ s.bit Reg.SYS_STATE_host_lost = false ∧ mask.toNat % 2 ^ Reg.HOST_HB_beat.w ≠ 0)
    ∧ (∃ (data : Word) (s : State), s.ready)
    ∧ (∃ s : State, s.ready ∧ s.romUp = true ∧ s.live = true ∧ s.hbPassed = true ∧ s.stIn [stFAWN, stBOOT, stRECOVERY] = false ∧ s.hostLossLevel = 1 ∧ s.present cCOMM 4 0 = false)
    ∧ (∃ s : State, s.ready ∧ s.hbPassed = false) :=
  ⟨⟨wRun [], by decide⟩,
   ⟨{ wRun [] with sys := { (wRun []).sys with vio := false } }, by decide⟩,
   ⟨1, 1, wRun [], by decide⟩,
   ⟨1, wRun [], by decide⟩,
   ⟨{ wRun [(Reg.HOST_STAT_direct, 1)] with time := 1, sys := { (wRun []).sys with hbDue := some 0 } }, by decide⟩,
   ⟨{ wRun [(Reg.HOST_STAT_direct, 1)] with sys := { (wRun []).sys with hbDue := some 0 } }, by decide⟩⟩

theorem wit_MailboxIndices :
    (∃ (v : Nat) (s : State), s.ready ∧ s.accUp .host = true ∧ v < 128 ∧ (v + 128 - s.getF Reg.MBX_CMD_CONS_cons) % 128 ≤ 64 - s.inFlight ∧ (s.getF Reg.MBX_CMD_PROD_prod + 128 - s.getF Reg.MBX_CMD_CONS_cons) % 128 ≤ (v + 128 - s.getF Reg.MBX_CMD_CONS_cons) % 128)
    ∧ (∃ (v : Nat) (s : State), s.ready ∧ s.accUp .host = true ∧ v < 128 ∧ 64 < (v + 128 - s.getF Reg.MBX_CMD_CONS_cons) % 128)
    ∧ (∃ (v : Nat) (s : State), s.ready ∧ s.accUp .host = true ∧ v < 128 ∧ (v + 128 - s.getF Reg.MBX_RESP_CONS_cons) % 128 ≤ (s.getF Reg.MBX_RESP_PROD_prod + 128 - s.getF Reg.MBX_RESP_CONS_cons) % 128)
    ∧ (∃ (v : Nat) (s : State), s.ready ∧ s.accUp .host = true ∧ v < 128 ∧ (s.getF Reg.MBX_RESP_PROD_prod + 128 - s.getF Reg.MBX_RESP_CONS_cons) % 128 < (v + 128 - s.getF Reg.MBX_RESP_CONS_cons) % 128)
    ∧ (∃ (v : Nat) (s : State), s.ready ∧ s.hostPort = true ∧ v < 128 ∧ (v + 128 - s.getF Reg.MBX_CMD_CONS_cons) % 128 ≤ 64 - s.inFlight ∧ (s.getF Reg.MBX_CMD_PROD_prod + 128 - s.getF Reg.MBX_CMD_CONS_cons) % 128 ≤ (v + 128 - s.getF Reg.MBX_CMD_CONS_cons) % 128) :=
  ⟨⟨64, wRun [], by decide⟩,
   ⟨65, wRun [], by decide⟩,
   ⟨64, wRun [(Reg.MBX_RESP_PROD_prod, 64)], by decide⟩,
   ⟨65, wRun [(Reg.MBX_RESP_PROD_prod, 64)], by decide⟩,
   ⟨64, wRun [], by decide +kernel⟩⟩

theorem wit_CommandTake :
    (∃ (i : Nat) (d : List Byte) (c : Taken) (s : State), s.ready ∧ s.mbxRuns = true ∧ (s.posts .host).head? = some (i, d, c) ∧ s.takeCheck .host i d c = none ∧ c.opcode ≠ 0x0111 ∧ s.mbx.lost = [] ∧ s.waiting .side = [] ∧ (s.mbx.taken.all fun r => r.port == .host) = true)
    ∧ (∃ (i : Nat) (d : List Byte) (c : Taken) (s : State), s.ready ∧ s.mbxRuns = true ∧ (s.posts .side).head? = some (i, d, c) ∧ s.takeCheck .side i d c = none ∧ s.mbx.lost = [] ∧ s.waiting .host = [] ∧ (s.mbx.taken.all fun r => r.port == .side) = true)
    ∧ (∃ (i : Nat) (d : List Byte) (c : Taken) (st : Nat) (s : State), s.ready ∧ s.mbxRuns = true ∧ (s.posts .host).head? = some (i, d, c) ∧ s.takeCheck .host i d c = some st ∧ ((c.rptr = true → 0x41000 ≤ c.raddr ∧ c.raddr + c.rcap ≤ 0x44000)))
    ∧ (∃ (i : Nat) (d : List Byte) (c : Taken) (s : State), s.ready ∧ s.mbxRuns = true ∧ (s.posts .host).head? = some (i, d, c) ∧ s.takeCheck .host i d c = none ∧ c.opcode = 0x0111 ∧ s.mbx.lost = [] ∧ s.waiting .side = [] ∧ (s.mbx.taken.all fun r => r.port == .host) = true ∧ s.st ≠ stRECOVERY ∧ s.st ≠ stBOOT ∧ s.bit Reg.SYS_STATE_host_lost = false)
    ∧ (∃ (i : Nat) (d : List Byte) (c r : Taken) (s : State), s.ready ∧ s.mbxRuns = true ∧ (s.posts .host).head? = some (i, d, c) ∧ s.takeCheck .host i d c = none ∧ c.opcode ≠ 0x0111 ∧ c.rptr = false ∧ s.mbx.lost = [] ∧ s.waiting .side = [] ∧ s.mbx.taken = [r] ∧ r.port = .side ∧ r.stamp = c.stamp ∧ r.wait = .none ∧ (s.dropPost .host).pair { c with tookAt := s.time } r = (true, false)) :=
  ⟨⟨0, wDesc 0x0110, (wRun []).parse .host (wDesc 0x0110) 0 0x7FFF, wPosted 0x0110, by decide⟩,
   ⟨3, wSideDesc 0x0110, (wRun []).parse .side (wSideDesc 0x0110) 0 0, { wRun [] with mbx := { State.reset.mbx with sidePosts := [⟨3, wSideDesc 0x0110, 0, 0⟩] } }, by decide⟩,
   ⟨0, wDesc 0x0999, (wRun []).parse .host (wDesc 0x0999) 0 0x7FFF, 7, wPosted 0x0999, by decide⟩,
   ⟨0, wDesc 0x0111, (wRun []).parse .host (wDesc 0x0111) 0 0x7FFF, wPosted 0x0111, by decide⟩,
   ⟨0, wDesc 0x0112, (wRun []).parse .host (wDesc 0x0112) 0 0x7FFF, wC .side 0x0113 [], wWith (wC .side 0x0113 []) (wPosted 0x0112), by decide⟩⟩

theorem wit_ReadWrite :
    (∃ (p : Port) (tag : BitVec 6) (c : Taken) (s : State), s.ready ∧ s.runnable p tag c ∧ c.opcode % 256 = 1 ∧ s.admits c = true ∧ c.payload.length = 8 ∧ c.notZero 6 2 = false ∧ 0 < c.u 4 2 ∧ c.u 0 4 % 4 = 0 ∧ (c.readAddrs.all fun a => groupHas c.group a) = true ∧ c.u 4 2 ≤ (if c.rptr then 6144 else 10) ∧ c.fits (2 * c.u 4 2) = true)
    ∧ (∃ (p : Port) (tag : BitVec 6) (m d : Word) (c : Taken) (s : State), s.ready ∧ s.turn p tag c 0x0102 (leBytes 4 0x58 ++ leBytes 2 m.toNat ++ leBytes 2 d.toNat) ∧ m ≠ 0)
    ∧ (∃ (p : Port) (tag : BitVec 6) (c : Taken) (s : State), s.ready ∧ s.runnable p tag c ∧ c.opcode % 256 = 2 ∧ s.admits c = true ∧ c.payload.length = 8 ∧ groupHas c.group (c.u 0 4) = false ∧ s.latched = false ∧ s.st ≠ stSAFE) :=
  ⟨⟨.host, 63, wC .host 0x0101 [0x1C, 0, 0, 0, 10, 0, 0, 0], wWith (wC .host 0x0101 [0x1C, 0, 0, 0, 10, 0, 0, 0]) (wRun []), by decide⟩,
   ⟨.host, 63, 0xFFFF, 1, wC .host 0x0102 [0x58, 0, 0, 0, 0xFF, 0xFF, 1, 0], wWith (wC .host 0x0102 [0x58, 0, 0, 0, 0xFF, 0xFF, 1, 0]) (wRun []), by decide⟩,
   ⟨.side, 3, wC .side 0x0202 [0, 0x40, 1, 0, 2, 0, 0, 0], wWith (wC .side 0x0202 [0, 0x40, 1, 0, 2, 0, 0, 0]) (wRun []), by decide⟩⟩

theorem wit_EnableCommands :
    (∃ (p : Port) (tag : BitVec 6) (n : Fin 6) (c : Taken) (s : State), s.ready ∧ s.turn p tag c 0x0803 (leBytes 2 (2 ^ n.val) ++ [0, 0]) ∧ c.fits 2 = true ∧ s.latched = false ∧ s.st ≠ stSAFE ∧ s.bit (Reg.LDO_CTRL_en n) = false ∧ s.ldoState n = lOFF)
    ∧ (∃ (p : Port) (tag : BitVec 6) (n : Fin 6) (c : Taken) (s : State), s.ready ∧ s.turn p tag c 0x0804 (leBytes 2 (2 ^ n.val) ++ [0, 0]) ∧ c.fits 2 = true ∧ s.bit (Reg.LDO_CTRL_en n) = true ∧ (s.ldoState n = lRAMP ∨ s.ldoState n = lON))
    ∧ (∃ (p : Port) (tag : BitVec 6) (c : Taken) (s : State), s.ready ∧ s.runnable p tag c ∧ c.opcode % 256 = 3 ∧ s.latched = true) :=
  ⟨⟨.host, 63, 5, wC .host 0x0803 [32, 0, 0, 0], wWith (wC .host 0x0803 [32, 0, 0, 0]) (wRun []), by decide⟩,
   ⟨.side, 3, 0, wC .side 0x0804 [1, 0, 0, 0], wWith (wC .side 0x0804 [1, 0, 0, 0]) (wRun [(Reg.LDO_CTRL_en 0, 1), (Reg.LDO_STAT_state 0, 2)]), by decide⟩,
   ⟨.host, 63, wC .host 0x0203 [], wWith (wC .host 0x0203 []) (wRun [(Reg.FLT_LATCH_latched, 1)]), by decide⟩⟩

theorem wit_SysCommands :
    (∃ (p : Port) (tag : BitVec 6) (c : Taken) (s : State), s.ready ∧ s.turn p tag c 0x0110 [] ∧ c.fits 20 = true)
    ∧ (∃ (p : Port) (tag : BitVec 6) (c : Taken) (s : State), s.ready ∧ s.turn p tag c 0x0111 [])
    ∧ (∃ (p : Port) (tag : BitVec 6) (c : Taken) (s : State), s.ready ∧ s.turn p tag c 0x0112 [] ∧ s.latched = false ∧ s.getF Reg.SYS_RUN_CFG_run_src = 0 ∧ s.bit Reg.SYS_RUN_STAT_run_req = s.sys.pinReq)
    ∧ (∃ (p : Port) (tag : BitVec 6) (c : Taken) (s : State), s.ready ∧ s.turn p tag c 0x0112 [] ∧ s.latched = false ∧ s.st = stSTANDBY ∧ s.getF Reg.SYS_RUN_CFG_run_src = 1 ∧ s.bit Reg.SYS_RUN_STAT_run_req = false ∧ s.getF Reg.SEQ_STAT_table = 0 ∧ s.sys.run = false ∧ s.sys.sleep = none ∧ s.bit (pendingF .seq) = false ∧ s.getF (Reg.SEQ_STEP_W0_op 0) = 0)
    ∧ (∃ (p : Port) (tag : BitVec 6) (c : Taken) (s : State), s.ready ∧ s.turn p tag c 0x0113 [] ∧ s.getF Reg.SYS_RUN_CFG_run_src = 0 ∧ s.bit Reg.SYS_RUN_STAT_run_req = s.sys.pinReq)
    ∧ (∃ (p : Port) (tag : BitVec 6) (c : Taken) (s : State), s.ready ∧ s.turn p tag c 0x0116 [] ∧ c.force = true ∧ s.latched = false ∧ s.st = stSAFE)
    ∧ (∃ (p : Port) (tag : BitVec 6) (c : Taken) (s : State), s.ready ∧ s.turn p tag c 0x0117 [] ∧ s.latched = false ∧ s.getF Reg.SEQ_STAT_table = 0 ∧ s.seq.safeDone = true ∧ (s.flt.stats.any fun x => decide (4 ≤ x.lvl)) = false ∧ s.bit Reg.SYS_RUN_STAT_ibex = false ∧ s.bit Reg.SYS_RUN_STAT_activating = false)
    ∧ (∃ (tag : BitVec 6) (g r : Nat) (c : Taken) (s : State), s.ready ∧ s.turn .host tag c 0x0118 (leBytes 2 g ++ leBytes 2 r) ∧ g < 0x8000 ∧ r < 0x8000 ∧ Nat.land g r = 0 ∧ c.fits 2 = true ∧ Nat.land r s.leaseFuse = 0 ∧ (s.mbx.taken.all fun x => x.port == .host) = true ∧ s.bit Reg.SYS_STATE_host_lost = false ∧ s.granted < 0x8000)
    ∧ (∃ (p : Port) (tag : BitVec 6) (m : Nat) (c : Taken) (s : State), s.ready ∧ s.turn p tag c 0x0119 (leBytes 2 m ++ [0, 0]) ∧ m < 0x8000 ∧ bitOf m 11 = false ∧ bitOf m 12 = false ∧ c.fits 4 = true ∧ s.sys.vkeepLow = false) :=
  ⟨⟨.host, 63, wCr .host 0x0110 [], wWith (wCr .host 0x0110 []) (wRun []), by decide⟩,
   ⟨.host, 63, wC .host 0x0111 [], wWith (wC .host 0x0111 []) (wRun []), by decide⟩,
   ⟨.side, 3, wC .side 0x0112 [], wWith (wC .side 0x0112 []) (wRun []), by decide⟩,
   ⟨.host, 63, wC .host 0x0112 [], wWith (wC .host 0x0112 []) (wStandby [(Reg.SYS_RUN_CFG_run_src, 1)]), by decide⟩,
   ⟨.host, 63, wC .host 0x0113 [], wWith (wC .host 0x0113 []) (wRun [(Reg.SYS_RUN_STAT_cmd_run, 1)]), by decide⟩,
   ⟨.host, 63, { wC .host 0x0116 [] with force := true }, wWith { wC .host 0x0116 [] with force := true } (wAt stSAFE .done []), by decide⟩,
   ⟨.host, 63, wC .host 0x0117 [], { wWith (wC .host 0x0117 []) (wAt stSAFE .done [(Reg.SYS_RUN_STAT_safe, 1)]) with seq := { State.reset.seq with safeDone := true } }, by decide⟩,
   ⟨63, 0x7FFF, 0, wC .host 0x0118 [0xFF, 0x7F, 0, 0], wWith (wC .host 0x0118 [0xFF, 0x7F, 0, 0]) (wRun []), by decide⟩,
   ⟨.host, 63, 1, wC .host 0x0119 [1, 0, 0, 0], wWith (wC .host 0x0119 [1, 0, 0, 0]) (wRun []), by decide⟩⟩

theorem wit_Acknowledge :
    (∃ (a : Accessor) (mask data : Word) (s : State), s.ready ∧ s.opens a 0x3008)
    ∧ (∃ s : State, s.romUp = true ∧ s.sys.vio = true)
    ∧ (∃ (mask data : Word) (s : State), s.ready ∧ s.accUp .side = true ∧ bitOf s.leases 9 = false ∧ mask ≠ 0)
    ∧ (∃ (p : Port) (tag : BitVec 6) (m : Nat) (c : Taken) (s : State), s.ready ∧ s.turn p tag c 0x0A10 (leBytes 2 m ++ [0, 0]))
    ∧ (∃ (a : Accessor) (c : Fin 16) (w : Fin 4) (i : Fin 16) (s : State), s.ready ∧ s.opens a (0x3100 + 16 * c.val + 4 * w.val) ∧ (s.statusLvl c (16 * w.val + i.val)).isSome = true ∧ s.clearRefused c (16 * w.val + i.val) = false ∧ (s.flt.stats.all fun x => x.cls != c.val || x.src == 16 * w.val + i.val) = true)
    ∧ (∃ (p : Port) (tag : BitVec 6) (cls : Fin 16) (w : Fin 4) (i : Fin 16) (c : Taken) (s : State), s.ready ∧ s.turn p tag c 0x0A11 (leBytes 1 cls ++ [0] ++ (List.range 4).flatMap fun j => leBytes 2 (if j = w.val then 2 ^ i.val else 0)) ∧ c.fits 8 = true ∧ (s.statusLvl cls (16 * w.val + i.val)).isSome = true ∧ s.clearRefused cls (16 * w.val + i.val) = false ∧ (s.flt.stats.all fun x => x.cls != cls.val || x.src == 16 * w.val + i.val) = true) :=
  ⟨⟨.host, 0xFFFF, 0x8002, { wRun [(Reg.FLT_UNACK_unack, 0x8006)] with flt := { State.reset.flt with stats := [⟨15, 3, 2⟩] } }, by decide⟩,
   ⟨wRun [], by decide⟩,
   ⟨0xFFFF, 2, wRun [(Reg.FLT_UNACK_unack, 2)], by decide⟩,
   ⟨.host, 63, 0x8000, wC .host 0x0A10 [0, 0x80, 0, 0], wWith (wC .host 0x0A10 [0, 0x80, 0, 0]) (wRun [(Reg.FLT_UNACK_unack, 0x8000)]), by decide⟩,
   ⟨.control, 15, 0, 15, { wRun [(Reg.FLT_UNACK_unack, 0x8000)] with flt := { State.reset.flt with stats := [⟨15, 15, 2⟩] } }, by decide⟩,
   ⟨.host, 63, 15, 3, 0, wC .host 0x0A11 (leBytes 1 15 ++ [0] ++ leBytes 2 0 ++ leBytes 2 0 ++ leBytes 2 0 ++ leBytes 2 1), wWith (wC .host 0x0A11 (leBytes 1 15 ++ [0] ++ leBytes 2 0 ++ leBytes 2 0 ++ leBytes 2 0 ++ leBytes 2 1)) { wRun [(Reg.FLT_UNACK_unack, 0x8000)] with flt := { State.reset.flt with stats := [⟨15, 48, 2⟩] } }, by decide⟩⟩

theorem wit_ClearRefused :
    (∃ (a : Accessor) (c : Fin 16) (w : Fin 4) (i : Fin 16) (s : State), s.ready ∧ s.opens a (0x3100 + 16 * c.val + 4 * w.val) ∧ (s.statusLvl c (16 * w.val + i.val)).isSome = true ∧ s.clearRefused c (16 * w.val + i.val) = true)
    ∧ (∃ (p : Port) (tag : BitVec 6) (cls : Fin 16) (w : Fin 4) (i : Fin 16) (c : Taken) (s : State), s.ready ∧ s.turn p tag c 0x0A11 (leBytes 1 cls ++ [0] ++ (List.range 4).flatMap fun j => leBytes 2 (if j = w.val then 2 ^ i.val else 0)) ∧ c.fits 8 = true ∧ (s.statusLvl cls (16 * w.val + i.val)).isSome = true ∧ s.clearRefused cls (16 * w.val + i.val) = true)
    ∧ (∃ (a : Accessor) (c : Fin 16) (w : Fin 4) (i : Fin 16) (s : State), s.ready ∧ s.opens a (0x3100 + 16 * c.val + 4 * w.val) ∧ s.clearRefused c (16 * w.val + i.val) = false ∧ s.flt.stats.map (fun x => (x.cls, x.src)) = [(c.val, 16 * w.val + i.val)] ∧ s.flt.firstRead = true ∧ s.bit Reg.FLT_FIRST_valid = true) :=
  ⟨⟨.control, 0, 1, 11, { wRun [] with flt := { State.reset.flt with stats := [⟨0, 27, 1⟩], causes := [(0, 27, 1)] } }, by decide⟩,
   ⟨.side, 3, 9, 0, 8, wC .side 0x0A11 [9, 0, 0, 1, 0, 0, 0, 0, 0, 0], wWith (wC .side 0x0A11 [9, 0, 0, 1, 0, 0, 0, 0, 0, 0]) { wRun [] with flt := { State.reset.flt with stats := [⟨9, 8, 1⟩], causes := [(9, 8, 0)] } }, by decide⟩,
   ⟨.control, 9, 0, 7, { wRun [(Reg.FLT_FIRST_valid, 1), (Reg.CLK_FAULT_xtal_stop, 1)] with flt := { State.reset.flt with stats := [⟨9, 7, 2⟩], firstRead := true } }, by decide⟩⟩

theorem wit_FaultPin :
    (∃ (a : Accessor) (s : State), s.ready ∧ s.stIn [stFAWN, stBOOT] = false ∧ s.opens a 0x3004)
    ∧ (∃ (p : Port) (tag : BitVec 6) (c : Taken) (s : State), s.ready ∧ s.turn p tag c 0x0A12 [] ∧ s.bit Reg.FLT_PIN_pulse = false ∧ s.stIn [stFAWN, stBOOT] = false)
    ∧ (∃ (p : Port) (tag : BitVec 6) (c : Taken) (s : State), s.ready ∧ s.turn p tag c 0x0A12 [] ∧ s.bit Reg.FLT_PIN_pulse = true)
    ∧ (∃ s : State, s.ready ∧ s.stIn [stFAWN, stBOOT] = false ∧ s.bit Reg.FLT_PIN_pulse = true ∧ s.flt.releaseHeld = true)
    ∧ (∃ s : State, s.ready ∧ s.stIn [stFAWN, stBOOT] = false ∧ s.bit Reg.FLT_PIN_pulse = true ∧ s.flt.releaseHeld = false)
    ∧ (∃ s : State, s.ready ∧ s.stIn [stFAWN, stBOOT] = true ∧ s.bit Reg.FLT_PIN_pulse = true ∧ s.flt.releaseHeld = false) :=
  ⟨⟨.control, wRun [], by decide⟩,
   ⟨.host, 63, wC .host 0x0A12 [], wWith (wC .host 0x0A12 []) (wRun [(Reg.FLT_PIN_drive, 1), (Reg.FLT_PIN_pin, 1)]), by decide⟩,
   ⟨.side, 3, wC .side 0x0A12 [], wWith (wC .side 0x0A12 []) (wRun [(Reg.FLT_PIN_drive, 1), (Reg.FLT_PIN_pin, 1), (Reg.FLT_PIN_pulse, 1)]), by decide⟩,
   ⟨{ wRun [(Reg.FLT_PIN_drive, 1), (Reg.FLT_PIN_pin, 1), (Reg.FLT_PIN_pulse, 1)] with flt := { State.reset.flt with releaseHeld := true } }, by decide⟩,
   ⟨wRun [(Reg.FLT_PIN_drive, 1), (Reg.FLT_PIN_pin, 1), (Reg.FLT_PIN_pulse, 1)], by decide⟩,
   ⟨wAt stBOOT .fuses [(Reg.FLT_PIN_drive, 0), (Reg.FLT_PIN_pin, 1), (Reg.FLT_PIN_pulse, 1)], by decide⟩⟩

theorem wit_Unlatch :
    (∃ (p : Port) (tag : BitVec 6) (c : Taken) (s : State), s.ready ∧ s.turn p tag c 0x0A13 (leBytes 2 (s.getF Reg.FLT_UNLATCH_KEY_key) ++ [0, 0]) ∧ c.fits 4 = true ∧ s.latched = true ∧ s.fltAuthority c = p ∧ (s.flt.stats.any fun x => x.lvl == 5) = false ∧ s.flt.unlatchAt = none)
    ∧ (∃ (p : Port) (tag : BitVec 6) (at1 : Nat) (c : Taken) (s : State), s.ready ∧ s.turn p tag c 0x0A13 (leBytes 2 (s.getF Reg.FLT_UNLATCH_KEY_key) ++ [0, 0]) ∧ c.fits 4 = true ∧ s.latched = true ∧ s.fltAuthority c = p ∧ (s.flt.stats.any fun x => x.lvl == 5) = false ∧ s.flt.unlatchAt = some (at1, p) ∧ at1 + 10000 ≤ s.time ∧ s.time ≤ at1 + 5000000)
    ∧ (∃ (p : Port) (tag : BitVec 6) (k : Nat) (c : Taken) (s : State), s.ready ∧ s.turn p tag c 0x0A13 (leBytes 2 k ++ [0, 0]) ∧ c.fits 4 = true ∧ s.latched = true ∧ s.fltAuthority c = p ∧ k % 65536 ≠ s.getF Reg.FLT_UNLATCH_KEY_key)
    ∧ (∃ (p : Port) (tag : BitVec 6) (c : Taken) (s : State), s.ready ∧ s.turn p tag c 0x0A13 (leBytes 2 (s.getF Reg.FLT_UNLATCH_KEY_key) ++ [0, 0]) ∧ c.fits 4 = true ∧ s.latched = true ∧ s.fltAuthority c = p ∧ s.flt.unlatchAt = none ∧ (s.flt.stats.any fun x => x.lvl == 5) = true)
    ∧ (∃ (p : Port) (tag : BitVec 6) (k : Nat) (c : Taken) (s : State), s.ready ∧ s.turn p tag c 0x0A13 (leBytes 2 k ++ [0, 0]) ∧ c.fits 4 = true ∧ s.latched = false) :=
  ⟨⟨.host, 63, wC .host 0x0A13 [7, 0, 0, 0], wWith (wC .host 0x0A13 [7, 0, 0, 0]) (wAt stSAFE .done [(Reg.FLT_LATCH_latched, 1), (Reg.FLT_UNLATCH_KEY_key, 7)]), by decide⟩,
   ⟨.host, 63, 0, wC .host 0x0A13 [7, 0, 0, 0], { wWith (wC .host 0x0A13 [7, 0, 0, 0]) (wAt stSAFE .done [(Reg.FLT_LATCH_latched, 1), (Reg.FLT_LATCH_count, 1), (Reg.FLT_UNLATCH_KEY_key, 7)]) with flt := { State.reset.flt with unlatchAt := some (0, .host) }, time := 5000000 }, by decide⟩,
   ⟨.host, 63, 8, wC .host 0x0A13 [8, 0, 0, 0], wWith (wC .host 0x0A13 [8, 0, 0, 0]) (wAt stSAFE .done [(Reg.FLT_LATCH_latched, 1), (Reg.FLT_UNLATCH_KEY_key, 7)]), by decide⟩,
   ⟨.host, 63, wC .host 0x0A13 [7, 0, 0, 0], { wWith (wC .host 0x0A13 [7, 0, 0, 0]) (wAt stSAFE .done [(Reg.FLT_LATCH_latched, 1), (Reg.FLT_UNLATCH_KEY_key, 7)]) with flt := { State.reset.flt with stats := [⟨0, 0, 5⟩] } }, by decide⟩,
   ⟨.host, 63, 7, wC .host 0x0A13 [7, 0, 0, 0], wWith (wC .host 0x0A13 [7, 0, 0, 0]) (wRun []), by decide⟩⟩

theorem wit_Commands :
    (∃ (p : Port) (tag : BitVec 6) (c : Taken) (s : State), s.ready ∧ s.turn p tag c 0x0610 [] ∧ c.fits 4 = true ∧ s.sys.vkeepLow = false ∧ s.sys.gaugeAlive = true ∧ s.bit Reg.PATH_STAT_batt_present = true ∧ s.gauge.writing = none)
    ∧ (∃ (p : Port) (tag : BitVec 6) (c : Taken) (s : State), s.ready ∧ s.turn p tag c 0x0611 [1, 0, BitVec.ofNat 8 (s.getF Reg.CHG_CFG_chem), 1] ∧ s.sys.vkeepLow = false)
    ∧ (∃ (p : Port) (tag : BitVec 6) (m : Nat) (c : Taken) (s : State), s.ready ∧ s.turn p tag c 0x0910 (leBytes 2 m ++ [0, 0]) ∧ m < 65536)
    ∧ (∃ (p : Port) (tag : BitVec 6) (y : Nat) (c : Taken) (s : State), s.ready ∧ s.turn p tag c 0x0B10 (leBytes 1 y ++ [0, 0, 0]) ∧ y < 2 ∧ c.fits 8 = true)
    ∧ (∃ (p : Port) (tag : BitVec 6) (slot off n : Nat) (c : Taken) (s : State), s.ready ∧ s.turn p tag c 0x0B11 (leBytes 1 slot ++ [0] ++ leBytes 2 off ++ leBytes 2 n ++ [0, 0]) ∧ slot < 8 ∧ off % 4 = 0 ∧ n % 4 = 0 ∧ 0 < n ∧ off + n ≤ 4096 ∧ c.fits n = true ∧ (s.tel.copies.any fun x => x.slot == some slot) = false)
    ∧ (∃ (p : Port) (tag : BitVec 6) (v : Nat) (c : Taken) (s : State), s.ready ∧ s.turn p tag c 0x0C10 (leBytes 2 v ++ [0, 0]) ∧ v < 65536)
    ∧ (∃ (p : Port) (tag : BitVec 6) (b : Bool) (c : Taken) (s : State), s.ready ∧ s.turn p tag c 0x1012 (leBytes 1 b.toNat ++ [0, 0, 0]) ∧ c.fits 8 = true ∧ s.herdUp b = true)
    ∧ (∃ (tag : BitVec 6) (c : Taken) (s : State), s.ready ∧ s.turn .host tag c 0x1110 [] ∧ bitOf (s.safety 0x21) 10 = false ∧ s.bit Reg.SYS_STATE_host_lost = false)
    ∧ (∃ (tag : BitVec 6) (c : Taken) (s : State), s.ready ∧ s.turn .host tag c 0x1111 []) :=
  ⟨⟨.host, 63, wC .host 0x0610 [], wWith (wC .host 0x0610 []) (wRun [(Reg.PATH_STAT_batt_present, 1)]), by decide⟩,
   ⟨.side, 3, wC .side 0x0611 [1, 0, 0, 1], { wWith (wC .side 0x0611 [1, 0, 0, 1]) (wRun []) with nv := { State.reset.nv with profile := some [] } }, by decide⟩,
   ⟨.host, 63, 0x8000, wC .host 0x0910 [0, 0x80, 0, 0], wWith (wC .host 0x0910 [0, 0x80, 0, 0]) (wRun []), by decide⟩,
   ⟨.host, 63, 1, wC .host 0x0B10 [1, 0, 0, 0], wWith (wC .host 0x0B10 [1, 0, 0, 0]) (wRun []), by decide⟩,
   ⟨.side, 3, 7, 4092, 4, wC .side 0x0B11 (leBytes 1 7 ++ [0] ++ leBytes 2 4092 ++ leBytes 2 4 ++ [0, 0]), wWith (wC .side 0x0B11 (leBytes 1 7 ++ [0] ++ leBytes 2 4092 ++ leBytes 2 4 ++ [0, 0])) (wRun []), by decide⟩,
   ⟨.host, 63, 0xFFFF, wC .host 0x0C10 [0xFF, 0xFF, 0, 0], wWith (wC .host 0x0C10 [0xFF, 0xFF, 0, 0]) (wRun []), by decide⟩,
   ⟨.host, 63, true, wC .host 0x1012 [1, 0, 0, 0], wWith (wC .host 0x1012 [1, 0, 0, 0]) (wRun [(Reg.SB_HERD_CFG_bridge_en, 1), (Reg.SB_HERD_STAT_pres_b, 1), (Reg.SB_CHILD_valid 63, 1)]), by decide⟩,
   ⟨63, wC .host 0x1110 [], wWith (wC .host 0x1110 []) (wRun []), by decide⟩,
   ⟨63, wC .host 0x1111 [], wWith (wC .host 0x1111 []) (wRun [(Reg.HOST_STAT_direct, 1)]), by decide⟩⟩

theorem wit_RegisterRows :
    (∃ (a : Accessor) (d : Word) (s : State), s.ready ∧ s.opens a 0x5000)
    ∧ (∃ (a : Accessor) (d : Word) (s : State), s.ready ∧ s.opens a 0x6010)
    ∧ (∃ (a : Accessor) (m d : Word) (s : State), s.ready ∧ s.opens a 0x400C)
    ∧ (∃ (a : Accessor) (s : State), s.ready ∧ s.opens a 0x5014 ∧ s.bit Reg.TEL_STR_CTRL_en = false)
    ∧ (∃ (a : Accessor) (e : Nat × Nat) (s : State), s.ready ∧ s.opens a 0x1C038 ∧ s.sb.ds = [e])
    ∧ (∃ (a : Accessor) (s : State), s.ready ∧ s.opens a 0x16004 ∧ s.chgPhase = gOFF ∧ s.getF Reg.CHG_CFG_chem = 0 ∧ s.getF Reg.CHG_CFG_cells = 0)
    ∧ (∃ (a : Accessor) (n : Fin 6) (v : Word) (s : State), s.ready ∧ s.opens a (Reg.LDO_VSET_vset n).addr ∧ s.ldoState n ≠ lON ∧ (if n.val < 4 then 600 else 1000) ≤ v.toNat ∧ v.toNat ≤ min 3600 (s.ceiling (0x10 + n) 3600))
    ∧ (∃ (a : Accessor) (n : Fin 6) (v : Word) (s : State), s.ready ∧ s.opens a (Reg.LDO_VSET_vset n).addr ∧ s.ldoState n = lON ∧ n.val < s.ldos.length ∧ (if n.val < 4 then 600 else 1000) ≤ v.toNat ∧ v.toNat ≤ min 3600 (s.ceiling (0x10 + n) 3600)) :=
  ⟨⟨.host, 2, wRun [], by decide⟩,
   ⟨.host, 0x8001, wRun [], by decide⟩,
   ⟨.host, 0xFFFF, 0x8000, wRun [(Reg.HOST_STAT_direct, 1)], by decide⟩,
   ⟨.control, wRun [(Reg.TEL_STR_PROD_wrap, 1), (Reg.TEL_STR_CONS_off, 24)], by decide⟩,
   ⟨.control, (63, 255), { wRun [(Reg.SB_REQ_req, 0x20)] with sb := { State.reset.sb with ds := [(63, 255)] } }, by decide⟩,
   ⟨.control, wRun [(Reg.CHG_CFG_cells, 0)], by decide⟩,
   ⟨.gauge, 5, 3600, wRun [], by decide⟩,
   ⟨.control, 4, 1000, wRun [(Reg.LDO_CTRL_en 4, 1), (Reg.LDO_STAT_state 4, 2)], by decide⟩⟩

theorem wit_EnableWrites :
    (∃ (a : Accessor) (k : Fin 8) (s : State), s.ready ∧ s.opens a (Reg.RAIL_CTRL_en k).addr ∧ s.outRuns 0 8 k = true ∧ s.bit (Reg.RAIL_CTRL_en k) = false ∧ s.railState k = rOFF ∧ s.bit (Reg.RAIL_GROUP_valid k) = true ∧ s.getF (Reg.RAIL_FI_fi k) ≠ 0 ∧ s.age.testing = [] ∧ k.val < s.rails.length)
    ∧ (∃ (a : Accessor) (k : Fin 8) (s : State), s.ready ∧ s.opens a (Reg.RAIL_CTRL_en k).addr ∧ (s.railState k = rON ∨ s.railState k = rRAMP) ∧ s.bit (Reg.RAIL_CTRL_soft_stop k) = false ∧ s.age.testing = [])
    ∧ (∃ (a : Accessor) (k : Fin 8) (s : State), s.ready ∧ s.opens a (Reg.RAIL_CTRL_en k).addr ∧ (s.railState k = rON ∨ s.railState k = rRAMP) ∧ s.bit (Reg.RAIL_CTRL_soft_stop k) = true ∧ s.age.testing = [])
    ∧ (∃ (a : Accessor) (n : Fin 12) (s : State), s.ready ∧ s.opens a (Reg.ISO_CTRL_en n).addr ∧ s.outRuns 2 12 n = true ∧ s.bit (Reg.ISO_CTRL_en n) = false ∧ s.isoState n = iOFF ∧ s.present cISO 12 0 = false)
    ∧ (∃ (a : Accessor) (n : Fin 12) (s : State), s.ready ∧ s.opens a (Reg.ISO_CTRL_en n).addr ∧ s.isoState n ≠ iLOCKED)
    ∧ (∃ (a : Accessor) (n : Fin 6) (s : State), s.ready ∧ s.opens a (Reg.LDO_CTRL_en n).addr ∧ s.outRuns 1 6 n = true ∧ s.bit (Reg.LDO_CTRL_en n) = false ∧ s.ldoState n = lOFF)
    ∧ (∃ (a : Accessor) (n : Fin 6) (s : State), s.ready ∧ s.opens a (Reg.LDO_CTRL_en n).addr ∧ s.ldoState n ≠ lLOCKED)
    ∧ (∃ (a : Accessor) (s : State), s.ready ∧ s.opens a Reg.FE_CTRL_fwd_en.addr ∧ s.latched = false ∧ s.feState = feOFF ∧ s.bit Reg.PATH_STAT_isw_closed = false)
    ∧ (∃ (a : Accessor) (s : State), s.ready ∧ s.opens a Reg.FE_CTRL_fwd_en.addr ∧ s.feState = feOFF)
    ∧ (∃ (a : Accessor) (s : State), s.ready ∧ s.opens a Reg.PATH_CTRL_isw_en.addr ∧ s.pathMode = pOPEN ∧ s.bit Reg.PATH_STAT_isw_closed = false ∧ s.path.closing = none)
    ∧ (∃ (a : Accessor) (s : State), s.ready ∧ s.opens a Reg.CHG_CTRL_en.addr ∧ s.latched = false ∧ s.bit Reg.CHG_CTRL_en = false ∧ s.chgPhase = gOFF ∧ s.service = true ∧ s.suspended = false ∧ s.chgBarred = false)
    ∧ (∃ (a : Accessor) (s : State), s.ready ∧ s.opens a Reg.CHG_CTRL_en.addr) :=
  ⟨⟨.control, 7, wRun [(Reg.RAIL_GROUP_valid 7, 1), (Reg.RAIL_GROUP_first 7, 15), (Reg.RAIL_GROUP_last 7, 15), (Reg.RAIL_FI_fi 7, 1)], by decide⟩,
   ⟨.control, 7, wRun [(Reg.RAIL_CTRL_en 7, 1), (Reg.RAIL_STAT_state 7, 2), (Reg.RAIL_CTRL_soft_stop 7, 0)], by decide⟩,
   ⟨.control, 7, wRun [(Reg.RAIL_CTRL_en 7, 1), (Reg.RAIL_STAT_state 7, 2), (Reg.RAIL_CTRL_soft_stop 7, 1)], by decide⟩,
   ⟨.host, 11, wRun [(Reg.HOST_STAT_direct, 1)], by decide⟩,
   ⟨.host, 11, wRun [(Reg.HOST_STAT_direct, 1), (Reg.ISO_CTRL_en 11, 1), (Reg.ISO_STAT_state 11, 3)], by decide⟩,
   ⟨.control, 5, wRun [], by decide⟩,
   ⟨.control, 5, wRun [(Reg.LDO_CTRL_en 5, 1), (Reg.LDO_STAT_state 5, 2)], by decide⟩,
   ⟨.control, wRun [], by decide⟩,
   ⟨.host, wRun [(Reg.HOST_STAT_direct, 1), (Reg.FE_CTRL_fwd_en, 1)], by decide⟩,
   ⟨.control, wRun [(Reg.PATH_CTRL_isw_en, 1)], by decide⟩,
   ⟨.control, wRun [(Reg.PATH_STAT_mode, 1), (Reg.FE_STAT_state, 2)], by decide⟩,
   ⟨.control, wRun [(Reg.CHG_CTRL_en, 1), (Reg.CHG_STAT_phase, 8)], by decide⟩⟩

theorem wit_PowerEnables :
    (∃ (a : Accessor) (s : State), s.ready ∧ s.opens a Reg.FE_CTRL_fwd_en.addr ∧ s.latched = false ∧ s.feState = feOFF ∧ s.bit Reg.PATH_STAT_isw_closed = true ∧ s.pathMode = pBUS ∧ s.service = true ∧ s.live = true ∧ s.sys.sleep = none ∧ (s.getF Reg.FE_VBUS_uv * 100 + 500 : Int) ≤ s.mv2 34 ∧ (s.flt.stats.any fun x => x.cls == cFE) = false ∧ s.getF (Reg.FE_FI_fi 0) ≠ 0)
    ∧ (∃ (a : Accessor) (s : State), s.ready ∧ s.opens a Reg.FE_CTRL_fwd_en.addr ∧ s.feIn [feFWD_START, feFWD] = true)
    ∧ (∃ (a : Accessor) (s : State), s.ready ∧ s.opens a Reg.PATH_CTRL_isw_en.addr ∧ s.bit Reg.PATH_CTRL_isw_en = true ∧ s.pathMode = pBUS ∧ s.holdsUp = false ∧ s.bit Reg.SYS_RUN_STAT_ibex = false ∧ s.feIn [feFWD_START, feFWD] = true)
    ∧ (∃ (a : Accessor) (s : State), s.ready ∧ s.opens a Reg.CHG_CTRL_en.addr ∧ s.latched = false ∧ s.bit Reg.CHG_CTRL_en = false ∧ s.chgPhase = gOFF ∧ s.service = true ∧ s.chgBarred = false ∧ s.suspended = false)
    ∧ (∃ (a : Accessor) (s : State), s.ready ∧ s.opens a Reg.CHG_CTRL_en.addr ∧ s.latched = false ∧ s.bit Reg.CHG_CTRL_en = false ∧ s.chgPhase = gOFF ∧ s.service = true ∧ s.chgBarred = false ∧ s.suspended = true)
    ∧ (∃ (a : Accessor) (s : State), s.ready ∧ s.opens a Reg.CHG_CTRL_en.addr ∧ s.latched = false ∧ s.bit Reg.CHG_CTRL_en = false ∧ s.chgPhase = gOFF ∧ s.service = true ∧ s.chgBarred = true)
    ∧ (∃ (a : Accessor) (s : State), s.ready ∧ s.opens a Reg.CHG_CTRL_en.addr)
    ∧ (∃ (a : Accessor) (s : State), s.ready ∧ s.opens a Reg.FE_CTRL_fwd_en.addr ∧ s.latched = true)
    ∧ (∃ (a : Accessor) (s : State), s.ready ∧ s.opens a Reg.CHG_CTRL_en.addr ∧ s.latched = true)
    ∧ (∃ (a : Accessor) (k : Fin 8) (s : State), s.ready ∧ s.opens a (Reg.RAIL_CTRL_en k).addr ∧ s.latched = true)
    ∧ (∃ (a : Accessor) (n : Fin 6) (s : State), s.ready ∧ s.opens a (Reg.LDO_CTRL_en n).addr ∧ s.latched = true)
    ∧ (∃ (a : Accessor) (n : Fin 12) (s : State), s.ready ∧ s.opens a (Reg.ISO_CTRL_en n).addr ∧ s.latched = true) :=
  ⟨⟨.control, wRun [(Reg.PATH_STAT_isw_closed, 1), (Reg.PATH_STAT_mode, 1), (Reg.TEL_CH_val 34, 10000), (Reg.FE_FI_fi 0, 9)], by decide⟩,
   ⟨.host, wRun [(Reg.HOST_STAT_direct, 1), (Reg.FE_CTRL_fwd_en, 1), (Reg.FE_STAT_state, 2)], by decide⟩,
   ⟨.control, wRun [(Reg.PATH_STAT_isw_closed, 1), (Reg.PATH_CTRL_isw_en, 1), (Reg.PATH_STAT_mode, 1), (Reg.FE_STAT_state, 2), (Reg.CHG_STAT_phase, 3)], by decide⟩,
   ⟨.control, wRun [(Reg.PATH_STAT_mode, 1), (Reg.FE_STAT_state, 2)], by decide⟩,
   ⟨.control, wRun [], by decide⟩,
   ⟨.control, { wRun [] with flt := { State.reset.flt with causes := [(cCHG, 0, 1)] } }, by decide⟩,
   ⟨.control, wRun [(Reg.CHG_CTRL_en, 1), (Reg.CHG_STAT_phase, 5)], by decide⟩,
   ⟨.control, wRun [(Reg.FLT_LATCH_latched, 1)], by decide⟩,
   ⟨.control, wRun [(Reg.FLT_LATCH_latched, 1)], by decide⟩,
   ⟨.control, 7, wRun [(Reg.FLT_LATCH_latched, 1)], by decide⟩,
   ⟨.control, 5, wRun [(Reg.FLT_LATCH_latched, 1)], by decide⟩,
   ⟨.control, 11, wRun [(Reg.FLT_LATCH_latched, 1)], by decide⟩⟩

theorem wit_RailStart :
    (∃ (k : Fin 8) (vpb : Nat) (s : State), s.ready ∧ s.railState k = rRAMP ∧ (s.rail k).start = .sense ∧ vpb < s.getF (Reg.RAIL_VSET_vset k))
    ∧ (∃ (k : Fin 8) (vpb : Nat) (s : State), s.ready ∧ s.railState k = rRAMP ∧ (s.rail k).start = .sense ∧ s.getF (Reg.RAIL_VSET_vset k) ≤ vpb ∧ s.getF (Reg.RAIL_VSET_vset k) ≤ 50 * vpb)
    ∧ (∃ (k : Fin 8) (v : Nat) (s : State), s.ready ∧ s.railState k = rRAMP ∧ (s.rail k).start = .ramp ∧ s.getF (Reg.RAIL_VSET_vset k) ≤ 5 * v)
    ∧ (∃ (k : Fin 8) (v : Nat) (s : State), s.ready ∧ s.railState k = rRAMP ∧ (s.rail k).start = .ramp ∧ 5 * v < s.getF (Reg.RAIL_VSET_vset k) ∧ s.getF (Reg.RAIL_STAT2_retry_cnt k) < s.getF (Reg.RAIL_PROT_retries k) ∧ s.getF (Reg.RAIL_PROT_retries k) < 8)
    ∧ (∃ (k : Fin 8) (s : State), s.ready ∧ s.railState k = rHICCUP)
    ∧ (∃ (k : Fin 8) (s : State), s.ready ∧ s.railState k = rRAMP ∧ ((s.rail k).start = .ramp ∨ (s.rail k).start = .checked))
    ∧ (∃ (k : Fin 8) (s : State), s.ready ∧ s.railState k = rSTOPPING)
    ∧ (∃ (k : Fin 8) (s : State), s.ready ∧ s.railState k = rLOCKED ∧ s.bit (Reg.RAIL_CTRL_en k) = false ∧ s.bit (Reg.RAIL_DYN_ovclamp k) = false ∧ s.railFree k = true) :=
  ⟨⟨7, 1800, (wRun [(Reg.RAIL_STAT_state 7, 1), (Reg.RAIL_GROUP_valid 7, 1), (Reg.RAIL_GROUP_first 7, 15), (Reg.RAIL_GROUP_last 7, 15), (Reg.RAIL_VSET_vset 7, 3600), (Reg.POL_PH_STAT_in_service 15, 1)]).updRail 7 fun r => { r with start := .sense }, by decide⟩,
   ⟨7, 3600, (wRun [(Reg.RAIL_STAT_state 7, 1), (Reg.RAIL_VSET_vset 7, 3600)]).updRail 7 fun r => { r with start := .sense }, by decide⟩,
   ⟨0, 720, (wRun [(Reg.RAIL_STAT_state 0, 1), (Reg.RAIL_VSET_vset 0, 3600)]).updRail 0 fun r => { r with start := .ramp }, by decide⟩,
   ⟨0, 719, (wRun [(Reg.RAIL_STAT_state 0, 1), (Reg.RAIL_VSET_vset 0, 3600), (Reg.RAIL_PROT_retries 0, 1)]).updRail 0 fun r => { r with start := .ramp }, by decide⟩,
   ⟨7, wRun [(Reg.RAIL_STAT_state 7, 4)], by decide⟩,
   ⟨7, (wRun [(Reg.RAIL_STAT_state 7, 1)]).updRail 7 fun r => { r with start := .checked }, by decide⟩,
   ⟨7, wRun [(Reg.RAIL_STAT_state 7, 3), (Reg.RAIL_CTRL_soft_stop 7, 1)], by decide⟩,
   ⟨7, wRun [(Reg.RAIL_STAT_state 7, 5)], by decide⟩⟩

theorem wit_RailLocks :
    (∃ (k : Fin 8) (vpb : Nat) (s : State), s.ready ∧ s.romUp = true ∧ s.railState k = rRAMP ∧ (s.rail k).start = .sense ∧ s.fresh cRAILV ∧ s.groupOf k = 0)
    ∧ (∃ (k : Fin 8) (s : State), s.ready ∧ s.romUp = true ∧ (s.rail k).waitCoeff = true ∧ s.fresh cRAILV ∧ s.groupOf k = 0)
    ∧ (∃ (k : Fin 8) (v : Nat) (s : State), s.ready ∧ s.romUp = true ∧ s.railState k = rRAMP ∧ (s.rail k).start = .ramp ∧ 5 * v < s.getF (Reg.RAIL_VSET_vset k) ∧ s.getF (Reg.RAIL_STAT2_retry_cnt k) = s.getF (Reg.RAIL_PROT_retries k) ∧ s.fresh cRAILI ∧ s.groupOf k = 0)
    ∧ (∃ (k : Fin 8) (mA mV : Nat) (s : State), s.ready ∧ s.romUp = true ∧ s.railState k = rON ∧ s.railLimit k mV ≤ (mA : Rat) / 1000 ∧ s.present cRAILI k 1 = false)
    ∧ (∃ (k : Fin 8) (mA mV : Nat) (s : State), s.ready ∧ (mA : Rat) / 1000 < s.railLimit k mV)
    ∧ (∃ (k : Fin 8) (s : State), s.ready ∧ s.bit (Reg.RAIL_DYN_ovclamp k) = true) :=
  ⟨⟨7, 0, (wRun [(Reg.RAIL_STAT_state 7, 1)]).updRail 7 fun r => { r with start := .sense }, by decide⟩,
   ⟨7, (wRun []).updRail 7 fun r => { r with waitCoeff := true }, by decide⟩,
   ⟨7, 0, (wRun [(Reg.RAIL_STAT_state 7, 1), (Reg.RAIL_VSET_vset 7, 3600), (Reg.RAIL_PROT_retries 7, 0)]).updRail 7 fun r => { r with start := .ramp }, by decide⟩,
   ⟨7, 100000, 3600, wRun [(Reg.RAIL_STAT_state 7, 2)], by decide +kernel⟩,
   ⟨7, 1, 3600, wRun [(Reg.RAIL_STAT_state 7, 2), (Reg.RAIL_VSET_vset 7, 3600), (Reg.RAIL_TGT_v_tgt 7, 3600)], by decide +kernel⟩,
   ⟨7, wRun [(Reg.RAIL_STAT_state 7, 2), (Reg.RAIL_DYN_ovclamp 7, 1)], by decide⟩⟩

theorem wit_RailDynamics :
    (∃ (k : Fin 8) (s : State), s.ready ∧ (s.rail k).move = true ∧ (s.rail k).offset = 0)
    ∧ (∃ (n : Fin 16) (k : Fin 8) (s : State), s.ready ∧ s.railOf n = some k.val ∧ (s.rail k).rampOut = some n.val ∧ 0 < s.getF (Reg.RAIL_STAT_n_active k))
    ∧ (∃ s : State, s.ready ∧ s.fe.rampOut = true ∧ 0 < s.getF Reg.FE_STAT_n_active)
    ∧ (∃ (k : Fin 8) (e : Bool) (x : Nat) (s : State), s.ready ∧ s.railState k = rON ∧ (s.rail k).hold0 = false ∧ s.age.testing = [] ∧ s.stepSeen k e x = true)
    ∧ (∃ (k : Fin 8) (e : Bool) (x : Nat) (s : State), s.ready ∧ s.stepSeen k e x = false)
    ∧ (∃ (k : Fin 8) (s : State), s.ready)
    ∧ (∃ (i : Fin 4) (s : State), s.ready ∧ s.sys.vio = true ∧ bitOf s.sys.lda i = false ∧ s.age.testing = [])
    ∧ (∃ (i : Fin 4) (s : State), s.ready ∧ s.sys.vio = false)
    ∧ (∃ (i : Fin 4) (s : State), s.ready)
    ∧ (∃ (k : Fin 8) (s : State), s.ready ∧ s.bit (Reg.RAIL_DYN_ann_offset k) = true)
    ∧ (∃ (k : Fin 8) (s : State), s.ready ∧ Nat.land s.sys.lda (s.getF (Reg.RAIL_LDA_map k)) = 0) :=
  ⟨⟨7, (wRun [(Reg.RAIL_VSET_vset 7, 3600)]).updRail 7 fun r => { r with move := true }, by decide⟩,
   ⟨15, 7, (wRun [(Reg.RAIL_GROUP_valid 7, 1), (Reg.RAIL_GROUP_first 7, 14), (Reg.RAIL_GROUP_last 7, 15), (Reg.POL_PH_STAT_switching 15, 1), (Reg.RAIL_STAT_n_active 7, 2), (Reg.RAIL_STAT_state 7, 2)]).updRail 7 fun r => { r with rampOut := some 15 }, by decide⟩,
   ⟨{ wRun [(Reg.FE_STAT_n_active, 2)] with fe := { State.reset.fe with rampOut := true } }, by decide⟩,
   ⟨7, true, 300, wRun [(Reg.RAIL_VSET_vset 7, 3600), (Reg.RAIL_GROUP_valid 7, 1), (Reg.RAIL_GROUP_first 7, 14), (Reg.RAIL_GROUP_last 7, 15), (Reg.POL_PH_STAT_in_service 14, 1), (Reg.POL_PH_STAT_in_service 15, 1), (Reg.RAIL_STAT_n_active 7, 1), (Reg.RAIL_STAT_state 7, 2), (Reg.RAIL_EVT_step_cnt 7, 255)], by decide⟩,
   ⟨7, false, 0, wRun [(Reg.RAIL_STAT_state 7, 2)], by decide⟩,
   ⟨7, wRun [(Reg.RAIL_DYN_inhibit 7, 1)], by decide⟩,
   ⟨3, wRun [(Reg.RAIL_STAT_state 7, 2), (Reg.RAIL_LDA_map 7, 8), (Reg.RAIL_LDA_offset 7, 10), (Reg.RAIL_VSET_vset 7, 1000), (Reg.RAIL_TGT_v_tgt 7, 1000)], by decide⟩,
   ⟨3, { wRun [] with sys := { State.reset.sys with vio := false } }, by decide⟩,
   ⟨3, (wRun [(Reg.RAIL_DYN_ann_offset 7, 1), (Reg.RAIL_TGT_v_tgt 7, 1010)]).updRail 7 fun r => { r with annPin := some 3, offset := 10 }, by decide⟩,
   ⟨7, (wRun [(Reg.RAIL_DYN_ann_offset 7, 1), (Reg.RAIL_TGT_v_tgt 7, 1010)]).updRail 7 fun r => { r with offset := 10 }, by decide⟩,
   ⟨7, wRun [(Reg.RAIL_STAT_announce 7, 1)], by decide⟩⟩

theorem wit_LoopDerivations :
    (∃ (k : Fin 8) (fi : Nat) (s : State), s.ready ∧ s.bit (Reg.RAIL_CTRL_direct_loop k) = false ∧ s.bit Reg.SYS_STATE_ctl_lost = false ∧ (s.servicePhases k).length ≠ 0 ∧ s.railStopped k = true ∧ s.staged = [] ∧ s.bit (holdF (.rail k)) = false ∧ (s.rail k).waitCoeff = false ∧ (fi : Rat) = 10 * (clampFc (if s.getF (Reg.RAIL_LOOP_fc k) = 0 then (s.railKhz k : Rat) / 10 else s.getF (Reg.RAIL_LOOP_fc k)) 5
      (min ((s.railKhz k : Rat) / 5) 200)).1)
    ∧ (∃ (k : Fin 8) (s : State), s.ready ∧ s.bit (Reg.RAIL_CTRL_direct_loop k) = true)
    ∧ (∃ s : State, s.ready ∧ s.bit Reg.FE_CTRL_direct_loop = false ∧ s.bit Reg.SYS_STATE_ctl_lost = false ∧ s.feStopped = true ∧ s.feService ≠ 0 ∧ s.staged = [] ∧ s.bit (holdF .fe) = false)
    ∧ (∃ s : State, s.ready ∧ s.bit Reg.FE_CTRL_direct_loop = true) :=
  ⟨⟨7, 500, wRun [(Reg.RAIL_GROUP_valid 7, 1), (Reg.RAIL_GROUP_first 7, 15), (Reg.RAIL_GROUP_last 7, 15), (Reg.POL_PH_STAT_in_service 15, 1), (Reg.RAIL_LOOP_STAT_stale 7, 1), (Reg.RAIL_LOOP_fc 7, 50)], by decide +kernel⟩,
   ⟨7, wRun [(Reg.RAIL_CTRL_direct_loop 7, 1)], by decide⟩,
   ⟨wRun [(Reg.FE_LOOP_STAT_stale 0, 1)], by decide⟩,
   ⟨wRun [(Reg.FE_CTRL_direct_loop, 1)], by decide⟩⟩

theorem wit_IsoRows :
    (∃ (n : Fin 12) (rest : List Nat) (s : State), s.ready ∧ s.isoQueue = n.val :: rest)
    ∧ (∃ (n : Fin 12) (s : State), s.ready ∧ s.isoState n = iSS)
    ∧ (∃ s : State, s.ready ∧ s.romUp = true ∧ s.present cISO 12 0 = false)
    ∧ (∃ s : State, s.ready ∧ (s.isoQueue.all fun n => s.isoState n == iWAIT) = true)
    ∧ (∃ (n : Fin 12) (s : State), s.ready ∧ s.romUp = true ∧ s.isoState n = iON ∧ s.fresh cISO ∧ s.groupOf (14 + n) = 0)
    ∧ (∃ (n : Fin 12) (s : State), s.ready ∧ s.romUp = true ∧ s.isoState n = iON ∧ s.fresh cISO ∧ s.groupOf (14 + n) = 0)
    ∧ (∃ (n : Fin 12) (b : Bool) (s : State), s.ready ∧ s.romUp = true ∧ s.isoState n = iON ∧ s.fresh cISO ∧ s.groupOf (14 + n) = 0)
    ∧ (∃ (n : Fin 12) (s : State), s.ready ∧ s.isoState n = iLOCKED ∧ s.bit (Reg.ISO_CTRL_en n) = false ∧ s.statusLvl cISO n = none) :=
  ⟨⟨11, [0], { wRun [(Reg.ISO_STAT_state 11, 1), (Reg.ISO_STAT_state 0, 1)] with isoQueue := [11, 0] }, by decide⟩,
   ⟨11, wRun [(Reg.ISO_STAT_state 11, 2)], by decide⟩,
   ⟨wRun [(Reg.ISO_STAT_state 11, 3), (Reg.ISO_STAT_state 0, 2), (Reg.ISO_STAT_state 5, 1)], by decide⟩,
   ⟨wRun [(Reg.ISO_STAT_state 11, 4), (Reg.ISO_STAT_state 0, 4)], by decide⟩,
   ⟨11, wRun [(Reg.ISO_STAT_state 11, 3)], by decide⟩,
   ⟨0, wRun [(Reg.ISO_STAT_state 0, 3)], by decide⟩,
   ⟨11, true, wRun [(Reg.ISO_STAT_state 11, 3)], by decide⟩,
   ⟨11, wRun [(Reg.ISO_STAT_state 11, 5)], by decide⟩⟩

theorem wit_LdoRows :
    (∃ (n : Fin 6) (s : State), s.ready ∧ s.ldoState n = lRAMP ∧ n.val < s.ldos.length)
    ∧ (∃ (n : Fin 6) (s : State), s.ready ∧ s.romUp = true ∧ (s.ldoState n = lRAMP ∨ s.ldoState n = lON) ∧ s.fresh cRAILI ∧ s.groupOf (8 + n) = 0)
    ∧ (∃ (n m : Fin 6) (s : State), s.ready ∧ s.romUp = true ∧ (s.ldoState n = lRAMP ∨ s.ldoState n = lON) ∧ n ≠ m ∧ s.groupOf (8 + n) ≠ 0 ∧ s.groupOf (8 + m) = s.groupOf (8 + n) ∧ s.fresh cRAILI ∧ ((List.range 26).all fun e => e == 8 + n.val || e == 8 + m.val || s.groupOf e != s.groupOf (8 + n)) = true ∧ s.ldoState m ≠ lLOCKED)
    ∧ (∃ (n : Fin 6) (s : State), s.ready ∧ s.ldoState n = lLOCKED ∧ s.bit (Reg.LDO_CTRL_en n) = false ∧ s.statusAt cRAILI (8 + n) 3 = false ∧ s.statusAt cRAILV (8 + n) 3 = false) :=
  ⟨⟨5, wRun [(Reg.LDO_STAT_state 5, 1), (Reg.LDO_VSET_vset 5, 3600)], by decide⟩,
   ⟨5, wRun [(Reg.LDO_STAT_state 5, 1)], by decide⟩,
   ⟨5, 0, wRun [(Reg.LDO_STAT_state 5, 2), (Reg.LDO_STAT_state 0, 2), (Reg.LDO_CTRL_en 0, 1), (Reg.FLT_GRP_g1 3, 7), (Reg.FLT_GRP_g0 2, 7)], by decide⟩,
   ⟨5, wRun [(Reg.LDO_STAT_state 5, 3)], by decide⟩⟩

theorem wit_Supervision :
    (∃ (c : Fin 28) (above : Bool) (s : State), s.ready ∧ s.romUp = true ∧ s.armed c above = true ∧ s.getF (Reg.MON_CH_FILT_db c) ≤ s.beyondRun c false above ∧ s.isJudged c false above = false ∧ s.earlyLoss c above = false ∧ (c.val < 14 ∨ s.isoOfMon c = none))
    ∧ (∃ (c : Fin 28) (n : Nat) (above : Bool) (s : State), s.ready ∧ s.romUp = true ∧ s.armed c above = true ∧ s.getF (Reg.MON_CH_FILT_db c) ≤ s.beyondRun c false above ∧ s.isJudged c false above = false ∧ 14 ≤ c.val ∧ s.isoOfMon c = some n)
    ∧ (∃ (c : Fin 28) (above : Bool) (s : State), s.ready ∧ s.beyondRun c false above < s.getF (Reg.MON_CH_FILT_db c))
    ∧ (∃ (n : Fin 6) (s : State), s.ready ∧ s.romUp = true ∧ s.ldoState n = lON ∧ s.bit (Reg.MON_CH_CFG_en (8 + n)) = true ∧ s.getF (Reg.MON_CH_FILT_db (8 + n)) ≤ s.beyondRun (8 + n) false false ∧ s.isJudged (8 + n) false false = false ∧ (s.getF Reg.SEQ_STAT_table = 2 ∨ s.getF Reg.SEQ_STAT_table = 3))
    ∧ (∃ (c : Fin 28) (above : Bool) (v : Word) (s : State), s.ready ∧ s.romUp = true ∧ s.armed c above = true ∧ s.comparators c above = true ∧ s.tripped c above = false ∧ 14 ≤ c.val ∧ s.isoOfMon c = none ∧ beyond above v (if above then s.threshold c true above - 4 * (s.nominal c : Int) else s.threshold c true above + 4 * (s.nominal c : Int)) = true ∧ s.isJudged c true above = false ∧ s.fresh cRAILV ∧ s.groupOf (12 + c) = 0 ∧ s.getF (if above then Reg.MON_CH_CFG_ov_lvl c else Reg.MON_CH_CFG_uv_lvl c) = 0)
    ∧ (∃ (k : Fin 8) (v : Word) (s : State), s.ready ∧ s.romUp = true ∧ s.railState k ≠ rLOCKED ∧ s.armed k true = true ∧ beyond true v (s.threshold k true true - 4 * (s.nominal k : Int)) = true ∧ s.comparators k true = true ∧ s.tripped k true = false ∧ s.isJudged k true true = false ∧ s.fresh cRAILV ∧ s.groupOf k = 0 ∧ s.bit (Reg.MON_CH_CFG_ov_lvl k) = false)
    ∧ (∃ (c : Fin 28) (above : Bool) (v : Word) (s : State), s.ready ∧ s.romUp = true ∧ s.armed c above = true ∧ s.comparators c above = true ∧ s.tripped c above = false ∧ 14 ≤ c.val ∧ s.isoOfMon c = none ∧ beyond above v (if above then s.threshold c true above - 4 * (s.nominal c : Int) else s.threshold c true above + 4 * (s.nominal c : Int)) = false ∧ s.fresh cRAILV ∧ s.fresh cREF ∧ s.groupOf (12 + c) = 0 ∧ s.getF (if above then Reg.MON_CH_CFG_ov_lvl c else Reg.MON_CH_CFG_uv_lvl c) = 0)
    ∧ (∃ (c : Fin 28) (above : Bool) (s : State), s.ready ∧ s.romUp = true ∧ s.armed c above = true ∧ 2 ≤ s.beyondRun c true above ∧ s.tripped c above = false ∧ s.isJudged c true above = false ∧ 14 ≤ c.val ∧ s.isoOfMon c = none ∧ s.fresh cRAILV ∧ s.fresh cREF ∧ s.groupOf (12 + c) = 0 ∧ s.getF (if above then Reg.MON_CH_CFG_ov_lvl c else Reg.MON_CH_CFG_uv_lvl c) = 0)
    ∧ (∃ (c : Fin 28) (above : Bool) (s : State), s.ready ∧ s.beyondRun c true above < 2)
    ∧ (∃ (c : Fin 28) (above : Bool) (k : Fin 3) (v : Word) (s : State), s.ready ∧ s.romUp = true ∧ s.armed c above = true ∧ s.comparators c above = true ∧ s.tripped c above = false ∧ bitOf (s.getF (copiesOut c above)) k = false ∧ 3 ≤ (s.age.disagreed.filter fun x => x.1 == c.val && x.2.1 == above && x.2.2.1 == k.val && decide (s.time ≤ x.2.2.2 + 86400000000)).length)
    ∧ (∃ (c : Fin 28) (s : State), s.ready ∧ s.counting c = true ∧ s.getF (Reg.MON_CH_PG_pg_cnt c) ≤ (s.mon c).cnt)
    ∧ (∃ (c : Fin 28) (s : State), s.ready ∧ (s.mon c).cnt < s.getF (Reg.MON_CH_PG_pg_cnt c))
    ∧ (∃ (c : Fin 28) (s : State), s.ready ∧ s.bit (Reg.MON_CH_STAT_pg c) = true ∧ (s.counting c = false ∨ s.getF (Reg.MON_CH_FILT_db c) ≤ (s.mon c).outN))
    ∧ (∃ (c : Fin 28) (s : State), s.ready ∧ s.counting c = true ∧ (s.mon c).outN < s.getF (Reg.MON_CH_FILT_db c) ∧ s.tripped c false = false ∧ s.tripped c true = false) :=
  ⟨⟨27, true, (wRun [(Reg.MON_CH_CFG_en 27, 1)]).updMon 27 fun m => { m with warnHi := 4 }, by decide⟩,
   ⟨27, 11, false, (wRun [(Reg.MON_CH_CFG_en 27, 1), (Reg.ISO_MON_map_en 11, 1), (Reg.ISO_MON_mon 11, 13), (Reg.ISO_STAT_state 11, 3), (Reg.MON_CH_NOM_nom 27, 3000)]).updMon 27 fun m => { m with warnLo := 255 }, by decide⟩,
   ⟨27, true, (wRun [(Reg.MON_CH_CFG_en 27, 1)]).updMon 27 fun m => { m with warnHi := 3 }, by decide⟩,
   ⟨5, ((wRun [(Reg.LDO_STAT_state 5, 2), (Reg.LDO_CTRL_en 5, 1), (Reg.SEQ_STAT_table, 2), (Reg.LDO_VSET_vset 5, 3600)]).updLdo 5 fun l => { l with target := 3600 }).updMon 13 fun m => { m with warnLo := 4 }, by decide⟩,
   ⟨27, true, 0x7FFF, wRun [(Reg.MON_CH_CFG_en 27, 1)], by decide⟩,
   ⟨7, 0x7FFF, wRun [(Reg.RAIL_STAT_state 7, 2), (Reg.RAIL_GROUP_valid 7, 1), (Reg.RAIL_GROUP_first 7, 15), (Reg.RAIL_GROUP_last 7, 15)], by decide⟩,
   ⟨14, true, 0, wRun [(Reg.MON_CH_CFG_en 14, 1)], by decide⟩,
   ⟨14, true, (wRun [(Reg.MON_CH_CFG_en 14, 1)]).updMon 14 fun m => { m with fltHi := 2 }, by decide⟩,
   ⟨27, true, (wRun [(Reg.MON_CH_CFG_en 27, 1)]).updMon 27 fun m => { m with fltHi := 1 }, by decide⟩,
   ⟨27, true, 2, 0x7FFF, { wRun [(Reg.MON_CH_CFG_en 27, 1)] with time := 86400000000, age := { State.reset.age with disagreed := [(27, true, 2, 0), (27, true, 2, 5), (27, true, 2, 7)] } }, by decide⟩,
   ⟨27, (wRun [(Reg.MON_CH_CFG_en 27, 1)]).updMon 27 fun m => { m with cnt := 255 }, by decide⟩,
   ⟨27, wRun [(Reg.MON_CH_CFG_en 27, 1)], by decide⟩,
   ⟨27, (wRun [(Reg.MON_CH_STAT_pg 27, 1), (Reg.MON_CH_STAT_chat 27, 255)]).updMon 27 fun m => { m with outN := 15 }, by decide⟩,
   ⟨27, wRun [(Reg.MON_CH_CFG_en 27, 1), (Reg.MON_CH_STAT_pg 27, 1)], by decide⟩⟩

theorem wit_RoundEnd :
    (∃ (r : ScanRound) (s : State), s.ready ∧ r.wf = true ∧ s.live = true ∧ s.st ≠ stFAWN ∧ s.tel.snap = none ∧ s.tel.req = none ∧ s.age.testing = [] ∧ trioOf (signed 16 (r.chan.getD 72 0).toNat) (signed 16 (r.chan.getD 73 0).toNat) (signed 16 (r.chan.getD 74 0).toNat) = .agree) :=
  ⟨⟨List.replicate 128 5, List.replicate 16 0, List.replicate 4 [25, 25, 25, 25], wBits⟩, wRun [], by decide +kernel⟩

theorem wit_RunRequest :
    (∃ (l : Bool) (s : State), s.ready ∧ s.live = true ∧ s.sys.sleep = none ∧ (s.st ≠ stBOOT ∨ s.sys.kind ≠ .wake) ∧ s.getF Reg.SYS_RUN_CFG_run_src = 1 ∧ s.bit Reg.SYS_RUN_STAT_run_req = s.bit Reg.SYS_RUN_STAT_cmd_run)
    ∧ (∃ s : State, s.ready ∧ s.live = true ∧ s.sys.sleep = none ∧ s.st = stSTANDBY ∧ s.getF Reg.SYS_RUN_CFG_run_src = 0 ∧ s.bit Reg.SYS_RUN_STAT_run_req = false ∧ s.bit Reg.MBX_STAT_paused = false ∧ s.getF Reg.SEQ_STAT_table = 0 ∧ s.sys.run = false ∧ s.latched = false ∧ s.bit (pendingF .seq) = false ∧ s.getF (Reg.SEQ_STEP_W0_op 0) = 0)
    ∧ (∃ s : State, s.ready ∧ s.live = true ∧ s.sys.sleep = none ∧ (s.st = stRUN ∨ s.st = stSTANDBY) ∧ s.getF Reg.SYS_RUN_CFG_run_src = 0 ∧ s.bit Reg.SYS_RUN_STAT_run_req = true ∧ s.bit Reg.MBX_STAT_paused = false ∧ s.getF Reg.SEQ_STAT_table = 0 ∧ s.latched = false ∧ s.bit (pendingF .seq) = false ∧ s.getF (Reg.SEQ_STEP_W0_op 64) = 0) :=
  ⟨⟨true, wRun [(Reg.SYS_RUN_CFG_run_src, 1)], by decide⟩,
   ⟨wStandby [(Reg.SYS_RUN_CFG_run_src, 0)], by decide⟩,
   ⟨{ wRun [(Reg.SYS_RUN_CFG_run_src, 0), (Reg.SYS_RUN_STAT_run_req, 1)] with sys := { (wRun []).sys with pinReq := true, run := true } }, by decide⟩⟩

theorem wit_SequencerSteps :
    (∃ (tb i : Nat) (s : State), s.ready ∧ s.getF Reg.SEQ_STAT_table = tb ∧ s.getF Reg.SEQ_STAT_step = i ∧ s.stepWaits = true ∧ s.condMet s.seqIdx = true ∧ s.seq.fell = false ∧ i < 63 ∧ s.bit (pendingF .seq) = false ∧ s.getF (Reg.SEQ_STEP_W0_op (s.seqIdx + 1)) = 0)
    ∧ (∃ (n : Fin 6) (s : State), s.ready ∧ s.stepWaits = true ∧ s.condMet s.seqIdx = true ∧ s.seq.fell = false ∧ s.getF Reg.SEQ_STAT_step < 63 ∧ s.bit (pendingF .seq) = false ∧ s.getF (Reg.SEQ_STEP_W0_op (s.seqIdx + 1)) = 4 ∧ s.getF (Reg.SEQ_STEP_W0_idx (s.seqIdx + 1)) = n.val ∧ s.ldoState n = lOFF ∧ s.bit (Reg.LDO_CTRL_en n) = false ∧ s.outRuns 1 6 n = true)
    ∧ (∃ (n : Fin 6) (s : State), s.ready ∧ s.romUp = true ∧ s.stepWaits = true ∧ (s.getF Reg.SEQ_STAT_table = 2 ∨ s.getF Reg.SEQ_STAT_table = 3) ∧ s.getF (Reg.SEQ_STEP_W1_cond s.seqIdx) = 2 ∧ s.getF (Reg.SEQ_STEP_W1_arg s.seqIdx) = 8 + n.val ∧ s.offMet (8 + n) = false ∧ n.val < s.ldos.length ∧ s.getF Reg.SEQ_STAT_step < 63 ∧ s.bit (pendingF .seq) = false ∧ s.getF (Reg.SEQ_STEP_W0_op (s.seqIdx + 1)) = 0)
    ∧ (∃ s : State, s.ready ∧ s.romUp = true ∧ s.stepWaits = true ∧ s.getF Reg.SEQ_STAT_table = 1 ∧ (s.getF (Reg.SEQ_STEP_W1_cond s.seqIdx) = 1 ∨ s.getF (Reg.SEQ_STEP_W1_cond s.seqIdx) = 2 ∨ s.getF (Reg.SEQ_STEP_W1_cond s.seqIdx) = 4) ∧ s.condMet s.seqIdx = false ∧ s.getF (Reg.SEQ_STEP_W0_policy s.seqIdx) = 2 ∧ s.seq.fell = false ∧ s.getF Reg.SEQ_STAT_step < 63 ∧ s.bit (pendingF .seq) = false ∧ s.getF (Reg.SEQ_STEP_W0_op (s.seqIdx + 1)) = 0)
    ∧ (∃ (n : Fin 6) (s : State), s.ready ∧ s.stepWaits = true ∧ s.getF Reg.SEQ_STAT_table = 1 ∧ s.getF (Reg.SEQ_STEP_W1_cond s.seqIdx) = 1 ∧ s.condMet s.seqIdx = false ∧ s.getF (Reg.SEQ_STEP_W0_policy s.seqIdx) = 1 ∧ s.seq.retried = false ∧ s.getF (Reg.SEQ_STEP_W0_op s.seqIdx) = 4 ∧ s.getF (Reg.SEQ_STEP_W0_idx s.seqIdx) = n.val ∧ s.ldoState n ≠ lLOCKED)
    ∧ (∃ (n : Fin 6) (s : State), s.ready ∧ s.getF Reg.SEQ_STAT_table = 1 ∧ s.getF Reg.SEQ_STAT_phase = 2 ∧ s.getF (Reg.SEQ_STEP_W0_op s.seqIdx) = 4 ∧ s.getF (Reg.SEQ_STEP_W0_idx s.seqIdx) = n.val ∧ s.outRuns 1 6 n = true ∧ s.bit (Reg.LDO_CTRL_en n) = false ∧ s.ldoState n = lOFF)
    ∧ (∃ s : State, s.ready ∧ s.romUp = true ∧ s.stepWaits = true ∧ s.getF Reg.SEQ_STAT_table = 1 ∧ s.getF (Reg.SEQ_STEP_W1_cond s.seqIdx) = 1 ∧ s.condMet s.seqIdx = false ∧ s.getF (Reg.SEQ_STEP_W0_policy s.seqIdx) = 0 ∧ s.latched = false ∧ s.bit (pendingF .seq) = false ∧ s.getF (Reg.SEQ_STEP_W0_op 64) = 0 ∧ s.fresh cSEQ) :=
  ⟨⟨1, 62, wRun [(Reg.SEQ_STAT_table, 1), (Reg.SEQ_STAT_step, 62), (Reg.SEQ_STAT_phase, 1)], by decide⟩,
   ⟨5, wRun [(Reg.SEQ_STAT_table, 3), (Reg.SEQ_STAT_step, 62), (Reg.SEQ_STAT_phase, 1), (Reg.SEQ_STEP_W0_op 191, 4), (Reg.SEQ_STEP_W0_idx 191, 5)], by decide⟩,
   ⟨5, (wRun [(Reg.SEQ_STAT_table, 2), (Reg.SEQ_STAT_phase, 1), (Reg.SEQ_STEP_W1_cond 64, 2), (Reg.SEQ_STEP_W1_arg 64, 13)]).updMon 13 fun m => { m with low := false }, by decide⟩,
   ⟨wRun [(Reg.SEQ_STAT_table, 1), (Reg.SEQ_STAT_phase, 1), (Reg.SEQ_STEP_W1_cond 0, 4), (Reg.SEQ_STEP_W1_arg 0, 15), (Reg.SEQ_STEP_W0_policy 0, 2)], by decide⟩,
   ⟨5, wRun [(Reg.SEQ_STAT_table, 1), (Reg.SEQ_STAT_phase, 1), (Reg.SEQ_STEP_W1_cond 0, 1), (Reg.SEQ_STEP_W1_arg 0, 13), (Reg.SEQ_STEP_W0_policy 0, 1), (Reg.SEQ_STEP_W0_op 0, 4), (Reg.SEQ_STEP_W0_idx 0, 5), (Reg.LDO_CTRL_en 5, 1), (Reg.LDO_STAT_state 5, 1)], by decide⟩,
   ⟨5, wRun [(Reg.SEQ_STAT_table, 1), (Reg.SEQ_STAT_phase, 2), (Reg.SEQ_STEP_W0_op 0, 4), (Reg.SEQ_STEP_W0_idx 0, 5)], by decide⟩,
   ⟨wRun [(Reg.SEQ_STAT_table, 1), (Reg.SEQ_STAT_phase, 1), (Reg.SEQ_STEP_W1_cond 0, 1), (Reg.SEQ_STEP_W0_policy 0, 0)], by decide⟩⟩

theorem wit_TablesEnd :
    (∃ s : State, s.ready ∧ s.live = true ∧ s.seq.ended = true ∧ s.getF Reg.SEQ_STAT_table = 1 ∧ s.st = stSTANDBY ∧ s.bit Reg.SYS_RUN_STAT_safe = false ∧ s.bit Reg.SYS_RUN_STAT_ibex = false ∧ s.bit Reg.SYS_RUN_STAT_activating = false ∧ s.bit Reg.SYS_RUN_STAT_run_req = true)
    ∧ (∃ s : State, s.ready ∧ s.live = true ∧ s.seq.ended = true ∧ s.getF Reg.SEQ_STAT_table = 2 ∧ s.st = stRUN ∧ s.bit Reg.SYS_RUN_STAT_safe = false ∧ s.bit Reg.SYS_RUN_STAT_ibex = false ∧ s.bit Reg.SYS_RUN_STAT_activating = false ∧ s.seq.rose = false ∧ s.sys.resetAfterDown = false)
    ∧ (∃ s : State, s.ready ∧ s.live = true ∧ s.seq.ended = true ∧ s.getF Reg.SEQ_STAT_table = 2 ∧ s.sys.resetAfterDown = true)
    ∧ (∃ s : State, s.ready ∧ s.live = true ∧ s.seq.ended = true ∧ s.getF Reg.SEQ_STAT_table = 3 ∧ s.st = stSAFE ∧ s.bit Reg.SYS_RUN_STAT_safe = true ∧ s.age.testing = []) :=
  ⟨⟨{ wStandby [(Reg.SEQ_STAT_table, 1), (Reg.SEQ_STAT_step, 63), (Reg.SYS_RUN_STAT_run_req, 1)] with seq := { State.reset.seq with ended := true } }, by decide⟩,
   ⟨{ wRun [(Reg.SEQ_STAT_table, 2)] with seq := { State.reset.seq with ended := true }, sys := { (wRun []).sys with run := true } }, by decide⟩,
   ⟨{ wRun [(Reg.SEQ_STAT_table, 2)] with seq := { State.reset.seq with ended := true }, sys := { (wRun []).sys with run := true, resetAfterDown := true } }, by decide⟩,
   ⟨{ wAt stSAFE .done [(Reg.SEQ_STAT_table, 3), (Reg.SYS_RUN_STAT_safe, 1), (Reg.LDO_CTRL_en 5, 1), (Reg.LDO_CTRL_en 4, 1), (Reg.SEQ_KEEP0_ldo, 16)] with seq := { State.reset.seq with ended := true } }, by decide⟩⟩

theorem wit_FirstSource :
    (∃ (k : Fin 8) (mA mV : Nat) (s : State), s.ready ∧ s.romUp = true ∧ s.railState k = rON ∧ s.railLimit k mV ≤ (mA : Rat) / 1000 ∧ s.present cRAILI k 1 = false ∧ s.bit Reg.FLT_FIRST_valid = false)
    ∧ (∃ (k : Fin 8) (mA mV : Nat) (s : State), s.ready ∧ s.romUp = true ∧ s.railState k = rON ∧ s.railLimit k mV ≤ (mA : Rat) / 1000 ∧ s.present cRAILI k 1 = false ∧ s.bit Reg.FLT_FIRST_valid = true)
    ∧ (∃ (p : Fin 2) (s : State), s.ready ∧ s.romUp = true ∧ s.service = true ∧ s.feSwitches = true ∧ s.feService = 2 ∧ ¬ s.fresh cFE ∧ s.latched = false) :=
  ⟨⟨7, 100000, 3600, wRun [(Reg.RAIL_STAT_state 7, 2), (Reg.FLT_OVF_ovf, 1), (Reg.FLT_COUNT_count, 9)], by decide +kernel⟩,
   ⟨7, 100000, 0, wRun [(Reg.RAIL_STAT_state 7, 2), (Reg.FLT_FIRST_valid, 1), (Reg.FLT_COUNT_count, 255)], by decide +kernel⟩,
   ⟨1, wRun [(Reg.FE_STAT_state, 3), (Reg.FLT_UNACK_unack, 8)], by decide⟩⟩

theorem wit_FrontEnd :
    (∃ s : State, s.ready ∧ s.feState = feFWD_START)
    ∧ (∃ s : State, s.ready ∧ s.feState = feSTOPPING ∧ s.bit Reg.FE_CTRL_fwd_en = false)
    ∧ (∃ s : State, s.ready ∧ s.feState = feCHANGE ∧ s.fe.revOrdered = true ∧ s.getF (Reg.FE_FI_fi 1) ≠ 0)
    ∧ (∃ s : State, s.ready ∧ s.feState = feCHANGE ∧ s.fe.revOrdered = false ∧ s.bit Reg.PATH_STAT_isw_closed = true ∧ s.bit Reg.FE_CTRL_fwd_en = true ∧ s.getF (Reg.FE_FI_fi 0) ≠ 0 ∧ s.pathMode ≠ pRETURN)
    ∧ (∃ s : State, s.ready ∧ s.feState = feCHANGE ∧ s.fe.revOrdered = false ∧ s.bit Reg.PATH_STAT_isw_closed = false)
    ∧ (∃ (vin : Nat) (s : State), s.ready ∧ s.feSwitches = true ∧ s.bit (pendingF .fe) = false)
    ∧ (∃ s : State, s.ready ∧ s.romUp = true ∧ s.service = true ∧ s.present cFE 2 1 = false ∧ s.feStopped = false ∧ [pHANDOVER, pHOLD, pRETURN].contains s.pathMode = false ∧ s.fresh cFE)
    ∧ (∃ s : State, s.ready ∧ s.romUp = true ∧ s.service = true ∧ s.present cFE 2 4 = false ∧ s.feStopped = false ∧ [pHANDOVER, pHOLD, pRETURN].contains s.pathMode = false ∧ s.fresh cFE)
    ∧ (∃ s : State, s.ready ∧ s.romUp = true ∧ s.feState = feREV ∧ s.fe.ovStop = false ∧ s.present cFE 2 2 = false)
    ∧ (∃ s : State, s.ready ∧ s.romUp = true ∧ s.feState = feREV ∧ s.fe.ovStop = false ∧ s.pathMode = pHOLD ∧ s.bit Reg.SYS_RUN_STAT_ibex = true ∧ s.st = stIBEX ∧ s.fresh cFE)
    ∧ (∃ s : State, s.ready ∧ s.fe.ovStop = true)
    ∧ (∃ (p : Fin 2) (s : State), s.ready ∧ s.romUp = true ∧ s.feSwitches = true ∧ s.present cFE p 3 = false)
    ∧ (∃ (p : Fin 2) (s : State), s.ready ∧ s.romUp = true ∧ s.feSwitches = true ∧ s.getF Reg.FE_STAT_ph_out = 0 ∧ s.fe.ovStop = false ∧ s.fresh cFE)
    ∧ (∃ (p : Fin 2) (mA mV : Nat) (s : State), s.ready ∧ s.romUp = true ∧ s.feSwitches = true ∧ s.feLimit mV ≤ (mA : Rat) / 1000 ∧ s.present cFE p 0 = false)
    ∧ (∃ (e : Bool) (s : State), s.ready ∧ s.feSwitches = true ∧ s.fe.ovStop = false)
    ∧ (∃ s : State, s.ready)
    ∧ (∃ s : State, s.ready)
    ∧ (∃ s : State, s.ready ∧ s.feState = feLOCKED ∧ (s.fe.lockBits.all fun f => !s.bit f) = true ∧ s.bit Reg.FE_CTRL_fwd_en = false) :=
  ⟨⟨wRun [(Reg.FE_STAT_state, 1)], by decide⟩,
   ⟨wRun [(Reg.FE_STAT_state, 5)], by decide⟩,
   ⟨{ wRun [(Reg.FE_STAT_state, 4), (Reg.FE_FI_fi 1, 5)] with fe := { State.reset.fe with revOrdered := true } }, by decide⟩,
   ⟨wRun [(Reg.FE_STAT_state, 4), (Reg.FE_FI_fi 0, 5), (Reg.FE_CTRL_fwd_en, 1), (Reg.PATH_STAT_isw_closed, 1), (Reg.PATH_STAT_mode, 1)], by decide⟩,
   ⟨wRun [(Reg.FE_STAT_state, 4)], by decide⟩,
   ⟨3200, wRun [(Reg.FE_STAT_state, 2), (Reg.FE_STAT_region, 2)], by decide⟩,
   ⟨wRun [(Reg.FE_STAT_state, 2), (Reg.CHG_STAT_phase, 4)], by decide⟩,
   ⟨wRun [(Reg.FE_STAT_state, 5)], by decide⟩,
   ⟨wRun [(Reg.FE_STAT_state, 3)], by decide⟩,
   ⟨wAt stIBEX .done [(Reg.FE_STAT_state, 3), (Reg.PATH_STAT_mode, 3), (Reg.SYS_RUN_STAT_ibex, 1)], by decide⟩,
   ⟨{ wRun [(Reg.FE_STAT_state, 3)] with fe := { State.reset.fe with ovStop := true } }, by decide⟩,
   ⟨1, wRun [(Reg.FE_STAT_state, 2)], by decide⟩,
   ⟨1, wRun [(Reg.FE_STAT_state, 2)], by decide⟩,
   ⟨1, 100000, 12000, wRun [(Reg.FE_STAT_state, 2)], by decide +kernel⟩,
   ⟨true, wRun [(Reg.FE_STAT_state, 3), (Reg.FE_STAT_de, 1)], by decide⟩,
   ⟨wRun [], by decide⟩,
   ⟨wRun [], by decide⟩,
   ⟨{ wRun [(Reg.FE_STAT_state, 6)] with fe := { State.reset.fe with lockBits := [Reg.FE_FLT_vsys_ov] } }, by decide⟩⟩

theorem wit_PowerPath :
    (∃ s : State, s.ready ∧ s.live = true ∧ s.sys.stage ≠ .dead ∧ s.stIn [stBOOT, stSTANDBY, stRUN, stIBEX, stSAFE, stACTIVATE, stRECOVERY] = true ∧ s.pathMode = pOPEN ∧ s.bit Reg.PATH_STAT_vbus_qual = false ∧ s.bit Reg.PATH_CTRL_isw_en = true ∧ s.bit Reg.PATH_STAT_dwell = false ∧ s.path.closing = none ∧ s.latched = false ∧ s.sys.sleep = none)
    ∧ (∃ s : State, s.ready ∧ s.path.closing.isSome = true ∧ s.path.opening = [] ∧ s.pathMode = pOPEN ∧ s.bit Reg.FE_CTRL_fwd_en = false)
    ∧ (∃ (c : IswCause) (s : State), s.ready ∧ s.romUp = true ∧ s.st ≠ stFAWN ∧ s.sys.sleep = none ∧ s.path.opening = [] ∧ s.bit Reg.PATH_STAT_isw_closed = true ∧ s.present cFE 3 7 = false ∧ s.present cFE 3 9 = false)
    ∧ (∃ (c : LossCause) (s : State), s.ready ∧ s.live = true ∧ s.st ≠ stFAWN ∧ ((c = .window → s.bit Reg.PATH_STAT_vbus_qual = true)) ∧ s.pathMode = pBUS ∧ s.holdsUp = true ∧ s.feState ≠ feCHANGE ∧ s.getF (Reg.FE_FI_fi 1) ≠ 0)
    ∧ (∃ (c : LossCause) (s : State), s.ready ∧ s.live = true ∧ s.st ≠ stFAWN ∧ ((c = .window → s.bit Reg.PATH_STAT_vbus_qual = true)) ∧ s.pathMode = pBUS ∧ s.holdsUp = false ∧ s.bit Reg.SYS_RUN_STAT_ibex = false)
    ∧ (∃ (us : Nat) (s : State), s.ready ∧ s.pathMode = pHANDOVER ∧ s.bit Reg.PATH_STAT_batt_present = true)
    ∧ (∃ (us : Nat) (s : State), s.ready ∧ s.romUp = true ∧ s.pathMode = pHANDOVER ∧ s.bit Reg.PATH_STAT_batt_present = true)
    ∧ (∃ s : State, s.ready ∧ s.pathMode = pHOLD ∧ s.bit Reg.PATH_STAT_vbus_qual = true ∧ s.bit Reg.PATH_CTRL_isw_en = true)
    ∧ (∃ s : State, s.ready ∧ s.returning = true ∧ s.path.opening = [] ∧ s.feState = feREV)
    ∧ (∃ s : State, s.ready ∧ s.path.closing.isSome = true ∧ s.path.opening = [] ∧ s.pathMode = pRETURN ∧ s.path.slewed = false ∧ s.feState = feREV)
    ∧ (∃ s : State, s.ready ∧ s.feState = feCHANGE ∧ s.fe.revOrdered = false ∧ s.bit Reg.PATH_STAT_isw_closed = true ∧ s.bit Reg.FE_CTRL_fwd_en = true ∧ s.getF (Reg.FE_FI_fi 0) ≠ 0 ∧ s.pathMode = pRETURN ∧ s.st = stIBEX ∧ s.bit Reg.SYS_RUN_STAT_ibex = true ∧ s.bit Reg.SYS_RUN_STAT_safe = false ∧ s.bit Reg.SYS_RUN_STAT_activating = false)
    ∧ (∃ s : State, s.ready ∧ s.romUp = true ∧ s.returning = true ∧ s.feState = feREV)
    ∧ (∃ s : State, s.ready ∧ s.romUp = true ∧ s.path.closing = some true ∧ s.pathMode = pOPEN ∧ s.bit Reg.SYS_RUN_STAT_ibex = false)
    ∧ (∃ s : State, s.ready ∧ s.romUp = true ∧ (s.pathMode = pHOLD ∨ s.pathMode = pRETURN) ∧ s.feState ≠ feLOCKED ∧ s.fresh cPATH)
    ∧ (∃ (reg : Bool) (us : Nat) (s : State), s.ready ∧ s.pathMode = pHANDOVER ∧ s.bit Reg.PATH_STAT_batt_present = false ∧ s.feState ≠ feLOCKED ∧ s.bit Reg.SYS_RUN_STAT_ibex = false)
    ∧ (∃ s : State, s.ready ∧ s.romUp = true ∧ s.st = stSAFE ∧ s.bit Reg.SYS_RUN_STAT_safe = true ∧ s.bit Reg.PATH_STAT_batt_present = true ∧ s.bit Reg.PATH_FLT_cutoff = false ∧ s.sys.gaugeAlive = false ∧ s.latched = false ∧ s.sys.sleep = none ∧ s.fresh cPATH)
    ∧ (∃ s : State, s.ready ∧ s.path.cutPending = true ∧ s.bit Reg.PATH_FLT_cutoff = true ∧ s.bit Reg.PATH_STAT_vbus_qual = true ∧ s.pathMode = pBUS) :=
  ⟨⟨wRun [(Reg.PATH_CTRL_isw_en, 1), (Reg.TEL_CH_val 35, 12000), (Reg.TEL_CH_val 34, 0)], by decide⟩,
   ⟨{ wRun [] with path := { State.reset.path with closing := some false } }, by decide⟩,
   ⟨.reversePolarity, wRun [(Reg.PATH_STAT_isw_closed, 1)], by decide⟩,
   ⟨.opening .overVoltage, wRun [(Reg.PATH_STAT_mode, 1), (Reg.PATH_STAT_isw_closed, 1), (Reg.PATH_STAT_batt_present, 1), (Reg.PATH_CTRL_ibex_en, 1), (Reg.FE_STAT_state, 2), (Reg.FE_FI_fi 1, 3)], by decide⟩,
   ⟨.window, wRun [(Reg.PATH_STAT_vbus_qual, 1), (Reg.PATH_STAT_mode, 1), (Reg.PATH_STAT_isw_closed, 1)], by decide⟩,
   ⟨65535, wRun [(Reg.PATH_STAT_mode, 2), (Reg.PATH_STAT_batt_present, 1)], by decide⟩,
   ⟨9, wRun [(Reg.PATH_STAT_mode, 2), (Reg.PATH_STAT_batt_present, 1)], by decide⟩,
   ⟨wRun [(Reg.PATH_STAT_mode, 3), (Reg.PATH_STAT_vbus_qual, 1), (Reg.PATH_STAT_dwell, 1), (Reg.PATH_CTRL_isw_en, 1)], by decide⟩,
   ⟨wRun [(Reg.PATH_STAT_mode, 4), (Reg.FE_STAT_state, 3)], by decide⟩,
   ⟨{ wRun [(Reg.PATH_STAT_mode, 4), (Reg.FE_STAT_state, 3)] with path := { State.reset.path with closing := some false } }, by decide⟩,
   ⟨wAt stIBEX .done [(Reg.PATH_STAT_mode, 4), (Reg.FE_STAT_state, 4), (Reg.PATH_STAT_isw_closed, 1), (Reg.SYS_RUN_STAT_ibex, 1), (Reg.FE_CTRL_fwd_en, 1), (Reg.FE_FI_fi 0, 2)], by decide⟩,
   ⟨wRun [(Reg.PATH_STAT_mode, 4), (Reg.FE_STAT_state, 3)], by decide⟩,
   ⟨{ wRun [] with path := { State.reset.path with closing := some true } }, by decide⟩,
   ⟨wRun [(Reg.PATH_STAT_mode, 3), (Reg.FE_STAT_state, 3)], by decide⟩,
   ⟨true, 9, wRun [(Reg.PATH_STAT_mode, 2), (Reg.FE_STAT_state, 3)], by decide⟩,
   ⟨{ wAt stSAFE .done [(Reg.PATH_STAT_batt_present, 1), (Reg.CHG_STAT_phase, 7), (Reg.SYS_RUN_STAT_safe, 1)] with sys := { (wRun []).sys with gaugeAlive := false } }, by decide⟩,
   ⟨{ wAt stSAFE .done [(Reg.PATH_FLT_cutoff, 1), (Reg.PATH_STAT_vbus_qual, 1), (Reg.PATH_STAT_mode, 1)] with path := { State.reset.path with cutPending := true } }, by decide⟩⟩

theorem wit_Charger :
    (∃ (cell : Nat) (s : State), s.ready ∧ s.chgPhase = gQUAL ∧ s.suspended = false ∧ s.causeOn cCHG 0 = false)
    ∧ (∃ s : State, s.ready ∧ s.chgPhase = gPRE ∧ s.suspended = false ∧ s.causeOn cCHG 0 = false)
    ∧ (∃ s : State, s.ready ∧ s.chgPhase = gCC ∧ s.suspended = false ∧ s.causeOn cCHG 0 = false)
    ∧ (∃ s : State, s.ready ∧ s.chgPhase = gCV ∧ s.suspended = false ∧ s.causeOn cCHG 0 = false ∧ s.getF Reg.CHG_TOPOFF_t_topoff ≠ 0 ∧ s.sys.gaugeAlive = true ∧ s.gauge.writing = none ∧ s.sys.vkeepLow = false)
    ∧ (∃ s : State, s.ready ∧ s.chgPhase = gTOPOFF ∧ s.suspended = false ∧ s.causeOn cCHG 0 = false)
    ∧ (∃ s : State, s.ready ∧ s.chgPhase = gDONE ∧ s.suspended = false ∧ s.chgBarred = false)
    ∧ (∃ (temp : Bool) (s : State), s.ready ∧ s.chgIn [gQUAL, gPRE, gCC, gCV, gTOPOFF] = true ∧ (temp = true ∨ s.suspended = true) ∧ s.chgBarred = false)
    ∧ (∃ s : State, s.ready ∧ s.chgPhase = gSUSPEND ∧ s.suspSource = false ∧ s.suspIbex = false ∧ s.suspSafe = false ∧ s.chgBarred = false)
    ∧ (∃ (c : ChgCause) (s : State), s.ready ∧ s.romUp = true ∧ s.chgIn [gQUAL, gPRE, gCC, gCV, gTOPOFF, gSUSPEND] = true ∧ ((c = .ov → s.getF Reg.PATH_STAT_bf_mode = 2)) ∧ ((c = .packUv → s.chgIn [gQUAL, gPRE] = true)) ∧ s.present cCHG 0 (match c with | .ov => 0 | .ot => 1 | .packUv => 3) = false ∧ s.fresh cCHG)
    ∧ (∃ s : State, s.ready ∧ s.romUp = true ∧ s.chgIn [gPRE, gCC, gCV] = true ∧ s.present cCHG 0 2 = false)
    ∧ (∃ s : State, s.ready ∧ s.chgPhase = gFAULT ∧ s.bit Reg.CHG_FLT_ov = false ∧ s.bit Reg.CHG_FLT_ot = false ∧ s.bit Reg.CHG_FLT_timer = false ∧ s.bit Reg.CHG_FLT_pack_uv = false ∧ s.bit Reg.CHG_FLT_removed = false ∧ s.causeOn cCHG 0 = false ∧ s.bit Reg.PATH_FLT_cutoff = false ∧ s.suspended = false)
    ∧ (∃ (v : List Int) (s : State), s.ready ∧ s.chgPhase = gTOPOFF ∧ s.bit Reg.CHG_CTRL_bal_en = true ∧ (List.range s.cells).mapM (fun k => s.chan (28 + k)) = some v)
    ∧ (∃ s : State, s.ready ∧ s.chgPhase = gTOPOFF) :=
  ⟨⟨2599, wRun [(Reg.CHG_STAT_phase, 1), (Reg.PATH_STAT_mode, 1), (Reg.FE_STAT_state, 2)], by decide⟩,
   ⟨wRun [(Reg.CHG_STAT_phase, 2), (Reg.PATH_STAT_mode, 1), (Reg.FE_STAT_state, 2)], by decide⟩,
   ⟨wRun [(Reg.CHG_STAT_phase, 3), (Reg.PATH_STAT_mode, 1), (Reg.FE_STAT_state, 2)], by decide⟩,
   ⟨wRun [(Reg.CHG_STAT_phase, 4), (Reg.PATH_STAT_mode, 1), (Reg.FE_STAT_state, 2)], by decide +kernel⟩,
   ⟨wRun [(Reg.CHG_STAT_phase, 5), (Reg.PATH_STAT_mode, 1), (Reg.FE_STAT_state, 2)], by decide⟩,
   ⟨wRun [(Reg.CHG_STAT_phase, 6), (Reg.PATH_STAT_mode, 1), (Reg.FE_STAT_state, 2)], by decide⟩,
   ⟨true, wRun [(Reg.CHG_STAT_phase, 5), (Reg.PATH_STAT_mode, 1), (Reg.FE_STAT_state, 2)], by decide⟩,
   ⟨wRun [(Reg.CHG_STAT_phase, 7), (Reg.PATH_STAT_mode, 1), (Reg.FE_STAT_state, 2), (Reg.CHG_STAT_susp_temp, 1)], by decide⟩,
   ⟨.ov, wRun [(Reg.CHG_STAT_phase, 5), (Reg.PATH_STAT_bf_mode, 2)], by decide⟩,
   ⟨wRun [(Reg.CHG_STAT_phase, 4)], by decide⟩,
   ⟨wRun [(Reg.CHG_STAT_phase, 8), (Reg.PATH_STAT_mode, 1), (Reg.FE_STAT_state, 2)], by decide⟩,
   ⟨[13000, 13000, 13100], wRun [(Reg.CHG_STAT_phase, 5), (Reg.CHG_CFG_cells, 0), (Reg.TEL_CH_val 28, 13000), (Reg.TEL_CH_val 29, 13000), (Reg.TEL_CH_val 30, 13100)], by decide⟩,
   ⟨wRun [(Reg.CHG_STAT_phase, 5), (Reg.CHG_STAT_balancing, 1)], by decide⟩⟩

theorem wit_BatteryAndGauge :
    (∃ (ntc1 : Nat) (s : State), s.ready ∧ s.live = true ∧ s.st ≠ stFAWN ∧ s.bit Reg.PATH_STAT_batt_present = false ∧ s.sys.gaugeAlive = true ∧ (ntc1 + 50) / 100 < 16)
    ∧ (∃ (bats : Nat) (s : State), s.ready ∧ s.bit Reg.PATH_STAT_batt_present = true ∧ s.path.bfBlocked = true ∧ s.gauge.ins = .counting ∧ 2000 * s.cells ≤ bats)
    ∧ (∃ (bats : Nat) (s : State), s.ready ∧ s.romUp = true ∧ s.bit Reg.PATH_STAT_batt_present = true ∧ s.path.bfBlocked = true ∧ s.gauge.ins = .counting ∧ bats < 2000 * s.cells)
    ∧ (∃ (cells : List Nat) (i : Int) (s : State), s.ready ∧ cells.length = 4 ∧ s.sys.gaugeAlive = true ∧ s.gauge.ins = .settling ∧ s.newestRecord = none)
    ∧ (∃ s : State, s.ready ∧ s.live = true ∧ s.st ≠ stFAWN ∧ s.bit Reg.PATH_STAT_batt_present = true ∧ s.chgIn [gPRE, gCC, gCV, gTOPOFF] = false ∧ s.pathMode ≠ pHOLD ∧ s.pathMode ≠ pRETURN)
    ∧ (∃ (v : Nat) (s : State), s.ready ∧ s.romUp = true ∧ s.bit Reg.PATH_STAT_batt_present = true ∧ s.chgIn [gPRE, gCC, gCV, gTOPOFF] = true ∧ s.pathMode ≠ pHOLD ∧ s.pathMode ≠ pRETURN ∧ s.present cCHG 0 4 = false)
    ∧ (∃ (nV : Int) (carry : Nat) (s : State), s.ready ∧ s.sys.vkeep = true)
    ∧ (∃ (cut : Bool) (s : State), s.ready ∧ s.live = true ∧ s.st ≠ stFAWN ∧ s.sys.gaugeAlive = false ∧ s.bit (pendingF .gauge) = false ∧ s.gauge.win.cellN ≠ 0)
    ∧ (∃ (cut : Bool) (s : State), s.ready ∧ s.live = true ∧ s.st ≠ stFAWN ∧ s.sys.gaugeAlive = true ∧ s.bit Reg.GAUGE_FLAGS_absent = false ∧ s.gauge.profileDue = false ∧ s.gauge.win.cellN ≠ 0)
    ∧ (∃ s : State, s.ready ∧ s.sys.gaugeAlive = true ∧ s.bit Reg.PATH_STAT_batt_present = true ∧ s.bit Reg.GAUGE_FLAGS_rest = false ∧ s.rested = true)
    ∧ (∃ s : State, s.ready ∧ s.sys.gaugeAlive = true ∧ s.bit Reg.GAUGE_FLAGS_rest = false ∧ s.gauge.writing = none ∧ s.sys.vkeepLow = false)
    ∧ (∃ (w : RecWrite) (s : State), s.ready ∧ s.gauge.writing = some w ∧ s.gauge.waiting = none ∧ s.mbx.taken = [] ∧ w.bytes.length ≤ 128) :=
  ⟨⟨1500, wRun [], by decide +kernel⟩,
   ⟨6000, { wRun [(Reg.PATH_STAT_batt_present, 1), (Reg.CHG_CFG_cells, 0)] with path := { State.reset.path with bfBlocked := true }, gauge := { State.reset.gauge with ins := .counting } }, by decide⟩,
   ⟨5999, { wRun [(Reg.PATH_STAT_batt_present, 1), (Reg.CHG_CFG_cells, 0)] with path := { State.reset.path with bfBlocked := true }, gauge := { State.reset.gauge with ins := .counting } }, by decide⟩,
   ⟨[33000, 33000, 33000, 0], -1, { wRun [(Reg.PATH_STAT_batt_present, 1)] with gauge := { State.reset.gauge with ins := .settling } }, by decide +kernel⟩,
   ⟨{ wRun [(Reg.PATH_STAT_batt_present, 1)] with sys := { (wRun []).sys with gaugeAlive := false } }, by decide⟩,
   ⟨1200, { wRun [(Reg.PATH_STAT_batt_present, 1), (Reg.CHG_STAT_phase, 4)] with sys := { (wRun []).sys with gaugeAlive := false } }, by decide⟩,
   ⟨-60000000, 999, wRun [], by decide +kernel⟩,
   ⟨false, { wRun [(Reg.CHG_CFG_cells, 1)] with sys := { (wRun []).sys with gaugeAlive := false }, gauge := { State.reset.gauge with win := { cellSum := [13000, 13001, 13002, 13003], cellN := 1 } } }, by decide⟩,
   ⟨true, { wRun [(Reg.PATH_STAT_batt_present, 1), (Reg.GAUGE_FLAGS_absent, 0)] with gauge := { State.reset.gauge with valid := true, cells := [⟨50, 1, 50, 1, 0, 0⟩], win := { cellSum := [13000, 13000, 13000], cellN := 1, iSum := 250, iN := 250 } } }, by decide +kernel⟩,
   ⟨{ wRun [(Reg.PATH_STAT_batt_present, 1)] with gauge := { State.reset.gauge with restS := 15300 } }, by decide⟩,
   ⟨wRun [], by decide +kernel⟩,
   ⟨⟨true, 3, []⟩, { wRun [] with gauge := { State.reset.gauge with writing := some ⟨true, 3, []⟩ } }, by decide⟩⟩

theorem wit_SleepAndWake :
    (∃ (p : Port) (tag : BitVec 6) (c : Taken) (s : State), s.ready ∧ s.turn p tag c 0x0114 [] ∧ s.st = stSTANDBY ∧ s.updIdle = true ∧ s.sys.wakePin = false ∧ s.wakeHeld = false ∧ s.sys.sleep = none ∧ s.earlyDefs = [] ∧ s.bit Reg.SYS_RUN_STAT_ibex = false)
    ∧ (∃ (p : Port) (tag : BitVec 6) (c : Taken) (s : State), s.ready ∧ s.runnable p tag c ∧ c.opcode = 0x0114 ∧ c.payload = [] ∧ s.st ≠ stSTANDBY ∧ s.sys.wakePin = false)
    ∧ (∃ (p : Port) (tag : BitVec 6) (c : Taken) (s : State), s.ready ∧ s.turn p tag c 0x0115 [] ∧ c.force = true ∧ s.mv2 35 < 6000 ∧ s.mv2 34 < 6000 ∧ s.sys.sleep = none ∧ s.earlyDefs = [] ∧ s.bit Reg.SYS_RUN_STAT_ibex = false)
    ∧ (∃ s : State, s.ready ∧ s.bit Reg.SYS_SLEEP_CFG_auto_sleep = true ∧ s.st = stSTANDBY ∧ s.romUp = true ∧ s.bit Reg.SYS_RUN_STAT_run_req = false ∧ (s.bit Reg.SYS_WAKE_EN_en_run && s.sys.wakeEnRun) = false ∧ (s.bit Reg.SYS_WAKE_EN_vbus && s.sys.wakeVbus) = false ∧ s.mbx.taken = [] ∧ s.mbx.hostStamps = [] ∧ s.mbx.sidePosts = [] ∧ s.updIdle = true ∧ s.chgIn [gPRE, gCC, gCV, gTOPOFF] = false ∧ s.sys.sleep = none ∧ s.earlyDefs = [] ∧ s.bit Reg.SYS_RUN_STAT_ibex = false)
    ∧ (∃ (d : Fin 4) (s : State), s.ready ∧ s.romUp = true ∧ (s.sys.sleep.any fun p => p.discharging.contains d) = true)
    ∧ (∃ (p : Sleep) (s : State), s.ready ∧ s.sys.sleep = some p ∧ s.st ≠ stFAWN ∧ s.tel.copies = [] ∧ s.age.testing = [])
    ∧ (∃ s : State, s.ready ∧ s.asleep = true)
    ∧ (∃ s : State, s.ready ∧ s.asleep = true ∧ s.bit Reg.SYS_WAKE_EN_wake = true)
    ∧ (∃ s : State, s.ready ∧ s.asleep = true ∧ s.getF Reg.SYS_WAKE_TIMER_period ≠ 0)
    ∧ (∃ (nV : Int) (carry : Nat) (s : State), s.ready ∧ s.asleep = true ∧ s.getF Reg.SYS_WAKE_DQ_dq = 0)
    ∧ (∃ (nV : Int) (carry : Nat) (s : State), s.ready ∧ s.asleep = true ∧ s.getF Reg.SYS_WAKE_DQ_dq ≠ 0 ∧ (s.getF Reg.SYS_WAKE_DQ_dq : Int) * 3600000 < -((s.takeSample nV carry).chargeQ - s.sys.fawnQ0))
    ∧ (∃ (p : Sleep) (s : State), s.ready ∧ s.live = true ∧ s.st = stSTANDBY ∧ s.sys.sleep = some p ∧ p.edge = none ∧ s.bit Reg.SYS_WAKE_EN_wake = true ∧ s.bit Reg.CHG_CTRL_en = false ∧ s.bit Reg.PATH_CTRL_isw_en = false ∧ s.bit Reg.FE_CTRL_fwd_en = false)
    ∧ (∃ s : State, s.ready ∧ s.sys.ship = .latched)
    ∧ (∃ s : State, s.ready ∧ s.sys.ship = .armed ∧ s.sys.vkeep = true) :=
  ⟨⟨.host, 63, wC .host 0x0114 [], wWith (wC .host 0x0114 []) (wStandby [(Reg.CHG_STAT_phase, 3), (Reg.FE_STAT_state, 2), (Reg.PATH_STAT_isw_closed, 1), (Reg.PATH_STAT_mode, 1)]), by decide⟩,
   ⟨.host, 63, wC .host 0x0114 [], wWith (wC .host 0x0114 []) (wRun []), by decide⟩,
   ⟨.side, 3, { wC .side 0x0115 [] with force := true }, wWith { wC .side 0x0115 [] with force := true } (wStandby []), by decide⟩,
   ⟨wStandby [(Reg.SYS_SLEEP_CFG_auto_sleep, 1)], by decide⟩,
   ⟨3, { wStandby [] with sys := { (wStandby []).sys with sleep := some ⟨false, [3], none⟩ } }, by decide⟩,
   ⟨⟨true, [], none⟩, { wStandby [(Reg.RAIL_STAT_state 7, 2), (Reg.LDO_STAT_state 5, 2), (Reg.ISO_STAT_state 11, 3), (Reg.SYS_STATE_host_lost, 1)] with sys := { (wStandby []).sys with sleep := some ⟨true, [], none⟩ } }, by decide +kernel⟩,
   ⟨{ wAt stFAWN .done [] with sys := { (wAt stFAWN .done []).sys with ctlAlive := false } }, by decide⟩,
   ⟨wAt stFAWN .done [(Reg.SYS_WAKE_EN_wake, 1)], by decide⟩,
   ⟨wAt stFAWN .done [(Reg.SYS_WAKE_TIMER_period, 1)], by decide⟩,
   ⟨-60000000, 5, wAt stFAWN .done [], by decide⟩,
   ⟨0, 0, { wAt stFAWN .done [(Reg.SYS_WAKE_DQ_dq, 1)] with sys := { (wStandby []).sys with fawnQ0 := 3600001 } }, by decide +kernel⟩,
   ⟨⟨false, [], none⟩, { wStandby [(Reg.SYS_WAKE_EN_wake, 1), (Reg.PATH_STAT_batt_present, 1), (Reg.PATH_CTRL_isw_en, 0), (Reg.FE_CTRL_fwd_en, 0)] with sys := { (wStandby []).sys with sleep := some ⟨false, [], none⟩ } }, by decide⟩,
   ⟨{ wAt stFAWN .done [] with sys := { (wStandby []).sys with ship := .latched } }, by decide⟩,
   ⟨{ wAt stFAWN .done [] with sys := { (wStandby []).sys with ship := .armed } }, by decide⟩⟩

theorem wit_SafeAndLatch :
    (∃ s : State, s.ready ∧ s.romUp = true ∧ s.st = stRUN ∧ s.bit Reg.PATH_STAT_batt_present = true ∧ s.bit Reg.PATH_FLT_cutoff = false ∧ s.fresh cPATH ∧ s.bit Reg.SYS_RUN_STAT_safe = false ∧ s.latched = false ∧ s.getF Reg.SEQ_STAT_table = 0 ∧ s.sys.sleep = none ∧ s.bit (pendingF .seq) = false ∧ s.getF (Reg.SEQ_STEP_W0_op 128) = 0)
    ∧ (∃ s : State, s.ready ∧ s.romUp = true ∧ s.st = stRUN ∧ s.bit Reg.PATH_STAT_batt_present = true ∧ s.bit Reg.PATH_FLT_cutoff = false ∧ ¬ s.fresh cPATH ∧ s.getF Reg.SEQ_STAT_table = 0 ∧ s.sys.sleep = none ∧ s.bit Reg.SYS_RUN_STAT_ibex = false)
    ∧ (∃ s : State, s.ready ∧ s.path.cutPending = true ∧ s.bit Reg.PATH_FLT_cutoff = true ∧ s.bit Reg.PATH_STAT_vbus_qual = false ∧ s.pathMode = pOPEN) :=
  ⟨⟨wRun [(Reg.PATH_STAT_batt_present, 1), (Reg.CHG_STAT_phase, 3)], by decide +kernel⟩,
   ⟨wRun [(Reg.PATH_STAT_batt_present, 1), (Reg.FLT_UNACK_unack, 16), (Reg.RAIL_STAT_state 7, 2), (Reg.PATH_STAT_isw_closed, 1), (Reg.PATH_STAT_mode, 1)], by decide +kernel⟩,
   ⟨{ wAt stSAFE .done [(Reg.PATH_FLT_cutoff, 1)] with path := { State.reset.path with cutPending := true } }, by decide⟩⟩

theorem wit_Telemetry :
    (∃ (r : ScanRound) (q : SnapReq) (s : State), s.ready ∧ r.wf = true ∧ s.live = true ∧ s.st ≠ stFAWN ∧ s.tel.snap = some q ∧ q.copy = false ∧ s.tel.req = none ∧ s.age.testing = [] ∧ (s.mbx.taken.all fun c => c.wait != .inRound) = true ∧ trioOf (signed 16 (r.chan.getD 72 0).toNat) (signed 16 (r.chan.getD 73 0).toNat) (signed 16 (r.chan.getD 74 0).toNat) = .agree)
    ∧ (∃ (c : Copy) (i : Nat) (s : State), s.ready ∧ s.live = true ∧ s.tel.copies = [c] ∧ c.slot = some i ∧ i < 8 ∧ s.sys.vkeepLow = false)
    ∧ (∃ (vs : List Word) (s : State), s.ready ∧ s.romUp = true ∧ s.bit Reg.TEL_STR_CTRL_en = true ∧ s.getF Reg.TEL_STR_DEC_dec = 1 ∧ s.tel.strRounds = [vs] ∧ vs.length = s.strChans.length ∧ s.getF Reg.TEL_STR_PROD_off + s.recLen ≤ 32768 ∧ s.strFilled + s.recLen ≤ 32768)
    ∧ (∃ s : State, s.ready ∧ s.romUp = true ∧ s.bit Reg.TEL_STR_CTRL_en = true ∧ s.tel.strRounds.length = s.getF Reg.TEL_STR_DEC_dec ∧ 32768 - s.strFilled < s.recLen) :=
  ⟨⟨⟨List.replicate 128 5, List.replicate 16 0, List.replicate 4 [25, 25, 25, 25], wBits⟩, ⟨0x8000, none, false, 0⟩, { wRun [] with tel := { State.reset.tel with snap := some ⟨0x8000, none, false, 0⟩, snapSeq := 31 } }, by decide +kernel⟩,
   ⟨⟨9, 0, some 7⟩, 7, { wRun [] with tel := { State.reset.tel with copies := [⟨9, 0, some 7⟩] } }, by decide +kernel⟩,
   ⟨[0x8000], { wRun [(Reg.TEL_STR_CTRL_en, 1), (Reg.TEL_STR_DEC_dec, 1), (Reg.TEL_STR_SEL_sel 7, 0x8000), (Reg.TEL_STR_PROD_off, 32756), (Reg.TEL_STR_CONS_off, 32756)] with tel := { State.reset.tel with strRounds := [[0x8000]] } }, by decide +kernel⟩,
   ⟨{ wRun [(Reg.TEL_STR_CTRL_en, 1), (Reg.TEL_STR_DEC_dec, 1), (Reg.TEL_STR_PROD_wrap, 1), (Reg.TEL_STR_STAT_ovf, 65535)] with tel := { State.reset.tel with strRounds := [[]] } }, by decide⟩⟩

theorem wit_SideBand :
    (∃ (h : SbHead) (m d : Word) (s : State), s.ready ∧ s.sbUp = true ∧ s.sys.sleep = none ∧ s.sbNoPec h = false ∧ h.ending = .complete ∧ s.opens .side 0x58)
    ∧ (∃ (h : SbHead) (m d : Word) (s : State), s.ready ∧ s.sbUp = true ∧ s.sys.sleep = none ∧ s.sbNoPec h = false ∧ h.ending = .complete ∧ s.accessRefusal .side 0x58 [] = some Reg.REG_ERR_lease)
    ∧ (∃ (h : SbHead) (o : Word) (bytes : List Byte) (s : State), s.ready ∧ s.sbUp = true ∧ s.sys.sleep = none ∧ s.sbNoPec h = false ∧ h.ending = .complete ∧ o.toNat % 4 = 0 ∧ bytes.length % 4 = 0 ∧ 4 ≤ bytes.length ∧ bytes.length ≤ 32 ∧ o.toNat + bytes.length ≤ 0x1000)
    ∧ (∃ (h : SbHead) (desc : List Byte) (s : State), s.ready ∧ s.sbUp = true ∧ s.sys.sleep = none ∧ s.sbNoPec h = false ∧ h.ending = .complete ∧ desc.length = 32 ∧ (desc.headD 0).toNat ≤ 3 ∧ s.sideTags.contains (desc.headD 0).toNat = false)
    ∧ (∃ (h : SbHead) (addr : BitVec 24) (s : State), s.ready ∧ s.sbUp = true ∧ s.sys.sleep = none ∧ s.sbNoPec h = false ∧ h.ending = .complete ∧ h.pec = false ∧ h.clocked = 2 ∧ addr.toNat % 4 = 0 ∧ addr.toNat < 0x3104 ∧ multiword addr.toNat = none)
    ∧ (∃ (h : SbHead) (addr : BitVec 24) (s : State), s.ready ∧ s.sbUp = true ∧ s.sys.sleep = none ∧ s.sbNoPec h = false ∧ h.ending = .complete ∧ h.pec = false ∧ h.clocked = 4 ∧ addr.toNat % 4 = 0 ∧ 0x70000 ≤ addr.toNat ∧ addr.toNat < 0x72000)
    ∧ (∃ (h : SbHead) (o : Word) (n : Byte) (s : State), s.ready ∧ s.sbUp = true ∧ s.sys.sleep = none ∧ s.sbNoPec h = false ∧ h.ending = .complete ∧ h.pec = false ∧ h.clocked = n.toNat ∧ o.toNat % 4 = 0 ∧ 4 ≤ n.toNat ∧ n.toNat ≤ 32 ∧ o.toNat + n.toNat ≤ 0x1000)
    ∧ (∃ (h : SbHead) (r : SideResp) (s : State), s.ready ∧ s.sbUp = true ∧ s.sys.sleep = none ∧ s.sbNoPec h = false ∧ h.ending = .complete ∧ h.pec = false ∧ h.clocked = 33 ∧ s.mbx.sideResps.head? = some r ∧ r.entry.length = 32)
    ∧ (∃ (h : SbHead) (s : State), s.ready ∧ s.sbUp = true ∧ s.sys.sleep = none ∧ s.sbNoPec h = false ∧ h.ending = .complete ∧ h.pec = false ∧ h.clocked = 2)
    ∧ (∃ (h : SbHead) (route reason : Nat) (s : State), s.ready ∧ s.sbUp = true ∧ s.sys.sleep = none ∧ s.sbNoPec h = false ∧ h.ending = .complete ∧ h.pec = false ∧ h.clocked = 4 ∧ s.sb.ds.head? = some (route, reason))
    ∧ (∃ (h : SbHead) (s : State), s.ready ∧ s.sbUp = true ∧ s.sys.sleep = none ∧ s.sbNoPec h = false ∧ h.ending = .complete ∧ h.pec = false ∧ h.clocked = 4)
    ∧ (∃ s : State, s.ready ∧ s.sbUp = true ∧ s.sys.sleep = none ∧ s.bit Reg.SB_CFG_ara_en = true ∧ s.bit Reg.SB_CFG_bleat_pec = false ∧ s.sbAlert = true)
    ∧ (∃ s : State, s.ready ∧ s.enumUp = true ∧ s.sys.sleep = none)
    ∧ (∃ s : State, s.ready ∧ s.enumUp = true ∧ s.sys.sleep = none ∧ s.getF Reg.SB_ADDR_src ≠ 1)
    ∧ (∃ (uid : BitVec 64) (index : BitVec 6) (s : State), s.ready ∧ s.enumUp = true ∧ s.sys.sleep = none ∧ uid.toNat = s.uid)
    ∧ (∃ (w : Bool) (s : State), s.ready ∧ s.sbUp = true ∧ s.romUp = true ∧ s.present cCOMM 1 0 = false)
    ∧ (∃ (w : Bool) (s : State), s.ready ∧ s.sbUp = true ∧ s.romUp = true ∧ s.present cCOMM 1 0 = false)
    ∧ (∃ s : State, s.ready ∧ s.mayBleat = true)
    ∧ (∃ (i : Fin 7) (s : State), s.ready ∧ s.sb.pulsed = true ∧ s.sbUp = true ∧ s.bleatBit = some i.val ∧ s.bit Reg.SB_CFG_bleat_pec = false ∧ i.val ≠ rqDOWNSTREAM)
    ∧ (∃ s : State, s.ready ∧ s.sb.pulsed = true ∧ s.sbUp = true ∧ s.sb.unanswered = 7) :=
  ⟨⟨⟨false, .complete, 0⟩, 0xFF00, 0x1234, wRun [(Reg.SYS_STATE_host_lost, 1)], by decide⟩,
   ⟨⟨true, .complete, 0⟩, 0xFF00, 0x1234, wRun [], by decide⟩,
   ⟨⟨false, .complete, 0⟩, 0xFFC, [1, 2, 3, 4], wRun [], by decide⟩,
   ⟨⟨false, .complete, 0⟩, wSideDesc 0x0110, wRun [(Reg.SYS_STATE_host_lost, 1)], by decide⟩,
   ⟨⟨false, .complete, 2⟩, 0x3000, wRun [(Reg.FLT_FIRST_valid, 1)], by decide⟩,
   ⟨⟨false, .complete, 4⟩, 0x70000, wRun [], by decide⟩,
   ⟨⟨false, .complete, 32⟩, 0xFE0, 32, { wRun [] with sbBuf := [(0xFE0, 7)] }, by decide⟩,
   ⟨⟨false, .complete, 33⟩, ⟨2, List.replicate 32 5⟩, { wRun [] with mbx := { State.reset.mbx with sideResps := [⟨2, List.replicate 32 5⟩] } }, by decide⟩,
   ⟨⟨false, .complete, 2⟩, wRun [], by decide⟩,
   ⟨⟨false, .complete, 4⟩, 0x40005, 9, { wRun [] with sb := { State.reset.sb with ds := [(0x40005, 9)] } }, by decide⟩,
   ⟨⟨false, .complete, 4⟩, wRun [(Reg.SB_REQ_req, 255)], by decide⟩,
   ⟨wRun [(Reg.SB_CFG_ara_en, 1), (Reg.SB_CFG_alert_en, 1), (Reg.SB_REQ_req, 1), (Reg.SB_REQ_EN_en, 1), (Reg.SB_ADDR_src, 1), (Reg.SB_ADDR_index, 63)], by decide⟩,
   ⟨wRun [(Reg.SB_CFG_enum_en, 1)], by decide⟩,
   ⟨wRun [(Reg.SB_CFG_enum_en, 1)], by decide⟩,
   ⟨0, 63, wRun [(Reg.SB_CFG_enum_en, 1)], by decide⟩,
   ⟨true, wRun [], by decide⟩,
   ⟨true, wRun [(Reg.SB_ADDR_src, 1)], by decide⟩,
   ⟨wRun [(Reg.SB_CFG_bleat_en, 1), (Reg.SB_REQ_req, 128), (Reg.SB_REQ_EN_en, 255)], by decide⟩,
   ⟨3, { wRun [(Reg.SB_CFG_bleat_en, 1), (Reg.SB_REQ_req, 136), (Reg.SB_REQ_EN_en, 255)] with sb := { State.reset.sb with pulsed := true, unanswered := 3 } }, by decide⟩,
   ⟨{ wRun [(Reg.SB_CFG_bleat_en, 1), (Reg.SB_REQ_req, 136), (Reg.SB_REQ_EN_en, 255)] with sb := { State.reset.sb with pulsed := true, unanswered := 7 } }, by decide⟩⟩

theorem wit_Herds :
    (∃ (p : HerdPort) (s : State), s.ready ∧ s.herdRuns p = true ∧ s.present cCOMM (2 + (herdBit p).toNat) 0 = false)
    ∧ (∃ (p : HerdPort) (s : State), s.ready ∧ s.herdRuns p = true ∧ s.bit (herdFault p) = true)
    ∧ (∃ (p : HerdPort) (i : BitVec 6) (r : Byte) (s : State), s.ready ∧ s.herdRuns p = true ∧ s.sb.raw.length < 4)
    ∧ (∃ (route : BitVec 20) (r : Byte) (x : RawBleat) (s : State), s.ready ∧ s.firmware ∧ s.bridge = true ∧ s.sb.raw.head? = some x ∧ x.reason ≠ rqDOWNSTREAM + 1 ∧ s.sb.ds.length < 16)
    ∧ (∃ (route : BitVec 20) (r : Byte) (x : RawBleat) (s : State), s.ready ∧ s.firmware ∧ s.bridge = true ∧ s.sb.raw.head? = some x ∧ x.reason = rqDOWNSTREAM + 1 ∧ s.sb.ds.length < 16 ∧ 0 < route.toNat / 2 ^ 18 ∧ route.toNat / 2 ^ 18 < 3)
    ∧ (∃ (p : Port) (tag : BitVec 6) (a b : List Byte) (c : Taken) (s : State), s.ready ∧ s.turn p tag c 0x1010 [2, 0, 0, 0] ∧ c.fits 4 = true ∧ s.herdUp true = true ∧ b.length ≤ 32)
    ∧ (∃ (p : Port) (tag hop : BitVec 6) (d : List Byte) (c : Taken) (s : State), s.ready ∧ s.turn p tag c 0x1011 (leBytes 4 (2 ^ 18 + hop.toNat) ++ [0, 0, 0, 0] ++ d) ∧ d.length = 32 ∧ remotePtr d = 0 ∧ remoteCap d = 0 ∧ c.rptr = true ∧ 32 ≤ c.rcap ∧ s.bit (Reg.SB_CHILD_valid hop.toNat) = true)
    ∧ (∃ (p : Port) (tag : BitVec 6) (entry payload : List Byte) (c : Taken) (s : State), s.ready ∧ s.mbxRuns = true ∧ s.forwarding p tag = some c ∧ entry.length = 32 ∧ c.fits (32 + payload.length) = true ∧ c.rcap < 0x10000 ∧ c.rptr = true ∧ ((p = .host → 0x41000 ≤ c.raddr ∧ c.raddr + c.rcap ≤ 0x44000)))
    ∧ (∃ (p : Port) (tag : BitVec 6) (c : Taken) (s : State), s.ready ∧ s.mbxRuns = true ∧ s.forwarding p tag = some c ∧ ((p = .host → c.rptr = true → 0x41000 ≤ c.raddr ∧ c.raddr + c.rcap ≤ 0x44000))) :=
  ⟨⟨.b, wRun [(Reg.SB_HERD_CFG_bridge_en, 1), (Reg.SB_HERD_STAT_pres_b, 1)], by decide⟩,
   ⟨.a, wRun [(Reg.SB_HERD_CFG_bridge_en, 1), (Reg.SB_HERD_STAT_pres_a, 1), (Reg.SB_HERD_STAT_fault_a, 1)], by decide⟩,
   ⟨.b, 63, 255, { wRun [(Reg.SB_HERD_CFG_bridge_en, 1), (Reg.SB_HERD_STAT_pres_b, 1)] with sb := { State.reset.sb with raw := [⟨.a, 0, 1⟩, ⟨.a, 1, 1⟩, ⟨.a, 2, 1⟩] } }, by decide⟩,
   ⟨0, 0, ⟨.b, 63, 3⟩, { wRun [(Reg.SB_HERD_CFG_bridge_en, 1), (Reg.SB_HERD_STAT_pres_b, 1)] with sb := { State.reset.sb with raw := [⟨.b, 63, 3⟩] } }, by decide⟩,
   ⟨0x80FFF, 4, ⟨.b, 63, 6⟩, { wRun [(Reg.SB_HERD_CFG_bridge_en, 1), (Reg.SB_HERD_STAT_pres_b, 1)] with sb := { State.reset.sb with raw := [⟨.b, 63, 6⟩] } }, by decide⟩,
   ⟨.host, 63, [3, 4], [9, 9], wC .host 0x1010 [2, 0, 0, 0], wWith (wC .host 0x1010 [2, 0, 0, 0]) (wRun [(Reg.SB_HERD_CFG_bridge_en, 1), (Reg.SB_HERD_STAT_pres_b, 1)]), by decide⟩,
   ⟨.host, 63, 63, List.replicate 32 0, wCr .host 0x1011 (leBytes 4 (2 ^ 18 + 63) ++ [0, 0, 0, 0] ++ List.replicate 32 0), wWith (wCr .host 0x1011 (leBytes 4 (2 ^ 18 + 63) ++ [0, 0, 0, 0] ++ List.replicate 32 0)) (wRun [(Reg.SB_CHILD_valid 63, 1)]), by decide⟩,
   ⟨.side, 3, List.replicate 32 5, [7, 8], { wCr .side 0x1011 [] with wait := .forward }, wWith { wCr .side 0x1011 [] with wait := .forward } (wRun []), by decide⟩,
   ⟨.host, 63, { wCr .host 0x1011 [] with wait := .forward }, wWith { wCr .host 0x1011 [] with wait := .forward } (wRun []), by decide⟩⟩

theorem wit_Updates :
    (∃ (p : Port) (tag : BitVec 6) (b : Bool) (c : Taken) (s : State), s.ready ∧ s.runnable p tag c ∧ c.opcode = 0x0E10 ∧ s.admits c = true ∧ s.sys.vkeepLow = false ∧ c.badLen 256 = false ∧ c.fits 4 = true ∧ hdrForm c.payload = true ∧ hdrType c.payload = 3 ∧ s.keyUsable (hdrKey c.payload) = true ∧ s.updBusy = false ∧ hdrLen c.payload ≤ largestOf 3 ∧ s.herdOk (hdrHerd c.payload) = true ∧ s.upd.running = some b)
    ∧ (∃ (p : Port) (tag : BitVec 6) (off : Nat) (bs : List Byte) (c : Taken) (s : State), s.ready ∧ s.turn p tag c 0x0E11 (leBytes 4 off ++ bs) ∧ s.sys.vkeepLow = false ∧ s.getF Reg.UPD_STAT_state = 1 ∧ s.getF Reg.UPD_STAT_type = 1 ∧ s.getF Reg.UPD_STAT_port = portCode p ∧ c.ptr = true ∧ c.fits 4 = true ∧ bs.length % 4 = 0 ∧ 4 ≤ bs.length ∧ bs.length ≤ 1024 ∧ s.rxBytes = off ∧ off % 1024 = 0 ∧ (bs.length = 1024 ∨ off + bs.length = hdrLen s.upd.hdr) ∧ off + bs.length ≤ hdrLen s.upd.hdr ∧ hdrLen s.upd.hdr ≤ largestBody false)
    ∧ (∃ (p : Port) (tag : BitVec 6) (c : Taken) (s : State), s.ready ∧ s.turn p tag c 0x0E12 [] ∧ s.sys.vkeepLow = false ∧ s.st ≠ stRECOVERY ∧ s.getF Reg.UPD_STAT_state = 1 ∧ s.getF Reg.UPD_STAT_type = 3 ∧ s.getF Reg.UPD_STAT_port = portCode p ∧ hdrLen s.upd.hdr ≤ s.rxBytes ∧ s.areaReady s.target false = true ∧ s.areaReady s.target true = true)
    ∧ (∃ (p : Port) (tag : BitVec 6) (c : Taken) (s : State), s.ready ∧ s.turn p tag c 0x0E13 [] ∧ s.st = stIBEX ∧ c.force = false ∧ s.bit Reg.UPD_STAT_verified = true ∧ s.getF Reg.UPD_STAT_state = 1 ∧ s.getF Reg.UPD_STAT_port = portCode p ∧ s.getF Reg.UPD_STAT_type = 2 ∧ pairOk (s.header s.target false) (s.header s.target true) = true ∧ s.bit Reg.SYS_RUN_STAT_ibex = true)
    ∧ (∃ (p : Port) (tag : BitVec 6) (c : Taken) (s : State), s.ready ∧ s.turn p tag c 0x0E13 [] ∧ s.st = stRUN ∧ s.sys.vkeepLow = false ∧ s.mbx.taken = [c] ∧ s.bit Reg.UPD_STAT_verified = true ∧ s.getF Reg.UPD_STAT_state = 1 ∧ s.getF Reg.UPD_STAT_port = portCode p ∧ s.getF Reg.UPD_STAT_type = 2 ∧ pairOk (s.header s.target false) (s.header s.target true) = true ∧ s.bit Reg.SYS_RUN_STAT_ibex = false ∧ s.bit Reg.SYS_RUN_STAT_safe = false)
    ∧ (∃ (p : Port) (tag : BitVec 6) (c : Taken) (s : State), s.ready ∧ s.turn p tag c 0x0E14 [] ∧ s.sys.vkeepLow = false ∧ s.getF Reg.UPD_STAT_state = 1 ∧ s.getF Reg.UPD_STAT_port = portCode p)
    ∧ (∃ (p : Port) (tag : BitVec 6) (c : Taken) (s : State), s.ready ∧ s.turn p tag c 0x0E14 [] ∧ s.getF Reg.UPD_STAT_state = 2)
    ∧ (∃ s : State, s.ready ∧ s.romUp = true ∧ s.sys.vkeepLow = false ∧ s.getF Reg.UPD_STAT_state = 1) :=
  ⟨⟨.host, 63, true, { wC .host 0x0E10 (wHdr 3) with ptr := true }, { wWith { wC .host 0x0E10 (wHdr 3) with ptr := true } (wRun []) with upd := { State.reset.upd with running := some true }, otp := { State.reset.otp with words := [(1024, 7)] } }, by decide +kernel, ⟨rfl, by decide +kernel⟩, by decide +kernel⟩,
   ⟨.side, 3, 1024, [1, 2, 3, 4], { wC .side 0x0E11 (leBytes 4 1024 ++ [1, 2, 3, 4]) with ptr := true }, { wWith { wC .side 0x0E11 (leBytes 4 1024 ++ [1, 2, 3, 4]) with ptr := true } (wRun [(Reg.UPD_STAT_state, 1), (Reg.UPD_STAT_type, 1), (Reg.UPD_STAT_port, 1), (Reg.UPD_STAT_target, 1), (Reg.UPD_RX_bytes 0, 1024)]) with upd := { State.reset.upd with hdr := padTo 256 (List.replicate 16 0 ++ leBytes 4 1028) } }, by decide +kernel⟩,
   ⟨.host, 63, wC .host 0x0E12 [], { wWith (wC .host 0x0E12 []) (wRun [(Reg.UPD_STAT_state, 1), (Reg.UPD_STAT_type, 3)]) with mram := wImage false false (wImage false true []), otp := { State.reset.otp with words := [(1024, 7)] } }, by decide +kernel⟩,
   ⟨.host, 63, wC .host 0x0E13 [], { wWith (wC .host 0x0E13 []) (wAt stIBEX .done [(Reg.SYS_RUN_STAT_ibex, 1), (Reg.UPD_STAT_state, 1), (Reg.UPD_STAT_type, 2), (Reg.UPD_STAT_verified, 1)]) with mram := wImage false false (wImage false true []) }, by decide +kernel⟩,
   ⟨.host, 63, wC .host 0x0E13 [], { wWith (wC .host 0x0E13 []) (wRun [(Reg.UPD_STAT_state, 1), (Reg.UPD_STAT_type, 2), (Reg.UPD_STAT_verified, 1)]) with mram := wImage false false (wImage false true []) }, by decide +kernel⟩,
   ⟨.side, 3, wC .side 0x0E14 [], wWith (wC .side 0x0E14 []) (wRun [(Reg.UPD_STAT_state, 1), (Reg.UPD_STAT_port, 1), (Reg.UPD_STAT_deferred, 1), (Reg.UPD_STAT_target, 1)]), by decide +kernel⟩,
   ⟨.host, 63, wC .host 0x0E14 [], wWith (wC .host 0x0E14 []) (wRun [(Reg.UPD_STAT_state, 2)]), by decide⟩,
   ⟨wRun [(Reg.UPD_STAT_state, 1), (Reg.UPD_STAT_target, 1)], by decide +kernel⟩⟩

theorem wit_FusesAndMemory :
    (∃ (p : Port) (tag : BitVec 6) (r i v : Nat) (c : Taken) (s : State), s.ready ∧ s.turn p tag c 0x0D10 (leBytes 1 r ++ [0] ++ leBytes 2 i ++ leBytes 2 v ++ [0, 0]) ∧ c.force = true ∧ c.fits 2 = true ∧ s.otpReady c = true ∧ s.otpPolicy p = true ∧ r < 7 ∧ r ≠ 2 ∧ r ≠ 3 ∧ i < otpWords r ∧ v < 0x10000 ∧ bitOf s.otp.wlock r = false ∧ s.fuse r i = 0 ∧ v ≠ 0)
    ∧ (∃ (p : Port) (tag : BitVec 6) (x : Nat) (c : Taken) (s : State), s.ready ∧ s.turn p tag c 0x0D10 ([3, 0] ++ leBytes 2 (7 + x) ++ [10, 0, 0, 0]) ∧ c.force = true ∧ c.fits 2 = true ∧ s.otpReady c = true ∧ s.otpPolicy p = true ∧ 0 < x ∧ x < 9 ∧ bitOf s.otp.wlock 3 = false ∧ s.fuse 3 (7 + x) = 0)
    ∧ (∃ (p : Port) (tag : BitVec 6) (r : Nat) (rb : Word) (c : Taken) (s : State), s.ready ∧ s.turn p tag c 0x0D10 (leBytes 1 r ++ [0, 0, 0, 1, 0, 0, 0]) ∧ c.force = true ∧ c.fits 2 = true ∧ s.otpReady c = true ∧ s.otpPolicy p = true ∧ r < 7 ∧ r ≠ 2 ∧ r ≠ 3 ∧ bitOf s.otp.wlock r = false ∧ s.fuse r 0 = 0 ∧ rb ≠ 1)
    ∧ (∃ (p : Port) (tag : BitVec 6) (r : Nat) (rb : Word) (c : Taken) (s : State), s.ready ∧ s.turn p tag c 0x0D10 (leBytes 1 r ++ [0, 0, 0, 1, 0, 0, 0]) ∧ c.force = true ∧ c.fits 2 = true ∧ s.otpReady c = true ∧ r < 7 ∧ r ≠ 2 ∧ r ≠ 3 ∧ bitOf s.otp.wlock r = true)
    ∧ (∃ (p : Port) (tag : BitVec 6) (r : Nat) (c : Taken) (s : State), s.ready ∧ s.turn p tag c 0x0D11 (leBytes 1 r ++ [3, 0, 0]) ∧ c.force = true ∧ s.otpReady c = true ∧ s.otpPolicy p = true ∧ r < 7 ∧ bitOf s.otp.wlock r = false ∧ bitOf s.otp.rlock r = false)
    ∧ (∃ s : State, s.ready ∧ s.ageRuns = true ∧ s.sys.vkeepLow = false)
    ∧ (∃ (i : Fin 128) (s : State), s.ready ∧ s.ageRuns = true ∧ s.sys.vkeepLow = false ∧ s.fresh cFUSE ∧ s.present cFUSE 0 0 = false ∧ ((List.range 8).filter fun r => !(badKeys [i.val] r).isEmpty) = [0])
    ∧ (∃ (i : Fin 128) (s : State), s.ready ∧ s.ageRuns = true ∧ s.sys.vkeepLow = false ∧ s.otp.retry = true ∧ s.fresh cFUSE ∧ s.present cFUSE 0 0 = false ∧ ((List.range 8).filter fun r => !(badKeys [i.val] r).isEmpty) = [0])
    ∧ (∃ (a : Nat) (s : State), s.ready ∧ s.romUp = true ∧ s.sys.vkeep = true ∧ a < 0x200000 ∧ s.fresh cMEM ∧ s.present cMEM 0 0 = false)
    ∧ (∃ (b : Fin 8) (row : Nat) (s : State), s.ready ∧ s.romUp = true ∧ s.sys.vkeep = true ∧ s.fresh cMEM ∧ s.present cMEM (1 + b.val) 0 = false)
    ∧ (∃ (a : Nat) (s : State), s.ready ∧ s.romUp = true ∧ s.sys.vkeep = true ∧ a < mSTORE ∧ s.fresh cMEM ∧ s.present cMEM 0 0 = false) :=
  ⟨⟨.host, 63, 5, 255, 0xFFFF, { wC .host 0x0D10 [5, 0, 255, 0, 255, 255, 0, 0] with force := true }, wWith { wC .host 0x0D10 [5, 0, 255, 0, 255, 255, 0, 0] with force := true } (wStandby [(Reg.TEL_CH_val 46, 1050), (Reg.TEL_CH_val 47, 0x8000)]), by decide⟩,
   ⟨.host, 63, 1, { wC .host 0x0D10 [3, 0, 8, 0, 10, 0, 0, 0] with force := true }, wWith { wC .host 0x0D10 [3, 0, 8, 0, 10, 0, 0, 0] with force := true } (wStandby [(Reg.TEL_CH_val 46, 200), (Reg.TEL_CH_val 47, 200)]), by decide⟩,
   ⟨.host, 63, 6, 7, { wC .host 0x0D10 [6, 0, 0, 0, 1, 0, 0, 0] with force := true }, wWith { wC .host 0x0D10 [6, 0, 0, 0, 1, 0, 0, 0] with force := true } (wStandby [(Reg.TEL_CH_val 46, 200), (Reg.TEL_CH_val 47, 200)]), by decide⟩,
   ⟨.host, 63, 0, 0, { wC .host 0x0D10 [0, 0, 0, 0, 1, 0, 0, 0] with force := true }, wWith { wC .host 0x0D10 [0, 0, 0, 0, 1, 0, 0, 0] with force := true } (wStandby [(Reg.TEL_CH_val 46, 200), (Reg.TEL_CH_val 47, 200)]), by decide⟩,
   ⟨.host, 63, 6, { wC .host 0x0D11 [6, 3, 0, 0] with force := true }, wWith { wC .host 0x0D11 [6, 3, 0, 0] with force := true } (wStandby [(Reg.TEL_CH_val 46, 200), (Reg.TEL_CH_val 47, 200)]), by decide⟩,
   ⟨wRun [(Reg.OTP_RT_AGE_hours, 24)], by decide⟩,
   ⟨0, wRun [(Reg.OTP_RT_AGE_hours, 24)], by decide +kernel⟩,
   ⟨0, { wRun [] with otp := { State.reset.otp with retry := true } }, by decide +kernel⟩,
   ⟨0x1FFFFC, wRun [], by decide⟩,
   ⟨7, 1023, wRun [], by decide⟩,
   ⟨0x100005, wRun [], by decide⟩⟩

theorem wit_Ageing :
    (∃ (p : Port) (tag : BitVec 6) (x : Plan) (c : Taken) (s : State), s.ready ∧ s.turn p tag c 0x0F10 (leBytes 2 x.id ++ [0, 0]) ∧ s.sys.vkeepLow = false ∧ s.age.prop = some x ∧ x.id < 65536 ∧ (x.items.any fun y => y.waits && y.cls == 2) = true)
    ∧ (∃ (p : Port) (tag : BitVec 6) (x : Plan) (y : PlanItem) (c : Taken) (s : State), s.ready ∧ s.turn p tag c 0x0F11 (leBytes 2 x.id ++ [0, 0]) ∧ s.sys.vkeepLow = false ∧ x.id < 65536 ∧ y.kind = 5 ∧ y.waits = true ∧ -2500 ≤ y.value ∧ y.value ≤ 2500 ∧ s.age.prop = some { x with items := [y] })
    ∧ (∃ (p : Port) (tag : BitVec 6) (x : Plan) (c : Taken) (s : State), s.ready ∧ s.turn p tag c 0x0F12 [0, 0, 0, 0] ∧ c.rptr = true ∧ s.nv.live = some x ∧ c.fits (s.planBytes x 0).length = true ∧ c.rcap < 0x10000)
    ∧ (∃ (n : Fin 16) (s : State), s.ready ∧ s.romUp = true ∧ s.st = stSTANDBY ∧ s.getF Reg.SYS_STATE_prev_state = stBOOT ∧ s.age.testing = [] ∧ (s.age.bootDone.any fun m => decide (n.val ≤ m)) = false ∧ (match s.railOf n with | some k => s.railStopped k | none => true) = true)
    ∧ (∃ (n : Fin 16) (k : Fin 8) (s : State), s.ready ∧ s.romUp = true ∧ s.st = stRUN ∧ s.pathMode = pBUS ∧ s.getF Reg.UPD_STAT_state ≠ 2 ∧ s.age.testing = [] ∧ s.railOf n = some k.val ∧ s.bit (Reg.POL_PH_STAT_in_service n) = true ∧ s.railStopped k = true ∧ s.railHeld k = false ∧ (s.servicePhases k).head? = some n.val)
    ∧ (∃ (n : Fin 16) (l : List TineReading) (s : State), s.ready ∧ s.age.testing = [n.val] ∧ (l.all fun x => decide (x.tine < 36) && tineCause x == 0) = true ∧ (match s.railOf n with | some k => (s.rail k).waitTest | none => false) = false)
    ∧ (∃ (n : Fin 16) (x : TineReading) (s : State), s.ready ∧ s.romUp = true ∧ s.sys.vkeepLow = false ∧ s.age.testing = [n.val] ∧ x.tine < 36 ∧ tineCause x ≠ 0 ∧ (s.tinesOut n).contains x.tine = false ∧ (s.tinesOn n).contains x.tine = false ∧ 24 < (s.tinesOn n).length + (s.spares n).length ∧ s.bit (Reg.POL_PH_STAT_in_service n) = true ∧ (match s.railOf n with | some k => (s.rail k).waitTest | none => false) = false ∧ s.fresh cTINE ∧ s.present cTINE n 0 = false ∧ ((List.range 32).all fun i => s.fuse 7 i == 0) = true)
    ∧ (∃ (n : Fin 16) (s : State), s.ready ∧ s.romUp = true)
    ∧ (∃ (ch : Fin 28) (copy : Fin 3) (s : State), s.ready ∧ s.romUp = true ∧ s.sys.vkeepLow = false ∧ s.armed ch true = true ∧ bitOf (s.getF (Reg.AGE_CMP_ret_ov ch)) copy = false ∧ s.fresh cREF ∧ s.present cREF ch 6 = false ∧ ((List.range 32).all fun i => s.fuse 7 i == 0) = true)
    ∧ (∃ (x : PlanInput) (s : State), s.ready ∧ s.ageRuns = true ∧ s.sys.ctlAlive = true ∧ s.sys.vkeepLow = false ∧ x.wf = true ∧ s.planRails = [] ∧ s.getF Reg.AGE_HOLD_t_req = 0 ∧ x.refDrift = -(s.getI Reg.AGE_REFCORR_corr) ∧ -2500 ≤ x.refDrift ∧ x.refDrift ≤ 2500)
    ∧ (∃ (x : PlanInput) (s : State), s.ready ∧ s.ageRuns = true ∧ s.sys.ctlAlive = true ∧ s.sys.vkeepLow = false ∧ x.wf = true ∧ s.planRails = [] ∧ s.getF Reg.AGE_HOLD_t_req = 0 ∧ s.getI Reg.AGE_REFCORR_corr = 0 ∧ 20 ≤ x.refDrift ∧ x.refDrift ≤ 2500 ∧ s.age.prop = none ∧ s.bit Reg.AGE_CFG_plan_en = true ∧ s.bit Reg.AGE_CFG_approve = false ∧ s.nv.planId < 65536 ∧ s.base Reg.AGE_REFCORR_corr = none ∧ x.byRepair = false)
    ∧ (∃ (x : Plan) (y : PlanItem) (s : State), s.ready ∧ s.planActs = true ∧ s.sys.vkeepLow = false ∧ y.kind = 5 ∧ y.state = 0 ∧ y.due.isSome = true ∧ -2500 ≤ y.value ∧ y.value ≤ 2500 ∧ s.age.prop = some { x with items := [y] }) :=
  ⟨⟨.host, 63, ⟨0x1234, 0, [⟨1, 3, 1, 0, 100, 110, none⟩, ⟨2, 3, 2, 0, 100, 90, some 5⟩]⟩, wC .host 0x0F10 [0x34, 0x12, 0, 0], { wWith (wC .host 0x0F10 [0x34, 0x12, 0, 0]) (wRun []) with age := { State.reset.age with prop := some ⟨0x1234, 0, [⟨1, 3, 1, 0, 100, 110, none⟩, ⟨2, 3, 2, 0, 100, 90, some 5⟩]⟩ } }, by decide⟩,
   ⟨.side, 3, ⟨7, 0, []⟩, ⟨5, 0, 0, 0, 0, -2500, none⟩, wC .side 0x0F11 [7, 0, 0, 0], { wWith (wC .side 0x0F11 [7, 0, 0, 0]) (wRun []) with age := { State.reset.age with prop := some ⟨7, 0, [⟨5, 0, 0, 0, 0, -2500, none⟩]⟩ } }, by decide⟩,
   ⟨.host, 63, ⟨7, 9, [⟨5, 0, 0, 1, 0, 100, none⟩]⟩, wCr .host 0x0F12 [0, 0, 0, 0], { wWith (wCr .host 0x0F12 [0, 0, 0, 0]) (wRun []) with nv := { State.reset.nv with live := some ⟨7, 9, [⟨5, 0, 0, 1, 0, 100, none⟩]⟩ } }, by decide⟩,
   ⟨15, wStandby [(Reg.SYS_STATE_prev_state, stBOOT)], by decide⟩,
   ⟨15, 7, wRun [(Reg.RAIL_GROUP_valid 7, 1), (Reg.RAIL_GROUP_first 7, 15), (Reg.RAIL_GROUP_last 7, 15), (Reg.POL_PH_STAT_in_service 15, 1), (Reg.PATH_STAT_mode, 1)], by decide +kernel⟩,
   ⟨15, [⟨35, 150, 100⟩], { wRun [(Reg.AGE_PH_busy 15, 1), (Reg.AGE_PH_aborts 15, 3)] with age := { State.reset.age with testing := [15] } }, by decide +kernel⟩,
   ⟨15, ⟨35, 151, 0⟩, { wRun [(Reg.AGE_PH_busy 15, 1), (Reg.POL_PH_STAT_in_service 15, 1)] with age := { State.reset.age with testing := [15] } }, by decide +kernel⟩,
   ⟨15, wRun [], by decide⟩,
   ⟨27, 2, wRun [(Reg.MON_CH_CFG_en 27, 1), (Reg.MON_CH_NOM_nom 27, 100)], by decide +kernel⟩,
   ⟨⟨false, [1, 2, 3, 4, 5], 0, [0, 0, 0, 0], List.replicate 8 100, List.replicate 8 0⟩, wRun [], by decide +kernel⟩,
   ⟨⟨false, [1, 2, 3, 4, 5], 2500, [0, 0, 0, 0], List.replicate 8 100, List.replicate 8 0⟩, { wRun [] with nv := { State.reset.nv with planId := 65535 } }, by decide +kernel⟩,
   ⟨⟨7, 9, []⟩, ⟨5, 0, 0, 0, 0, 2500, some 5⟩, { wRun [] with age := { State.reset.age with prop := some ⟨7, 9, [⟨5, 0, 0, 0, 0, 2500, some 5⟩]⟩ } }, by decide⟩⟩

end Sys2Proof.Tests
end

section
/-!
PROOFS. One tick on an empty queue: the hour counters count, and a block that does not run commits what waits in it.
-/

namespace Sys2Proof.Machine

theorem step_of_pending_nil {s : State} (h : s.pending = []) : step s = .next s.tick := by
  simp [step, h]

/-! The hours counted before the commits of a tick. -/

/-- The register fields that time alone counts (R414, R452). -/
def hourFields : List Fld := [Reg.AGE_HOURS_hours 0, Reg.AGE_HOURS_hours 1, Reg.OTP_RT_AGE_hours]

/-- The state of a tick after its hours are counted. -/
def State.hoursCounted (s : State) : State := s.countRun.countReread

theorem countRun_only (s : State) : s.countRun = { s with fields := s.countRun.fields, age := s.countRun.age } := by
  unfold State.countRun
  split
  · split
    · rfl
    · dsimp only
      rw [setMany_eq]
  · rfl

theorem countReread_only (s : State) :
    s.countReread = { s with fields := s.countReread.fields, otp := { s.otp with us := s.countReread.otp.us } } := by
  unfold State.countReread State.count
  split
  · split
    · rfl
    · split <;> rfl
  · rfl

/-- Counting hours touches registers, the hour remainders and nothing else. -/
theorem hoursCounted_only (s : State) :
    s.hoursCounted =
      { s with fields := s.hoursCounted.fields, age := s.countRun.age, otp := { s.otp with us := s.hoursCounted.otp.us } } := by
  unfold State.hoursCounted
  rw [countReread_only, countRun_only]

theorem countRun_kept (s : State) : Kept hourFields s s.countRun := by
  unfold State.countRun
  split
  · split
    · exact (Kept.refl _ s).of_fields rfl
    · refine ((Kept.refl _ s).setMany _ ?_).of_fields rfl
      simp [hourFields]
  · exact Kept.refl _ s

theorem countReread_kept (s : State) : Kept hourFields s s.countReread := by
  unfold State.countReread
  split
  · split
    · exact (Kept.refl _ s).of_fields rfl
    · exact ((Kept.refl _ s).count _ (by simp [hourFields])).of_fields rfl
  · exact Kept.refl _ s

theorem hoursCounted_kept (s : State) : Kept hourFields s s.hoursCounted :=
  (countRun_kept s).trans (countReread_kept _)


/-! Commits of a tick. -/

theorem commitIdle_of_not_pending {s : State} {i : Instance} (h : s.bit (pendingF i) = false) : s.commitIdle i = s := by
  simp [State.commitIdle, State.commit, h]

theorem foldl_commitIdle_of_not_pending {s : State} (l : List Instance) (h : ∀ i ∈ l, s.bit (pendingF i) = false) :
    l.foldl State.commitIdle s = s := by
  induction l with
  | nil => rfl
  | cons i r ih =>
    rw [List.foldl_cons, commitIdle_of_not_pending (h i List.mem_cons_self)]
    exact ih fun j hj => h j (List.mem_cons_of_mem _ hj)

/-- Where one block alone waits, and its commit leaves none waiting, its commit is all that a pass over the blocks does. -/
theorem foldl_commitIdle_single {s : State} {i : Instance} (l : List Instance) (hi : i ∈ l)
    (hs : ∀ j ∈ l, j ≠ i → s.bit (pendingF j) = false) (ht : ∀ j ∈ l, (s.commitIdle i).bit (pendingF j) = false) :
    l.foldl State.commitIdle s = s.commitIdle i := by
  induction l with
  | nil => simp at hi
  | cons k r ih =>
    rw [List.foldl_cons]
    by_cases hk : k = i
    · subst hk
      exact foldl_commitIdle_of_not_pending r fun j hj => ht j (List.mem_cons_of_mem _ hj)
    · rw [commitIdle_of_not_pending (hs k List.mem_cons_self hk)]
      exact ih ((List.mem_cons.1 hi).resolve_left (Ne.symm hk)) (fun j hj => hs j (List.mem_cons_of_mem _ hj))
        fun j hj => ht j (List.mem_cons_of_mem _ hj)

/-! What a tick is. -/

/-- While VKEEP is valid a tick counts hours, commits, and moves device and calendar time; the last two are no register. -/
theorem tick_of_vkeep {s : State} (h : s.sys.vkeep = true) :
    ∃ half nv, s.tick = { s.hoursCounted.commitStopped with
      time := s.hoursCounted.commitStopped.time + (if s.st = stFAWN then (if s.half then 31 else 30) else 1)
      half := half, nv := nv } := by
  simp only [State.tick, h, Bool.not_true, Bool.false_eq_true, ↓reduceIte]
  exact ⟨_, _, rfl⟩

theorem pendingF_key_not_hour (i : Instance) : (pendingF i).key ∉ hourFields.map Fld.key := by
  cases i <;> simp [hourFields, pendingF, commitAddr, instRange, Fld.key] <;> omega

theorem hoursCounted_pending (s : State) (i : Instance) : s.hoursCounted.bit (pendingF i) = s.bit (pendingF i) := by
  rw [State.bit, State.bit, hoursCounted_kept s _ (pendingF_key_not_hour i)]

theorem hoursCounted_romUp (s : State) : s.hoursCounted.romUp = s.romUp := by
  have hst : s.hoursCounted.st = s.st := hoursCounted_kept s _ (by decide)
  rw [State.romUp, State.romUp, State.live, State.live, hst, hoursCounted_only]

theorem vkeep_of_romUp {s : State} (h : s.romUp = true) : s.sys.vkeep = true := by
  simp only [State.romUp, State.live, Bool.and_eq_true] at h
  obtain ⟨⟨⟨⟨hvkeep, -⟩, -⟩, -⟩, -⟩ := h
  exact hvkeep

theorem mem_allInstances (i : Instance) : i ∈ allInstances := by
  cases i <;> simp [allInstances]

/-- With nothing waiting in any block, a tick commits nothing. -/
theorem commitStopped_hoursCounted_of_not_pending {s : State} (h : ∀ i ∈ allInstances, s.bit (pendingF i) = false) :
    s.hoursCounted.commitStopped = s.hoursCounted := by
  unfold State.commitStopped
  split
  · exact foldl_commitIdle_of_not_pending _ fun i hi => (hoursCounted_pending s i).trans (h i hi)
  · rfl

/-- The first part of O2: with no command and no staged value waiting, a step is one tick of device time. -/
theorem step_of_nothing_waiting (s : State) (hq : s.pending = []) (hp : (allInstances.all fun i => !s.bit (pendingF i)) = true) :
    ∃ t, step s = .next t ∧ t.pending = []
      ∧ t.time = s.time + (if s.sys.vkeep then (if s.st = stFAWN then (if s.half then 31 else 30) else 1) else 0)
      ∧ Kept hourFields s t
      ∧ t.win = s.win ∧ t.logNext = s.logNext ∧ t.mram = s.mram ∧ t.sbBuf = s.sbBuf ∧ t.otp.words = s.otp.words := by
  refine ⟨s.tick, step_of_pending_nil hq, ?_⟩
  by_cases hv : s.sys.vkeep = true
  · have hnone : ∀ i ∈ allInstances, s.bit (pendingF i) = false := by simpa using hp
    obtain ⟨half, nv, htick⟩ := tick_of_vkeep hv
    rw [commitStopped_hoursCounted_of_not_pending hnone] at htick
    rw [htick, hoursCounted_only]
    exact ⟨hq, by simp [hv], (hoursCounted_kept s).of_fields rfl, rfl, rfl, rfl, rfl, rfl⟩
  · have htick : s.tick = s := by simp [State.tick, hv]
    rw [htick]
    exact ⟨hq, by simp [hv], Kept.refl _ s, rfl, rfl, rfl, rfl, rfl⟩

/-! Windows of blocks. -/

theorem inInst_iff {i : Instance} {f : Fld} :
    inInst i f = true ↔ (instRange i).1 ≤ f.addr ∧ f.addr < (instRange i).1 + (instRange i).2 := by
  simp [inInst]

/-- The live windows of two blocks do not meet (R74). -/
theorem instRange_disjoint {i j : Instance} (h : i ≠ j) :
    (instRange i).1 + (instRange i).2 ≤ (instRange j).1 ∨ (instRange j).1 + (instRange j).2 ≤ (instRange i).1 := by
  cases i <;> cases j <;> simp [instRange, Fin.ext_iff] at h ⊢ <;> omega

/-- The commit register is the last word of its window (R77). -/
theorem pendingF_inInst (i : Instance) : inInst i (pendingF i) = true := by
  cases i <;> simp [inInst_iff, pendingF, commitAddr, instRange]

/-- A field within its 16-bit register is no other block's pending flag. -/
theorem pendingF_key_ne_of_inInst {i j : Instance} {f : Fld} (hf : inInst i f = true) (hlo : f.lo < 16) (hj : j ≠ i) :
    (pendingF j).key ≠ f.key := by
  have hd := instRange_disjoint hj
  have hp := inInst_iff.1 (pendingF_inInst j)
  rw [inInst_iff] at hf
  have hz : (pendingF j).lo = 0 := rfl
  simp only [Fld.key, hz]
  omega

/-! One value that waits in an ISO channel which does not run. -/

/-- What O2 supposes of the state in its second part: the value v waits for the field f in the stopped ISO channel n, and nothing
waits elsewhere. -/
structure State.WaitsInIso (s : State) (n : Fin 12) (f : Fld) (v : Nat) : Prop where
  wf : Cells.wf s.fields = true
  up : s.romUp = true
  others : ∀ j, j ≠ .iso n → s.bit (pendingF j) = false
  waits : s.bit (pendingF (.iso n)) = true
  notHeld : s.bit (holdF (.iso n)) = false
  stopped : s.instRuns (.iso n) = false
  staged : s.staged = [(f, v)]
  inside : inInst (.iso n) f = true
  notFlag : f.key ≠ (pendingF (.iso n)).key
  fits : v < 2 ^ f.w

theorem hoursCounted_fields_wf {s : State} (h : Cells.wf s.fields = true) : Cells.wf s.hoursCounted.fields = true := by
  have hrun : Cells.wf s.countRun.fields = true := by
    unfold State.countRun
    split
    · split
      · exact h
      · exact setMany_fields_wf _ s h
    · exact h
  unfold State.hoursCounted State.countReread State.count
  split
  · split
    · exact hrun
    · split
      · exact setF_fields_wf _ _ _ hrun
      · exact hrun
  · exact hrun

/-- The registers of the ISO channels lie above the hour counters. -/
theorem getF_hoursCounted_of_iso {s : State} {f : Fld} (h : 0x18000 ≤ f.addr) : s.hoursCounted.getF f = s.getF f := by
  refine hoursCounted_kept s f ?_
  simp [hourFields, Fld.key]
  omega

/-- The hours that a tick counts first leave the waiting value as it is. -/
theorem State.WaitsInIso.hoursCounted {s : State} {n : Fin 12} {f : Fld} {v : Nat} (h : s.WaitsInIso n f v) :
    s.hoursCounted.WaitsInIso n f v where
  wf := hoursCounted_fields_wf h.wf
  up := (hoursCounted_romUp s).trans h.up
  others j hj := (hoursCounted_pending s j).trans (h.others j hj)
  waits := (hoursCounted_pending s _).trans h.waits
  notHeld := by
    rw [State.bit, getF_hoursCounted_of_iso (by simp [holdF, commitAddr, instRange]; omega)]
    exact h.notHeld
  stopped := by
    have hiso : s.hoursCounted.isoState n = s.isoState n := getF_hoursCounted_of_iso (by simp; omega)
    simpa only [State.instRuns, hiso] using h.stopped
  staged := by rw [hoursCounted_only]; exact h.staged
  inside := h.inside
  notFlag := h.notFlag
  fits := h.fits

section
variable {s : State} {n : Fin 12} {f : Fld} {v : Nat}

/-- The commit puts the value live, clears the pending flag after it, and empties the staging file (R76, R78). -/
theorem State.WaitsInIso.commitIdle (h : s.WaitsInIso n f v) :
    (s.commitIdle (.iso n)).fields = ((s.setF f v).setB (pendingF (.iso n)) false).fields
      ∧ (s.commitIdle (.iso n)).staged = [] := by
  simp [State.commitIdle, h.stopped, State.commit, h.notHeld, h.waits, h.staged, h.inside, State.afterCommit, setMany_cons,
    setMany_nil, State.setB, setF_eq, State.log, State.logAt]

theorem State.WaitsInIso.getF_commitIdle (h : s.WaitsInIso n f v) (g : Fld) :
    (s.commitIdle (.iso n)).getF g = ((s.setF f v).setB (pendingF (.iso n)) false).getF g := by
  simp only [State.getF, h.commitIdle.1]

theorem State.WaitsInIso.value_live (h : s.WaitsInIso n f v) : (s.commitIdle (.iso n)).getF f = v := by
  rw [h.getF_commitIdle, getF_setB_ne _ _ _ _ h.notFlag, getF_setF_same s f v h.wf, Nat.mod_eq_of_lt h.fits]

theorem State.WaitsInIso.flag_clear (h : s.WaitsInIso n f v) : (s.commitIdle (.iso n)).bit (pendingF (.iso n)) = false := by
  rw [State.bit, h.getF_commitIdle]
  exact bit_setB_same _ _ false Nat.one_pos (setF_fields_wf s f v h.wf)

/-- After the commit no block waits, where the field lies within its 16-bit register. -/
theorem State.WaitsInIso.none_waits (h : s.WaitsInIso n f v) (hlo : f.lo < 16) (j : Instance) :
    (s.commitIdle (.iso n)).bit (pendingF j) = false := by
  by_cases hj : j = .iso n
  · exact hj ▸ h.flag_clear
  · have hflag : (pendingF j).key ≠ (pendingF (.iso n)).key :=
      pendingF_key_ne_of_inInst (pendingF_inInst _) (Nat.zero_lt_succ 15) hj
    rw [State.bit, h.getF_commitIdle, getF_setB_ne _ _ _ _ hflag, getF_setF_ne _ _ _ _ (pendingF_key_ne_of_inInst h.inside hlo hj)]
    exact h.others j hj

theorem State.WaitsInIso.commitStopped (h : s.WaitsInIso n f v) (hlo : f.lo < 16) : s.commitStopped = s.commitIdle (.iso n) := by
  rw [State.commitStopped, if_pos h.up]
  exact foldl_commitIdle_single _ (mem_allInstances _) (fun j _ => h.others j) fun j _ => h.none_waits hlo j

/-- The second part of O2 with the premise it lacks, that the field's lowest bit lies in a 16-bit register (R64): the value becomes
live with the tick. -/
theorem State.WaitsInIso.step (h : s.WaitsInIso n f v) (hlo : f.lo < 16) (hq : s.pending = []) :
    ∃ t, step s = .next t ∧ t.getF f = v ∧ t.bit (pendingF (.iso n)) = false ∧ t.staged = [] := by
  have hu := h.hoursCounted
  obtain ⟨half, nv, htick⟩ := tick_of_vkeep (vkeep_of_romUp h.up)
  rw [hu.commitStopped hlo] at htick
  refine ⟨s.tick, step_of_pending_nil hq, ?_⟩
  rw [htick]
  exact ⟨hu.value_live, hu.flag_clear, hu.commitIdle.2⟩

end

/-! A field above bit 15 of its register. -/

/-- Bit 4032 above the first register of ISO channel 0: no register has it (R64), yet O2 speaks of every `Fld`, and this one lies
in channel 0's window by its address and has the key of channel 1's pending flag. -/
def overlongField : Fld := ⟨0x18000, 4032, 1, 0⟩

theorem overlongField_key : overlongField.key = (pendingF (.iso 1)).key := by decide

/-- A device in BOOT with the ROM up in which a 1 waits for that field in ISO channel 0, and nothing else waits. -/
def overlongStaged : State :=
  { State.reset with
    sys := { State.reset.sys with stage := .done }
    fields := [((pendingF (.iso 0)).key, 1)]
    staged := [(overlongField, 1)] }

/-- Channel 0's commit sets what reads as channel 1's pending flag, so channel 1 commits in the same tick and clears it. -/
theorem tick_overlongStaged : overlongStaged.tick.getF overlongField = 0 := by
  have hflag : overlongStaged.tick.getF (pendingF (.iso 1)) = 0 := by decide +kernel
  unfold State.getF
  rw [overlongField_key]
  exact hflag

/-- Refutes O2: its second part fails for a field that is none of the register map, whose lowest bit lies outside its 16-bit
register, so that its key is another block's pending flag; the commit of that block clears the value just committed. The
first part holds (`step_of_nothing_waiting`), and the second does for every field below bit 16 (`State.WaitsInIso.step`). -/
theorem not_emptyQueueTick : ¬ Obligations.EmptyQueueTick := by
  unfold Obligations.EmptyQueueTick
  rintro ⟨-, hstaged⟩
  obtain ⟨t, hstep, hval, -, -⟩ := hstaged 0 overlongField 1 overlongStaged (by decide) rfl (by decide) (by decide) (by decide)
    (by decide) (by decide) rfl (by decide) (by decide) (by decide)
  have ht : overlongStaged.tick = t := by
    rw [step_of_pending_nil rfl] at hstep
    exact Host.Outcome.next.inj hstep
  rw [← ht, tick_overlongStaged] at hval
  exact absurd hval (by decide)

end Sys2Proof.Machine
end

section
/-!
PROOFS. The state after reset, the release of VKEEP_LOW, and the commands that nothing can send.
-/

namespace Sys2Proof.Machine

/-! The state after reset. -/

theorem getF_of_fields_nil {s : State} (h : s.fields = []) (f : Fld) : s.getF f = f.rst := by
  simp [State.getF, h, cellGet]

theorem memGet_nil (a : Nat) : memGet a [] = 0 := by
  simp [memGet]

/-- Settles O3: the register file and the windows hold nothing, so every field reads its Reset value and every byte 0. -/
theorem resetValues : Obligations.ResetValues := by
  unfold Obligations.ResetValues
  exact ⟨by decide, rfl, rfl, rfl, getF_of_fields_nil rfl, memGet_nil, rfl, rfl, rfl, rfl, rfl, rfl⟩

/-- Settles O8: every sparse file is empty at reset. -/
theorem invariantsAtReset : Obligations.InvariantsAtReset := by
  unfold Obligations.InvariantsAtReset State.canonical
  exact ⟨by decide, rfl⟩

/-! VKEEP_LOW releases with a copy waiting. -/

/-- A live device with VKEEP_LOW asserted and every snapshot slot locked, where a snapshot's copy waits for the release. -/
def copyWaits : State :=
  { State.reset with
    sys := { State.reset.sys with vkeepLow := true }
    fields := [(Reg.TEL_SLOT_CFG_lock.key, 255)]
    tel := { State.reset.tel with copies := [⟨0, 0, none⟩] } }

/-- The release skips the waiting copy, with its event bit and its own log entry beside that of the supply. -/
theorem vkeepLowRelease_copyWaits :
    (match exec (.vkeepLowRelease 0) copyWaits with
      | .next t => t.bit Reg.TEL_SNAP_EVT_skipped && decide (t.logNext = copyWaits.logNext + 2)
      | _ => false) = true := by
  decide +kernel

/-- Refutes O9: its third part asks for no abandoned copy but lets other copies wait, and the release of VKEEP_LOW starts them
(R313); here every slot is locked, so TEL_SNAP_EVT.skipped is set and a second entry is logged. -/
theorem not_supplyRows : ¬ Obligations.SupplyRows := by
  unfold Obligations.SupplyRows
  rintro ⟨-, -, hrelease, -⟩
  obtain ⟨t, ht, -, -, -, hlogged, -⟩ :=
    hrelease 0 copyWaits (by decide) rfl rfl (by decide) rfl rfl rfl
  have h := vkeepLowRelease_copyWaits
  simp only [ht, Bool.and_eq_true, decide_eq_true_eq] at h
  omega

/-! Commands that nothing can send. -/

/-- A word list that is not all below the bound has one at or above it. -/
theorem any_le_of_not_all_lt {l : List Nat} {n : Nat} (h : (l.all (decide <| · < n)) = false) :
    (l.any fun x => decide (n ≤ x)) = true := by
  obtain ⟨x, hx, hlt⟩ := List.all_eq_false.mp h
  exact List.any_eq_true.mpr ⟨x, hx, by simpa using hlt⟩

/-- Settles O5: each of the rows whose operands can be ill-formed tests them before anything else. -/
theorem illFormedStops : Obligations.IllFormedStops := by
  unfold Obligations.IllFormedStops
  intro c s h
  cases c with
  | fuseReadComplete _ | status _ | regRd _ _ _ _ | regWr _ _ _ _ _ | memRd _ _ _ _ | memWr _ _ _ _ _ | doorbell _ _ _
  | clkMonitorWindow _ | scanRoundEnd _ | insertionFirstEstimate _ _ | planRun _ | tineTestDone _ _
  | forwardResponseReceived _ _ _ _ _ =>
    exact if_pos (by simpa [Instr.wellFormed] using h)
  | otpReread _ | otpRereadRetry _ => exact if_pos (any_le_of_not_all_lt h)
  | _ => cases h

end Sys2Proof.Machine
end

section
/-!
PROOFS. The events that wait at the end of a row: a row ends by settling its events, or does nothing that raises one.
-/

namespace Sys2Proof.Machine

/-! The operations that raise no event. -/

@[simp] theorem each_evs {g : Nat → State → State} (h : ∀ i t, (g i t).flt.evs = t.flt.evs) (l : List Nat) (s : State) :
    (s.each l g).flt.evs = s.flt.evs := by
  unfold State.each
  induction l generalizing s with
  | nil => rfl
  | cons i l ih => rw [List.foldl_cons, ih, h]

@[simp] theorem draw_flt (s : State) : s.draw.flt = s.flt := rfl

@[simp] theorem count_flt (s : State) (f : Fld) : (s.count f).flt = s.flt := by
  simp [State.count, apply_ite State.flt]

@[simp] theorem setBitOf_flt (s : State) (f : Fld) (i : Nat) (b : Bool) : (s.setBitOf f i b).flt = s.flt := by
  simp [State.setBitOf, apply_ite State.flt]

@[simp] theorem request_flt (s : State) (b : Nat) : (s.request b).flt = s.flt := by
  simp [State.request, apply_ite State.flt]

@[simp] theorem flagged_flt (s b : State) : (s.flagged b).flt = s.flt := by
  simp [State.flagged, apply_ite State.flt]

@[simp] theorem setState_flt (s : State) (n : Nat) : (s.setState n).flt = s.flt := by
  simp [State.setState, apply_ite State.flt]

@[simp] theorem refresh_flt (s : State) : s.refresh.flt = s.flt := by
  simp [State.refresh, apply_ite State.flt]

@[simp] theorem endCause_evs (s : State) (cls src cause : Nat) : (s.endCause cls src cause).flt.evs = s.flt.evs := rfl

theorem ite_evs {c : Prop} [Decidable c] {a b s : State} (ha : a.flt.evs = s.flt.evs) (hb : b.flt.evs = s.flt.evs) :
    (if c then a else b).flt.evs = s.flt.evs := by
  split <;> assumption

/-! Power-good, arming and the rails. -/

@[simp] theorem stepChatter_flt (s : State) (c : Nat) : (s.stepChatter c).flt = s.flt := by
  simp [State.stepChatter, apply_ite State.flt]

@[simp] theorem pgFall_flt (s : State) (c : Nat) : (s.pgFall c).flt = s.flt := by
  simp [State.pgFall, apply_ite State.flt]

@[simp] theorem disarmLo_evs (s : State) (c : Nat) : (s.disarmLo c).flt.evs = s.flt.evs := rfl

@[simp] theorem disarmHi_evs (s : State) (c : Nat) : (s.disarmHi c).flt.evs = s.flt.evs := rfl

@[simp] theorem setRailState_evs (s : State) (k v : Nat) : (s.setRailState k v).flt.evs = s.flt.evs := by
  simp [State.setRailState, apply_ite State.flt, apply_ite Flt.evs]

@[simp] theorem leaveDe_evs (s : State) (k : Nat) : (s.leaveDe k).flt.evs = s.flt.evs := by
  unfold State.leaveDe
  refine (each_evs ?_ _ _).trans rfl
  exact fun _ _ => rfl

@[simp] theorem setSwitching_evs (s : State) (k m : Nat) : (s.setSwitching k m).flt.evs = s.flt.evs := by
  unfold State.setSwitching
  refine (each_evs ?_ _ _).trans rfl
  exact fun _ _ => rfl

@[simp] theorem setRegime_flt (s : State) (k : Nat) : (s.setRegime k).flt = s.flt := rfl

@[simp] theorem railQuiet_evs (s : State) (k : Nat) : (s.railQuiet k).flt.evs = s.flt.evs := by
  simp [State.railQuiet]

@[simp] theorem railToOff_evs (s : State) (k : Nat) : (s.railToOff k).flt.evs = s.flt.evs := by
  simp [State.railToOff]

@[simp] theorem railBegin_evs (s : State) (k : Nat) : (s.railBegin k).flt.evs = s.flt.evs := by
  simp [State.railBegin, apply_ite State.flt]

@[simp] theorem addAll_evs (s : State) (k : Nat) : (s.addAll k).flt.evs = s.flt.evs := by
  simp [State.addAll]

/-- A start with coefficients in place is not refused, so it raises no event. -/
theorem railStart_evs {s : State} {k : Nat} (h : (s.getF (Reg.RAIL_FI_fi k) != 0) = true) :
    (s.railStart k).flt.evs = s.flt.evs := by
  simp [State.railStart, h, apply_ite State.flt, apply_ite Flt.evs]

/-! The other outputs. -/

@[simp] theorem setLdoState_evs (s : State) (n v : Nat) : (s.setLdoState n v).flt.evs = s.flt.evs := by
  simp [State.setLdoState, apply_ite State.flt, apply_ite Flt.evs]

@[simp] theorem ldoToOff_evs (s : State) (n : Nat) : (s.ldoToOff n).flt.evs = s.flt.evs := by
  simp [State.ldoToOff]

@[simp] theorem setIsoState_evs (s : State) (n v : Nat) : (s.setIsoState n v).flt.evs = s.flt.evs := by
  unfold State.setIsoState
  dsimp only
  split
  · rfl
  · simp [apply_ite State.flt, apply_ite Flt.evs]

/-! The charger, the front end and the path. -/

@[simp] theorem batfet_flt (s : State) : s.batfet.flt = s.flt := rfl

@[simp] theorem retarget_flt (s : State) : s.retarget.flt = s.flt := rfl

@[simp] theorem fePick_flt (s : State) : s.fePick.flt = s.flt := rfl

@[simp] theorem feSlope_flt (s : State) : s.feSlope.flt = s.flt := rfl

@[simp] theorem fePhases_flt (s : State) : s.fePhases.flt = s.flt := by
  simp [State.fePhases, apply_ite State.flt]

@[simp] theorem setChgPhase_flt (s : State) (p : Nat) : (s.setChgPhase p).flt = s.flt := by
  simp [State.setChgPhase, apply_ite State.flt]

@[simp] theorem chgEval_flt (s : State) : s.chgEval.flt = s.flt := by
  simp [State.chgEval, apply_ite State.flt]

@[simp] theorem setFe_evs (s : State) (v : Nat) : (s.setFe v).flt.evs = s.flt.evs := by
  simp [State.setFe, apply_ite State.flt, apply_ite Flt.evs]

@[simp] theorem setPath_flt (s : State) (m : Nat) : (s.setPath m).flt = s.flt := by
  simp [State.setPath]

@[simp] theorem openIsw_evs (s : State) : s.openIsw.flt.evs = s.flt.evs := by
  simp [State.openIsw, apply_ite State.flt, apply_ite Flt.evs]

@[simp] theorem endIbex_flt (s : State) : s.endIbex.flt = s.flt := by
  simp [State.endIbex, apply_ite State.flt]

@[simp] theorem pathLog_flt (s : State) (c : Nat) : (s.pathLog c).flt = s.flt := rfl

@[simp] theorem pathOff_evs (s : State) (c : Nat) : (s.pathOff c).flt.evs = s.flt.evs := by
  simp [State.pathOff, apply_ite State.flt]

@[simp] theorem outputsOff_evs (s : State) : s.outputsOff.flt.evs = s.flt.evs := by
  simp [State.outputsOff, apply_ite State.flt, apply_ite Flt.evs]

@[simp] theorem allStop_evs (s : State) : s.allStop.flt.evs = s.flt.evs := by
  simp [State.allStop]

/-! The samples of the shunt. -/

@[simp] theorem stepSample_flt (s : State) (di : Int) : (s.stepSample di).flt = s.flt := by
  unfold State.stepSample
  split <;> simp [apply_ite State.flt]

@[simp] theorem addCharge_evs (s : State) (q : Int) : (s.addCharge q).flt.evs = s.flt.evs := by
  unfold State.addCharge
  refine (each_evs ?_ _ _).trans rfl
  exact fun _ _ => rfl

@[simp] theorem restSecond_flt (s : State) (mean : Rat) : (s.restSecond mean).flt = s.flt := by
  simp [State.restSecond, apply_ite State.flt]

@[simp] theorem restSample_flt (s : State) (i : Int) : (s.restSample i).flt = s.flt := by
  simp [State.restSample, apply_ite State.flt]

@[simp] theorem takeSample_evs (s : State) (nV : Int) (carry : Nat) : (s.takeSample nV carry).flt.evs = s.flt.evs := by
  simp [State.takeSample, apply_ite State.flt]

/-! The tick. -/

/-- A rail that waited for its coefficients starts only where it has them. -/
theorem startOnCoeffs_evs (s : State) (k : Nat) (g : RailSt → RailSt) :
    (if (s.rail k).waitCoeff && s.getF (Reg.RAIL_FI_fi k) != 0 then (s.updRail k g).railStart k else s).flt.evs = s.flt.evs := by
  split
  next h =>
    obtain ⟨-, hfi⟩ := Bool.and_eq_true_iff.mp h
    exact railStart_evs hfi
  next => rfl

theorem afterCommit_rail_evs (s b : State) (k : Fin 8) (fs : List Fld) : (s.afterCommit b (.rail k) fs).flt.evs = s.flt.evs := by
  refine ite_evs ((startOnCoeffs_evs _ _ _).trans ?_) ?_ <;> simp [apply_ite State.flt, apply_ite Flt.evs]

@[simp] theorem afterCommit_evs (s b : State) (i : Instance) (fs : List Fld) : (s.afterCommit b i fs).flt.evs = s.flt.evs := by
  cases i with
  | rail k => exact afterCommit_rail_evs s b k fs
  | fe => simp [State.afterCommit, apply_ite State.flt]
  | tel => simp [State.afterCommit, apply_ite State.flt]
  | mon => simp [State.afterCommit, apply_ite State.flt, apply_ite Flt.evs]
  | _ => rfl

@[simp] theorem commit_evs (s : State) (i : Instance) : (s.commit i).flt.evs = s.flt.evs := by
  simp [State.commit, apply_ite State.flt, apply_ite Flt.evs]

@[simp] theorem commitIdle_evs (s : State) (i : Instance) : (s.commitIdle i).flt.evs = s.flt.evs := by
  simp [State.commitIdle, apply_ite State.flt, apply_ite Flt.evs]

theorem commitStopped_evs (s : State) : s.commitStopped.flt.evs = s.flt.evs := by
  have hfold (l : List Instance) (t : State) : (l.foldl State.commitIdle t).flt.evs = t.flt.evs := by
    induction l generalizing t with
    | nil => rfl
    | cons i l ih => rw [List.foldl_cons, ih, commitIdle_evs]
  unfold State.commitStopped
  split
  · exact hfold _ s
  · rfl

theorem hoursCounted_flt (s : State) : s.hoursCounted.flt = s.flt := by
  rw [hoursCounted_only]

theorem tick_evs (s : State) : s.tick.flt.evs = s.flt.evs := by
  unfold State.tick
  split
  · rfl
  · exact (commitStopped_evs s.hoursCounted).trans (congrArg Flt.evs (hoursCounted_flt s))

end Sys2Proof.Machine
end

section
/-!
PROOFS. No event outlives its step.
-/

namespace Sys2Proof.Machine

/-- From a state in which no event waits, a row that answers a next state leaves none waiting. -/
def ClearsEvents (s : State) (o : Out State) : Prop := s.flt.evs = [] → ∀ t, o = .next t → t.flt.evs = []

section
variable {s t : State} {a b : Out State} {c : Prop} [Decidable c]

theorem clears_done : ClearsEvents s t.done := by
  rintro - u ⟨⟩
  rfl

theorem clears_next (h : t.flt.evs = s.flt.evs) : ClearsEvents s (.next t) := by
  rintro hs u ⟨⟩
  rw [h, hs]

theorem clears_stays : ClearsEvents s (.next s) := clears_next rfl

theorem clears_fault {f : Fault} : ClearsEvents s (.fault f) := by
  rintro - u ⟨⟩

theorem clears_ite (ha : ClearsEvents s a) (hb : ClearsEvents s b) : ClearsEvents s (if c then a else b) := by
  split <;> assumption

/-- A row that acts under its condition and else changes nothing. -/
theorem clears_row : ClearsEvents s (if c then t.done else .next s) := clears_ite clears_done clears_stays

end

/-! The shared rows. -/

theorem runCmd_clears (s : State) (p : Port) (tag : BitVec 6) (mine : Nat → Bool) (f : State → Taken → State) :
    ClearsEvents s (s.runCmd p tag mine f) := by
  unfold State.runCmd
  split
  · exact clears_row
  · exact clears_stays

theorem rowWrite_clears (s : State) (a : Accessor) (addr mask data : Nat) : ClearsEvents s (s.rowWrite a addr mask data) := clears_row

theorem rowEnable_clears (s : State) (a : Accessor) (o : OutRef) (v : Bool) : ClearsEvents s (s.rowEnable a o v) :=
  rowWrite_clears _ _ _ _ _

theorem frame_clears (s : State) (mine : Bool) (f : State) : ClearsEvents s (s.frame mine f) :=
  clears_ite clears_fault (clears_ite clears_done (clears_next rfl))

theorem chgStep_clears (s : State) (p : Nat) (go : State → State) : ClearsEvents s (s.chgStep p go) := clears_row

/-! The rows that end without settling. -/

theorem vkeepLost_clears (s : State) : ClearsEvents s (execVkeepLost s) := by
  refine clears_ite ?_ clears_stays
  rintro - u ⟨⟩
  rfl

theorem resetNRecognised_clears (s : State) : ClearsEvents s (execResetNRecognised s) := by
  refine clears_ite (clears_ite (clears_next ?_) (clears_next ?_)) clears_stays <;> simp

theorem xtalStart_clears (s : State) : ClearsEvents s (execXtalStart s) := by
  refine clears_ite (clears_next ?_) clears_stays
  simp [apply_ite State.flt]

theorem dieThermalRelease_clears (d : Fin 4) (s : State) : ClearsEvents s (execDieThermalRelease d s) := by
  refine clears_next ((each_evs ?_ _ _).trans (each_evs ?_ _ _)) <;> exact fun _ _ => rfl

theorem chargeSample_clears (nV : Int) (carry : Nat) (s : State) : ClearsEvents s (execChargeSample nV carry s) :=
  clears_next (ite_evs (takeSample_evs s nV carry) rfl)

theorem addrStrapRead_clears (mv : Nat) (s : State) : ClearsEvents s (execAddrStrapRead mv s) := by
  refine clears_ite (clears_next ?_) clears_stays
  simp

theorem fuseReadComplete_clears (r : FuseRead) (s : State) : ClearsEvents s (execFuseReadComplete r s) := by
  refine clears_ite clears_fault (clears_ite ?_ clears_stays)
  split
  · refine clears_next ?_
    simp [State.enterHold]
  · exact clears_done

/-! The rows that branch on what they find. -/

theorem phaseRampOutDone_clears (p : PhaseRef) (s : State) : ClearsEvents s (execPhaseRampOutDone p s) := by
  unfold execPhaseRampOutDone
  split
  · split
    · exact clears_row
    · exact clears_stays
  · exact clears_row

theorem seqStepTimeout_clears (s : State) : ClearsEvents s (execSeqStepTimeout s) := by
  refine clears_ite (clears_ite ?_ (clears_ite clears_done clears_done)) clears_stays
  split
  · exact clears_done
  · refine clears_ite clears_done ?_
    split <;> exact clears_done
  · exact clears_done

theorem seqTableComplete_clears (s : State) : ClearsEvents s (execSeqTableComplete s) := by
  refine clears_ite ?_ clears_stays
  split
  · exact clears_done
  · exact clears_ite clears_done clears_done
  · exact clears_done
  · exact clears_stays

theorem commandTake_clears (p : Port) (s : State) : ClearsEvents s (execCommandTake p s) := by
  unfold execCommandTake
  split
  · exact clears_stays
  · exact clears_done

theorem earlyRailDischargeTimeout_clears (d : Fin 4) (s : State) : ClearsEvents s (execEarlyRailDischargeTimeout d s) := by
  unfold execEarlyRailDischargeTimeout
  split
  · exact clears_row
  · exact clears_stays

theorem fawnEntryComplete_clears (s : State) : ClearsEvents s (execFawnEntryComplete s) := by
  unfold execFawnEntryComplete
  split
  · exact clears_done
  · exact clears_stays

theorem wakeEvent_clears (w : WakeSource) (s : State) : ClearsEvents s (execWakeEvent w s) := by
  refine clears_ite ?_ clears_stays
  cases w with
  | wake | enRun | vbus | gaugeCharge => exact clears_row
  | sideband | iswOpen c => exact clears_done

theorem wakeSourceAsserted_clears (w : WakeSource) (s : State) : ClearsEvents s (execWakeSourceAsserted w s) := by
  refine clears_ite ?_ clears_stays
  cases w <;> exact clears_done

theorem imageVerified_clears (ok : Bool) (s : State) : ClearsEvents s (execImageVerified ok s) := by
  unfold execImageVerified
  split
  · exact clears_ite (clears_ite clears_done clears_done) clears_stays
  · exact clears_stays

theorem bootCoreTimeout_clears (s : State) : ClearsEvents s (execBootCoreTimeout s) := by
  unfold execBootCoreTimeout
  split
  · exact clears_row
  · exact clears_stays

theorem bootComplete_clears (s : State) : ClearsEvents s (execBootComplete s) := by
  unfold execBootComplete
  split
  · exact clears_row
  · exact clears_stays

theorem runtimeTineTestStart_clears (n : Fin 16) (s : State) : ClearsEvents s (execRuntimeTineTestStart n s) := by
  unfold execRuntimeTineTestStart
  split
  · exact clears_stays
  · split
    · exact clears_stays
    · exact clears_row

theorem planItemApply_clears (item : Nat) (s : State) : ClearsEvents s (execPlanItemApply item s) := by
  unfold execPlanItemApply
  split
  · exact clears_stays
  · split
    · exact clears_stays
    · exact clears_row

theorem vbusLoss_clears (c : LossCause) (s : State) : ClearsEvents s (execVbusLoss c s) := by
  refine clears_ite ?_ clears_stays
  cases c with
  | opening o => exact clears_done
  | window => exact clears_row

theorem learnedRecordWriteDone_clears (s : State) : ClearsEvents s (execLearnedRecordWriteDone s) := by
  unfold execLearnedRecordWriteDone
  split
  · exact clears_stays
  · dsimp only
    split <;> exact clears_done

theorem chgFault_clears (c : ChgCause) (s : State) : ClearsEvents s (execChgFault c s) := by
  refine clears_ite clears_stays ?_
  cases c with
  | ov | packUv => exact clears_row
  | ot => exact clears_done

theorem forwardResponseReceived_clears (p : Port) (tag : BitVec 6) (entry payload : List Byte) (pecOk : Bool) (s : State) :
    ClearsEvents s (execForwardResponseReceived p tag entry payload pecOk s) := by
  refine clears_ite clears_fault ?_
  split
  · exact clears_done
  · exact clears_stays

theorem forwardTimeout_clears (p : Port) (tag : BitVec 6) (s : State) : ClearsEvents s (execForwardTimeout p tag s) := by
  unfold execForwardTimeout
  split
  · exact clears_done
  · exact clears_stays

theorem mailboxResume_clears (s : State) : ClearsEvents s (execMailboxResume s) := by
  unfold execMailboxResume
  split
  · exact clears_ite clears_stays clears_done
  · exact clears_stays

theorem activationConfirmed_clears (s : State) : ClearsEvents s (execActivationConfirmed s) := by
  unfold execActivationConfirmed
  split <;> exact clears_row

theorem rollbackMailboxTimeout_clears (s : State) : ClearsEvents s (execRollbackMailboxTimeout s) := by
  unfold execRollbackMailboxTimeout
  split
  · exact clears_row
  · exact clears_stays

theorem rollbackAliveTimeout_clears (s : State) : ClearsEvents s (execRollbackAliveTimeout s) := by
  unfold execRollbackAliveTimeout
  split
  · exact clears_row
  · exact clears_stays

theorem isoQueueStart_clears (s : State) : ClearsEvents s (execIsoQueueStart s) := by
  unfold execIsoQueueStart
  split
  · exact clears_done
  · exact clears_stays

theorem secdedError_clears (m : MemWord) (correctable : Bool) (s : State) : ClearsEvents s (execSecdedError m correctable s) := by
  refine clears_ite clears_stays ?_
  cases m with
  | mram a => exact clears_ite clears_stays clears_done
  | sram b row => exact clears_done

theorem bleatRead_clears (wins : Bool) (s : State) : ClearsEvents s (execBleatRead wins s) := by
  refine clears_ite ?_ clears_stays
  dsimp only
  split <;> exact clears_done

theorem downstreamEntry_clears (route : BitVec 20) (reason : Byte) (s : State) :
    ClearsEvents s (execDownstreamEntry route reason s) := by
  unfold execDownstreamEntry
  split
  · exact clears_stays
  · exact clears_done

/-- Every row settles the events it raises, or raises none. -/
theorem exec_clears (c : Instr) (s : State) : ClearsEvents s (exec c s) := by
  cases c with
  | read p tag | write p tag | enable p tag | disable p tag | sysInfo p tag | sysHeartbeat p tag | sysRun p tag | sysStop p tag
  | sysSleep p tag | sysShip p tag | sysReset p tag | sysResume p tag | sysLease p tag | sysSave p tag | fltAck p tag
  | fltClear p tag | fltRelease p tag | fltUnlatch p tag | gaugeSave p tag | gaugeProfile p tag | seqEvent p tag
  | telSnapshot p tag | telSlotRead p tag | logMark p tag | otpProgram p tag _ | otpLock p tag _ | updBegin p tag _
  | updData p tag | updEnd p tag _ | updActivate p tag | updAbort p tag | ageVeto p tag | ageApprove p tag | agePlan p tag
  | herdEnumerate p tag _ _ _ _ _ _ | herdForward p tag _ | herdList p tag | directGrant p tag | directEnd p tag =>
    dsimp only [exec]
    exact runCmd_clears s p tag _ _
  | registerWrite _ _ _ _ | commitDiscard _ _ | commitHold _ _ _ | hostHbWrite _ _ | mbxCmdProdWrite _ _ | mbxRespConsWrite _ _
  | fltAckWrite _ _ _ | fltSrcClear _ _ _ _ _ | fltPinDriveWrite _ _ _ | telSnapReqWrite _ _ _ | logMarkWrite _ _ _
  | seqEventWrite _ _ _ | telStrEnWrite _ _ _ | sbDsPopWrite _ _ _ | chgCfgChemWrite _ _ _ | ldoVsetWrite _ _ _ _ =>
    dsimp only [exec]
    exact rowWrite_clears _ _ _ _ _
  | railEnSet _ _ | railEnClear _ _ | isoEnSet _ _ | isoEnClear _ _ | ldoEnSet _ _ | ldoEnClear _ _ | iswEnClear _ | feFwdEnSet _
  | feFwdEnClear _ | chgEnSet _ | chgEnClear _ =>
    dsimp only [exec]
    exact rowEnable_clears _ _ _ _
  | status _ | regRd _ _ _ _ | regWr _ _ _ _ _ | memRd _ _ _ _ | memWr _ _ _ _ _ | doorbell _ _ _ =>
    dsimp only [exec]
    exact frame_clears _ _ _
  | chgQualDone _ | chgPreToCc | chgCcToCv | chgCvToTopoff | chgTopoffToDone =>
    dsimp only [exec]
    exact chgStep_clears _ _ _
  | loopDerivation _ | feDerivation | shedInhibitEnd _ | ldaDeassert _ | announceOffsetReturn _ | railUnlock _ | feStepInhibitEnd
  | feRevHoldEnd | dwellEnd | dieLinkFailure _ | isopwrUndervoltage | isopwrRestored | isoSecondaryShort _ | isoOverload _
  | isoUnlock _ | ldoUnlock _ | feVhbOvRelease | chgSuspend _ | isoOpenWinding _ _ =>
    exact clears_done
  | pgFall _ | railHiccupRestart _ | railRampComplete _ | railSoftStopDone _ | railSetpointMoveEnd _ | railCoeffTimeout _
  | loadStepFire _ | ldaAssert _ | announceEnd _ | railIlimSustained _ | railClampEnd _ | seqRetryReenable | snapshotCopyDone
  | idleTimerExpiry | resetNRelease | earlyOutputStart _ | tineTestOverdue _ | comparatorSelfTest _ _ _ _ | feStartRampDone
  | feStopRampDone | feRegionChange _ | feVsysOv | feVdrvUv | feBootstrapUv _ _ | feIlimSustained _ | feUnlock | vbusQualified
  | returnMatch | holdupExhausted | batteryPresenceLoss | batteryRemovalFast _ | learnedRecordTimer | chgRecharge _
  | chgSuspendEnd | chgSafetyTimerExpiry | chgFaultRecover | trialBootTimeout | synciLock _ | synciLoss | synciRelock _
  | dieThermalShutdown _ | multiwordLowRead _ _ | bufCommit _ | vioLoss | heartbeatDeadline | isoSoftstartDone _
  | ldoRampDone _ | sbRegWr _ _ _ _ | bufWr _ _ _ _ | sbRegRd _ _ _ | sbMemRd _ _ _ | bufRd _ _ _ | mbxStat _ | sbStatus _
  | sbBusTimeout _ | sbAbortAck _ | release | herdBusFault _ _ | herdBusClearRetry _ _ | updInactivityTimeout
  | converterFaultJudged _ _ _ | pgStable _ | enRunFilter _ | seqStepDone | vkeepLowAssert _ | vkeepLowRelease _ | iswCloseTimeout
  | deepDischargeCutoff | restReached | xtalStop | faultNPulseEnd | assign _ _ | bleatUnanswered | feStepInhibitStart _
  | cutoffBatfetOff | batteryPresenceRise _ | gaugeFilterCycle _ | mbxPost _ _ | earlyOutputTimeout _ | bootTineTest _
  | comparatorTrip _ _ _ | returnMatchTimeout | railThermalWarn _ | rcRead _ _ | mbxResp _ | dsRead _ | watchdogExpiry _
  | coreAlive _ =>
    exact clears_row
  | vkeepValid | vioReturn _ | ldoCurrentLimit _ => exact clears_ite clears_stays clears_done
  | otpReread _ | otpRereadRetry _ | scanRoundEnd _ | clkMonitorWindow _ | tineTestDone _ _ | planRun _
  | insertionFirstEstimate _ _ =>
    exact clears_ite clears_fault clears_row
  | wakeTimerExpiry => exact clears_ite clears_stays (clears_ite clears_done clears_done)
  | warningJudged _ _ _ | insertionCheck _ | feVhbOv _ | identify _ | streamRecord | feOpenPhase _ | coreGraceExpiry _
  | fawnGaugeInterval _ _ | handoverComplete _ _ | balanceWindow _ =>
    exact clears_ite (clears_ite clears_done clears_done) clears_stays
  | controllerDieThermal _ => exact clears_ite clears_done clears_row
  | iswOpeningCause _ => exact clears_ite clears_stays (clears_ite clears_done clears_done)
  | railSoftstartCheck _ _ | iswCloseComplete => exact clears_ite (clears_ite clears_done (clears_ite clears_done clears_done)) clears_stays
  | railSenseCheck _ _ _ | feChangeDone => exact clears_ite (clears_ite clears_done (clears_ite clears_done clears_done)) clears_stays
  | alertResponse _ => exact clears_ite clears_row clears_stays
  | herdChildBleat _ _ _ => exact clears_ite (clears_ite (clears_next rfl) clears_row) clears_stays
  | shipLatchRelease => exact clears_ite (clears_ite clears_done (clears_next rfl)) clears_stays
  | shipLatchArm | bleat => exact clears_ite (clears_next rfl) clears_stays
  | vkeepLost => exact vkeepLost_clears s
  | resetNRecognised => exact resetNRecognised_clears s
  | xtalStart => exact xtalStart_clears s
  | dieThermalRelease d => exact dieThermalRelease_clears d s
  | chargeSample nV carry => exact chargeSample_clears nV carry s
  | addrStrapRead mv => exact addrStrapRead_clears mv s
  | fuseReadComplete r => exact fuseReadComplete_clears r s
  | phaseRampOutDone p => exact phaseRampOutDone_clears p s
  | seqStepTimeout => exact seqStepTimeout_clears s
  | seqTableComplete => exact seqTableComplete_clears s
  | commandTake p => exact commandTake_clears p s
  | earlyRailDischargeTimeout d => exact earlyRailDischargeTimeout_clears d s
  | fawnEntryComplete => exact fawnEntryComplete_clears s
  | wakeEvent w => exact wakeEvent_clears w s
  | wakeSourceAsserted w => exact wakeSourceAsserted_clears w s
  | imageVerified ok => exact imageVerified_clears ok s
  | bootCoreTimeout => exact bootCoreTimeout_clears s
  | bootComplete => exact bootComplete_clears s
  | runtimeTineTestStart n => exact runtimeTineTestStart_clears n s
  | planItemApply item => exact planItemApply_clears item s
  | vbusLoss c => exact vbusLoss_clears c s
  | learnedRecordWriteDone => exact learnedRecordWriteDone_clears s
  | chgFault c => exact chgFault_clears c s
  | forwardResponseReceived p tag entry payload pecOk => exact forwardResponseReceived_clears p tag entry payload pecOk s
  | forwardTimeout p tag => exact forwardTimeout_clears p tag s
  | mailboxResume => exact mailboxResume_clears s
  | activationConfirmed => exact activationConfirmed_clears s
  | rollbackMailboxTimeout => exact rollbackMailboxTimeout_clears s
  | rollbackAliveTimeout => exact rollbackAliveTimeout_clears s
  | isoQueueStart => exact isoQueueStart_clears s
  | secdedError m correctable => exact secdedError_clears m correctable s
  | bleatRead wins => exact bleatRead_clears wins s
  | downstreamEntry route reason => exact downstreamEntry_clears route reason s

/-- Settles O7: a step is a row, which clears what it raises, or a tick, which raises nothing. -/
theorem eventsTaken : Obligations.EventsTaken := by
  unfold Obligations.EventsTaken
  intro s t hs hstep
  unfold step at hstep
  split at hstep
  next c rest _ => exact exec_clears c { s with pending := rest } hs t hstep
  next =>
    obtain rfl := Host.Outcome.next.inj hstep
    rw [tick_evs, hs]

end Sys2Proof.Machine
end

section
/-!
PROOFS. The end of a row that raised one event which keeps its own level: the event is classified, acted on and recorded, and
nothing else changes (R25, R28, R280-R283, R287-R289, R297, R305-R307).
-/

namespace Sys2Proof.Machine

/-! What an action may change. -/

/-- Nothing but registers, the collector, telemetry requests, the side-band's notes, the log and the work of rails, monitors and the
sequencer. -/
def OnlyActs (s t : State) : Prop :=
  t = { s with fields := t.fields, flt := t.flt, tel := t.tel, sb := t.sb, win := t.win, logNext := t.logNext, rails := t.rails,
               mons := t.mons, seq := t.seq }

theorem OnlyActs.refl (s : State) : OnlyActs s s := rfl

theorem OnlyActs.trans {s t u : State} (h : OnlyActs s t) (k : OnlyActs t u) : OnlyActs s u := by
  unfold OnlyActs at *
  rw [h] at k
  exact k

theorem OnlyRecords.onlyActs {s t : State} (h : OnlyRecords s t) : OnlyActs s t := by
  unfold OnlyRecords at h
  unfold OnlyActs
  rw [h]

theorem OnlyActs.storesKept {s t : State} (h : OnlyActs s t) : StoresKept s t := by
  unfold OnlyActs at h
  rw [h]
  exact ⟨fun _ => rfl, fun _ => rfl, rfl, rfl, rfl, rfl⟩

theorem OnlyActs.age {s t : State} (h : OnlyActs s t) : t.age = s.age := by
  unfold OnlyActs at h
  rw [h]

theorem OnlyActs.sys {s t : State} (h : OnlyActs s t) : t.sys = s.sys := by
  unfold OnlyActs at h
  rw [h]

theorem OnlyActs.clk {s t : State} (h : OnlyActs s t) : t.clk = s.clk := by
  unfold OnlyActs at h
  rw [h]

theorem OnlyActs.otp {s t : State} (h : OnlyActs s t) : t.otp = s.otp := by
  unfold OnlyActs at h
  rw [h]

theorem OnlyActs.nv {s t : State} (h : OnlyActs s t) : t.nv = s.nv := by
  unfold OnlyActs at h
  rw [h]

theorem OnlyActs.mram {s t : State} (h : OnlyActs s t) : t.mram = s.mram := by
  unfold OnlyActs at h
  rw [h]

theorem OnlyActs.staged {s t : State} (h : OnlyActs s t) : t.staged = s.staged := by
  unfold OnlyActs at h
  rw [h]

theorem OnlyActs.sbBuf {s t : State} (h : OnlyActs s t) : t.sbBuf = s.sbBuf := by
  unfold OnlyActs at h
  rw [h]

theorem OnlyActs.time {s t : State} (h : OnlyActs s t) : t.time = s.time := by
  unfold OnlyActs at h
  rw [h]

theorem OnlyActs.pending {s t : State} (h : OnlyActs s t) : t.pending = s.pending := by
  unfold OnlyActs at h
  rw [h]

/-- An action that changes only the listed fields and the work of the outputs: it sets no status, raises no event and logs
nothing. -/
structure Acts (l : List Fld) (s t : State) : Prop where
  kept : Kept l s t
  only : OnlyActs s t
  wf : Cells.wf s.fields = true → Cells.wf t.fields = true
  stats : t.flt.stats = s.flt.stats
  evs : t.flt.evs = s.flt.evs
  win : t.win = s.win
  logNext : t.logNext = s.logNext

section
variable {l m : List Fld} {s t u : State}

theorem Acts.refl (l : List Fld) (s : State) : Acts l s s := ⟨Kept.refl l s, rfl, id, rfl, rfl, rfl, rfl⟩

theorem Acts.trans (h : Acts l s t) (k : Acts l t u) : Acts l s u :=
  ⟨h.kept.trans k.kept, h.only.trans k.only, k.wf ∘ h.wf, k.stats.trans h.stats, k.evs.trans h.evs, k.win.trans h.win,
    k.logNext.trans h.logNext⟩

theorem Acts.mono (h : Acts l s t) (hm : l ⊆ m) : Acts m s t :=
  { h with kept := h.kept.mono fun _ hf => List.mem_map_of_mem (hm hf) }

/-- An action leaves a canonical state canonical. -/
theorem Acts.canonical (h : Acts l s t) (hs : s.canonical) : t.canonical := by
  obtain ⟨hf, hw, hl, hwin, hsb, hmram, hst⟩ := hs
  refine ⟨h.wf hf, ?_, ?_, ?_, ?_, ?_, ?_⟩
  · rwa [h.only.otp]
  · rwa [h.only.otp]
  · rwa [h.win]
  · rwa [h.only.sbBuf]
  · rwa [h.only.mram]
  · rwa [h.only.staged]

theorem Acts.getF (h : Acts l s t) {f : Fld} (hf : f.key ∉ l.map Fld.key) : t.getF f = s.getF f := h.kept f hf

theorem Acts.bit (h : Acts l s t) {f : Fld} (hf : f.key ∉ l.map Fld.key) : t.bit f = s.bit f := by
  unfold State.bit
  rw [h.getF hf]

theorem Acts.setF (h : Acts l s t) {f : Fld} (v : Nat) (hf : f ∈ l) : Acts l s (t.setF f v) :=
  h.trans ⟨(Kept.refl l t).setF f v (List.mem_map_of_mem hf), rfl, setF_fields_wf t f v, rfl, rfl, rfl, rfl⟩

theorem Acts.setB (h : Acts l s t) {f : Fld} (b : Bool) (hf : f ∈ l) : Acts l s (t.setB f b) := h.setF b.toNat hf

theorem Acts.setMany (h : Acts l s t) {x : List (Fld × Nat)} (hx : ∀ p ∈ x, p.1 ∈ l) : Acts l s (t.setMany x) := by
  induction x generalizing t with
  | nil => exact h
  | cons p x ih => exact ih (h.setF p.2 (hx p List.mem_cons_self)) fun q hq => hx q (List.mem_cons_of_mem _ hq)

theorem Acts.each (h : Acts l s t) {xs : List Nat} {g : Nat → State → State} (hg : ∀ x ∈ xs, ∀ u, Acts l u (g x u)) :
    Acts l s (t.each xs g) := by
  induction xs generalizing t with
  | nil => exact h
  | cons x xs ih => exact ih (h.trans (hg x List.mem_cons_self t)) fun y hy => hg y (List.mem_cons_of_mem _ hy)

theorem Acts.count (h : Acts l s t) {f : Fld} (hf : f ∈ l) : Acts l s (t.count f) := by
  unfold State.count
  split
  · exact h.setF _ hf
  · exact h

theorem Acts.setBitOf (h : Acts l s t) {f : Fld} (i : Nat) (b : Bool) (hf : f ∈ l) : Acts l s (t.setBitOf f i b) := by
  unfold State.setBitOf
  split
  · exact h
  · split <;> exact h.setF _ hf

/-- A change of state that no register, status, event, memory or log shows. -/
theorem Acts.inner (h : Acts l s t) (hf : u.fields = t.fields) (ho : OnlyActs t u) (hst : u.flt.stats = t.flt.stats)
    (hev : u.flt.evs = t.flt.evs) (hw : u.win = t.win) (hn : u.logNext = t.logNext) : Acts l s u :=
  h.trans ⟨(Kept.refl l t).of_fields hf, ho, fun w => hf ▸ w, hst, hev, hw, hn⟩

theorem Acts.request (h : Acts l s t) (b : Nat) (hf : Reg.SB_REQ_req ∈ l) : Acts l s (t.request b) := by
  unfold State.request
  split
  · exact h
  · dsimp only
    split
    · exact (h.setBitOf b true hf).inner rfl rfl rfl rfl rfl rfl
    · exact h.setBitOf b true hf

theorem Acts.endCause (h : Acts l s t) (cls src cause : Nat) : Acts l s (t.endCause cls src cause) :=
  h.inner rfl rfl rfl rfl rfl rfl

theorem Acts.updRail (h : Acts l s t) (k : Nat) (g : RailSt → RailSt) : Acts l s (t.updRail k g) := h.inner rfl rfl rfl rfl rfl rfl

theorem Acts.updMon (h : Acts l s t) (c : Nat) (g : MonSt → MonSt) : Acts l s (t.updMon c g) := h.inner rfl rfl rfl rfl rfl rfl

theorem Acts.updSeq (h : Acts l s t) (g : SeqSt → SeqSt) : Acts l s (t.updSeq g) := h.inner rfl rfl rfl rfl rfl rfl

end

/-! Classification. -/

/-- The state in which one event has been classified. -/
def State.classified (s : State) (e : Ev) : State := ((s.updFlt fun f => { f with evs := [] }).classify e).1

/-- The state in which the event's status is set and it waits no more; an event of level 0 has no status. -/
def State.statusSet (s : State) (e : Ev) : State :=
  s.updFlt fun f => { f with evs := [], stats := if 1 ≤ s.effective e then keepStatus e.cls e.src (s.effective e) f.stats else f.stats }

/-- What FLT_FIRST, FLT_OVF and FLT_COUNT take of an event (R289). -/
def firstFields : List Fld :=
  [Reg.FLT_FIRST_valid, Reg.FLT_FIRST_level, Reg.FLT_FIRST_class, Reg.FLT_FIRST_source, Reg.FLT_OVF_ovf, Reg.FLT_COUNT_count,
   Reg.FLT_FIRST_T_time 0, Reg.FLT_FIRST_T_time 1, Reg.FLT_FIRST_T_time 2, Reg.FLT_FIRST_T_time 3]

theorem latchFirst_acts (s : State) (e : Ev) (n : Nat) : Acts firstFields s (s.latchFirst e n) := by
  unfold State.latchFirst
  split
  · exact ((Acts.refl _ s).setB true (by simp [firstFields])).count (by simp [firstFields])
  · refine (Acts.each ((Acts.refl _ s).setMany ?_) ?_).inner rfl rfl rfl rfl rfl rfl
    · simp [firstFields]
    · intro x hx u
      simp only [List.mem_cons, List.not_mem_nil, or_false] at hx
      rcases hx with rfl | rfl | rfl | rfl <;> exact (Acts.refl _ u).setF _ (by simp [firstFields])

/-- The interrupt and FLT_FIRST of a status that has been set. -/
def State.firstNoted (s : State) (e : Ev) : State := ((s.statusSet e).setB Reg.HOST_INT_STAT_flt true).latchFirst e (s.effective e)

/-- The class is marked unacknowledged from L2 up (R287). -/
def State.unacked (s : State) (e : Ev) (n : Nat) : State := if 2 ≤ n then s.setBitOf Reg.FLT_UNACK_unack e.cls true else s

/-- The side-band request from its level up (R390). -/
def State.asked (s : State) (n : Nat) : State := if s.getF Reg.SB_REQ_EN_lvl ≤ n then s.request rqFAULT else s

theorem classified_of_pos {s : State} {e : Ev} (h : 1 ≤ s.effective e) :
    s.classified e = ((s.firstNoted e).unacked e (s.effective e)).asked (s.effective e) := by
  have heff : (s.updFlt fun f => { f with evs := [] }).effective e = s.effective e := rfl
  simp only [State.classified, State.classify, heff, h, ↓reduceIte, State.asked, State.unacked, State.firstNoted, State.statusSet]
  rfl

theorem classified_of_zero {s : State} {e : Ev} (h : s.effective e = 0) : s.classified e = (s.statusSet e).asked 0 := by
  have heff : (s.updFlt fun f => { f with evs := [] }).effective e = 0 := h
  simp [State.classified, State.classify, heff, h, State.asked, State.statusSet]

/-- The fields that classification at this level may change. -/
def classFields (n : Nat) : List Fld :=
  (if 2 ≤ n then [Reg.FLT_UNACK_unack] else []) ++ Reg.SB_REQ_req :: Reg.HOST_INT_STAT_flt :: firstFields

theorem firstNoted_acts (s : State) (e : Ev) (n : Nat) : Acts (classFields n) (s.statusSet e) (s.firstNoted e) := by
  have hfirst : firstFields ⊆ classFields n := fun f hf =>
    List.mem_append_right _ (List.mem_cons_of_mem _ (List.mem_cons_of_mem _ hf))
  exact ((Acts.refl _ _).setB true (by simp [classFields])).trans ((latchFirst_acts _ e _).mono hfirst)

theorem unacked_acts (s : State) (e : Ev) (n : Nat) : Acts (classFields n) s (s.unacked e n) := by
  unfold State.unacked
  split
  next h => exact (Acts.refl _ s).setBitOf _ true (by simp [classFields, h])
  next => exact Acts.refl _ s

theorem asked_acts (s : State) (n : Nat) : Acts [Reg.SB_REQ_req] s (s.asked n) := by
  unfold State.asked
  split
  · exact (Acts.refl _ s).request _ (by simp)
  · exact Acts.refl _ s

/-- Of a classified event its status is set, and else only fields of the collector, the interrupt and the side-band request
change. -/
theorem classified_acts (s : State) (e : Ev) : Acts (classFields (s.effective e)) (s.statusSet e) (s.classified e) := by
  have hask (u : State) (n : Nat) : Acts (classFields n) u (u.asked n) := (asked_acts u n).mono (by simp [classFields])
  rcases Nat.eq_zero_or_pos (s.effective e) with h | h
  · rw [classified_of_zero h, h]
    exact hask _ 0
  · rw [classified_of_pos h]
    exact ((firstNoted_acts s e _).trans (unacked_acts _ e _)).trans (hask _ _)

theorem statusAt_keepStatus (cls src n : Nat) (x : List Status) :
    ((keepStatus cls src n x).any fun y => y.cls == cls && y.src == src && decide (n ≤ y.lvl)) = true := by
  induction x with
  | nil => simp [keepStatus]
  | cons y r ih =>
    unfold keepStatus
    split
    · simp
    · rw [List.any_cons, ih, Bool.or_true]

theorem statusSet_statusAt {s : State} {e : Ev} (h : 1 ≤ s.effective e) :
    (s.statusSet e).statusAt e.cls e.src (s.effective e) = true := by
  simp only [State.statusSet, State.statusAt, updFlt_flt, h, ↓reduceIte]
  exact statusAt_keepStatus _ _ _ _

theorem classified_int {s : State} {e : Ev} (hw : Cells.wf s.fields = true) (h : 1 ≤ s.effective e) :
    (s.classified e).bit Reg.HOST_INT_STAT_flt = true := by
  have hset : ((s.statusSet e).setB Reg.HOST_INT_STAT_flt true).bit Reg.HOST_INT_STAT_flt = true :=
    bit_setB_same _ _ _ (by decide) hw
  have hfirst : (s.firstNoted e).bit Reg.HOST_INT_STAT_flt = true := ((latchFirst_acts _ _ _).bit (by decide)).trans hset
  have hunack : ((s.firstNoted e).unacked e (s.effective e)).bit Reg.HOST_INT_STAT_flt = true := by
    unfold State.unacked State.bit
    split
    · rw [getF_setBitOf_ne _ _ _ _ _ (by decide)]
      exact hfirst
    · exact hfirst
  rw [classified_of_pos h, (asked_acts _ _).bit (by decide)]
  exact hunack

theorem classified_unack {s : State} {e : Ev} (hw : Cells.wf s.fields = true) (h : 2 ≤ s.effective e) (hc : e.cls < 16) :
    bitOf ((s.classified e).getF Reg.FLT_UNACK_unack) e.cls = true := by
  have hwf : Cells.wf (s.firstNoted e).fields = true := (firstNoted_acts s e 0).wf hw
  rw [classified_of_pos (by omega), (asked_acts _ _).getF (by decide)]
  simp only [State.unacked, h, ↓reduceIte]
  rw [bitOf_setBitOf _ _ _ _ hc hwf]
  simp

/-! Reaction. -/

/-- The actions of R282 on a classified event, before FAULT_N. -/
def State.acted (s : State) (p : Ev × Nat) : State :=
  let s := if p.2 = 4 then s.enterSafe else if p.2 = 5 then s.actL5 else s
  let s := if 3 ≤ p.2 then s.actL3 p.1 else s
  if 2 ≤ p.2 then s.actL2 p.1 else s

/-- FAULT_N asserts from its level up (R297). -/
def State.pinned (s : State) (n : Nat) : State := if 1 ≤ n && s.getF Reg.FLT_CFG_fn_lvl ≤ n then s.assertFaultN else s

def pinFields : List Fld := [Reg.FLT_PIN_drive, Reg.FLT_PIN_pulse, Reg.FLT_PIN_pin]

theorem followPin_acts (s : State) : Acts pinFields s s.followPin := by
  unfold State.followPin
  split
  · exact Acts.refl _ s
  · exact (Acts.refl _ s).setB _ (by simp [pinFields])

theorem pinned_acts (s : State) (n : Nat) : Acts pinFields s (s.pinned n) := by
  unfold State.pinned State.assertFaultN
  split
  · refine Acts.trans ?_ (followPin_acts _)
    refine Acts.inner ((Acts.refl _ s).setMany (x := [(Reg.FLT_PIN_drive, 1), (Reg.FLT_PIN_pulse, 1)]) ?_) rfl rfl rfl rfl rfl rfl
    simp [pinFields]
  · exact Acts.refl _ s

/-- An event below L2 has no action of its own. -/
theorem acted_low (s : State) (e : Ev) {n : Nat} (h : n < 2) : s.acted (e, n) = s := by
  have h4 : n ≠ 4 := by omega
  have h5 : n ≠ 5 := by omega
  have h3 : ¬3 ≤ n := by omega
  have h2 : ¬2 ≤ n := by omega
  simp [State.acted, h4, h5, h3, h2]

theorem acted_two (s : State) (e : Ev) : s.acted (e, 2) = s.actL2 e := rfl

theorem acted_three (s : State) (e : Ev) : s.acted (e, 3) = (s.actL3 e).actL2 e := rfl

theorem acted_four (s : State) (e : Ev) : s.acted (e, 4) = (s.enterSafe.actL3 e).actL2 e := rfl

theorem actL2_acts (s : State) (e : Ev) : Acts (derateOf e.cls e.src) s (s.actL2 e) := by
  by_cases h : (e.cls = cRAILV ∨ e.cls = cRAILI ∨ e.cls = cTHERM) ∧ e.src < 8
  · have hact : s.actL2 e = s.setB (Reg.RAIL_STAT_derated e.src) true := if_pos (by simpa [or_assoc] using h)
    rw [hact, derateOf, if_pos h]
    exact (Acts.refl _ s).setB true List.mem_cons_self
  · have hact : s.actL2 e = s := if_neg (by simpa [or_assoc] using h)
    rw [hact]
    exact Acts.refl _ s

/-! Recording. -/

theorem wantSnap_acts (s : State) (trigger : Nat) (copy : Bool) : Acts [] s (s.wantSnap trigger copy) := by
  unfold State.wantSnap
  split <;> exact (Acts.refl _ s).inner rfl rfl rfl rfl rfl rfl

theorem sampleSnap_acts (s : State) : Acts [] s s.sampleSnap := by
  unfold State.sampleSnap
  split
  · split
    · exact (Acts.refl _ s).inner rfl rfl rfl rfl rfl rfl
    · exact Acts.refl _ s
  · exact Acts.refl _ s

/-- One entry logged after an action that logs nothing. -/
theorem LoggedOne.after {kind code : Nat} {s t u : State} (h : LoggedOne kind code t u) (hw : t.win = s.win)
    (hn : t.logNext = s.logNext) : LoggedOne kind code s u := by
  unfold LoggedOne at *
  rwa [hw, hn] at h

theorem LoggedOne.before {kind code : Nat} {s t u : State} (h : LoggedOne kind code s t) (hw : u.win = t.win)
    (hn : u.logNext = t.logNext) : LoggedOne kind code s u := by
  unfold LoggedOne State.logKind State.logCode at *
  rwa [← hw, ← hn] at h

/-- The snapshot of an event from L3 up (R308). -/
def State.snapAsked (s : State) (p : Ev × Nat) : State :=
  if 3 ≤ p.2 then s.wantSnap (p.2 * 4096 + p.1.cls * 256 + p.1.src) true else s

theorem snapAsked_acts (s : State) (p : Ev × Nat) : Acts [] s (s.snapAsked p) := by
  unfold State.snapAsked
  split
  · exact wantSnap_acts s _ _
  · exact Acts.refl _ s

/-- An event that kept its level is recorded by one entry of kind 1 (R307). -/
theorem recordEv_eq (s : State) (e : Ev) :
    ∃ d, s.recordEv (e, e.lvl) = (s.snapAsked (e, e.lvl)).log 1 (evCode e.cls e.src e.lvl) d := by
  unfold State.recordEv State.snapAsked evCode
  simp only [↓reduceIte, Nat.add_zero]
  exact ⟨_, rfl⟩

/-- The end of an event: FAULT_N, the snapshot and the log entry. -/
def State.concluded (s : State) (e : Ev) : State := ((s.pinned e.lvl).recordEv (e, e.lvl)).sampleSnap

/-- What the end of an event leaves: one entry, and the FAULT_N fields. -/
structure Concludes (e : Ev) (s t : State) : Prop where
  kept : Kept pinFields s t
  only : OnlyActs s t
  stats : t.flt.stats = s.flt.stats
  evs : t.flt.evs = s.flt.evs
  logged : LoggedOne 1 (evCode e.cls e.src e.lvl) s t

theorem concluded_concludes {s : State} (e : Ev) (hs : s.canonical) (hl : e.lvl ≤ 5) (hc : e.cls < 16) (hr : e.src < 128) :
    Concludes e s (s.concluded e) := by
  have hcode : evCode e.cls e.src e.lvl < 65536 := by
    unfold evCode
    omega
  have hpin := pinned_acts s e.lvl
  have hsnap := snapAsked_acts (s.pinned e.lvl) (e, e.lvl)
  obtain ⟨d, hrec⟩ := recordEv_eq (s.pinned e.lvl) e
  have hlog := log_logged _ 1 _ d (hsnap.canonical (hpin.canonical hs)) (by decide) hcode
  unfold State.concluded
  rw [hrec]
  have hlast := sampleSnap_acts (((s.pinned e.lvl).snapAsked (e, e.lvl)).log 1 (evCode e.cls e.src e.lvl) d)
  have hbefore := hpin.trans (hsnap.mono (List.nil_subset _))
  refine ⟨?_, ?_, ?_, ?_, ?_⟩
  · exact (hbefore.kept.of_fields (log_fields _ _ _ _)).trans (hlast.mono (List.nil_subset _)).kept
  · exact (hbefore.only.trans (OnlyRecords.refl _ |>.log 1 _ d).onlyActs).trans hlast.only
  · exact hlast.stats.trans hbefore.stats
  · exact hlast.evs.trans hbefore.evs
  · exact ((hlog.before hlast.win hlast.logNext).after hsnap.win hsnap.logNext).after hpin.win hpin.logNext

/-! The whole row. -/

theorem drain_of_no_event {s : State} (h : s.flt.evs = []) (n : Nat) : s.drain n = s := by
  cases n with
  | zero => rfl
  | succ n => simp [State.drain, h]

/-- A single event of a level up to 5 passes all of CLASSIFY, REACT and RECORD in one round. -/
theorem drain_of_event {s : State} {e : Ev} (hev : s.flt.evs = [e]) (heff : s.effective e = e.lvl) (hl : e.lvl ≤ 5)
    (hnone : (((s.classified e).acted (e, e.lvl)).concluded e).flt.evs = []) (n : Nat) :
    s.drain (n + 1) = ((s.classified e).acted (e, e.lvl)).concluded e := by
  have hclass : (s.updFlt fun f => { f with evs := [] }).classifyAll s.flt.evs = (s.classified e, [(e, e.lvl)]) := by
    rw [hev, ← heff]
    rfl
  have hreact (t : State) : [5, 4, 3, 2, 1, 0].foldl (fun t l => ([(e, e.lvl)].filter fun q => q.2 == l).foldl State.react t) t
      = t.react (e, e.lvl) := by
    generalize e.lvl = l at hl
    interval_cases l <;> rfl
  rw [State.drain, if_neg (by simp [hev])]
  simp only [hclass, hreact]
  exact drain_of_no_event hnone n

/-- The fields that decide how a row ends, and those that show an event: no action of an event touches them. -/
def markFields : List Fld := [Reg.SYS_RUN_STAT_act_deferred, Reg.HOST_INT_STAT_flt, Reg.FLT_UNACK_unack]

/-- The state in which the row's event waits, and nothing else is left for the row's end. -/
structure Waits (e : Ev) (s : State) : Prop where
  canonical : s.canonical
  evs : s.flt.evs = [e]
  deferred : s.bit Reg.SYS_RUN_STAT_act_deferred = false
  live : s.age.live = []
  own : s.effective e = e.lvl
  lvl : e.lvl ≤ 5
  cls : e.cls < 16
  src : e.src < 128

/-- What the row's end makes of its event, with an action on the listed fields. -/
structure EventDone (l : List Fld) (e : Ev) (s t : State) : Prop where
  kept : Kept (l ++ classFields e.lvl ++ pinFields) s t
  only : OnlyActs s t
  noted : 1 ≤ e.lvl → Noted e.cls e.src e.lvl t
  logged : LoggedOne 1 (evCode e.cls e.src e.lvl) s t
  acted : Kept pinFields ((s.classified e).acted (e, e.lvl)) t

section
variable {l : List Fld} {e : Ev} {s : State}

theorem Waits.classified (h : Waits e s) : Acts (classFields e.lvl) (s.statusSet e) (s.classified e) := by
  rw [← h.own]
  exact classified_acts s e

theorem Waits.concludes (h : Waits e s) (hact : Acts l (s.classified e) ((s.classified e).acted (e, e.lvl))) :
    Concludes e ((s.classified e).acted (e, e.lvl)) (((s.classified e).acted (e, e.lvl)).concluded e) :=
  concluded_concludes e (hact.canonical (h.classified.canonical h.canonical)) h.lvl h.cls h.src

theorem Waits.settle_eq (h : Waits e s) (hact : Acts l (s.classified e) ((s.classified e).acted (e, e.lvl)))
    (hmark : ∀ f ∈ markFields, f.key ∉ l.map Fld.key) : s.settle = ((s.classified e).acted (e, e.lvl)).concluded e := by
  have hclass := h.classified
  have hend := h.concludes hact
  have hevs : (((s.classified e).acted (e, e.lvl)).concluded e).flt.evs = [] := by
    rw [hend.evs, hact.evs, hclass.evs]
    rfl
  have hdefer : (((s.classified e).acted (e, e.lvl)).concluded e).bit Reg.SYS_RUN_STAT_act_deferred = false := by
    rw [← h.deferred]
    unfold State.bit
    rw [hend.kept _ (by decide), hact.getF (hmark _ (by simp [markFields])), hclass.getF]
    · rfl
    · unfold classFields
      split <;> decide
  have hlive : (((s.classified e).acted (e, e.lvl)).concluded e).age.live = [] := by
    rw [hend.only.age, hact.only.age, hclass.only.age]
    exact h.live
  have hquiet := settle_quiet _ ⟨hevs, hdefer, hlive⟩
  rw [← hquiet]
  unfold State.settle
  rw [drain_of_event h.evs h.own h.lvl hevs 7, drain_of_no_event hevs 8]

theorem Waits.noted (h : Waits e s) (hact : Acts l (s.classified e) ((s.classified e).acted (e, e.lvl)))
    (hmark : ∀ f ∈ markFields, f.key ∉ l.map Fld.key) (hl : 1 ≤ e.lvl) :
    Noted e.cls e.src e.lvl (((s.classified e).acted (e, e.lvl)).concluded e) := by
  have hend := h.concludes hact
  have hpos : 1 ≤ s.effective e := h.own ▸ hl
  refine ⟨?_, ?_, ?_⟩
  · have hst : (((s.classified e).acted (e, e.lvl)).concluded e).flt.stats = (s.statusSet e).flt.stats := by
      rw [hend.stats, hact.stats, h.classified.stats]
    have hat := statusSet_statusAt hpos
    rw [h.own] at hat
    unfold State.statusAt at *
    rwa [hst]
  · rw [← classified_int h.canonical.1 hpos]
    unfold State.bit
    rw [hend.kept _ (by decide), hact.getF (hmark _ (by simp [markFields]))]
  · intro h2
    rw [hend.kept _ (by decide), hact.getF (hmark _ (by simp [markFields]))]
    exact classified_unack h.canonical.1 (h.own ▸ h2) h.cls

/-- A row that raised one event, which keeps its own level, ends with it classified, acted on and recorded. -/
theorem Waits.done (h : Waits e s) (hact : Acts l (s.classified e) ((s.classified e).acted (e, e.lvl)))
    (hmark : ∀ f ∈ markFields, f.key ∉ l.map Fld.key) : ∃ t, s.done = .next t ∧ EventDone l e s t := by
  have hclass := h.classified
  have hend := h.concludes hact
  have hset : Kept (l ++ classFields e.lvl ++ pinFields) s (s.statusSet e) := (Kept.refl _ s).of_fields rfl
  refine ⟨_, congrArg Host.Outcome.next (h.settle_eq hact hmark), ?_, ?_, h.noted hact hmark, ?_, hend.kept⟩
  · refine hset.trans (((hclass.mono ?_).kept.trans (hact.mono ?_).kept).trans (hend.kept.mono ?_))
    · exact fun _ hf => List.mem_append_left _ (List.mem_append_right _ hf)
    · exact fun _ hf => List.mem_append_left _ (List.mem_append_left _ hf)
    · exact fun _ hf => List.mem_map_of_mem (List.mem_append_right _ hf)
  · exact ((OnlyActs.trans (t := s.statusSet e) rfl hclass.only).trans hact.only).trans hend.only
  · exact (hend.logged.after hact.win hact.logNext).after hclass.win hclass.logNext

end

/-! Levels without an action on outputs. -/

/-- An event of level 0 or 1 has no action beside FAULT_N. -/
theorem Waits.done_low {e : Ev} {s : State} (h : Waits e s) (hl : e.lvl < 2) : ∃ t, s.done = .next t ∧ EventDone [] e s t :=
  h.done (by rw [acted_low _ _ hl]; exact Acts.refl _ _) (by simp)

/-- An event of level 2 derates a rail. -/
theorem Waits.done_two {e : Ev} {s : State} (h : Waits e s) (hl : e.lvl = 2)
    (hmark : ∀ f ∈ markFields, f.key ∉ (derateOf e.cls e.src).map Fld.key) :
    ∃ t, s.done = .next t ∧ EventDone (derateOf e.cls e.src) e s t :=
  h.done (by rw [hl, acted_two]; exact actL2_acts _ e) hmark

end Sys2Proof.Machine
end

section
/-!
PROOFS. Raising an event, and what a row that raised one leaves.
-/

namespace Sys2Proof.Machine

/-! What a row has done before its end. -/

/-- A row has changed only the listed fields so far, and state that is no register, memory, record or log. -/
structure Undisturbed (m : List Fld) (s u : State) : Prop where
  kept : Kept m s u
  stores : StoresKept s u
  win : u.win = s.win
  logNext : u.logNext = s.logNext

section
variable {l m : List Fld} {s t u v : State} {e : Ev}

theorem StoresKept.trans (h : StoresKept s t) (k : StoresKept t u) : StoresKept s u := by
  obtain ⟨hm, hb, hw, hn, ht, hp⟩ := h
  obtain ⟨km, kb, kw, kn, kt, kp⟩ := k
  exact ⟨fun a => (km a).trans (hm a), fun a => (kb a).trans (hb a), kw.trans hw, kn.trans hn, kt.trans ht, kp.trans hp⟩

theorem Undisturbed.refl (m : List Fld) (s : State) : Undisturbed m s s :=
  ⟨Kept.refl m s, ⟨fun _ => rfl, fun _ => rfl, rfl, rfl, rfl, rfl⟩, rfl, rfl⟩

theorem Undisturbed.trans (h : Undisturbed m s u) (k : Undisturbed m u v) : Undisturbed m s v :=
  ⟨h.kept.trans k.kept, h.stores.trans k.stores, k.win.trans h.win, k.logNext.trans h.logNext⟩

theorem Undisturbed.mono (h : Undisturbed l s u) (hl : l ⊆ m) : Undisturbed m s u :=
  { h with kept := h.kept.mono fun _ hf => List.mem_map_of_mem (hl hf) }

theorem Acts.undisturbed (h : Acts m s u) : Undisturbed m s u := ⟨h.kept, h.only.storesKept, h.win, h.logNext⟩

theorem Undisturbed.frame (h : Undisturbed m s u) : Frame m s u :=
  ⟨h.kept, h.stores, fun a => by rw [h.win], h.logNext⟩

/-- A change of state that no register, memory, record or log shows. -/
theorem Undisturbed.inner (h : Undisturbed m s u) (hf : v.fields = u.fields) (hst : StoresKept u v) (hw : v.win = u.win)
    (hn : v.logNext = u.logNext) : Undisturbed m s v :=
  h.trans ⟨(Kept.refl m u).of_fields hf, hst, hw, hn⟩

theorem EventDone.frameLog (h : EventDone l e u t) (hu : Undisturbed m s u) :
    FrameLog (m ++ (l ++ classFields e.lvl ++ pinFields)) 1 (evCode e.cls e.src e.lvl) s t := by
  refine ⟨(hu.kept.mono ?_).trans (h.kept.mono ?_), hu.stores.trans h.only.storesKept, h.logged.after hu.win hu.logNext⟩
  · exact fun _ hf => List.mem_map_of_mem (List.mem_append_left _ hf)
  · exact fun _ hf => List.mem_map_of_mem (List.mem_append_right _ hf)

theorem FrameLog.mono {kind code : Nat} (h : FrameLog l kind code s t) (hl : l ⊆ m) : FrameLog m kind code s t := by
  obtain ⟨hk, hst, hlog⟩ := h
  exact ⟨hk.mono fun _ hf => List.mem_map_of_mem (hl hf), hst, hlog⟩

theorem classFields_low {n : Nat} (h : n < 2) : classFields n ++ pinFields ⊆ noteFields := by
  interval_cases n <;> decide

theorem classFields_judged (n : Nat) : classFields n ++ pinFields ⊆ judgedFields := by
  unfold classFields
  split <;> decide

/-- The frame of an event below L2. -/
theorem EventDone.frameLog_low (h : EventDone [] e u t) (hl : e.lvl < 2) (hu : Undisturbed m s u) :
    FrameLog (m ++ noteFields) 1 (evCode e.cls e.src e.lvl) s t := by
  refine (h.frameLog hu).mono ?_
  rw [List.nil_append]
  exact List.append_subset.mpr
    ⟨List.subset_append_left _ _, fun _ hf => List.mem_append_right _ (classFields_low hl hf)⟩

/-- The frame of any event. -/
theorem EventDone.frameLog_judged (h : EventDone l e u t) (hu : Undisturbed m s u) :
    FrameLog (m ++ (l ++ judgedFields)) 1 (evCode e.cls e.src e.lvl) s t := by
  refine (h.frameLog hu).mono ?_
  rw [List.append_assoc]
  refine List.append_subset.mpr ⟨List.subset_append_left _ _, List.append_subset.mpr ⟨?_, ?_⟩⟩
  · exact fun _ hf => List.mem_append_right _ (List.mem_append_left _ hf)
  · exact fun _ hf => List.mem_append_right _ (List.mem_append_right _ (classFields_judged _ hf))

/-! Raising. -/

/-- The event keeps its level: below L2 always, from there while its class is acknowledged. -/
theorem effective_of_low (s : State) (h : e.lvl < 2) : s.effective e = e.lvl := by
  have h2 : ¬2 ≤ e.lvl := by omega
  simp [State.effective, h2]

theorem effective_of_fresh (h : s.fresh e.cls) : s.effective e = e.lvl := by
  simp [State.effective, h]

/-- The codes of the class and source of an event stand in their log field, and its level is one. -/
abbrev Ev.inRange (e : Ev) : Prop := e.lvl ≤ 5 ∧ e.cls < 16 ∧ e.src < 128

theorem raiseLasting_eq (hp : v.present e.cls e.src e.cause = false) (hr : v.romUp = true) :
    v.raiseLasting e = v.updFlt fun f => { f with evs := f.evs ++ [e], causes := f.causes ++ [(e.cls, e.src, e.cause)] } := by
  simp [State.raiseLasting, hp, hr]

theorem raise_eq (hr : v.romUp = true) : v.raise e = v.updFlt fun f => { f with evs := f.evs ++ [e] } := by
  simp [State.raise, hr]

theorem waits_updFlt (hv : v.ready) (hown : v.effective e = e.lvl) (he : e.inRange) {g : Flt → Flt}
    (hg : (g v.flt).evs = v.flt.evs ++ [e]) : Waits e (v.updFlt g) := by
  obtain ⟨hc, hev, hdefer, hlive⟩ := hv
  obtain ⟨hl, hcls, hsrc⟩ := he
  exact ⟨hc, by rw [updFlt_flt, hg, hev, List.nil_append], hdefer, hlive, hown, hl, hcls, hsrc⟩

theorem Undisturbed.updFlt (h : Undisturbed m s v) (g : Flt → Flt) : Undisturbed m s (v.updFlt g) :=
  h.inner rfl ⟨fun _ => rfl, fun _ => rfl, rfl, rfl, rfl, rfl⟩ rfl rfl

theorem Undisturbed.updSys (h : Undisturbed m s v) (g : Sys → Sys) : Undisturbed m s (v.updSys g) :=
  h.inner rfl ⟨fun _ => rfl, fun _ => rfl, rfl, rfl, rfl, rfl⟩ rfl rfl

/-- A new lasting cause raises its event. -/
theorem waits_raiseLasting (hv : v.ready) (hp : v.present e.cls e.src e.cause = false) (hr : v.romUp = true)
    (hown : v.effective e = e.lvl) (he : e.inRange) : Waits e (v.raiseLasting e) := by
  rw [raiseLasting_eq hp hr]
  exact waits_updFlt hv hown he rfl

theorem waits_raise (hv : v.ready) (hr : v.romUp = true) (hown : v.effective e = e.lvl) (he : e.inRange) : Waits e (v.raise e) := by
  rw [raise_eq hr]
  exact waits_updFlt hv hown he rfl

theorem Undisturbed.raiseLasting (h : Undisturbed m s v) (e : Ev) : Undisturbed m s (v.raiseLasting e) := by
  unfold State.raiseLasting
  split
  · exact h
  · exact h.updFlt _

theorem Undisturbed.raise (h : Undisturbed m s v) (e : Ev) : Undisturbed m s (v.raise e) := by
  unfold State.raise
  split
  · exact h.updFlt _
  · exact h

/-- The ROM runs by the state of the supply, the boot stage and the device state. -/
theorem romUp_congr (hsys : v.sys = s.sys) (hst : v.getF Reg.SYS_STATE_state = s.getF Reg.SYS_STATE_state) : v.romUp = s.romUp := by
  simp only [State.romUp, State.live, State.st, hsys, hst]

theorem romUp_setB {f : Fld} (b : Bool) (h : s.romUp = true) (hf : Reg.SYS_STATE_state.key ≠ f.key) : (s.setB f b).romUp = true :=
  (romUp_congr (s := s) (v := s.setB f b) rfl (getF_setB_ne s f _ b hf)).trans h

/-- A ready state stays ready under changes of fields that defer no activation. -/
theorem State.ready.setF {f : Fld} (h : s.ready) (n : Nat) (hf : Reg.SYS_RUN_STAT_act_deferred.key ≠ f.key) : (s.setF f n).ready := by
  obtain ⟨hc, hev, hdefer, hlive⟩ := h
  refine ⟨setF_canonical s f n hc, hev, ?_, hlive⟩
  rwa [bit_setF_ne _ _ _ _ hf]

theorem State.ready.setB {f : Fld} (h : s.ready) (b : Bool) (hf : Reg.SYS_RUN_STAT_act_deferred.key ≠ f.key) : (s.setB f b).ready :=
  h.setF b.toNat hf

theorem State.ready.setMany {x : List (Fld × Nat)} (h : s.ready) (hx : ∀ p ∈ x, Reg.SYS_RUN_STAT_act_deferred.key ≠ p.1.key) :
    (s.setMany x).ready := by
  induction x generalizing s with
  | nil => exact h
  | cons p x ih => exact ih (h.setF p.2 (hx p List.mem_cons_self)) fun q hq => hx q (List.mem_cons_of_mem _ hq)

end

end Sys2Proof.Machine
end

section
/-!
PROOFS. Clock monitoring and the crystal.
-/

namespace Sys2Proof.Machine

/-! Reading a list of written fields. -/

theorem getF_setMany_mem {l : List (Fld × Nat)} {s : State} (hw : Cells.wf s.fields = true) (hd : (l.map fun p => p.1.key).Nodup)
    {p : Fld × Nat} (hp : p ∈ l) : (s.setMany l).getF p.1 = p.2 % 2 ^ p.1.w := by
  induction l generalizing s with
  | nil => simp at hp
  | cons q l ih =>
    obtain ⟨hq, hd⟩ := List.nodup_cons.mp hd
    rw [setMany_cons]
    rcases List.mem_cons.mp hp with rfl | hp
    · rw [getF_setMany_ne _ _ _ fun x hx e => hq (List.mem_map.mpr ⟨x, hx, e.symm⟩), getF_setF_same _ _ _ hw]
    · exact ih (setF_fields_wf s _ _ hw) hd hp

theorem bit_setMany_mem {l : List (Fld × Nat)} {s : State} (hw : Cells.wf s.fields = true) (hd : (l.map fun p => p.1.key).Nodup)
    {f : Fld} {b : Bool} (hf : 0 < f.w) (hp : (f, b.toNat) ∈ l) : (s.setMany l).bit f = b := by
  have h2 : 1 < 2 ^ f.w := Nat.one_lt_two_pow (by omega)
  have hv : (s.setMany l).getF f = b.toNat % 2 ^ f.w := getF_setMany_mem hw hd hp
  unfold State.bit
  rw [hv]
  cases b <;> simp [Nat.mod_eq_of_lt h2]

/-! The monitoring window. -/

/-- The lock bits of a window (R39). -/
def State.lockWrites (s : State) (m : ClkWindow) : List (Fld × Nat) :=
  [(Reg.CLK_STAT_sys_lock, (s.clockRuns 0 && m.lock.getD 0 true).toNat),
   (Reg.CLK_STAT_gauge_lock, (s.clockRuns 1 && m.lock.getD 1 true).toNat),
   (Reg.CLK_STAT_pwm0_lock, (s.clockRuns 2 && m.lock.getD 2 true).toNat),
   (Reg.CLK_STAT_pwm1_lock, (s.clockRuns 3 && m.lock.getD 3 true).toNat),
   (Reg.CLK_STAT_fe_lock, (s.clockRuns 4 && m.lock.getD 4 true).toNat),
   (Reg.CLK_STAT_rc64_ok, (decide (-4000 ≤ m.dev.getD 6 0) && decide (m.dev.getD 6 0 ≤ 4000)).toNat)]

/-- The deviations a window keeps (R39). -/
def State.devsKept (s : State) (m : ClkWindow) : State :=
  { s with clk := { s.clk with dev := (List.range 7).map fun i => if s.clockRuns i then some (m.dev.getD i 0) else none } }

/-- The state in which a window has been noted, before its domains are judged. -/
def State.windowNoted (s : State) (m : ClkWindow) : State := (s.devsKept m).setMany (s.lockWrites m)

/-- Every domain of a list is judged by a window. -/
def State.clocksJudged (s : State) (m : ClkWindow) (l : List Nat) : State :=
  s.each l fun i u => u.judgeClock i (m.dev.getD i 0) (m.lock.getD i true)

theorem exec_clkMonitorWindow {m : ClkWindow} {s : State} (hm : m.wf = true) (hr : s.romUp = true) :
    exec (.clkMonitorWindow m) s = ((s.windowNoted m).clocksJudged m (List.range 7)).done := by
  show execClkMonitorWindow m s = _
  unfold execClkMonitorWindow
  rw [if_neg (by simp [hm]), if_pos hr]
  rfl

def lockFields : List Fld :=
  [Reg.CLK_STAT_sys_lock, Reg.CLK_STAT_gauge_lock, Reg.CLK_STAT_pwm0_lock, Reg.CLK_STAT_pwm1_lock, Reg.CLK_STAT_fe_lock,
   Reg.CLK_STAT_rc64_ok]

theorem lockWrites_fields (s : State) (m : ClkWindow) : (s.lockWrites m).map (·.1) = lockFields := rfl

theorem mem_lockFields {s : State} {m : ClkWindow} {p : Fld × Nat} (hp : p ∈ s.lockWrites m) : p.1 ∈ lockFields :=
  lockWrites_fields s m ▸ List.mem_map_of_mem hp

theorem windowNoted_undisturbed (s : State) (m : ClkWindow) : Undisturbed lockFields s (s.windowNoted m) := by
  have hdev : Undisturbed lockFields s (s.devsKept m) :=
    (Undisturbed.refl _ s).inner rfl ⟨fun _ => rfl, fun _ => rfl, rfl, rfl, rfl, rfl⟩ rfl rfl
  exact hdev.trans ((Acts.refl _ _).setMany fun _ => mem_lockFields).undisturbed

theorem windowNoted_ready {s : State} (hs : s.ready) (m : ClkWindow) : (s.windowNoted m).ready := by
  have hdev : (s.devsKept m).ready := hs
  have hne : ∀ f ∈ lockFields, Reg.SYS_RUN_STAT_act_deferred.key ≠ f.key := by decide
  exact hdev.setMany fun p hp => hne _ (mem_lockFields hp)

/-- Whether a domain runs is read from the outputs and the device state, not from the CLK block. -/
theorem clockRuns_congr {s u : State} (hsys : u.sys = s.sys) (hf : ∀ f : Fld, f.key / 65536 ≠ 1 → u.getF f = s.getF f) (i : Nat) :
    u.clockRuns i = s.clockRuns i := by
  have hph (n : Nat) : u.getF (Reg.POL_PH_STAT_switching n) = s.getF (Reg.POL_PH_STAT_switching n) :=
    hf _ (by simp only [Fld.key]; omega)
  have hiso (n : Nat) : u.getF (Reg.ISO_STAT_state n) = s.getF (Reg.ISO_STAT_state n) := hf _ (by simp only [Fld.key]; omega)
  have hfe : u.getF Reg.FE_STAT_state = s.getF Reg.FE_STAT_state := hf _ (by decide)
  have hst : u.getF Reg.SYS_STATE_state = s.getF Reg.SYS_STATE_state := hf _ (by decide)
  simp only [State.clockRuns, State.st, State.feStopped, State.feIn, State.feState, State.isoState, State.bit, hph, hiso, hfe, hst,
    hsys]

theorem windowNoted_clockRuns (s : State) (m : ClkWindow) (i : Nat) : (s.windowNoted m).clockRuns i = s.clockRuns i := by
  refine clockRuns_congr (by simp [State.windowNoted, State.devsKept]) (fun f hf => (windowNoted_undisturbed s m).kept f fun hl => hf ?_) i
  have hblock : ∀ k ∈ lockFields.map Fld.key, k / 65536 = 1 := by decide
  exact hblock _ hl

/-- A domain passes a window: it does not run, or it is within 4% and locked. -/
def State.passes (s : State) (m : ClkWindow) (i : Nat) : Prop :=
  s.clockRuns i = false ∨ -4000 ≤ m.dev.getD i 0 ∧ m.dev.getD i 0 ≤ 4000 ∧ m.lock.getD i true = true

theorem judgeClock_of_passes {s : State} {m : ClkWindow} {i : Nat} (h : s.passes m i) :
    s.judgeClock i (m.dev.getD i 0) (m.lock.getD i true) = s.endCause cCLK i 0 := by
  refine if_neg ?_
  rcases h with h | ⟨hlo, hhi, hlock⟩
  · simp [h]
  · have hlo' : ¬m.dev.getD i 0 < -4000 := by omega
    have hhi' : ¬4000 < m.dev.getD i 0 := by omega
    simp only [hlo', hhi', hlock, decide_false, Bool.not_true, Bool.or_self, Bool.and_false, Bool.false_eq_true, not_false_eq_true]

/-- Domains that pass end their causes, and nothing else happens. -/
theorem clocksJudged_of_pass {m : ClkWindow} {l : List Nat} {s : State} (h : ∀ i ∈ l, s.passes m i) :
    ∃ c, c ⊆ s.flt.causes ∧ s.clocksJudged m l = s.updFlt fun f => { f with causes := c } := by
  induction l generalizing s with
  | nil => exact ⟨s.flt.causes, List.Subset.refl _, rfl⟩
  | cons i l ih =>
    obtain ⟨c, hc, heq⟩ := ih (s := s.endCause cCLK i 0) fun j hj => h j (List.mem_cons_of_mem _ hj)
    refine ⟨c, fun x hx => List.mem_of_mem_filter (hc hx), ?_⟩
    have hstep : s.clocksJudged m (i :: l) = (s.judgeClock i (m.dev.getD i 0) (m.lock.getD i true)).clocksJudged m l := rfl
    rw [hstep, judgeClock_of_passes (h i List.mem_cons_self), heq]
    rfl

theorem passes_congr {s u : State} {m : ClkWindow} {i : Nat} (hrun : u.clockRuns i = s.clockRuns i) (h : s.passes m i) :
    u.passes m i := by
  unfold State.passes at *
  rwa [hrun]

theorem windowNoted_passes {s : State} {m : ClkWindow} {i : Nat} (h : s.passes m i) : (s.windowNoted m).passes m i :=
  passes_congr (windowNoted_clockRuns s m i) h

/-- The lock bits a window leaves. -/
theorem windowNoted_locks {s : State} (hw : Cells.wf s.fields = true) (m : ClkWindow) :
    (s.windowNoted m).bit Reg.CLK_STAT_sys_lock = (s.clockRuns 0 && m.lock.getD 0 true)
      ∧ (s.windowNoted m).bit Reg.CLK_STAT_gauge_lock = (s.clockRuns 1 && m.lock.getD 1 true)
      ∧ (s.windowNoted m).bit Reg.CLK_STAT_fe_lock = (s.clockRuns 4 && m.lock.getD 4 true) := by
  have hd : ((s.lockWrites m).map fun p => p.1.key).Nodup := by
    have hkeys : ((s.lockWrites m).map fun p => p.1.key) = lockFields.map Fld.key := rfl
    rw [hkeys]
    decide
  have hdev : Cells.wf (s.devsKept m).fields = true := hw
  refine ⟨bit_setMany_mem hdev hd (by decide) ?_, bit_setMany_mem hdev hd (by decide) ?_, bit_setMany_mem hdev hd (by decide) ?_⟩
    <;> simp [State.lockWrites]

theorem clockRuns_of_romUp {s : State} (h : s.romUp = true) : s.clockRuns 0 = true ∧ s.clockRuns 1 = true := by
  simp only [State.romUp, State.live, Bool.and_eq_true] at h
  obtain ⟨⟨⟨⟨hv, -⟩, -⟩, hst⟩, -⟩ := h
  simp [State.clockRuns, hv, hst]

/-- The event of a GAUGE domain beyond 4% (R281). -/
def gaugeClkEv : Ev := { cls := cCLK, src := 1, lvl := 1 }

/-- A window whose domains all pass raises nothing. -/
theorem clkMonitorWindow_of_pass {m : ClkWindow} {s : State} (hs : s.ready) (hm : m.wf = true) (hr : s.romUp = true)
    (hp : ∀ i < 7, s.passes m i) :
    Completes (.clkMonitorWindow m) s fun t =>
      t.clk = (s.devsKept m).clk ∧ t.fields = (s.windowNoted m).fields ∧ Frame lockFields s t := by
  obtain ⟨c, -, heq⟩ := clocksJudged_of_pass (m := m) (l := List.range 7) (s := s.windowNoted m)
    fun i hi => windowNoted_passes (hp i (List.mem_range.mp hi))
  have hready := windowNoted_ready hs m
  refine ⟨_, ?_, ?_, ?_, ((windowNoted_undisturbed s m).updFlt fun f => { f with causes := c }).frame⟩
  · rw [exec_clkMonitorWindow hm hr, heq]
    exact done_quiet _ hready.2
  · simp [State.windowNoted]
  · rfl

theorem present_causes_subset {s : State} {c : List (Nat × Nat × Nat)} (hc : c ⊆ s.flt.causes) {cls src cause : Nat}
    (h : s.present cls src cause = false) : (s.updFlt fun f => { f with causes := c }).present cls src cause = false := by
  unfold State.present at *
  rw [List.contains_eq_mem, decide_eq_false_iff_not] at *
  exact fun hm => h (hc hm)

/-- A GAUGE domain beyond 4% that was not so before. -/
theorem judgeClock_gauge {s : State} {m : ClkWindow} (hrun : s.clockRuns 1 = true)
    (hbad : m.dev.getD 1 0 < -4000 ∨ 4000 < m.dev.getD 1 0) (hnew : s.present cCLK 1 0 = false) :
    s.judgeClock 1 (m.dev.getD 1 0) (m.lock.getD 1 true) = (s.setB Reg.CLK_FAULT_gauge true).raiseLasting gaugeClkEv := by
  have hjudged : (s.clockRuns 1 && (decide (4000 < m.dev.getD 1 0) || decide (m.dev.getD 1 0 < -4000) || !m.lock.getD 1 true)) = true := by
    rcases hbad with h | h <;> simp only [hrun, h, decide_true, Bool.true_or, Bool.or_true, Bool.and_true]
  unfold State.judgeClock
  rw [if_pos hjudged, if_neg (by simp [hnew])]
  rfl

/-- The judgement of a window in which GAUGE alone fails: its bit is set and its event waits. -/
theorem clocksJudged_gauge {m : ClkWindow} {v : State} (hv : v.ready) (hrun : v.clockRuns 1 = true) (hr : v.romUp = true)
    (hbad : m.dev.getD 1 0 < -4000 ∨ 4000 < m.dev.getD 1 0) (hp : ∀ i < 7, i = 1 ∨ v.passes m i)
    (hnew : v.present cCLK 1 0 = false) :
    ∃ g, v.clocksJudged m (List.range 7) = (v.setB Reg.CLK_FAULT_gauge true).updFlt g
      ∧ Waits gaugeClkEv ((v.setB Reg.CLK_FAULT_gauge true).updFlt g) := by
  have hsplit (u : State) : u.clocksJudged m (List.range 7)
      = ((u.clocksJudged m [0]).judgeClock 1 (m.dev.getD 1 0) (m.lock.getD 1 true)).clocksJudged m [2, 3, 4, 5, 6] := rfl
  obtain ⟨c, hc, hbefore⟩ := clocksJudged_of_pass (m := m) (l := [0]) (s := v) fun i hi => by
    obtain rfl := List.mem_singleton.mp hi
    exact (hp 0 (by decide)).resolve_left (by decide)
  have hnew' := present_causes_subset hc hnew
  have hgauge := judgeClock_gauge (s := v.updFlt fun f => { f with causes := c }) hrun hbad hnew'
  have hraise := raiseLasting_eq (e := gaugeClkEv)
    (v := (v.updFlt fun f => { f with causes := c }).setB Reg.CLK_FAULT_gauge true) hnew' (romUp_setB true hr (by decide))
  rw [hraise] at hgauge
  obtain ⟨d, -, hafter⟩ := clocksJudged_of_pass (m := m) (l := [2, 3, 4, 5, 6])
    (s := ((v.updFlt fun f => { f with causes := c }).setB Reg.CLK_FAULT_gauge true).updFlt fun f =>
      { f with evs := f.evs ++ [gaugeClkEv], causes := f.causes ++ [(cCLK, 1, 0)] }) fun i hi => by
    have hi7 : ∀ i ∈ [2, 3, 4, 5, 6], i < 7 ∧ i ≠ 1 := by decide
    obtain ⟨h7, h1⟩ := hi7 i hi
    refine passes_congr ?_ ((hp i h7).resolve_left h1)
    have hblock : Reg.CLK_FAULT_gauge.key / 65536 = 1 := by decide
    refine clockRuns_congr (s := v) ?_ (fun f hf => ?_) i
    · rfl
    · exact getF_setB_ne v Reg.CLK_FAULT_gauge f true fun e => hf (e ▸ hblock)
  refine ⟨fun f => { f with evs := f.evs ++ [gaugeClkEv], causes := d }, ?_, ?_⟩
  · rw [hsplit, hbefore, hgauge]
    exact hafter
  · exact waits_updFlt (hv.setB true (by decide)) (effective_of_low _ (by decide)) (by decide) rfl

theorem windowNoted_romUp {s : State} (h : s.romUp = true) (m : ClkWindow) : (s.windowNoted m).romUp = true := by
  rw [romUp_congr (s := s) (by simp [State.windowNoted, State.devsKept]) ((windowNoted_undisturbed s m).kept _ (by decide)), h]

theorem windowNoted_present {s : State} {cls src cause : Nat} (h : s.present cls src cause = false) (m : ClkWindow) :
    (s.windowNoted m).present cls src cause = false := by
  simpa [State.windowNoted, State.devsKept, State.present] using h

theorem clkMonitorWindow_gauge {m : ClkWindow} {s : State} (hs : s.ready) (hm : m.wf = true) (hr : s.romUp = true)
    (hbad : m.dev.getD 1 0 < -4000 ∨ 4000 < m.dev.getD 1 0) (hp : ∀ i < 7, i = 1 ∨ s.passes m i)
    (hnew : s.present cCLK 1 0 = false) :
    Completes (.clkMonitorWindow m) s fun t => t.bit Reg.CLK_FAULT_gauge = true ∧ Noted cCLK 1 1 t
      ∧ FrameLog ((lockFields ++ [Reg.CLK_FAULT_gauge]) ++ noteFields) 1 (evCode cCLK 1 1) s t := by
  have hready := windowNoted_ready hs m
  obtain ⟨g, heq, hwaits⟩ := clocksJudged_gauge hready ((windowNoted_clockRuns s m 1).trans (clockRuns_of_romUp hr).2)
    (windowNoted_romUp hr m) hbad (fun i hi => (hp i hi).imp_right windowNoted_passes) (windowNoted_present hnew m)
  obtain ⟨t, hdone, hev⟩ := hwaits.done_low (by decide)
  have hset : Undisturbed (lockFields ++ [Reg.CLK_FAULT_gauge]) s ((s.windowNoted m).setB Reg.CLK_FAULT_gauge true) :=
    ((windowNoted_undisturbed s m).mono (List.subset_append_left _ _)).trans ((Acts.refl _ _).setB true (by simp)).undisturbed
  refine ⟨t, ?_, ?_, hev.noted (by decide), hev.frameLog_low (by decide) (hset.updFlt g)⟩
  · rw [exec_clkMonitorWindow hm hr, heq, hdone]
  · have hbit : ((s.windowNoted m).setB Reg.CLK_FAULT_gauge true).bit Reg.CLK_FAULT_gauge = true :=
      bit_setB_same _ _ _ (by decide) hready.1.1
    unfold State.bit at *
    rw [hev.kept _ (by decide)]
    exact hbit

/-! The crystal. -/

/-- The crystal takes over AON at its first start in time (R55). -/
theorem xtalStart_first {s : State} (hw : Cells.wf s.fields = true) (hv : s.sys.vkeep = true) (hx : s.clk.xtalRuns = false)
    (ht : s.time ≤ 1000000) (hseen : s.bit Reg.CLK_STAT_xtal_seen = false) :
    Completes .xtalStart s fun t => t.clk.xtalRuns = true ∧ t.bit Reg.CLK_STAT_xtal_seen = true ∧ t.bit Reg.CLK_STAT_aon_xtal = true
      ∧ Frame [Reg.CLK_STAT_xtal_seen, Reg.CLK_STAT_aon_xtal] s t := by
  have hexec : exec .xtalStart s = .next (((({ s with clk := { s.clk with xtalRuns := true } }.setB Reg.CLK_STAT_xtal_seen true).setB
      Reg.CLK_STAT_aon_xtal true)).endCause cCLK 7 0) := by
    show execXtalStart s = _
    simp [execXtalStart, hv, hx, ht, hseen]
  refine ⟨_, hexec, rfl, ?_, ?_, ?_⟩
  · exact (bit_setB_ne _ _ _ _ (by decide)).trans (bit_setB_same _ _ _ (by decide) hw)
  · exact bit_setB_same _ _ _ (by decide) (setF_fields_wf _ _ _ hw)
  · have hclk : Undisturbed [Reg.CLK_STAT_xtal_seen, Reg.CLK_STAT_aon_xtal] s { s with clk := { s.clk with xtalRuns := true } } :=
      (Undisturbed.refl _ s).inner rfl ⟨fun _ => rfl, fun _ => rfl, rfl, rfl, rfl, rfl⟩ rfl rfl
    exact (hclk.trans ((((Acts.refl _ _).setB true (by simp)).setB true (by simp)).endCause _ _ _).undisturbed).frame

/-- The event of a crystal that stands still (R39). -/
def xtalEv : Ev := { cls := cCLK, src := 7, lvl := 1 }

/-- The crystal stands still, and AON goes on with the RC; its event is still to be raised. -/
def State.xtalLost (s : State) : State :=
  ({ s with clk := { s.clk with xtalRuns := false } }.setB Reg.CLK_STAT_aon_xtal false).setB Reg.CLK_FAULT_xtal_stop true

theorem exec_xtalStop {s : State} (hv : s.sys.vkeep = true) (hx : s.clk.xtalRuns = true) (hr : s.romUp = true) :
    exec .xtalStop s = (s.xtalLost.raiseLasting xtalEv).done := by
  have hup : ({ s with clk := { s.clk with xtalRuns := false } }.setB Reg.CLK_STAT_aon_xtal false).romUp = true :=
    romUp_setB false hr (by decide)
  show execXtalStop s = _
  simp only [execXtalStop, hv, hx, Bool.and_self, ↓reduceIte, hup]
  rfl

theorem xtalLost_undisturbed (s : State) : Undisturbed [Reg.CLK_STAT_aon_xtal, Reg.CLK_FAULT_xtal_stop] s s.xtalLost := by
  have hclk : Undisturbed [Reg.CLK_STAT_aon_xtal, Reg.CLK_FAULT_xtal_stop] s { s with clk := { s.clk with xtalRuns := false } } :=
    (Undisturbed.refl _ s).inner rfl ⟨fun _ => rfl, fun _ => rfl, rfl, rfl, rfl, rfl⟩ rfl rfl
  exact hclk.trans (((Acts.refl _ _).setB false (by simp)).setB true (by simp)).undisturbed

theorem xtalStop_lost {s : State} (hs : s.ready) (hv : s.sys.vkeep = true) (hx : s.clk.xtalRuns = true) (hr : s.romUp = true)
    (hnew : s.present cCLK 7 0 = false) :
    Completes .xtalStop s fun t => t.clk.xtalRuns = false ∧ t.bit Reg.CLK_STAT_aon_xtal = false ∧ t.bit Reg.CLK_FAULT_xtal_stop = true
      ∧ Noted cCLK 7 1 t ∧ FrameLog ([Reg.CLK_STAT_aon_xtal, Reg.CLK_FAULT_xtal_stop] ++ noteFields) 1 (evCode cCLK 7 1) s t := by
  have hclk : ({ s with clk := { s.clk with xtalRuns := false } } : State).ready := hs
  have haon := hclk.setB (f := Reg.CLK_STAT_aon_xtal) false (by decide)
  have hlost : s.xtalLost.ready := haon.setB true (by decide)
  have hup : s.xtalLost.romUp = true := romUp_setB true (romUp_setB false hr (by decide)) (by decide)
  have hraise := raiseLasting_eq (e := xtalEv) (v := s.xtalLost) hnew hup
  have hwaits := waits_raiseLasting (e := xtalEv) hlost hnew hup (effective_of_low _ (by decide)) (by decide)
  obtain ⟨t, hdone, hev⟩ := hwaits.done_low (by decide)
  have hframe := hev.frameLog_low (by decide) ((xtalLost_undisturbed s).raiseLasting xtalEv)
  rw [hraise] at hev
  refine ⟨t, (exec_xtalStop hv hx hr).trans hdone, ?_, ?_, ?_, hev.noted (by decide), hframe⟩
  · rw [hev.only.clk]
    rfl
  · unfold State.bit
    rw [hev.kept _ (by decide)]
    exact (bit_setB_ne _ _ _ _ (by decide)).trans (bit_setB_same _ _ _ (by decide) hs.1.1)
  · unfold State.bit
    rw [hev.kept _ (by decide)]
    exact bit_setB_same _ _ _ (by decide) haon.1.1

/-- Settles O16: a window judges the domains in turn, and only GAUGE's event can wait at its end; the crystal's rows are
`xtalStart_first` and `xtalStop_lost`. -/
theorem clocks : Obligations.Clocks := by
  unfold Obligations.Clocks
  refine ⟨?_, ?_, ?_, ?_⟩
  · intro m s hs hm hr hp
    obtain ⟨t, hexec, hclk, hfields, hframe⟩ := clkMonitorWindow_of_pass hs hm hr hp
    obtain ⟨hsys, hgauge, hfe⟩ := windowNoted_locks hs.1.1 m
    obtain ⟨hrun0, hrun1⟩ := clockRuns_of_romUp hr
    have hbit (f : Fld) : t.bit f = (s.windowNoted m).bit f := by
      unfold State.bit State.getF
      rw [hfields]
    refine ⟨t, hexec, by rw [hclk]; rfl, ?_, ?_, ?_, hframe⟩
    · rw [hbit, hsys, hrun0, Bool.true_and]
    · rw [hbit, hgauge, hrun1, Bool.true_and]
    · rw [hbit, hfe]
  · intro m s hs hm hr _ hbad hp hnew
    exact clkMonitorWindow_gauge hs hm hr hbad hp hnew
  · intro s hw hv hx ht hseen
    exact xtalStart_first hw hv hx ht hseen
  · intro s hs hv hx hr hnew
    exact xtalStop_lost hs hv hx hr hnew

end Sys2Proof.Machine
end

section
/-!
PROOFS. Locking a rail off: the fields it changes, and the end of a row whose event locks one rail off (R124, R258, R265, R283,
R284).
-/

namespace Sys2Proof.Machine

/-! The blocks of the outputs. -/

/-- A field of the register blocks of phases, rails and monitors. -/
abbrev Fld.ofOutputs (f : Fld) : Prop := 0x10000 ≤ f.addr ∧ f.addr < 0x1C000 ∧ f.lo < 16

theorem not_mem_of_not_ofOutputs {l : List Fld} {f : Fld} (hl : ∀ g ∈ l, g.ofOutputs)
    (hf : f.key < 0x100000 ∨ 0x1C0000 ≤ f.key) : f.key ∉ l.map Fld.key := by
  intro hm
  obtain ⟨g, hg, he⟩ := List.mem_map.mp hm
  obtain ⟨hlo, hhi, hw⟩ := hl g hg
  unfold Fld.key at *
  omega

theorem markFields_not_mem {l : List Fld} (hl : ∀ g ∈ l, g.ofOutputs) : ∀ f ∈ markFields, f.key ∉ l.map Fld.key := by
  have hmark : ∀ f ∈ markFields, f.key < 0x100000 ∨ 0x1C0000 ≤ f.key := by decide
  exact fun f hf => not_mem_of_not_ofOutputs hl (hmark f hf)

theorem derateOf_ofOutputs (cls src : Nat) : ∀ f ∈ derateOf cls src, f.ofOutputs := by
  intro f hf
  unfold derateOf at hf
  split at hf
  next h =>
    obtain rfl := List.mem_singleton.mp hf
    obtain ⟨-, hk⟩ := h
    refine ⟨?_, ?_, ?_⟩ <;> simp only <;> omega
  next => simp at hf

theorem phasesOf_lt {s : State} {k n : Nat} (h : n ∈ s.phasesOf k) : n < 16 := by
  unfold State.phasesOf at h
  split at h
  · exact List.mem_range.mp (List.mem_of_mem_filter h)
  · simp at h

/-- What ends with a rail's switching are fields of the rail, of its monitor, and two of each of its phases. -/
theorem mem_railOffFields {s : State} {k : Nat} (hk : k < 8) {f : Fld} (hf : f ∈ s.railOffFields k) :
    (0x11000 ≤ f.addr ∧ f.addr < 0x1C000 ∧ f.lo < 16)
      ∨ ∃ n < 16, f = Reg.POL_PH_STAT_switching n ∨ f = Reg.POL_PH_STAT_de n := by
  simp only [State.railOffFields, State.phaseFields, List.mem_append, List.mem_cons, List.not_mem_nil, or_false, List.mem_flatMap] at hf
  rcases hf with (rfl | rfl | rfl | rfl | rfl | rfl | rfl | rfl | rfl) | (rfl | rfl | rfl) | ⟨n, hn, rfl | rfl⟩
  case inr.inr.inl => exact .inr ⟨n, phasesOf_lt hn, .inl rfl⟩
  case inr.inr.inr => exact .inr ⟨n, phasesOf_lt hn, .inr rfl⟩
  all_goals refine .inl ⟨?_, ?_, ?_⟩ <;> simp only <;> omega

theorem railOffFields_ofOutputs {s : State} {k : Nat} (hk : k < 8) : ∀ f ∈ s.railOffFields k, f.ofOutputs := by
  intro f hf
  rcases mem_railOffFields hk hf with ⟨hlo, hhi, hb⟩ | ⟨n, hn, rfl | rfl⟩
  · exact ⟨by omega, hhi, hb⟩
  all_goals refine ⟨?_, ?_, ?_⟩ <;> simp only <;> omega

/-! Phases of a rail. -/

/-- The fields that say which phases a rail has (R106). -/
def rangeFields (k : Nat) : List Fld := [Reg.RAIL_GROUP_valid k, Reg.RAIL_GROUP_first k, Reg.RAIL_GROUP_last k]

theorem phasesOf_congr {s u : State} {k : Nat} (h : ∀ f ∈ rangeFields k, u.getF f = s.getF f) : u.phasesOf k = s.phasesOf k := by
  have hvalid := h (Reg.RAIL_GROUP_valid k) (by simp [rangeFields])
  have hfirst := h (Reg.RAIL_GROUP_first k) (by simp [rangeFields])
  have hlast := h (Reg.RAIL_GROUP_last k) (by simp [rangeFields])
  unfold State.phasesOf State.bit
  rw [hvalid, hfirst, hlast]

/-- A rail keeps its phases under changes of phase fields. -/
theorem Acts.phasesOf {l : List Fld} {s u : State} (h : Acts l s u) (hl : ∀ f ∈ l, f.addr < 0x11000 ∧ f.lo < 16) (k : Nat) :
    u.phasesOf k = s.phasesOf k := by
  refine phasesOf_congr fun f hf => h.getF fun hm => ?_
  obtain ⟨g, hg, he⟩ := List.mem_map.mp hm
  obtain ⟨hlo, hw⟩ := hl g hg
  simp only [rangeFields, List.mem_cons, List.not_mem_nil, or_false] at hf
  unfold Fld.key at he
  rcases hf with rfl | rfl | rfl <;> simp only at he <;> omega

theorem railOffFields_congr {s u : State} {k : Nat} (h : u.phasesOf k = s.phasesOf k) : u.railOffFields k = s.railOffFields k := by
  simp only [State.railOffFields, State.phaseFields, h]

/-! A rail stops switching. -/

theorem leaveDe_acts (s : State) (k : Nat) : Acts ((s.phasesOf k).map Reg.POL_PH_STAT_de) s (s.leaveDe k) :=
  (Acts.refl _ s).each fun _ hn u => (Acts.refl _ u).setB false (List.mem_map_of_mem hn)

theorem leaveDe_phasesOf (s : State) (k : Nat) : (s.leaveDe k).phasesOf k = s.phasesOf k := by
  refine (leaveDe_acts s k).phasesOf (fun f hf => ?_) k
  obtain ⟨n, hn, rfl⟩ := List.mem_map.mp hf
  have hn := phasesOf_lt hn
  exact ⟨by simp only; omega, by simp only; omega⟩

theorem setSwitching_acts (s : State) (k m : Nat) :
    Acts (Reg.RAIL_STAT_n_active k :: (s.phasesOf k).map Reg.POL_PH_STAT_switching) s (s.setSwitching k m) :=
  ((Acts.refl _ s).setF _ List.mem_cons_self).each fun _ hn u =>
    (Acts.refl _ u).setB _ (List.mem_cons_of_mem _ (List.mem_map_of_mem hn))

theorem de_mem_railOffFields {s : State} {k n : Nat} (hn : n ∈ s.phasesOf k) : Reg.POL_PH_STAT_de n ∈ s.railOffFields k := by
  refine List.mem_append_right _ (List.mem_append_right _ (List.mem_flatMap.mpr ⟨n, hn, ?_⟩))
  simp

theorem switching_mem_railOffFields {s : State} {k n : Nat} (hn : n ∈ s.phasesOf k) :
    Reg.POL_PH_STAT_switching n ∈ s.railOffFields k := by
  refine List.mem_append_right _ (List.mem_append_right _ (List.mem_flatMap.mpr ⟨n, hn, ?_⟩))
  simp

theorem railQuiet_acts (s : State) (k : Nat) : Acts (s.railOffFields k) s (s.railQuiet k) := by
  have hde : Acts (s.railOffFields k) s (s.leaveDe k) := (leaveDe_acts s k).mono fun f hf => by
    obtain ⟨n, hn, rfl⟩ := List.mem_map.mp hf
    exact de_mem_railOffFields hn
  have hsw : Acts (s.railOffFields k) (s.leaveDe k) ((s.leaveDe k).setSwitching k 0) := by
    refine (setSwitching_acts _ k 0).mono fun f hf => ?_
    rw [leaveDe_phasesOf] at hf
    rcases List.mem_cons.mp hf with rfl | hf
    · simp [State.railOffFields, State.phaseFields]
    · obtain ⟨n, hn, rfl⟩ := List.mem_map.mp hf
      exact switching_mem_railOffFields hn
  refine (((hde.trans hsw).setMany ?_).endCause cRAILI k 1).updRail k _
  simp [State.railOffFields, State.phaseFields]

/-! A new rail state. -/

/-- The monitor fields that the end of a power-good changes. -/
def pgFields (c : Nat) : List Fld := [Reg.MON_CH_STAT_pg c, Reg.MON_CH_STAT_chat c]

theorem stepChatter_acts (l : List Fld) (s : State) (c : Nat) : Acts l s (s.stepChatter c) := by
  unfold State.stepChatter
  dsimp only
  split
  · exact (Acts.refl _ s).updSeq _
  · exact Acts.refl _ s

theorem pgFall_acts (s : State) (c : Nat) : Acts (pgFields c) s (s.pgFall c) := by
  unfold State.pgFall
  dsimp only
  split
  · exact ((((Acts.refl _ s).setB false (by simp [pgFields])).count (by simp [pgFields])).updMon c _).trans (stepChatter_acts _ _ c)
  · exact (Acts.refl _ s).updMon c _

theorem disarmLo_acts (l : List Fld) (s : State) (c : Nat) : Acts l s (s.disarmLo c) :=
  (((Acts.refl l s).endCause cRAILV c 0).endCause cRAILV c 2).updMon c _

theorem disarmHi_acts (l : List Fld) (s : State) (c : Nat) : Acts l s (s.disarmHi c) :=
  (((Acts.refl l s).endCause cRAILV c 1).endCause cRAILV c 3).updMon c _

/-- Beside the state itself, its power-good at most. -/
theorem setRailState_acts (s : State) (k v : Nat) : Acts (pgFields k) (s.setF (Reg.RAIL_STAT_state k) v) (s.setRailState k v) := by
  unfold State.setRailState
  dsimp only
  have hfall (t : State) : Acts (pgFields k) t ((t.pgFall k).disarmLo k) := (pgFall_acts t k).trans (disarmLo_acts _ _ k)
  split <;> split
  · exact (hfall _).trans (disarmHi_acts _ _ k)
  · exact disarmHi_acts _ _ k
  · exact hfall _
  · exact Acts.refl _ _

theorem railState_not_mem_pgFields {k : Nat} (hk : k < 8) : (Reg.RAIL_STAT_state k).key ∉ (pgFields k).map Fld.key := by
  simp only [pgFields, List.map_cons, List.map_nil, List.mem_cons, List.not_mem_nil, or_false, Fld.key]
  omega

theorem setRailState_railState {s : State} {k v : Nat} (hw : Cells.wf s.fields = true) (hk : k < 8) (hv : v < 8) :
    (s.setRailState k v).railState k = v := by
  have hset : (s.setF (Reg.RAIL_STAT_state k) v).getF (Reg.RAIL_STAT_state k) = v :=
    (getF_setF_same _ _ _ hw).trans (Nat.mod_eq_of_lt hv)
  exact ((setRailState_acts s k v).getF (railState_not_mem_pgFields hk)).trans hset

/-! A rail locks off. -/

theorem railLock_acts (s : State) (k : Nat) : Acts (s.railOffFields k) s (s.railLock k) := by
  have hpg : pgFields k ⊆ s.railOffFields k := by
    intro f hf
    simp only [pgFields, List.mem_cons, List.not_mem_nil, or_false] at hf
    rcases hf with rfl | rfl <;> simp [State.railOffFields]
  exact ((railQuiet_acts s k).setF rLOCKED (by simp [State.railOffFields])).trans ((setRailState_acts _ k rLOCKED).mono hpg)

theorem railLock_railState {s : State} {k : Nat} (hw : Cells.wf s.fields = true) (hk : k < 8) : (s.railLock k).railState k = rLOCKED :=
  setRailState_railState ((railQuiet_acts s k).wf hw) hk (by decide)

/-! The L3 action on one rail. -/

/-- The group of an output is read from the FLT_GRP registers. -/
theorem groupOf_congr {s u : State} (h : ∀ f : Fld, f.addr < 0x10000 → 0x3200 ≤ f.addr → f.lo < 16 → u.getF f = s.getF f)
    {e : Nat} (he : e < 40) : u.groupOf e = s.groupOf e := by
  unfold State.groupOf
  split <;> exact h _ (by simp only; omega) (by simp only; omega) (by simp only; omega)

theorem groupOff_of_ungrouped {s : State} {e : Nat} (h : s.groupOf e = 0) : s.groupOff [e] = s := by
  simp [State.groupOff, h, State.each]

/-- An event whose L3 action locks rail k off and nothing else. -/
structure LocksRail (e : Ev) (k : Nat) (s : State) : Prop where
  lvl : e.lvl = 3
  cls : e.cls = cRAILI ∨ e.cls = cTHERM
  src : e.src = k
  rail : k < 8
  ungrouped : s.groupOf k = 0

theorem LocksRail.actL3_eq {e : Ev} {k : Nat} {s : State} (h : LocksRail e k s) : s.actL3 e = s.railLock k := by
  obtain ⟨-, hcls, rfl, hk, hg⟩ := h
  have hentries : s.l3Entries e.cls e.src = [e.src] := by
    have h14 : e.src < 14 := by omega
    rcases hcls with h | h <;> simp [State.l3Entries, h, hk, h14]
  have hlock : s.lockEntry e.src = s.railLock e.src := by simp [State.lockEntry, entryOut, hk]
  have hgroup : (s.railLock e.src).groupOf e.src = 0 := by
    rw [← hg]
    refine groupOf_congr (fun f hf _ hl => (railLock_acts s e.src).getF ?_) (by omega)
    exact not_mem_of_not_ofOutputs (railOffFields_ofOutputs hk) (.inl (by unfold Fld.key; omega))
  have hothers : e.cls ≠ cFE ∧ e.cls ≠ cCLK ∧ e.cls ≠ cCHG := by
    rcases hcls with h | h <;> rw [h] <;> decide
  obtain ⟨hfe, hclk, hchg⟩ := hothers
  have hrest : s.actL3 e = (s.lockEntry e.src).groupOff [e.src] := by
    simp [State.actL3, hentries, hfe, hclk, hchg, State.each]
  rw [hrest, hlock, groupOff_of_ungrouped hgroup]

theorem derateOf_rail {e : Ev} {k : Nat} {s : State} (h : LocksRail e k s) : derateOf e.cls e.src = [Reg.RAIL_STAT_derated k] := by
  obtain ⟨-, hcls, rfl, hk, -⟩ := h
  exact if_pos ⟨.inr hcls, hk⟩

theorem LocksRail.actL2_eq {e : Ev} {k : Nat} {s : State} (h : LocksRail e k s) (t : State) :
    t.actL2 e = t.setB (Reg.RAIL_STAT_derated k) true := by
  obtain ⟨-, hcls, rfl, hk, -⟩ := h
  exact if_pos (by rcases hcls with h | h <;> simp [h, hk])

/-- Classification reaches no field of the outputs or of their groups. -/
theorem classFields_not_mem (n : Nat) {f : Fld} (h : 0x3200 ≤ f.addr) (hhi : f.addr < 0x1C000) (hlo : f.lo < 16) :
    f.key ∉ (classFields n).map Fld.key := by
  have hkeys : ∀ g ∈ Reg.FLT_UNACK_unack :: Reg.SB_REQ_req :: Reg.HOST_INT_STAT_flt :: firstFields,
      g.key < 0x32000 ∨ 0x1C0000 ≤ g.key := by decide
  intro hm
  obtain ⟨g, hg, he⟩ := List.mem_map.mp hm
  have hg' : g ∈ Reg.FLT_UNACK_unack :: Reg.SB_REQ_req :: Reg.HOST_INT_STAT_flt :: firstFields := by
    unfold classFields at hg
    split at hg
    · simpa using hg
    · exact List.mem_cons_of_mem _ (by simpa using hg)
  have hkey := hkeys g hg'
  unfold Fld.key at *
  omega

theorem Waits.classified_phasesOf {e : Ev} {s : State} (h : Waits e s) {k : Nat} (hk : k < 8) :
    (s.classified e).phasesOf k = s.phasesOf k := by
  refine phasesOf_congr fun f hf => (h.classified.getF ?_).trans rfl
  simp only [rangeFields, List.mem_cons, List.not_mem_nil, or_false] at hf
  rcases hf with rfl | rfl | rfl <;> exact classFields_not_mem _ (by simp only; omega) (by simp only; omega) (by simp only; omega)

theorem Waits.classified_groupOf {e : Ev} {s : State} (h : Waits e s) {k : Nat} (hk : k < 40) :
    (s.classified e).groupOf k = s.groupOf k :=
  groupOf_congr (fun _ hhi hge hlo => (h.classified.getF (classFields_not_mem _ hge (by omega) hlo)).trans rfl) hk

/-- FAULT_N reaches no field of the outputs. -/
theorem pinFields_not_mem {f : Fld} (hf : f.ofOutputs) : f.key ∉ pinFields.map Fld.key := by
  obtain ⟨hlo, -, -⟩ := hf
  have hkeys : ∀ x ∈ pinFields.map Fld.key, x < 0x100000 := by decide
  intro hm
  have hlt := hkeys _ hm
  unfold Fld.key at hlt
  omega

/-- A row that raised one event which locks rail k off and nothing else. -/
theorem Waits.done_locks {e : Ev} {k : Nat} {s : State} (h : Waits e s) (hl : LocksRail e k s) :
    ∃ t, s.done = .next t ∧ t.railState k = rLOCKED ∧ t.bit (Reg.RAIL_STAT_derated k) = true
      ∧ EventDone (s.railOffFields k ++ derateOf e.cls e.src) e s t := by
  have hk := hl.rail
  have hc : LocksRail e k (s.classified e) := { hl with ungrouped := (h.classified_groupOf (by omega)).trans hl.ungrouped }
  have hacted : (s.classified e).acted (e, e.lvl) = ((s.classified e).railLock k).setB (Reg.RAIL_STAT_derated k) true := by
    rw [hl.lvl, acted_three, hc.actL3_eq, hl.actL2_eq]
  have hlock := railLock_acts (s.classified e) k
  rw [railOffFields_congr (h.classified_phasesOf hk)] at hlock
  have hw := h.classified.wf h.canonical.1
  have hact : Acts (s.railOffFields k ++ derateOf e.cls e.src) (s.classified e) ((s.classified e).acted (e, e.lvl)) := by
    rw [hacted, derateOf_rail hl]
    exact (hlock.mono (List.subset_append_left _ _)).setB true (by simp)
  have hout : ∀ f ∈ s.railOffFields k ++ derateOf e.cls e.src, f.ofOutputs := by
    intro f hf
    rcases List.mem_append.mp hf with hf | hf
    · exact railOffFields_ofOutputs hk f hf
    · exact derateOf_ofOutputs _ _ f hf
  obtain ⟨t, hdone, hev⟩ := h.done hact (markFields_not_mem hout)
  have hacts := hev.acted
  rw [hacted] at hacts
  refine ⟨t, hdone, ?_, ?_, hev⟩
  · have hstate : (((s.classified e).railLock k).setB (Reg.RAIL_STAT_derated k) true).getF (Reg.RAIL_STAT_state k) = rLOCKED := by
      rw [getF_setB_ne _ _ _ _ (by simp only [Fld.key]; omega)]
      exact railLock_railState hw hk
    exact (hacts _ (pinFields_not_mem ⟨by simp only; omega, by simp only; omega, by simp only; omega⟩)).trans hstate
  · have hbit : (((s.classified e).railLock k).setB (Reg.RAIL_STAT_derated k) true).bit (Reg.RAIL_STAT_derated k) = true :=
      bit_setB_same _ _ _ (by simp only; omega) (hlock.wf hw)
    unfold State.bit at *
    rw [hacts _ (pinFields_not_mem ⟨by simp only; omega, by simp only; omega, by simp only; omega⟩)]
    exact hbit

end Sys2Proof.Machine
end

section
/-!
PROOFS. Die links and die temperatures.
-/

namespace Sys2Proof.Machine

theorem rail_lt_of_dieRails {s : State} {d k : Nat} (h : s.dieRails d = [k]) : k < 8 := by
  have hm : k ∈ s.dieRails d := h ▸ List.mem_singleton_self k
  exact List.mem_range.mp (List.mem_of_mem_filter hm)

/-- The frame of an event that locks rail k off. -/
theorem EventDone.frameLog_locks {m : List Fld} {k : Nat} {e : Ev} {s u t : State}
    (h : EventDone (s.railOffFields k ++ derateOf e.cls e.src) e u t) (hu : Undisturbed m s u) :
    FrameLog (m ++ s.railOffFields k ++ lowFields e.cls e.src) 1 (evCode e.cls e.src e.lvl) s t := by
  refine (h.frameLog_judged hu).mono ?_
  simp only [lowFields, List.append_assoc]
  refine List.append_subset.mpr ⟨List.subset_append_left _ _, List.append_subset.mpr ⟨?_, List.append_subset.mpr ⟨?_, ?_⟩⟩⟩
  · exact fun _ hf => List.mem_append_right _ (List.mem_append_left _ hf)
  · exact fun _ hf => List.mem_append_right _ (List.mem_append_right _ (List.mem_append_right _ hf))
  · exact fun _ hf => List.mem_append_right _ (List.mem_append_right _ (List.mem_append_left _ hf))

/-- Raising an event changes no field. -/
theorem raiseLasting_groupOf (s : State) (e : Ev) (k : Nat) : (s.raiseLasting e).groupOf k = s.groupOf k := by
  unfold State.raiseLasting
  split <;> rfl

theorem raiseLasting_railOffFields (s : State) (e : Ev) (k : Nat) : (s.raiseLasting e).railOffFields k = s.railOffFields k := by
  unfold State.raiseLasting
  split <;> rfl

theorem raiseLasting_bit (s : State) (e : Ev) (f : Fld) : (s.raiseLasting e).bit f = s.bit f := by
  unfold State.raiseLasting
  split <;> rfl

theorem each_singleton (s : State) (k : Nat) (g : Nat → State → State) : s.each [k] g = g k s := rfl

/-- A row that raised one event of level 2 on a rail: the rail is derated. -/
theorem Waits.done_derates {e : Ev} {s : State} (h : Waits e s) (hl : e.lvl = 2)
    (hcls : e.cls = cRAILV ∨ e.cls = cRAILI ∨ e.cls = cTHERM) (hk : e.src < 8) :
    ∃ t, s.done = .next t ∧ t.bit (Reg.RAIL_STAT_derated e.src) = true ∧ EventDone (derateOf e.cls e.src) e s t := by
  obtain ⟨t, hdone, hev⟩ := h.done_two hl (markFields_not_mem (derateOf_ofOutputs _ _))
  have hact : (s.classified e).actL2 e = (s.classified e).setB (Reg.RAIL_STAT_derated e.src) true :=
    if_pos (by simpa [or_assoc] using And.intro hcls hk)
  have hacts := hev.acted
  rw [hl, acted_two, hact] at hacts
  have hbit : ((s.classified e).setB (Reg.RAIL_STAT_derated e.src) true).bit (Reg.RAIL_STAT_derated e.src) = true :=
    bit_setB_same _ _ _ Nat.one_pos (h.classified.wf h.canonical.1)
  refine ⟨t, hdone, ?_, hev⟩
  unfold State.bit at *
  rw [hacts _ (pinFields_not_mem ⟨by simp only; omega, by simp only; omega, by simp only; omega⟩)]
  exact hbit

/-! A failed die link. -/

theorem dieLinkFailure_locks {d : Fin 4} {k : Nat} {s : State} (hs : s.ready) (hr : s.romUp = true) (hd : s.dieRails d = [k])
    (hf : s.fresh cRAILI) (hg : s.groupOf k = 0) :
    Completes (.dieLinkFailure d) s fun t => t.railState k = rLOCKED ∧ t.bit (Reg.RAIL_STAT_derated k) = true ∧ Noted cRAILI k 3 t
      ∧ FrameLog (s.railOffFields k ++ lowFields cRAILI k) 1 (evCode cRAILI k 3) s t := by
  have hk := rail_lt_of_dieRails hd
  have hexec : exec (.dieLinkFailure d) s = (s.raise { cls := cRAILI, src := k, lvl := 3, cause := 3 }).done := by
    show execDieLinkFailure d s = _
    rw [execDieLinkFailure, hd]
    rfl
  generalize he : ({ cls := cRAILI, src := k, lvl := 3, cause := 3 } : Ev) = e at hexec
  have hcls : e.cls = cRAILI := he ▸ rfl
  have hsrc : e.src = k := he ▸ rfl
  have hlvl : e.lvl = 3 := he ▸ rfl
  have hin : e.inRange := ⟨by omega, by rw [hcls]; decide, by omega⟩
  have hwaits := waits_raise hs hr (effective_of_fresh (hcls ▸ hf)) hin
  have hraised := (Undisturbed.refl [] s).raise e
  have hlocks : LocksRail e k (s.raise e) := ⟨hlvl, .inl hcls, hsrc, hk, by rw [raise_eq hr]; exact hg⟩
  obtain ⟨t, hdone, hstate, hderated, hev⟩ := hwaits.done_locks hlocks
  have hrail : (s.raise e).railOffFields k = s.railOffFields k := by rw [raise_eq hr]; rfl
  rw [hrail] at hev
  have hnoted := hev.noted (by omega)
  have hframe := hev.frameLog_locks hraised
  rw [hcls, hsrc, hlvl] at hnoted hframe
  exact ⟨t, hexec.trans hdone, hstate, hderated, hnoted, hframe⟩

/-! A die at its shutdown temperature, and its release. -/

/-- The shutdown bits of a die's four phases. -/
def shutFields (d : Nat) : List Fld := (List.range 4).map fun i => Reg.POL_PH_DIE_shut (4 * d + i)

/-- The four phases of die d show whether it is shut down (R150). -/
def State.dieShut (s : State) (d : Nat) (b : Bool) : State := s.each [0, 1, 2, 3] fun i t => t.setB (Reg.POL_PH_DIE_shut (4 * d + i)) b

theorem dieShut_eq (s : State) (d : Nat) (b : Bool) : s.dieShut d b = s.setMany ((shutFields d).map fun f => (f, b.toNat)) := rfl

theorem dieShut_acts (s : State) (d : Nat) (b : Bool) : Acts (shutFields d) s (s.dieShut d b) := by
  rw [dieShut_eq]
  refine (Acts.refl _ s).setMany fun p hp => ?_
  obtain ⟨f, hf, rfl⟩ := List.mem_map.mp hp
  exact hf

theorem dieShut_bit {s : State} (hw : Cells.wf s.fields = true) (d : Nat) (b : Bool) {i : Nat} (hi : i < 4) :
    (s.dieShut d b).bit (Reg.POL_PH_DIE_shut (4 * d + i)) = b := by
  rw [dieShut_eq]
  refine bit_setMany_mem hw ?_ (by show 0 < 1; omega) (List.mem_map_of_mem (List.mem_map_of_mem (List.mem_range.mpr hi)))
  have hkeys : (((shutFields d).map fun f => (f, b.toNat)).map fun p => p.1.key)
      = (List.range 4).map fun i => 16 * (0x10024 + 0x100 * (4 * d + i)) + 12 := rfl
  rw [hkeys]
  exact (List.nodup_range (n := 4)).map fun _ _ h => by omega

theorem shutFields_bounds {d : Nat} (hd : d < 4) : ∀ f ∈ shutFields d, 0x10000 ≤ f.addr ∧ f.addr < 0x11000 ∧ f.lo = 12 := by
  intro f hf
  obtain ⟨i, hi, rfl⟩ := List.mem_map.mp hf
  have hi := List.mem_range.mp hi
  refine ⟨?_, ?_, ?_⟩ <;> simp only <;> omega

theorem shutFields_ofOutputs {d : Nat} (hd : d < 4) : ∀ f ∈ shutFields d, f.ofOutputs := by
  intro f hf
  obtain ⟨hlo, hhi, hb⟩ := shutFields_bounds hd f hf
  exact ⟨hlo, by omega, by omega⟩

theorem dieShut_phasesOf (s : State) {d : Nat} (hd : d < 4) (b : Bool) (k : Nat) : (s.dieShut d b).phasesOf k = s.phasesOf k :=
  (dieShut_acts s d b).phasesOf (fun f hf => by
    obtain ⟨-, hhi, hb⟩ := shutFields_bounds hd f hf
    exact ⟨hhi, by omega⟩) k

theorem dieShut_present (s : State) (d : Nat) (b : Bool) (cls src cause : Nat) :
    (s.dieShut d b).present cls src cause = s.present cls src cause := by
  rw [dieShut_eq]
  simp [State.present]

theorem dieShut_groupOf (s : State) {d : Nat} (hd : d < 4) (b : Bool) {e : Nat} (he : e < 40) :
    (s.dieShut d b).groupOf e = s.groupOf e :=
  groupOf_congr (fun f hf _ hl => (dieShut_acts s d b).getF
    (not_mem_of_not_ofOutputs (shutFields_ofOutputs hd) (.inl (by unfold Fld.key; omega)))) he

theorem dieShut_ready {s : State} (hs : s.ready) {d : Nat} (hd : d < 4) (b : Bool) : (s.dieShut d b).ready := by
  rw [dieShut_eq]
  refine hs.setMany fun p hp => ?_
  obtain ⟨f, hf, rfl⟩ := List.mem_map.mp hp
  obtain ⟨hlo, -, -⟩ := shutFields_bounds hd f hf
  simp only [Fld.key]
  omega

theorem dieShut_romUp {s : State} (h : s.romUp = true) {d : Nat} (hd : d < 4) (b : Bool) : (s.dieShut d b).romUp = true := by
  rw [romUp_congr (s := s) (dieShut_acts s d b).only.sys ((dieShut_acts s d b).getF
    (not_mem_of_not_ofOutputs (shutFields_ofOutputs hd) (.inl (by decide))))]
  exact h

/-- The event of die d at its shutdown temperature on rail k (R150). -/
def State.dieShutEv (s : State) (d k : Nat) : Ev := ⟨cTHERM, k, 3, 8 + d, s.dieWord d, BitVec.ofNat 16 (10 * s.ceiling 0x1F 160)⟩

theorem exec_dieThermalShutdown {d : Fin 4} {k : Nat} {s : State} (hr : s.romUp = true) (hd : s.dieRails d = [k]) :
    exec (.dieThermalShutdown d) s = ((s.dieShut d true).raiseLasting (s.dieShutEv d k)).done := by
  have hrow : exec (.dieThermalShutdown d) s
      = ((s.dieShut d true).each (s.dieRails d) fun k u => u.raiseLasting (s.dieShutEv d k)).done := if_pos hr
  rw [hrow, hd, each_singleton]

/-- Locking a rail off leaves the shutdown bits of the dies. -/
theorem dieShut_not_mem {s : State} {k n lvl : Nat} (hk : k < 8) (hn : n < 16) :
    (Reg.POL_PH_DIE_shut n).key
      ∉ ((s.railOffFields k ++ [Reg.RAIL_STAT_derated k]) ++ classFields lvl ++ pinFields).map Fld.key := by
  rw [List.map_append, List.map_append, List.map_append]
  simp only [List.mem_append, not_or]
  refine ⟨⟨⟨fun hm => ?_, ?_⟩, ?_⟩, ?_⟩
  · obtain ⟨g, hg, he⟩ := List.mem_map.mp hm
    unfold Fld.key at he
    rcases mem_railOffFields hk hg with ⟨hlo, -, hb⟩ | ⟨m, hm, rfl | rfl⟩ <;> simp only at he <;> omega
  · simp only [List.map_cons, List.map_nil, List.mem_singleton, Fld.key]
    omega
  · exact classFields_not_mem _ (by simp only; omega) (by simp only; omega) (by simp only; omega)
  · exact pinFields_not_mem ⟨by simp only; omega, by simp only; omega, by simp only; omega⟩

theorem dieThermalShutdown_locks {d : Fin 4} {k : Nat} {s : State} (hs : s.ready) (hr : s.romUp = true) (hd : s.dieRails d = [k])
    (hf : s.fresh cTHERM) (hg : s.groupOf k = 0) (hnew : s.present cTHERM k (8 + d) = false) :
    Completes (.dieThermalShutdown d) s fun t => (∀ i < 4, t.bit (Reg.POL_PH_DIE_shut (4 * d + i)) = true) ∧ t.railState k = rLOCKED
      ∧ Noted cTHERM k 3 t ∧ FrameLog (shutFields d ++ s.railOffFields k ++ lowFields cTHERM k) 1 (evCode cTHERM k 3) s t := by
  have hk := rail_lt_of_dieRails hd
  have hd4 := d.isLt
  have hshut := dieShut_acts s d true
  have hup := dieShut_romUp hr hd4 true
  have hunack : (s.dieShut d true).fresh cTHERM := by
    unfold State.fresh
    rw [hshut.getF (not_mem_of_not_ofOutputs (shutFields_ofOutputs hd4) (.inl (by decide)))]
    exact hf
  generalize he : s.dieShutEv d k = e
  have hcls : e.cls = cTHERM := he ▸ rfl
  have hsrc : e.src = k := he ▸ rfl
  have hlvl : e.lvl = 3 := he ▸ rfl
  have hcause : e.cause = 8 + d := he ▸ rfl
  have hin : e.inRange := ⟨by omega, by rw [hcls]; decide, by omega⟩
  have hnew' : (s.dieShut d true).present e.cls e.src e.cause = false := by
    rw [hcls, hsrc, hcause, dieShut_present]
    exact hnew
  have hwaits := waits_raiseLasting (dieShut_ready hs hd4 true) hnew' hup (effective_of_fresh (hcls ▸ hunack)) hin
  have hraise := raiseLasting_eq hnew' hup
  have hraised := hshut.undisturbed.raiseLasting e
  have hlocks : LocksRail e k ((s.dieShut d true).raiseLasting e) := by
    refine ⟨hlvl, .inr hcls, hsrc, hk, ?_⟩
    rw [raiseLasting_groupOf, dieShut_groupOf s hd4 true (by omega)]
    exact hg
  obtain ⟨t, hdone, hstate, -, hev⟩ := hwaits.done_locks hlocks
  have hrail : ((s.dieShut d true).raiseLasting e).railOffFields k = s.railOffFields k := by
    rw [raiseLasting_railOffFields, railOffFields_congr (dieShut_phasesOf s hd4 true k)]
  rw [hrail] at hev
  have hnoted := hev.noted (by omega)
  have hframe := hev.frameLog_locks hraised
  rw [hcls, hsrc, hlvl] at hnoted hframe
  refine ⟨t, ?_, fun i hi => ?_, hstate, hnoted, hframe⟩
  · rw [exec_dieThermalShutdown hr hd, he, hdone]
  · have hshown : ((s.dieShut d true).raiseLasting e).bit (Reg.POL_PH_DIE_shut (4 * d + i)) = true :=
      (raiseLasting_bit _ _ _).trans (dieShut_bit hs.1.1 d true hi)
    unfold State.bit at *
    rw [hev.kept _ (by rw [derateOf_rail hlocks]; exact dieShut_not_mem hk (by omega))]
    exact hshown

theorem endCauses_each (l : List Nat) (cls cause : Nat) (s : State) :
    s.each l (fun k u => u.endCause cls k cause)
      = s.updFlt fun f => { f with causes := f.causes.filter fun c => !(l.any fun k => c == (cls, k, cause)) } := by
  induction l generalizing s with
  | nil => simp [State.each, State.updFlt]
  | cons k l ih =>
    have hstep : s.each (k :: l) (fun k u => u.endCause cls k cause)
      = (s.endCause cls k cause).each l (fun k u => u.endCause cls k cause) := rfl
    rw [hstep, ih]
    simp [State.endCause, State.updFlt, List.filter_filter, bne, Bool.and_comm]

theorem dieThermalRelease_ends {d : Fin 4} {s : State} (hw : Cells.wf s.fields = true) :
    Completes (.dieThermalRelease d) s fun t => (∀ i < 4, t.bit (Reg.POL_PH_DIE_shut (4 * d + i)) = false)
      ∧ (∀ k < 8, t.present cTHERM k (8 + d) = false) ∧ Frame (shutFields d) s t := by
  have hexec : exec (.dieThermalRelease d) s
      = .next ((s.dieShut d false).each (List.range 8) fun k u => u.endCause cTHERM k (8 + d)) := rfl
  rw [endCauses_each] at hexec
  refine ⟨_, hexec, fun i hi => (updFlt_bit _ _ _).trans (dieShut_bit hw d false hi), fun k hk => ?_,
    ((dieShut_acts s d false).undisturbed.updFlt _).frame⟩
  simp only [State.present, updFlt_flt, List.contains_eq_mem, decide_eq_false_iff_not, List.mem_filter, not_and]
  intro _ hnone
  simp only [Bool.not_eq_true', List.any_eq_false] at hnone
  exact hnone k (List.mem_range.mpr hk) (by simp)

/-! A rail's warning. -/

theorem railThermalWarn_derates {k : Fin 8} {s : State} (hs : s.ready) (hr : s.romUp = true)
    (hv : s.bit (Reg.RAIL_GROUP_valid k) = true) (hf : s.fresh cTHERM) (hnew : s.present cTHERM k 0 = false) :
    Completes (.railThermalWarn k) s fun t => t.bit (Reg.RAIL_STAT_derated k) = true ∧ Noted cTHERM k 2 t
      ∧ FrameLog (lowFields cTHERM k) 1 (evCode cTHERM k 2) s t := by
  have hk := k.isLt
  have hexec : ∃ e : Ev, e.cls = cTHERM ∧ e.src = k ∧ e.lvl = 2 ∧ e.cause = 0
      ∧ exec (.railThermalWarn k) s = (s.raiseLasting e).done :=
    ⟨⟨cTHERM, k, 2, 0, _, _⟩, rfl, rfl, rfl, rfl, if_pos hv⟩
  obtain ⟨e, hcls, hsrc, hlvl, hcause, hexec⟩ := hexec
  have hin : e.inRange := ⟨by omega, by rw [hcls]; decide, by omega⟩
  have hwaits := waits_raiseLasting hs (by rw [hcls, hsrc, hcause]; exact hnew) hr (effective_of_fresh (hcls ▸ hf)) hin
  obtain ⟨t, hdone, hderated, hev⟩ := hwaits.done_derates hlvl (.inr (.inr hcls)) (hsrc ▸ hk)
  have hnoted := hev.noted (by omega)
  have hframe := (hev.frameLog_judged ((Undisturbed.refl [] s).raiseLasting e)).mono (m := lowFields cTHERM k) (by
    rw [hcls, hsrc, List.nil_append]
    exact List.append_subset.mpr ⟨List.subset_append_right _ _, List.subset_append_left _ _⟩)
  rw [hcls, hsrc, hlvl] at hnoted hframe
  exact ⟨t, hexec.trans hdone, hsrc ▸ hderated, hnoted, hframe⟩

/-! The controller die. -/

theorem controllerDieThermal_warns {x : Int} {s : State} (hs : s.ready) (hr : s.romUp = true)
    (hlo : (s.ceiling 0x20 150 : Int) - 10 ≤ x) (hhi : x < s.ceiling 0x20 150) (hnew : s.present cTHERM 36 0 = false) :
    Completes (.controllerDieThermal x) s fun t => Noted cTHERM 36 1 t ∧ FrameLog noteFields 1 (evCode cTHERM 36 1) s t := by
  have hexec : ∃ e : Ev, e.cls = cTHERM ∧ e.src = 36 ∧ e.lvl = 1 ∧ e.cause = 0
      ∧ exec (.controllerDieThermal x) s = (s.raiseLasting e).done :=
    ⟨⟨cTHERM, 36, 1, 0, _, _⟩, rfl, rfl, rfl, rfl, (if_neg (by omega)).trans (if_pos hlo)⟩
  obtain ⟨e, hcls, hsrc, hlvl, hcause, hexec⟩ := hexec
  have hin : e.inRange := ⟨by omega, by rw [hcls]; decide, by omega⟩
  have hwaits := waits_raiseLasting hs (by rw [hcls, hsrc, hcause]; exact hnew) hr (effective_of_low s (by omega)) hin
  obtain ⟨t, hdone, hev⟩ := hwaits.done_low (by omega)
  have hnoted := hev.noted (by omega)
  have hframe := hev.frameLog_low (by omega) ((Undisturbed.refl [] s).raiseLasting e)
  rw [hcls, hsrc, hlvl] at hnoted hframe
  exact ⟨t, hexec.trans hdone, hnoted, hframe⟩

/-- In SAFE an L4 event of the controller die has nothing left to do (R283, R286). -/
theorem acted_controllerDie {e : Ev} {s : State} (hsafe : s.bit Reg.SYS_RUN_STAT_safe = true) (hcls : e.cls = cTHERM)
    (hsrc : e.src = 36) : s.acted (e, 4) = s := by
  have henter : s.enterSafe = s := by simp [State.enterSafe, hsafe]
  have hentries : s.l3Entries e.cls e.src = [] := by rw [hcls, hsrc]; rfl
  have hothers : e.cls ≠ cFE ∧ e.cls ≠ cCLK ∧ e.cls ≠ cCHG := by rw [hcls]; decide
  obtain ⟨hfe, hclk, hchg⟩ := hothers
  have h3 : s.actL3 e = s := by simp [State.actL3, hentries, hfe, hclk, hchg, State.each, State.groupOff]
  have h2 : s.actL2 e = s := if_neg (by simp [hsrc])
  rw [acted_four, henter, h3, h2]

theorem controllerDieThermal_inSafe {x : Int} {s : State} (hs : s.ready) (hr : s.romUp = true) (hx : (s.ceiling 0x20 150 : Int) ≤ x)
    (hnew : s.present cTHERM 36 1 = false) (hf : s.fresh cTHERM) (hsafe : s.bit Reg.SYS_RUN_STAT_safe = true) :
    Completes (.controllerDieThermal x) s fun t => Noted cTHERM 36 4 t ∧ FrameLog judgedFields 1 (evCode cTHERM 36 4) s t := by
  have hexec : ∃ e : Ev, e.cls = cTHERM ∧ e.src = 36 ∧ e.lvl = 4 ∧ e.cause = 1
      ∧ exec (.controllerDieThermal x) s = (s.raiseLasting e).done :=
    ⟨⟨cTHERM, 36, 4, 1, _, _⟩, rfl, rfl, rfl, rfl, if_pos hx⟩
  obtain ⟨e, hcls, hsrc, hlvl, hcause, hexec⟩ := hexec
  have hin : e.inRange := ⟨by omega, by rw [hcls]; decide, by omega⟩
  have hnew' : s.present e.cls e.src e.cause = false := by rw [hcls, hsrc, hcause]; exact hnew
  have hwaits := waits_raiseLasting hs hnew' hr (effective_of_fresh (hcls ▸ hf)) hin
  have hsafe' : ((s.raiseLasting e).classified e).bit Reg.SYS_RUN_STAT_safe = true := by
    have hkeys : Reg.SYS_RUN_STAT_safe.key ∉ (classFields 4).map Fld.key := by decide
    rw [hwaits.classified.bit (hlvl ▸ hkeys), ← hsafe, raiseLasting_eq hnew' hr]
    rfl
  have hact : Acts [] ((s.raiseLasting e).classified e) (((s.raiseLasting e).classified e).acted (e, e.lvl)) := by
    rw [hlvl, acted_controllerDie hsafe' hcls hsrc]
    exact Acts.refl _ _
  obtain ⟨t, hdone, hev⟩ := hwaits.done hact (by simp)
  have hnoted := hev.noted (by omega)
  have hframe := hev.frameLog_judged ((Undisturbed.refl [] s).raiseLasting e)
  rw [hcls, hsrc, hlvl] at hnoted hframe
  exact ⟨t, hexec.trans hdone, hnoted, hframe⟩

/-- Settles O18: the shared fact is what one event that locks a rail off leaves (`Waits.done_locks`); the rows are the lemmas
above. -/
theorem dieRows : Obligations.DieRows := by
  unfold Obligations.DieRows
  refine ⟨?_, ?_, ?_, ?_, ?_, ?_⟩
  · intro d k s hs hr hd hf hg _
    exact dieLinkFailure_locks hs hr hd hf hg
  · intro d k s hs hr hd hf hg _ hnew
    exact dieThermalShutdown_locks hs hr hd hf hg hnew
  · intro d s hw
    exact dieThermalRelease_ends hw
  · intro k s hs hr hv hf hnew
    exact railThermalWarn_derates hs hr hv hf hnew
  · intro x s hs hr hlo hhi hnew
    exact controllerDieThermal_warns hs hr hlo hhi hnew
  · intro x s hs hr hx hnew hf hsafe
    exact controllerDieThermal_inSafe hs hr hx hnew hf hsafe

end Sys2Proof.Machine
end

section
/-!
PROOFS. What a row may do before its end without touching what the end rests on.
-/

namespace Sys2Proof.Machine

/-- A row has changed only the listed fields so far, and neither the events that wait nor what decides whether the ROM runs. -/
structure Readies (m : List Fld) (s u : State) : Prop where
  undisturbed : Undisturbed m s u
  canonical : s.canonical → u.canonical
  evs : u.flt.evs = s.flt.evs
  tests : u.age.live = s.age.live
  live : u.live = s.live
  stage : u.sys.stage = s.sys.stage

section
variable {l m : List Fld} {s u v : State}

theorem Readies.refl (m : List Fld) (s : State) : Readies m s s := ⟨.refl m s, id, rfl, rfl, rfl, rfl⟩

theorem Readies.trans (h : Readies m s u) (k : Readies m u v) : Readies m s v :=
  ⟨h.undisturbed.trans k.undisturbed, k.canonical ∘ h.canonical, k.evs.trans h.evs, k.tests.trans h.tests, k.live.trans h.live,
    k.stage.trans h.stage⟩

theorem Readies.mono (h : Readies l s u) (hl : l ⊆ m) : Readies m s u := { h with undisturbed := h.undisturbed.mono hl }

theorem Acts.readies (h : Acts m s u) : Readies m s u :=
  ⟨h.undisturbed, h.canonical, h.evs, by rw [h.only.age], by simp only [State.live, h.only.sys], by rw [h.only.sys]⟩

theorem Readies.acts (h : Readies m s u) (k : Acts m u v) : Readies m s v := h.trans k.readies

theorem Readies.updSys (h : Readies m s u) {g : Sys → Sys} (hl : (u.updSys g).live = u.live)
    (hst : (g u.sys).stage = u.sys.stage) : Readies m s (u.updSys g) :=
  h.trans ⟨(Undisturbed.refl m u).updSys g, id, rfl, rfl, hl, hst⟩

theorem Readies.updGauge (h : Readies m s u) (g : Gauge → Gauge) : Readies m s (u.updGauge g) :=
  h.trans ⟨(Undisturbed.refl m u).inner rfl ⟨fun _ => rfl, fun _ => rfl, rfl, rfl, rfl, rfl⟩ rfl rfl, id, rfl, rfl, rfl, rfl⟩

theorem Readies.updUpd (h : Readies m s u) (g : Upd → Upd) : Readies m s (u.updUpd g) :=
  h.trans ⟨(Undisturbed.refl m u).inner rfl ⟨fun _ => rfl, fun _ => rfl, rfl, rfl, rfl, rfl⟩ rfl rfl, id, rfl, rfl, rfl, rfl⟩

theorem Readies.getF (h : Readies m s u) {f : Fld} (hf : f.key ∉ m.map Fld.key) : u.getF f = s.getF f := h.undisturbed.kept f hf

theorem Readies.bit (h : Readies m s u) {f : Fld} (hf : f.key ∉ m.map Fld.key) : u.bit f = s.bit f := by
  unfold State.bit
  rw [h.getF hf]

theorem Readies.ready (h : Readies m s u) (hs : s.ready) (hm : Reg.SYS_RUN_STAT_act_deferred.key ∉ m.map Fld.key) : u.ready := by
  obtain ⟨hc, hev, hdefer, hlive⟩ := hs
  exact ⟨h.canonical hc, h.evs.trans hev, (h.bit hm).trans hdefer, h.tests.trans hlive⟩

theorem Readies.romUp (h : Readies m s u) (hm : Reg.SYS_STATE_state.key ∉ m.map Fld.key) : u.romUp = s.romUp := by
  simp only [State.romUp, State.st, h.live, h.stage, h.getF hm]

/-- An event of level 0 or 1 goes on waiting. -/
theorem Waits.readies {e : Ev} (h : Waits e s) (k : Readies m s u) (hl : e.lvl < 2)
    (hm : Reg.SYS_RUN_STAT_act_deferred.key ∉ m.map Fld.key) : Waits e u :=
  ⟨k.canonical h.canonical, k.evs.trans h.evs, (k.bit hm).trans h.deferred, k.tests.trans h.live, effective_of_low u hl, h.lvl, h.cls,
    h.src⟩

end

theorem LoggedOne.logGrows {kind code : Nat} {s t : State} (h : LoggedOne kind code s t) : LogGrows s t := by
  obtain ⟨hn, -, -, hwin⟩ := h
  refine ⟨by omega, fun a ha => hwin a (ha s.logNext (le_refl _) (by omega))⟩

end Sys2Proof.Machine
end
section
/-!
PROOFS. Lost cores: the watchdog, a core that reports alive, and the grace time.
-/

namespace Sys2Proof.Machine

/-! The watchdog. -/

/-- The event of core c at a level (R31). -/
def coreEv (c : Core) (lvl cause : Nat) : Ev := { cls := cCORE, src := coreIdx c, lvl := lvl, cause := cause }

/-- Core c is marked lost, before its event (R230, R335). -/
def State.coreStopped (s : State) : Core → State
  | .control => ((s.setB Reg.SYS_STATE_ctl_lost true).setB Reg.MBX_STAT_ready false).updSys fun y => { y with ctlAlive := false }
  | .gauge => (s.setB Reg.SYS_STATE_gauge_lost true).gaugeStops

theorem loseCore_eq (s : State) (c : Core) : s.loseCore c = (s.coreStopped c).raiseLasting (coreEv c 1 0) := by cases c <;> rfl

/-- The fields that show the loss of a core. -/
def lossFields : Core → List Fld
  | .control => [Reg.SYS_STATE_ctl_lost, Reg.MBX_STAT_ready]
  | .gauge => [Reg.SYS_STATE_gauge_lost, Reg.GAUGE_FLAGS_stale, Reg.HOST_INT_STAT_gauge, Reg.SB_REQ_req]

theorem flagged_acts {l : List Fld} (s b : State) (h : [Reg.HOST_INT_STAT_gauge, Reg.SB_REQ_req] ⊆ l) : Acts l s (s.flagged b) := by
  unfold State.flagged
  split
  · exact Acts.refl _ s
  · exact ((Acts.refl _ s).setB true (h List.mem_cons_self)).request _ (h (List.mem_cons_of_mem _ List.mem_cons_self))

theorem gaugeStops_readies (s : State) : Readies (lossFields .gauge) s s.gaugeStops := by
  have halive : Readies (lossFields .gauge) s (s.updSys fun y => { y with gaugeAlive := false }) := (Readies.refl _ s).updSys rfl rfl
  exact halive.acts (((Acts.refl _ _).setB true (by simp [lossFields])).trans (flagged_acts _ _ (by decide)))

theorem coreStopped_readies (s : State) (c : Core) : Readies (lossFields c) s (s.coreStopped c) := by
  cases c with
  | control =>
    have hlost := (Acts.refl (lossFields .control) s).setB (f := Reg.SYS_STATE_ctl_lost) true (by simp [lossFields])
    exact (hlost.setB (f := Reg.MBX_STAT_ready) false (by simp [lossFields])).readies.updSys
      (g := fun y => { y with ctlAlive := false }) rfl rfl
  | gauge => exact ((Acts.refl _ s).setB true (by simp [lossFields])).readies.trans (gaugeStops_readies _)

theorem coreStopped_present (s : State) (c : Core) (cls src cause : Nat) :
    (s.coreStopped c).present cls src cause = s.present cls src cause := by
  cases c <;> simp [State.coreStopped, State.gaugeStops, State.present]

/-- Cores that run firmware, neither in an activation. -/
theorem exec_watchdogExpiry {c : Core} {s : State} (hf : s.firmware) (hl : s.bit (coreLost c) = false) :
    exec (.watchdogExpiry c) s = (((s.coreStopped c).raiseLasting (coreEv c 1 0)).startGrace c).done := by
  obtain ⟨hr, -, hrec, hstage, hctl, hgauge, hact⟩ := hf
  have hup : s.coreUp c = true := by cases c <;> assumption
  have hcond : (s.romUp && s.sys.stage = .done && s.st != stRECOVERY && s.coreUp c && !s.bit (coreLost c)) = true := by
    simp [hr, hstage, hrec, hup, hl]
  have hold : s.newImage c = false := by simp [State.newImage, hact]
  show execWatchdogExpiry c s = _
  unfold execWatchdogExpiry
  rw [if_pos hcond]
  dsimp only
  rw [hold, if_neg Bool.false_ne_true, loseCore_eq]

theorem Waits.updSys {e : Ev} {s : State} (h : Waits e s) (g : Sys → Sys) : Waits e (s.updSys g) :=
  ⟨h.canonical, h.evs, h.deferred, h.live, h.own, h.lvl, h.cls, h.src⟩

/-- A core that runs out of its watchdog is lost, and its grace time runs. -/
theorem watchdogExpiry_loses {c : Core} {s : State} (hs : s.ready) (hf : s.firmware) (hl : s.bit (coreLost c) = false)
    (hnew : s.present cCORE (coreIdx c) 0 = false) :
    Completes (.watchdogExpiry c) s fun t =>
      (∀ f ∈ [coreLost c, Reg.MBX_STAT_ready, Reg.GAUGE_FLAGS_stale], t.bit f = (s.coreStopped c).bit f)
      ∧ t.sys = ((s.coreStopped c).startGrace c).sys ∧ Noted cCORE (coreIdx c) 1 t
      ∧ FrameLog (lossFields c ++ noteFields) 1 (evCode cCORE (coreIdx c) 1) s t := by
  have hstop := coreStopped_readies s c
  have hready : (s.coreStopped c).ready := hstop.ready hs (by cases c <;> decide)
  have hup : (s.coreStopped c).romUp = true := (hstop.romUp (by cases c <;> decide)).trans hf.1
  have hnew' : (s.coreStopped c).present cCORE (coreIdx c) 0 = false := (coreStopped_present s c _ _ _).trans hnew
  have hraised := waits_raiseLasting (e := coreEv c 1 0) hready hnew' hup (effective_of_low _ Nat.one_lt_two) (by cases c <;> decide)
  have hund := hstop.undisturbed.raiseLasting (coreEv c 1 0)
  generalize hr : (s.coreStopped c).raiseLasting (coreEv c 1 0) = r at hraised hund
  obtain ⟨t, hdone, hev⟩ := Waits.done_low (s := r.startGrace c) (hraised.updSys _) Nat.one_lt_two
  refine ⟨t, ?_, ?_, ?_, hev.noted (le_refl 1), hev.frameLog_low Nat.one_lt_two (hund.updSys _)⟩
  · rw [exec_watchdogExpiry hf hl, hr, hdone]
  · have hkeys : ∀ f ∈ [coreLost c, Reg.MBX_STAT_ready, Reg.GAUGE_FLAGS_stale],
        f.key ∉ ([] ++ classFields 1 ++ pinFields).map Fld.key := by cases c <;> decide
    intro f hm
    have hkept : t.bit f = (r.startGrace c).bit f := by
      unfold State.bit
      rw [hev.kept f (hkeys f hm)]
    rw [hkept, ← raiseLasting_bit (s.coreStopped c) (coreEv c 1 0), hr]
    rfl
  · have hsys : r.sys = (s.coreStopped c).sys := by
      rw [← hr, raiseLasting_eq hnew' hup]
      rfl
    rw [hev.only.sys]
    simp only [State.startGrace, updSys_sys, hsys]

/-- What the loss of the gauge core shows. -/
theorem gaugeStopped_shows {s : State} (hw : Cells.wf s.fields = true) :
    (s.coreStopped .gauge).bit Reg.SYS_STATE_gauge_lost = true ∧ (s.coreStopped .gauge).bit Reg.GAUGE_FLAGS_stale = true
      ∧ (s.coreStopped .gauge).sys.gaugeAlive = false := by
  have hlost : Cells.wf (s.setB Reg.SYS_STATE_gauge_lost true).fields = true := setF_fields_wf _ _ _ hw
  generalize hu : s.setB Reg.SYS_STATE_gauge_lost true = u at hlost
  have hflag := flagged_acts ((u.updSys fun y => { y with gaugeAlive := false }).setB Reg.GAUGE_FLAGS_stale true) u (List.Subset.refl _)
  have hstop : s.coreStopped .gauge = ((u.updSys fun y => { y with gaugeAlive := false }).setB Reg.GAUGE_FLAGS_stale true).flagged u :=
    hu ▸ rfl
  rw [hstop]
  refine ⟨?_, ?_, ?_⟩
  · rw [hflag.bit (by decide), bit_setB_ne _ _ _ _ (by decide), updSys_bit, ← hu]
    exact bit_setB_same _ _ _ Nat.one_pos hw
  · rw [hflag.bit (by decide)]
    exact bit_setB_same _ _ _ Nat.one_pos hlost
  · rw [hflag.only.sys]
    rfl

/-! A core reports alive. -/

/-- A core has been started and runs: its own start, and the end of its grace time. -/
def State.coreRuns (s : State) (c : Core) : State := ((s.coreStarts c).endGrace c).started c

section
variable {m : List Fld} {s u : State}

theorem Readies.endGrace (h : Readies m s u) (c : Core) : Readies m s (u.endGrace c) :=
  h.updSys (by cases c <;> rfl) (by cases c <;> rfl)

theorem Readies.started (h : Readies m s u) (c : Core) : Readies m s (u.started c) :=
  h.updSys (by cases c <;> rfl) (by cases c <;> rfl)

theorem Readies.noteAlive (h : Readies m s u) (c : Core) : Readies m s (u.noteAlive c) := h.updUpd _

end

theorem exec_coreAlive {c : Core} {s : State} (hr : s.romUp = true) (hstage : s.sys.stage = .done) (hrec : s.st ≠ stRECOVERY)
    (hstart : s.starting c = true) (hl : (s.coreRuns c).bit (coreLost c) = true) :
    exec (.coreAlive c) s = (((s.coreRuns c).coreBack c).noteAlive c).done := by
  have hcond : (s.romUp && s.sys.stage = .done && s.st != stRECOVERY && s.starting c) = true := by
    simp [hr, hstage, hrec, hstart]
  show execCoreAlive c s = _
  unfold execCoreAlive
  rw [if_pos hcond]
  dsimp only
  unfold State.coreRuns at hl ⊢
  rw [if_pos hl]

/-- No taken command is left to answer when the control core comes back. -/
theorem coreBack_control {s : State} (h : s.mbx.taken = []) :
    s.coreBack .control = (((s.setB Reg.SYS_STATE_ctl_lost false).endCause cCORE 0 0).endCause cCORE 0 1).setB Reg.MBX_STAT_ready true := by
  have hfail {u : State} (hu : u.mbx.taken = []) : u.failTaken = u := by simp [State.failTaken, hu]
  exact hfail h

theorem coreAlive_control {s : State} (hs : s.ready) (hr : s.romUp = true) (hstage : s.sys.stage = .done) (hrec : s.st ≠ stRECOVERY)
    (hstart : s.starting .control = true) (hl : s.bit Reg.SYS_STATE_ctl_lost = true) (hnone : s.mbx.taken = []) :
    Completes (.coreAlive .control) s fun t => t.sys.ctlAlive = true ∧ t.sys.ctlGrace = false ∧ t.bit Reg.SYS_STATE_ctl_lost = false
      ∧ t.bit Reg.MBX_STAT_ready = true ∧ Frame [Reg.SYS_STATE_ctl_lost, Reg.MBX_STAT_ready] s t := by
  have hexec := exec_coreAlive (c := .control) hr hstage hrec hstart hl
  rw [coreBack_control (s := s.coreRuns .control) hnone] at hexec
  have hruns : Readies (lossFields .control) s (s.coreRuns .control) := by
    have hstarts : Readies (lossFields .control) s (s.coreStarts .control) :=
      (Readies.refl _ s).updSys (g := fun y => { y with ctlAlive := true }) rfl rfl
    exact (hstarts.endGrace _).started _
  have hlost := (Acts.refl (lossFields .control) (s.coreRuns .control)).setB (f := Reg.SYS_STATE_ctl_lost) false (by simp [lossFields])
  have hback := ((hlost.endCause cCORE 0 0).endCause cCORE 0 1).setB (f := Reg.MBX_STAT_ready) true (by simp [lossFields])
  have hall := (hruns.acts hback).noteAlive .control
  have hready := hall.ready hs (by decide)
  refine ⟨_, hexec.trans (done_quiet _ hready.2), rfl, rfl, ?_, ?_, hall.undisturbed.frame⟩
  · have hset : ((s.coreRuns .control).setB Reg.SYS_STATE_ctl_lost false).bit Reg.SYS_STATE_ctl_lost = false :=
      bit_setB_same _ _ _ Nat.one_pos (hruns.canonical hs.1).1
    exact (bit_setB_ne _ _ _ _ (by decide)).trans hset
  · exact bit_setB_same _ _ _ Nat.one_pos (hlost.canonical (hruns.canonical hs.1)).1

/-- What the start of the gauge core changes before it loads its learned values. -/
def gaugeLoadFields : List Fld :=
  [Reg.GAUGE_FLAGS_stale, Reg.GAUGE_EVT_save_fail, Reg.GAUGE_STORE_a_valid, Reg.GAUGE_STORE_b_valid, Reg.GAUGE_STORE_newest]

/-- The gauge core before it loads its learned values (R229). -/
def State.gaugeLoading (s : State) : State :=
  let s := (s.updSys fun y => { y with gaugeAlive := true }).setB Reg.GAUGE_FLAGS_stale false
  let s := if s.gauge.failDue then (s.setB Reg.GAUGE_EVT_save_fail true).updGauge fun g => { g with failDue := false } else s
  s.storeStat.updGauge fun g => { g with inForce := s.profSel, idTag := s.getF Reg.GAUGE_PACK_tag }

/-- The gauge core without a battery, once its learned values are loaded: its outputs read invalid. -/
def State.gaugeAbsent (r s : State) : State := (r.noOutputs.setB Reg.GAUGE_FLAGS_absent true).flagged s

/-- The gauge core runs, and its loss is over. -/
def State.gaugeBack (s : State) : State := (((s.endGrace .gauge).started .gauge).coreBack .gauge).noteAlive .gauge

theorem storeStat_acts (s : State) :
    Acts [Reg.GAUGE_STORE_a_valid, Reg.GAUGE_STORE_b_valid, Reg.GAUGE_STORE_newest] s s.storeStat :=
  (Acts.refl _ s).setMany (by simp)

theorem gaugeLoading_readies (s : State) : Readies gaugeLoadFields s s.gaugeLoading := by
  have halive : Readies gaugeLoadFields s ((s.updSys fun y => { y with gaugeAlive := true }).setB Reg.GAUGE_FLAGS_stale false) :=
    ((Readies.refl _ s).updSys (g := fun y => { y with gaugeAlive := true }) rfl rfl).acts
      ((Acts.refl _ _).setB false (by simp [gaugeLoadFields]))
  have hstore (u : State) : Readies gaugeLoadFields u u.storeStat := ((storeStat_acts u).mono (by decide)).readies
  unfold State.gaugeLoading
  dsimp only
  split
  · have hfail := (halive.acts ((Acts.refl _ _).setB (f := Reg.GAUGE_EVT_save_fail) true (by simp [gaugeLoadFields]))).updGauge
      fun g => { g with failDue := false }
    exact (hfail.trans (hstore _)).updGauge _
  · exact (halive.trans (hstore _)).updGauge _

theorem gaugeLoading_stale {s : State} (hw : Cells.wf s.fields = true) : s.gaugeLoading.bit Reg.GAUGE_FLAGS_stale = false := by
  have hset : ((s.updSys fun y => { y with gaugeAlive := true }).setB Reg.GAUGE_FLAGS_stale false).bit Reg.GAUGE_FLAGS_stale = false :=
    bit_setB_same _ _ _ Nat.one_pos hw
  unfold State.gaugeLoading
  dsimp only
  rw [updGauge_bit, (storeStat_acts _).bit (by decide)]
  split
  · exact (bit_setB_ne _ _ _ _ (by decide)).trans hset
  · exact hset

theorem gaugeLoading_sys (s : State) : s.gaugeLoading.sys = { s.sys with gaugeAlive := true } := by
  unfold State.gaugeLoading State.storeStat
  dsimp only
  split <;> simp

/-- The event of a gauge that finds no valid record (R232). -/
def noRecordEv : Ev := { cls := cGAUGE, src := 0, lvl := 1, cause := 13 }

/-- The learned values are the profile's, with an event, or come from the record. -/
theorem loadLearned_cases (s : State) :
    (∃ g, s.loadLearned = s.updGauge g) ∨ ∃ g, s.loadLearned = (s.updGauge g).raise noRecordEv := by
  unfold State.loadLearned
  split
  · exact .inr ⟨_, rfl⟩
  · exact .inl ⟨_, rfl⟩

theorem loadLearned_fields (s : State) : s.loadLearned.fields = s.fields := by
  rcases loadLearned_cases s with ⟨g, h⟩ | ⟨g, h⟩
  · rw [h]
    rfl
  · rw [h]
    unfold State.raise
    split <;> rfl

theorem loadLearned_canonical {s : State} (hs : s.canonical) : s.loadLearned.canonical := by
  rcases loadLearned_cases s with ⟨g, h⟩ | ⟨g, h⟩
  · rw [h]
    exact hs
  · rw [h]
    unfold State.raise
    split <;> exact hs

theorem loadLearned_bit (s : State) (f : Fld) : s.loadLearned.bit f = s.bit f := by
  unfold State.bit State.getF
  rw [loadLearned_fields]

theorem loadLearned_sys (s : State) : s.loadLearned.sys = s.sys := by
  rcases loadLearned_cases s with ⟨g, h⟩ | ⟨g, h⟩
  · rw [h]
    rfl
  · rw [h]
    unfold State.raise
    split <;> rfl

theorem gaugeStart_absent {s : State} (hb : s.bit Reg.PATH_STAT_batt_present = false) (warm : Bool) :
    s.gaugeStart warm = s.gaugeLoading.loadLearned.gaugeAbsent s := by
  have hload : s.gaugeLoading.bit Reg.PATH_STAT_batt_present = false := ((gaugeLoading_readies s).bit (by decide)).trans hb
  have hlearned := (loadLearned_bit s.gaugeLoading Reg.PATH_STAT_batt_present).trans hload
  unfold State.gaugeAbsent
  unfold State.gaugeLoading at *
  unfold State.gaugeStart
  simp only [hload, hlearned, Bool.and_false, Bool.false_eq_true, ↓reduceIte]

/-- What a gauge core without a battery changes once its learned values are loaded. -/
def gaugeAbsentFields : List Fld := [Reg.GAUGE_FLAGS_absent, Reg.HOST_INT_STAT_gauge, Reg.SB_REQ_req] ++ gaugeOutputs

theorem noOutputs_readies (s : State) : Readies gaugeAbsentFields s s.noOutputs := by
  have hset : Acts gaugeAbsentFields s (s.setMany (gaugeOutputs.map fun f => (f, 0xFFFF))) := (Acts.refl _ s).setMany fun p hp => by
    obtain ⟨f, hf, rfl⟩ := List.mem_map.mp hp
    exact List.mem_append_right _ hf
  exact hset.readies.updGauge _

theorem noOutputs_setB_readies (s : State) :
    Readies gaugeAbsentFields s (s.noOutputs.setB Reg.GAUGE_FLAGS_absent true) :=
  (noOutputs_readies s).acts ((Acts.refl _ _).setB true (by simp [gaugeAbsentFields]))

theorem gaugeAbsent_readies (r s : State) : Readies gaugeAbsentFields r (r.gaugeAbsent s) :=
  (noOutputs_setB_readies r).acts (flagged_acts _ s (by decide))

theorem gaugeAbsent_bit {r : State} (hw : Cells.wf r.noOutputs.fields = true) (s : State) :
    (r.gaugeAbsent s).bit Reg.GAUGE_FLAGS_absent = true := by
  have hset : (r.noOutputs.setB Reg.GAUGE_FLAGS_absent true).bit Reg.GAUGE_FLAGS_absent = true := bit_setB_same _ _ _ Nat.one_pos hw
  exact ((flagged_acts _ s (List.Subset.refl _)).bit (by decide)).trans hset

theorem gaugeAbsent_sys (r s : State) : (r.gaugeAbsent s).sys = r.sys := by
  have hset : (r.noOutputs.setB Reg.GAUGE_FLAGS_absent true).sys = r.sys := by simp [State.noOutputs]
  exact ((flagged_acts _ s (List.Subset.refl _)).only.sys).trans hset

theorem coreBack_gauge_acts (s : State) : Acts [Reg.SYS_STATE_gauge_lost] s (s.coreBack .gauge) :=
  (((Acts.refl _ s).setB false List.mem_cons_self).endCause _ _ _).endCause _ _ _

theorem gaugeBack_readies (s : State) : Readies [Reg.SYS_STATE_gauge_lost] s s.gaugeBack :=
  ((((Readies.refl _ s).endGrace .gauge).started .gauge).acts (coreBack_gauge_acts _)).noteAlive .gauge

theorem gaugeBack_lost {s : State} (hw : Cells.wf s.fields = true) : s.gaugeBack.bit Reg.SYS_STATE_gauge_lost = false :=
  bit_setB_same ((s.endGrace .gauge).started .gauge) _ _ Nat.one_pos hw

theorem gaugeBack_sys (s : State) : s.gaugeBack.sys = { s.sys with gaugeGrace := false, gaugeStarting := false } := rfl

/-- The state in which the gauge core is back without a battery. -/
def State.gaugeReturned (s : State) : State := (s.gaugeLoading.loadLearned.gaugeAbsent s).gaugeBack

/-- The fields that the return of the gauge core changes. -/
def gaugeReturnFields : List Fld := gaugeLoadFields ++ gaugeAbsentFields ++ [Reg.SYS_STATE_gauge_lost]

/-- The return of the gauge core: at most the event of a missing record waits. -/
theorem gaugeReturned_cases {s : State} (hs : s.ready) (hr : s.romUp = true) :
    Undisturbed gaugeReturnFields s s.gaugeReturned ∧ (s.gaugeReturned.ready ∨ Waits noRecordEv s.gaugeReturned) := by
  have hload := (gaugeLoading_readies s).mono (m := gaugeReturnFields) (by decide)
  have hback (r : State) : Readies gaugeReturnFields r (r.gaugeAbsent s).gaugeBack :=
    ((gaugeAbsent_readies r s).mono (by decide)).trans ((gaugeBack_readies _).mono (by decide))
  unfold State.gaugeReturned
  rcases loadLearned_cases s.gaugeLoading with ⟨g, hlearned⟩ | ⟨g, hlearned⟩
  · rw [hlearned]
    have hall := (hload.updGauge g).trans (hback _)
    exact ⟨hall.undisturbed, .inl (hall.ready hs (by decide))⟩
  · rw [hlearned]
    have hbefore := hload.updGauge g
    have hwaits := waits_raise (e := noRecordEv) (hbefore.ready hs (by decide)) ((hbefore.romUp (by decide)).trans hr)
      (effective_of_low _ Nat.one_lt_two) (by decide)
    have hafter := hback ((s.gaugeLoading.updGauge g).raise noRecordEv)
    exact ⟨(hbefore.undisturbed.raise noRecordEv).trans hafter.undisturbed,
      .inr (hwaits.readies hafter Nat.one_lt_two (by decide))⟩

theorem exec_coreAlive_gauge {s : State} (hr : s.romUp = true) (hstage : s.sys.stage = .done) (hrec : s.st ≠ stRECOVERY)
    (hstart : s.starting .gauge = true) (hl : s.bit Reg.SYS_STATE_gauge_lost = true) (hb : s.bit Reg.PATH_STAT_batt_present = false) :
    exec (.coreAlive .gauge) s = s.gaugeReturned.done := by
  have hruns : s.coreRuns .gauge = ((s.gaugeLoading.loadLearned.gaugeAbsent s).endGrace .gauge).started .gauge := by
    have hstarts : ∃ warm, s.coreStarts .gauge = s.gaugeStart warm := ⟨_, rfl⟩
    obtain ⟨warm, hstarts⟩ := hstarts
    rw [State.coreRuns, hstarts, gaugeStart_absent hb]
  have hlost : (s.coreRuns .gauge).bit Reg.SYS_STATE_gauge_lost = true := by
    have hgrace := ((Readies.refl [] (s.gaugeLoading.loadLearned.gaugeAbsent s)).endGrace .gauge).started .gauge
    rw [hruns, hgrace.bit (by decide), (gaugeAbsent_readies _ s).bit (by decide), loadLearned_bit,
      (gaugeLoading_readies s).bit (by decide), hl]
  rw [exec_coreAlive hr hstage hrec hstart hlost, hruns]
  rfl

/-- What the gauge core shows when it is back. -/
theorem gaugeReturned_shows {s : State} (hs : s.canonical) :
    s.gaugeReturned.bit Reg.SYS_STATE_gauge_lost = false ∧ s.gaugeReturned.bit Reg.GAUGE_FLAGS_stale = false
      ∧ s.gaugeReturned.bit Reg.GAUGE_FLAGS_absent = true
      ∧ s.gaugeReturned.sys = { s.sys with gaugeAlive := true, gaugeGrace := false, gaugeStarting := false } := by
  have hload := loadLearned_canonical ((gaugeLoading_readies s).canonical hs)
  refine ⟨gaugeBack_lost ((gaugeAbsent_readies _ s).canonical hload).1, ?_, ?_, ?_⟩
  · rw [State.gaugeReturned, (gaugeBack_readies _).bit (by decide), (gaugeAbsent_readies _ s).bit (by decide), loadLearned_bit]
    exact gaugeLoading_stale hs.1
  · rw [State.gaugeReturned, (gaugeBack_readies _).bit (by decide)]
    exact gaugeAbsent_bit ((noOutputs_readies _).canonical hload).1 s
  · rw [State.gaugeReturned, gaugeBack_sys, gaugeAbsent_sys, loadLearned_sys, gaugeLoading_sys]

/-- Every field that the return of the gauge core changes stands in its own block or is listed. -/
theorem kept_gaugeReturn {s t : State} (h : Kept (gaugeReturnFields ++ noteFields) s t) :
    KeptBut [0x17] ([Reg.SYS_STATE_gauge_lost, Reg.HOST_INT_STAT_gauge] ++ judgedFields) s t := by
  have hwhere : ∀ k ∈ (gaugeReturnFields ++ noteFields).map Fld.key,
      k / 65536 ∈ [0x17] ∨ k ∈ ([Reg.SYS_STATE_gauge_lost, Reg.HOST_INT_STAT_gauge] ++ judgedFields).map Fld.key := by decide
  exact fun f hblock hlist => h f fun hm => (hwhere _ hm).elim hblock hlist

theorem coreAlive_gauge {s : State} (hs : s.ready) (hr : s.romUp = true) (hstage : s.sys.stage = .done) (hrec : s.st ≠ stRECOVERY)
    (hstart : s.starting .gauge = true) (hl : s.bit Reg.SYS_STATE_gauge_lost = true) (hb : s.bit Reg.PATH_STAT_batt_present = false) :
    Completes (.coreAlive .gauge) s fun t => t.sys.gaugeAlive = true ∧ t.sys.gaugeGrace = false
      ∧ t.bit Reg.SYS_STATE_gauge_lost = false ∧ t.bit Reg.GAUGE_FLAGS_stale = false ∧ t.bit Reg.GAUGE_FLAGS_absent = true
      ∧ FrameWide [0x17] ([Reg.SYS_STATE_gauge_lost, Reg.HOST_INT_STAT_gauge] ++ judgedFields) s t := by
  have hexec := exec_coreAlive_gauge hr hstage hrec hstart hl hb
  obtain ⟨hlost, hstale, habsent, hsys⟩ := gaugeReturned_shows hs.1
  obtain ⟨hund, hready | hwaits⟩ := gaugeReturned_cases hs hr
  · have hkept : Kept (gaugeReturnFields ++ noteFields) s s.gaugeReturned := (hund.mono (List.subset_append_left _ _)).kept
    refine ⟨_, hexec.trans (done_quiet _ hready.2), by rw [hsys], by rw [hsys], hlost, hstale, habsent, kept_gaugeReturn hkept,
      hund.stores, le_of_eq hund.logNext.symm, fun a _ => by rw [hund.win]⟩
  · obtain ⟨t, hdone, hev⟩ := hwaits.done_low Nat.one_lt_two
    obtain ⟨hkept, hstores, hlogged⟩ := hev.frameLog_low Nat.one_lt_two hund
    have hshown : ∀ f ∈ [Reg.SYS_STATE_gauge_lost, Reg.GAUGE_FLAGS_stale, Reg.GAUGE_FLAGS_absent], t.bit f = s.gaugeReturned.bit f := by
      have hkeys : ∀ f ∈ [Reg.SYS_STATE_gauge_lost, Reg.GAUGE_FLAGS_stale, Reg.GAUGE_FLAGS_absent],
          f.key ∉ ([] ++ classFields noRecordEv.lvl ++ pinFields).map Fld.key := by decide
      intro f hf
      unfold State.bit
      rw [hev.kept f (hkeys f hf)]
    refine ⟨t, hexec.trans hdone, by rw [hev.only.sys, hsys], by rw [hev.only.sys, hsys], ?_, ?_, ?_, kept_gaugeReturn hkept, hstores,
      hlogged.logGrows⟩
    · rw [hshown _ (by simp), hlost]
    · rw [hshown _ (by simp), hstale]
    · rw [hshown _ (by simp), habsent]

/-! The grace time ends. -/

/-- The grace time of a core. -/
def State.graceOf (s : State) : Core → Bool
  | .control => s.sys.ctlGrace
  | .gauge => s.sys.gaugeGrace

theorem exec_coreGraceExpiry {c : Core} {s : State} (hf : s.firmware) (hg : s.graceOf c = true) (hl : s.bit (coreLost c) = true)
    (hkeep : bitOf (s.safety 0x21) 0 = false) :
    exec (.coreGraceExpiry c) s = ((s.endGrace c).raiseLasting (coreEv c 2 1)).done := by
  obtain ⟨hr, -, -, -, -, -, hact⟩ := hf
  have hact' : (s.endGrace c).upd.act = none := hact
  have hkeep' : bitOf ((s.endGrace c).safety 0x21) 0 = false := hkeep
  show execCoreGraceExpiry c s = _
  cases c <;> simp only [State.graceOf] at hg <;>
    simp [execCoreGraceExpiry, hg, hl, hr, hact', hkeep', coreEv]

/-- Under the KEEP policy a core that is not back in time raises CORE at L2. -/
theorem coreGraceExpiry_keep {c : Core} {s : State} (hs : s.ready) (hf : s.firmware) (hg : s.graceOf c = true)
    (hl : s.bit (coreLost c) = true) (hkeep : bitOf (s.safety 0x21) 0 = false) (hfresh : s.fresh cCORE)
    (hnew : s.present cCORE (coreIdx c) 1 = false) :
    Completes (.coreGraceExpiry c) s fun t => t.sys = (s.endGrace c).sys ∧ Noted cCORE (coreIdx c) 2 t
      ∧ FrameLog judgedFields 1 (evCode cCORE (coreIdx c) 2) s t := by
  have hend := (Readies.refl [] s).endGrace c
  have hup := (hend.romUp (by decide)).trans hf.1
  have hnew' : (s.endGrace c).present cCORE (coreIdx c) 1 = false := hnew
  have hfresh' : (s.endGrace c).fresh cCORE := hfresh
  have hwaits := waits_raiseLasting (e := coreEv c 2 1) (hend.ready hs (by decide)) hnew' hup (effective_of_fresh hfresh')
    (by cases c <;> decide)
  have hno : derateOf (coreEv c 2 1).cls (coreEv c 2 1).src = [] := by cases c <;> rfl
  obtain ⟨t, hdone, hev⟩ := hwaits.done_two rfl (by rw [hno]; simp)
  rw [hno] at hev
  refine ⟨t, (exec_coreGraceExpiry hf hg hl hkeep).trans hdone, ?_, hev.noted (Nat.le_of_lt Nat.one_lt_two),
    hev.frameLog_judged (hend.undisturbed.raiseLasting _)⟩
  rw [hev.only.sys, raiseLasting_eq hnew' hup]
  rfl

/-- Settles O14, by one lemma for each row: `watchdogExpiry_loses`, `coreAlive_control`, `coreAlive_gauge` and
`coreGraceExpiry_keep`. -/
theorem lostCores : Obligations.LostCores := by
  unfold Obligations.LostCores
  refine ⟨?_, ?_, ?_, ?_, ?_, ?_⟩
  · intro s hs hf hl hnew
    obtain ⟨t, hexec, hbits, hsys, hnoted, hframe⟩ := watchdogExpiry_loses (c := .control) hs hf hl hnew
    have hw := setF_fields_wf s Reg.SYS_STATE_ctl_lost 1 hs.1.1
    refine ⟨t, hexec, ?_, ?_, by rw [hsys]; rfl, by rw [hsys]; rfl, hnoted, hframe⟩
    · rw [hbits _ (by simp [coreLost])]
      exact (bit_setB_ne _ _ _ _ (by decide)).trans (bit_setB_same s _ _ Nat.one_pos hs.1.1)
    · rw [hbits _ (by simp)]
      exact bit_setB_same _ _ _ Nat.one_pos hw
  · intro s hs hf hl hnew
    obtain ⟨t, hexec, hbits, hsys, hnoted, hframe⟩ := watchdogExpiry_loses (c := .gauge) hs hf hl hnew
    obtain ⟨hlost, hstale, halive⟩ := gaugeStopped_shows hs.1.1
    refine ⟨t, hexec, ?_, ?_, ?_, by rw [hsys]; rfl, hnoted, hframe.mono (by decide)⟩
    · rw [hbits _ (by simp [coreLost]), hlost]
    · rw [hbits _ (by simp), hstale]
    · rw [hsys]
      exact halive
  · intro s hs hr hstage hrec hstart hl hnone _
    exact coreAlive_control hs hr hstage hrec hstart hl hnone
  · intro s hs hr hstage hrec hstart hl _ hb _
    exact coreAlive_gauge hs hr hstage hrec hstart hl hb
  · intro s hs hf hg hl hkeep hfresh hnew
    obtain ⟨t, hexec, hsys, hrest⟩ := coreGraceExpiry_keep (c := .control) hs hf hg hl hkeep hfresh hnew
    exact ⟨t, hexec, by rw [hsys]; rfl, hrest⟩
  · intro s hs hf hg hl hkeep hfresh hnew
    obtain ⟨t, hexec, hsys, hrest⟩ := coreGraceExpiry_keep (c := .gauge) hs hf hg hl hkeep hfresh hnew
    exact ⟨t, hexec, by rw [hsys]; rfl, hrest⟩

end Sys2Proof.Machine
end

section
/-!
PROOFS. What an answer to a mailbox command leaves (R330, R332, R345, R349, R389).
-/

namespace Sys2Proof.Machine

/-! The parts of a response. -/

/-- The response lies in the port's data area (R332, R387). -/
def Taken.points (c : Taken) (payload : List Byte) : Bool := c.rptr && !payload.isEmpty

/-- The 32 bytes of a response without detail (R330). -/
def Taken.entry (c : Taken) (status : Nat) (payload : List Byte) : List Byte :=
  leBytes 1 c.tag ++ leBytes 1 (c.points payload).toNat ++ leBytes 2 c.opcode ++ leBytes 1 status ++ leBytes 1 (portCode c.port)
    ++ leBytes 2 c.cookie ++ leBytes 2 payload.length ++ leBytes 2 0 ++ padTo 20 (if c.points payload then [] else payload)

/-- The command has left the mailbox. -/
def State.dropped (s : State) (c : Taken) : State :=
  s.updMbx fun m => { m with taken := m.taken.filter fun x => !(x.port == c.port && x.tag == c.tag) }

/-- A memory with the pointed payload, if the response has one. -/
def Taken.putOut (c : Taken) (payload : List Byte) (m : Mem) : Mem := if c.points payload then memWrite c.raddr payload m else m

/-- The response stands in the host's ring. -/
def State.hostPosted (s : State) (c : Taken) (status : Nat) (payload : List Byte) : State :=
  ({ s.dropped c with win := c.putOut payload (memWrite s.respSlot (c.entry status payload) s.win) } : State).setMany
    [(Reg.MBX_RESP_PROD_prod, s.getF Reg.MBX_RESP_PROD_prod + 1), (Reg.HOST_INT_STAT_mbx, 1)]

/-- The response stands among the side-band's, before its reason is noted. -/
def State.sidePosted (s : State) (c : Taken) (status : Nat) (payload : List Byte) : State :=
  ({ s.dropped c with sbBuf := c.putOut payload s.sbBuf } : State).updMbx fun m =>
    { m with sideResps := m.sideResps ++ [⟨c.tag, c.entry status payload⟩] }

/-- The log entry of a response (R349). -/
def State.answerLogged (s : State) (c : Taken) (status : Nat) : State :=
  if status != sOK || logsOk c.opcode then
    s.log 0x0C c.opcode (leBytes 1 status ++ leBytes 1 (portCode c.port) ++ leBytes 1 c.tag ++ [0] ++ leBytes 2 c.cookie ++ leBytes 2 0)
  else s

theorem respond_host {c : Taken} {status : Nat} {payload : List Byte} (s : State) (hp : c.port = .host)
    (hf : c.fits payload.length = true) :
    s.respond c status 0 payload = (s.hostPosted c status payload).answerLogged c status := by
  unfold State.respond State.respondAs State.hostPosted State.dropped State.answerLogged Taken.putOut Taken.entry Taken.points
  simp only [hf, ↓reduceIte, hp]
  cases c.rptr && !payload.isEmpty <;> rfl

theorem respond_side {c : Taken} {status : Nat} {payload : List Byte} (s : State) (hp : c.port = .side)
    (hf : c.fits payload.length = true) :
    s.respond c status 0 payload = ((s.sidePosted c status payload).request rqRESP).answerLogged c status := by
  unfold State.respond State.respondAs State.sidePosted State.dropped State.answerLogged Taken.putOut Taken.entry Taken.points
  simp only [hf, ↓reduceIte, hp]
  cases c.rptr && !payload.isEmpty <;> rfl

/-! The bytes of a response. -/

theorem entry_length (c : Taken) (status : Nat) (payload : List Byte) : (c.entry status payload).length = 32 := by
  simp [Taken.entry]

theorem entry_tag (c : Taken) (status : Nat) (payload : List Byte) : ((c.entry status payload).drop 0).take 1 = leBytes 1 c.tag := by
  simp [Taken.entry]

theorem entry_opcode (c : Taken) (status : Nat) (payload : List Byte) :
    ((c.entry status payload).drop 2).take 2 = leBytes 2 c.opcode := by
  simp [Taken.entry, List.drop_append, List.drop_of_length_le]

theorem entry_status (c : Taken) (status : Nat) (payload : List Byte) :
    ((c.entry status payload).drop 4).take 1 = leBytes 1 status := by
  simp [Taken.entry, List.drop_append, List.drop_of_length_le]

theorem entry_count (c : Taken) (status : Nat) (payload : List Byte) :
    ((c.entry status payload).drop 8).take 2 = leBytes 2 payload.length := by
  simp [Taken.entry, List.drop_append, List.drop_of_length_le]

theorem take_padTo {n : Nat} {l : List Byte} (h : l.length ≤ n) : (padTo n l).take l.length = l := by
  unfold padTo
  rw [List.take_take, min_eq_left h, List.take_left]

/-- A payload that no pointer takes stands in the entry. -/
theorem entry_payload {c : Taken} {payload : List Byte} (status : Nat) (hp : c.points payload = false) (hl : payload.length ≤ 20) :
    ((c.entry status payload).drop 12).take payload.length = payload := by
  have hdrop : (c.entry status payload).drop 12 = padTo 20 payload := by
    simp [Taken.entry, List.drop_append, List.drop_of_length_le, hp]
  rw [hdrop, take_padTo hl]

/-! The log entry of a response. -/

theorem answerLogged_cases (s : State) (c : Taken) (status : Nat) :
    s.answerLogged c status = s ∨ ∃ d, s.answerLogged c status = s.log 0x0C c.opcode d := by
  unfold State.answerLogged
  split
  · exact .inr ⟨_, rfl⟩
  · exact .inl rfl

/-- Appending an entry changes the log alone. -/
structure LogsOnly (s t : State) : Prop where
  same : t = { s with win := t.win, logNext := t.logNext }
  next : s.logNext ≤ t.logNext
  win : ∀ a, (∀ q, s.logNext ≤ q → q < t.logNext → a < logSlot q ∨ logSlot q + 32 ≤ a) → memGet a t.win = memGet a s.win

theorem answerLogged_logsOnly (s : State) (c : Taken) (status : Nat) : LogsOnly s (s.answerLogged c status) := by
  rcases answerLogged_cases s c status with h | ⟨d, h⟩
  · rw [h]
    exact ⟨rfl, le_refl _, fun _ _ => rfl⟩
  · rw [h]
    refine ⟨rfl, Nat.le_succ _, fun a ha => ?_⟩
    rw [State.log, logAt_win]
    exact memGet_memWrite_out _ _ _ _ (by rw [entryBytes_length]; exact ha _ (le_refl _) (Nat.lt_succ_self _))

/-- The mailbox's rings and data areas lie below the log. -/
theorem LogsOnly.memRead {s t : State} (h : LogsOnly s t) {a n : Nat} (ha : a + n ≤ 0x60000) : memRead a n t.win = memRead a n s.win := by
  unfold Sys2Proof.Machine.memRead
  refine List.map_congr_left fun i hi => h.win _ fun q _ _ => .inl ?_
  have hi := List.mem_range.mp hi
  unfold logSlot
  omega

/-! The whole answer. -/

/-- An answer of this status and payload, and nothing else. -/
structure Answers (c : Taken) (status : Nat) (payload : List Byte) (s t : State) : Prop where
  replied : Replied c status payload s t
  frame : ReplyFrame [] c s t
  otp : t.otp = s.otp
  mram : t.mram = s.mram
  nv : t.nv = s.nv
  quiet : s.quiet → t.quiet

theorem Taken.fits_rptr {c : Taken} {n : Nat} (hf : c.fits n = true) (hr : c.rptr = true) : n ≤ c.rcap := by
  unfold Taken.fits at hf
  rw [if_pos hr] at hf
  exact of_decide_eq_true hf

theorem Taken.fits_of_points {c : Taken} {payload : List Byte} (hf : c.fits payload.length = true) (hp : c.points payload = true) :
    c.rptr = true ∧ payload.length ≤ c.rcap := by
  unfold Taken.points at hp
  obtain ⟨hr, -⟩ := Bool.and_eq_true _ _ |>.mp hp
  exact ⟨hr, Taken.fits_rptr hf hr⟩

/-- A payload without a pointed place is empty or stands in the entry. -/
theorem Taken.fits_of_not_points {c : Taken} {payload : List Byte} (hf : c.fits payload.length = true)
    (hp : c.points payload = false) : payload.length ≤ 20 ∧ (c.rptr = true → payload = []) := by
  unfold Taken.points at hp
  unfold Taken.fits at hf
  cases hr : c.rptr with
  | true =>
    have hempty : payload = [] := by simpa [hr] using hp
    simp [hempty]
  | false =>
    rw [hr] at hf
    exact ⟨of_decide_eq_true hf, by simp⟩

/-- Outside the response's place the memory is as it was. -/
theorem putOut_out {c : Taken} {payload : List Byte} (hf : c.fits payload.length = true) (m : Mem) {a : Nat}
    (ha : c.rptr = true → a < c.raddr ∨ c.raddr + c.rcap ≤ a) : memGet a (c.putOut payload m) = memGet a m := by
  unfold Taken.putOut
  split
  next hp =>
    obtain ⟨hr, hlen⟩ := Taken.fits_of_points hf hp
    refine memGet_memWrite_out _ _ _ _ ?_
    have := ha hr
    omega
  next => rfl

/-- A pointed payload reads back. -/
theorem putOut_read {c : Taken} {payload : List Byte} {m : Mem} (hm : Memory.wf m = true) (hp : c.points payload = true) :
    memRead c.raddr payload.length (c.putOut payload m) = payload := by
  have hread := memRead_memWrite payload c.raddr 0 payload.length m hm (by omega)
  unfold Taken.putOut
  rw [if_pos hp]
  simpa using hread

theorem memRead_congr {a n : Nat} {m k : Mem} (h : ∀ x, a ≤ x → x < a + n → memGet x k = memGet x m) :
    memRead a n k = memRead a n m := by
  unfold memRead
  refine List.map_congr_left fun i hi => h _ (by omega) ?_
  have hi := List.mem_range.mp hi
  omega

/-- The payload stands in the entry at this place, or where the command points. -/
theorem payload_read {c : Taken} {payload : List Byte} {status a : Nat} {m : Mem} (hm : Memory.wf m = true)
    (hf : c.fits payload.length = true) :
    memRead (if c.rptr then c.raddr else a + 12) payload.length (c.putOut payload (memWrite a (c.entry status payload) m)) = payload := by
  have hw := memWrite_wf (c.entry status payload) a m hm
  cases hp : c.points payload with
  | true =>
    rw [if_pos (Taken.fits_of_points hf hp).1]
    exact putOut_read hw hp
  | false =>
    obtain ⟨hlen, hempty⟩ := Taken.fits_of_not_points hf hp
    cases hr : c.rptr with
    | true => simp [hempty hr, memRead]
    | false =>
      have hplain : c.putOut payload (memWrite a (c.entry status payload) m) = memWrite a (c.entry status payload) m :=
        if_neg (by simp [hp])
      rw [hplain]
      simp only [Bool.false_eq_true, ↓reduceIte]
      rw [memRead_memWrite _ _ _ _ _ hm (by rw [entry_length]; omega), entry_payload status hp hlen]

/-- The entry reads back, wherever its payload went. -/
theorem entry_read {c : Taken} {payload : List Byte} {status a i n : Nat} {m : Mem} (hm : Memory.wf m = true)
    (hf : c.fits payload.length = true) (hout : c.rptr = true → a + 32 ≤ c.raddr) (hi : i + n ≤ 32) :
    memRead (a + i) n (c.putOut payload (memWrite a (c.entry status payload) m)) = ((c.entry status payload).drop i).take n := by
  rw [← memRead_memWrite _ a i n m hm (by rw [entry_length]; omega)]
  refine memRead_congr fun x hlo hhi => putOut_out hf _ fun hr => .inl ?_
  have := hout hr
  omega

/-- Where the host's command points, its data area takes the response (R332). -/
abbrev Taken.inArea (c : Taken) : Prop := c.rptr = true → c.port = .host → 0x41000 ≤ c.raddr ∧ c.raddr + c.rcap ≤ 0x44000

theorem respSlot_bounds (s : State) : 0x40800 ≤ s.respSlot ∧ s.respSlot + 32 ≤ 0x41000 := by
  unfold State.respSlot
  omega

section
variable {c : Taken} {status : Nat} {payload : List Byte} {s t u : State}

theorem dropped_taken (s : State) (c : Taken) : ∀ x ∈ (s.dropped c).mbx.taken, ¬(x.port = c.port ∧ x.tag = c.tag) := by
  intro x hx
  have hkept := List.of_mem_filter hx
  rintro ⟨hport, htag⟩
  simp [hport, htag] at hkept

/-- The response in the host's ring. -/
theorem hostPosted_answers (hs : s.canonical) (hp : c.port = .host) (hf : c.fits payload.length = true) (hst : status < 256)
    (ha : c.inArea) : Answers c status payload s (s.hostPosted c status payload) := by
  obtain ⟨hw, -, -, hwin, -⟩ := hs
  have hslot := respSlot_bounds s
  have hout : c.rptr = true → s.respSlot + 32 ≤ c.raddr := fun hr => by
    have := ha hr hp
    omega
  have hmem : (s.hostPosted c status payload).win = c.putOut payload (memWrite s.respSlot (c.entry status payload) s.win) := by
    simp [State.hostPosted]
  have hset (p : Fld × Nat) (hm : p ∈ [(Reg.MBX_RESP_PROD_prod, s.getF Reg.MBX_RESP_PROD_prod + 1), (Reg.HOST_INT_STAT_mbx, 1)]) :
      (s.hostPosted c status payload).getF p.1 = p.2 % 2 ^ p.1.w :=
    getF_setMany_mem (s := { s.dropped c with win := _ }) hw (by simp [Fld.key]) hm
  have hkept : Kept answerFields s (s.hostPosted c status payload) :=
    Kept.setMany _ (t := { s.dropped c with win := _ }) ((Kept.refl _ s).of_fields rfl) (by simp [answerFields])
  refine ⟨⟨?_, fun _ => ⟨hset _ List.mem_cons_self, ?_, ?_, ?_, ?_, ?_, ?_⟩, fun hside => ?_⟩, ⟨hkept, ?_, ?_, ?_, ?_, ?_⟩, ?_, ?_,
    ?_, ?_⟩
  · have htaken := dropped_taken s c
    simpa [State.hostPosted] using htaken
  · have hint := hset _ (List.mem_cons_of_mem _ List.mem_cons_self)
    unfold State.bit
    rw [hint]
    rfl
  · rw [hmem, show memRead s.respSlot 1 = memRead (s.respSlot + 0) 1 from rfl, entry_read hwin hf hout (by omega), entry_tag,
      leNat_leBytes]
    rfl
  · rw [hmem, entry_read hwin hf hout (by omega), entry_opcode, leNat_leBytes]
    rfl
  · rw [hmem, entry_read hwin hf hout (by omega), entry_status, leNat_leBytes]
    exact Nat.mod_eq_of_lt hst
  · rw [hmem, entry_read hwin hf hout (by omega), entry_count, leNat_leBytes]
    rfl
  · rw [hmem]
    exact payload_read hwin hf
  · rw [hp] at hside
    cases hside
  · simp [State.hostPosted, State.dropped]
  · simp [State.hostPosted, State.dropped]
  · simp [State.hostPosted, State.dropped]
  · intro a hslot hrange _
    rw [hmem, putOut_out hf _ hrange, memGet_memWrite_out _ _ _ _ (by rw [entry_length]; exact hslot)]
  · intro a _
    simp [State.hostPosted, State.dropped]
  · simp [State.hostPosted, State.dropped]
  · simp [State.hostPosted, State.dropped]
  · simp [State.hostPosted, State.dropped]
  · rintro ⟨hev, hdefer, hlive⟩
    refine ⟨?_, ?_, ?_⟩
    · simpa [State.hostPosted, State.dropped] using hev
    · unfold State.bit at *
      rwa [hkept _ (by decide)]
    · simpa [State.hostPosted, State.dropped] using hlive

/-- The response among the side-band's, with its reason. -/
theorem sidePosted_answers (hs : s.canonical) (hp : c.port = .side) (hf : c.fits payload.length = true) (hst : status < 256) :
    Answers c status payload s ((s.sidePosted c status payload).request rqRESP) := by
  obtain ⟨-, -, -, -, hsb, -⟩ := hs
  have hreq : Acts [Reg.SB_REQ_req] (s.sidePosted c status payload) ((s.sidePosted c status payload).request rqRESP) :=
    (Acts.refl _ _).request _ List.mem_cons_self
  have honly := hreq.only
  generalize (s.sidePosted c status payload).request rqRESP = t at hreq honly
  have hmbx : t.mbx = (s.sidePosted c status payload).mbx := by
    unfold OnlyActs at honly
    rw [honly]
  have hbuf : t.sbBuf = c.putOut payload s.sbBuf := honly.sbBuf
  have hkept : Kept answerFields s t :=
    Kept.trans (t := s.sidePosted c status payload) ((Kept.refl _ s).of_fields rfl) (hreq.kept.mono (by decide))
  refine ⟨⟨?_, fun hhost => ?_, fun _ => ⟨⟨c.tag, c.entry status payload⟩, ?_, rfl, ?_, ?_⟩⟩, ⟨hkept, ?_, ?_, ?_, ?_, ?_⟩, ?_, ?_, ?_, ?_⟩
  · rw [hmbx]
    exact dropped_taken s c
  · rw [hp] at hhost
    cases hhost
  · rw [hmbx]
    rfl
  · rw [entry_status, leNat_leBytes]
    exact Nat.mod_eq_of_lt hst
  · rw [hbuf]
    cases hpt : c.points payload with
    | true =>
      rw [if_pos (Taken.fits_of_points hf hpt).1]
      exact putOut_read hsb hpt
    | false =>
      obtain ⟨hlen, hempty⟩ := Taken.fits_of_not_points hf hpt
      cases hr : c.rptr with
      | true => simp [hempty hr, memRead]
      | false => exact entry_payload status hpt hlen
  · exact honly.time
  · exact honly.pending
  · exact le_of_eq hreq.logNext.symm
  · intro a _ _ _
    rw [hreq.win]
    rfl
  · intro a hrange
    rw [hbuf, putOut_out hf _ hrange]
  · exact honly.otp
  · exact honly.mram
  · exact honly.nv
  · rintro ⟨hev, hdefer, hlive⟩
    refine ⟨hreq.evs.trans hev, ?_, ?_⟩
    · unfold State.bit at *
      rwa [hkept _ (by decide)]
    · rw [honly.age]
      exact hlive

/-- The log entry of a response leaves the response. -/
theorem Answers.logsOnly (h : Answers c status payload s u) (hl : LogsOnly u t) (hf : c.fits payload.length = true) (ha : c.inArea) :
    Answers c status payload s t := by
  obtain ⟨⟨htaken, hhost, hside⟩, ⟨hkept, htime, hpending, hnext, hwin, hbuf⟩, hotp, hmram, hnv, hquiet⟩ := h
  have hslot := respSlot_bounds s
  have hget (f : Fld) : t.getF f = u.getF f := by rw [hl.same]; rfl
  have hmbx : t.mbx = u.mbx := by rw [hl.same]
  have hsb : t.sbBuf = u.sbBuf := by rw [hl.same]
  refine ⟨⟨by rwa [hmbx], fun hp => ?_, fun hp => by rw [hmbx, hsb]; exact hside hp⟩, ⟨fun f hm => (hget f).trans (hkept f hm), ?_, ?_, ?_, ?_, ?_⟩,
    ?_, ?_, ?_, ?_⟩
  · obtain ⟨hprod, hint, htag, hop, hstat, hlen, hpay⟩ := hhost hp
    refine ⟨(hget _).trans hprod, ?_, ?_, ?_, ?_, ?_, ?_⟩
    · unfold State.bit at *
      rwa [hget]
    · rwa [hl.memRead (by omega)]
    · rwa [hl.memRead (by omega)]
    · rwa [hl.memRead (by omega)]
    · rwa [hl.memRead (by omega)]
    · cases hr : c.rptr with
      | true =>
        have hfit := Taken.fits_rptr hf hr
        have harea := ha hr hp
        rw [hr] at hpay
        rwa [hl.memRead (by simp only [↓reduceIte]; omega)]
      | false =>
        have hfit : payload.length ≤ 20 := by
          unfold Taken.fits at hf
          rw [hr] at hf
          exact of_decide_eq_true hf
        rw [hr] at hpay
        rwa [hl.memRead (by simp only [Bool.false_eq_true, ↓reduceIte]; omega)]
  · rw [hl.same]
    exact htime
  · rw [hl.same]
    exact hpending
  · exact hnext.trans hl.next
  · intro a h1 h2 h3
    have hnext' := hl.next
    exact (hl.win a fun q hq hq' => h3 q (hnext.trans hq) hq').trans
      (hwin a h1 h2 fun q hq hq' => h3 q hq (Nat.lt_of_lt_of_le hq' hnext'))
  · intro a hrange
    rw [hsb]
    exact hbuf a hrange
  · rw [hl.same]
    exact hotp
  · rw [hl.same]
    exact hmram
  · rw [hl.same]
    exact hnv
  · intro hq
    obtain ⟨hev, hdefer, hlive⟩ := hquiet hq
    rw [hl.same]
    exact ⟨hev, hdefer, hlive⟩

/-- An answer whose payload fits. -/
theorem respond_answers (hs : s.canonical) (hf : c.fits payload.length = true) (hst : status < 256) (ha : c.inArea) :
    Answers c status payload s (s.respond c status 0 payload) := by
  cases hp : c.port with
  | host =>
    rw [respond_host s hp hf]
    exact (hostPosted_answers hs hp hf hst ha).logsOnly (answerLogged_logsOnly _ c status) hf ha
  | side =>
    rw [respond_side s hp hf]
    exact (sidePosted_answers hs hp hf hst).logsOnly (answerLogged_logsOnly _ c status) hf ha

end

end Sys2Proof.Machine
end

section
/-!
PROOFS. Fuse commands, the run-time re-read of the fuses, and memory errors.
-/

namespace Sys2Proof.Machine

/-! A command in its turn. -/

section
variable {p : Port} {tag : BitVec 6} {c : Taken} {op status : Nat} {payload reply : List Byte} {s t u : State}

/-- The port of a command is the one its row names, and its response has a place there. -/
theorem port_of_turn (h : s.turn p tag c op payload) : c.port = p ∧ c.inArea := by
  obtain ⟨⟨hfind, -, -, -, -, hhost, -⟩, -, -, -⟩ := h
  have hsome := List.find?_some hfind
  have hport : c.port = p := by
    simp only [Bool.and_eq_true, beq_iff_eq] at hsome
    exact hsome.1
  exact ⟨hport, fun hr hp => hhost hr (hport ▸ hp)⟩

theorem runCmd_of_turn (h : s.turn p tag c op payload) {mine : Nat → Bool} (hm : mine op = true) (f : State → Taken → State) :
    s.runCmd p tag mine f = (f s c).done := by
  obtain ⟨⟨hfind, hwait, hruns, hstamp, hheld, -, -⟩, hop, -, -⟩ := h
  unfold State.runCmd
  rw [hfind]
  simp [hruns, hop, hm, hwait, hstamp, hheld]

/-- A command whose checks all pass. -/
theorem guarded_passed {checks : List (Bool × Nat)} (h : ∀ x ∈ checks, x.1 = false) (ok : State → State) :
    s.guarded c checks ok = ok s := by
  have hnone : (checks.find? fun x => x.1) = none := List.find?_eq_none.mpr fun x hx => by simp [h x hx]
  unfold State.guarded
  rw [hnone]

/-- An answer without payload always fits. -/
theorem fits_zero (c : Taken) : c.fits 0 = true := by
  unfold Taken.fits
  split <;> exact decide_eq_true (Nat.zero_le _)

theorem Answers.done (h : Answers c status reply s t) (hq : s.quiet) : t.done = .next t := done_quiet _ (h.quiet hq)

theorem Answers.records (h : Answers c status reply s t) : RecordsKept s t := ⟨h.mram, by rw [h.otp], h.nv⟩

/-- A command has changed only the listed fields before its answer, and nothing the answer shows. -/
structure BeforeAnswer (l : List Fld) (s u : State) : Prop where
  kept : Kept l s u
  ring : u.getF Reg.MBX_RESP_PROD_prod = s.getF Reg.MBX_RESP_PROD_prod
  mbx : u.mbx = s.mbx
  win : u.win = s.win
  sbBuf : u.sbBuf = s.sbBuf
  logNext : u.logNext = s.logNext
  time : u.time = s.time
  pending : u.pending = s.pending
  mram : u.mram = s.mram
  nv : u.nv = s.nv

theorem BeforeAnswer.respSlot {l : List Fld} (h : BeforeAnswer l s u) : u.respSlot = s.respSlot := by
  unfold State.respSlot
  rw [h.ring]

theorem Answers.replied_from {l : List Fld} (h : Answers c status reply u t) (hu : BeforeAnswer l s u) : Replied c status reply s t := by
  have hrep := h.replied
  unfold Replied at *
  rwa [hu.respSlot, hu.ring, hu.mbx] at hrep

theorem Answers.frame_from {l : List Fld} (h : Answers c status reply u t) (hu : BeforeAnswer l s u) : ReplyFrame l c s t := by
  obtain ⟨hkept, htime, hpending, hnext, hwin, hbuf⟩ := h.frame
  rw [hu.respSlot, hu.logNext, hu.win] at hwin
  rw [hu.sbBuf] at hbuf
  refine ⟨(hu.kept.mono ?_).trans (hkept.mono ?_), htime.trans hu.time, hpending.trans hu.pending, hu.logNext ▸ hnext, hwin, hbuf⟩
  · exact fun f hf => List.mem_map_of_mem (List.mem_append_left _ hf)
  · exact fun f hf => List.mem_map_of_mem (List.mem_append_right _ hf)

end

/-! OTP.PROGRAM. -/

/-- The payload of OTP.PROGRAM (R363). -/
def programPayload (r i v : Nat) : List Byte := leBytes 1 r ++ [0] ++ leBytes 2 i ++ leBytes 2 v ++ [0, 0]

/-- The operands of OTP.PROGRAM, as its row reads them. -/
structure ProgramOperands (c : Taken) (r i v : Nat) : Prop where
  region : c.u 0 1 = r
  word : c.u 2 2 = i
  value : c.u 4 2 = v
  len : c.badLen 8 = false
  pad1 : c.notZero 1 1 = false
  pad2 : c.notZero 6 2 = false

theorem programOperands {c : Taken} {r i v : Nat} (hc : c.payload = programPayload r i v) (hr : r < 256) (hi : i < 65536)
    (hv : v < 65536) : ProgramOperands c r i v := by
  refine ⟨?_, ?_, ?_, ?_, ?_, ?_⟩
  · have hbytes : (c.payload.drop 0).take 1 = leBytes 1 r := by simp [hc, programPayload]
    rw [Taken.u, hbytes, leNat_leBytes]
    exact Nat.mod_eq_of_lt hr
  · have hbytes : (c.payload.drop 2).take 2 = leBytes 2 i := by
      simp [hc, programPayload, List.drop_append, List.drop_of_length_le]
    rw [Taken.u, hbytes, leNat_leBytes]
    exact Nat.mod_eq_of_lt hi
  · have hbytes : (c.payload.drop 4).take 2 = leBytes 2 v := by
      simp [hc, programPayload, List.drop_append, List.drop_of_length_le]
    rw [Taken.u, hbytes, leNat_leBytes]
    exact Nat.mod_eq_of_lt hv
  · simp [Taken.badLen, hc, programPayload]
  · simp [Taken.notZero, zeros, hc, programPayload]
  · simp [Taken.notZero, zeros, hc, programPayload, List.drop_append, List.drop_of_length_le]

/-- What OTP.PROGRAM asks of the state, beside its lock and its policy. -/
structure ProgramFits (c : Taken) (r i v : Nat) (s : State) : Prop where
  ready : s.otpReady c = true
  operands : ProgramOperands c r i v
  force : c.force = true
  fits : c.fits 2 = true
  region : r < 7
  word : i < otpWords r
  early : (decide (r = 2) && s.earlyBad i v) = false
  safety : (decide (r = 3) && safetyBad i v) = false

theorem ProgramFits.checks {c : Taken} {r i v : Nat} {s : State} (h : ProgramFits c r i v s) :
    (!s.otpReady c) = false ∧ (c.badLen 8 || !c.force || c.notZero 1 1 || c.notZero 6 2 || decide (7 < r) || decide (otpWords r ≤ i)
      || !c.fits 2 || decide (r = 2) && s.earlyBad i v || decide (r = 3) && safetyBad i v) = false := by
  obtain ⟨hready, ⟨-, -, -, hlen, hpad1, hpad2⟩, hforce, hfits, hr, hi, hearly, hsafety⟩ := h
  have hr' : ¬7 < r := by omega
  have hi' : ¬otpWords r ≤ i := by omega
  refine ⟨by rw [hready]; rfl, ?_⟩
  rw [hlen, hforce, hpad1, hpad2, hfits, hearly, hsafety, decide_eq_false hr', decide_eq_false hi']
  rfl

/-- The pulses of a word that is not programmed. -/
theorem cmdProgram_burns {rb : Word} {c : Taken} {r i v : Nat} {s : State} (h : ProgramFits c r i v s)
    (hpol : s.otpPolicy c.port = true) (hlock : bitOf s.otp.wlock r = false) (hfuse : s.fuse r i = 0) (hv : v ≠ 0) :
    s.cmdProgram rb c = if rb.toNat = v then (s.program r i rb.toNat).respond c sOK 0 (leBytes 2 v)
      else (s.program r i rb.toNat).respond c sCRC 0 [] := by
  obtain ⟨hnow, hbad⟩ := h.checks
  obtain ⟨hregion, hword, hvalue, -, -, -⟩ := h.operands
  have h7 : r ≠ 7 := by have := h.region; omega
  unfold State.cmdProgram
  simp only [hregion, hword, hvalue]
  rw [guarded_passed, if_neg]
  · rw [hfuse]
    exact fun e => hv e.symm
  · simp [hnow, hbad, hpol, h7, hlock, hfuse]

/-- A locked region is refused. -/
theorem cmdProgram_locked {rb : Word} {c : Taken} {r i v : Nat} {s : State} (h : ProgramFits c r i v s)
    (hlock : bitOf s.otp.wlock r = true) : s.cmdProgram rb c = s.respond c sDENIED 0 [] := by
  obtain ⟨hnow, hbad⟩ := h.checks
  obtain ⟨hregion, hword, hvalue, -, -, -⟩ := h.operands
  unfold State.cmdProgram
  simp only [hregion, hword, hvalue]
  unfold State.guarded
  simp [hnow, hbad, hlock]

/-- Word i of region r holds v; a critical change is not yet noted. -/
def State.burnt (s : State) (r i v : Nat) : State :=
  s.updOtp fun o =>
    { o with words := cellSet (otpKey r i) v (otpFactory (otpKey r i)) o.words,
             fresh := otpKey r i :: o.fresh.filter (· != otpKey r i) }

theorem program_plain {s : State} {r i v : Nat} (h2 : r ≠ 2) (h3 : r ≠ 3) : s.program r i v = s.burnt r i v :=
  if_neg (by simp [h2, h3])

theorem program_safety (s : State) (i v : Nat) : s.program 3 i v = (s.burnt 3 i v).setB Reg.OTP_STAT_pend_crit true := rfl

theorem burnt_canonical {s : State} (hs : s.canonical) (r i v : Nat) : (s.burnt r i v).canonical := by
  obtain ⟨hf, hw, hrest⟩ := hs
  exact ⟨hf, cellSet_wf _ _ _ _ hw, hrest⟩

theorem burnt_fuse {s : State} (hs : s.canonical) (r i v : Nat) : (s.burnt r i v).fuse r i = v := by
  obtain ⟨-, hw, -⟩ := hs
  exact cellGet_cellSet_same _ _ _ _ hw

theorem burnt_others (s : State) (r i v : Nat) {k : Nat} (hk : k ≠ otpKey r i) :
    cellGet k 0 (s.burnt r i v).otp.words = cellGet k 0 s.otp.words :=
  cellGet_cellSet_ne _ _ _ _ _ _ hk

theorem burnt_beforeAnswer (s : State) (r i v : Nat) : BeforeAnswer [] s (s.burnt r i v) :=
  ⟨fun _ _ => rfl, rfl, rfl, rfl, rfl, rfl, rfl, rfl, rfl, rfl⟩

/-- What a word reads after an answer. -/
theorem Answers.fuse {c : Taken} {status : Nat} {reply : List Byte} {u t : State} (h : Answers c status reply u t) (r i : Nat) :
    t.fuse r i = u.fuse r i := by
  unfold State.fuse
  rw [h.otp]

theorem exec_otpProgram {p : Port} {tag : BitVec 6} {c : Taken} {payload : List Byte} {s : State}
    (ht : s.turn p tag c 0x0D10 payload) (rb : Word) : exec (.otpProgram p tag rb) s = (s.cmdProgram rb c).done :=
  runCmd_of_turn (mine := (· == 0x0D10)) ht rfl (State.cmdProgram rb)

/-- A word of a region that is not critical holds what its pulses read back as, and the answer says whether that was ordered. -/
theorem otpProgram_plain {p : Port} {tag : BitVec 6} {c : Taken} {payload : List Byte} {r i v status : Nat} {rb : Word}
    {reply : List Byte} {s : State} (hs : s.ready) (ht : s.turn p tag c 0x0D10 payload) (h : ProgramFits c r i v s)
    (hpol : s.otpPolicy p = true) (h2 : r ≠ 2) (h3 : r ≠ 3) (hlock : bitOf s.otp.wlock r = false) (hfuse : s.fuse r i = 0) (hv : v ≠ 0)
    (hreply : rb.toNat = v ∧ status = sOK ∧ reply = leBytes 2 v ∨ rb.toNat ≠ v ∧ status = sCRC ∧ reply = []) :
    Completes (.otpProgram p tag rb) s fun t => t.fuse r i = rb.toNat
      ∧ (∀ k, k ≠ otpKey r i → cellGet k 0 t.otp.words = cellGet k 0 s.otp.words)
      ∧ Replied c status reply s t ∧ ReplyFrame [] c s t ∧ t.mram = s.mram ∧ t.nv = s.nv := by
  obtain ⟨hport, harea⟩ := port_of_turn ht
  have hcmd : s.cmdProgram rb c = (s.burnt r i rb.toNat).respond c status 0 reply := by
    rw [cmdProgram_burns h (hport ▸ hpol) hlock hfuse hv, program_plain h2 h3]
    rcases hreply with ⟨hrb, rfl, rfl⟩ | ⟨hrb, rfl, rfl⟩
    · rw [if_pos hrb]
    · rw [if_neg hrb]
  have hfits : c.fits reply.length = true ∧ status < 256 := by
    rcases hreply with ⟨-, rfl, rfl⟩ | ⟨-, rfl, rfl⟩
    · exact ⟨by simpa using h.fits, by decide⟩
    · exact ⟨fits_zero c, by decide⟩
  have hburnt := burnt_beforeAnswer s r i rb.toNat
  have hans := respond_answers (burnt_canonical hs.1 r i rb.toNat) hfits.1 hfits.2 harea
  have hquiet : (s.burnt r i rb.toNat).quiet := hs.2
  refine ⟨_, ?_, (hans.fuse r i).trans (burnt_fuse hs.1 r i rb.toNat), fun k hk => ?_, hans.replied_from hburnt, hans.frame_from hburnt,
    hans.mram.trans hburnt.mram, hans.nv.trans hburnt.nv⟩
  · rw [exec_otpProgram ht, hcmd]
    exact hans.done hquiet
  · rw [hans.otp]
    exact burnt_others s r i rb.toNat hk

theorem otpProgram_locked {p : Port} {tag : BitVec 6} {c : Taken} {payload : List Byte} {r i v : Nat} {s : State} (hs : s.ready)
    (ht : s.turn p tag c 0x0D10 payload) (h : ProgramFits c r i v s) (hlock : bitOf s.otp.wlock r = true) (rb : Word) :
    Completes (.otpProgram p tag rb) s fun t => Replied c sDENIED [] s t ∧ ReplyFrame [] c s t ∧ RecordsKept s t := by
  obtain ⟨-, harea⟩ := port_of_turn ht
  have hans := respond_answers (s := s) (status := sDENIED) (payload := []) hs.1 (fits_zero c) (by decide) harea
  refine ⟨_, ?_, hans.replied, hans.frame, hans.records⟩
  rw [exec_otpProgram ht, cmdProgram_locked h hlock]
  exact hans.done hs.2

/-- A SAFETY word leaves a critical change pending, and the latch as it is. -/
theorem otpProgram_safety {p : Port} {tag : BitVec 6} {c : Taken} {payload : List Byte} {i v : Nat} {rb : Word} {s : State} (hs : s.ready)
    (ht : s.turn p tag c 0x0D10 payload) (h : ProgramFits c 3 i v s) (hpol : s.otpPolicy p = true) (hlock : bitOf s.otp.wlock 3 = false)
    (hfuse : s.fuse 3 i = 0) (hv : v ≠ 0) (hrb : rb.toNat = v) :
    Completes (.otpProgram p tag rb) s fun t => t.fuse 3 i = v ∧ t.bit Reg.OTP_STAT_pend_crit = true ∧ t.otp.latch = s.otp.latch
      ∧ (∀ k, k ≠ otpKey 3 i → cellGet k 0 t.otp.words = cellGet k 0 s.otp.words)
      ∧ Replied c sOK (leBytes 2 v) s t ∧ ReplyFrame [Reg.OTP_STAT_pend_crit] c s t ∧ t.mram = s.mram ∧ t.nv = s.nv := by
  obtain ⟨hport, harea⟩ := port_of_turn ht
  have hcmd : s.cmdProgram rb c = ((s.burnt 3 i v).setB Reg.OTP_STAT_pend_crit true).respond c sOK 0 (leBytes 2 v) := by
    rw [cmdProgram_burns h (hport ▸ hpol) hlock hfuse hv, if_pos hrb, program_safety, hrb]
  have hburnt := burnt_canonical hs.1 3 i v
  have hpend : ((s.burnt 3 i v).setB Reg.OTP_STAT_pend_crit true).bit Reg.OTP_STAT_pend_crit = true :=
    bit_setB_same _ _ _ Nat.one_pos hburnt.1
  have hbefore : BeforeAnswer [Reg.OTP_STAT_pend_crit] s ((s.burnt 3 i v).setB Reg.OTP_STAT_pend_crit true) :=
    ⟨(Kept.refl _ (s.burnt 3 i v)).setB _ true List.mem_cons_self, getF_setB_ne _ _ _ _ (by decide), rfl, rfl, rfl, rfl, rfl, rfl, rfl,
      rfl⟩
  have hready : ((s.burnt 3 i v).setB Reg.OTP_STAT_pend_crit true).ready :=
    State.ready.setB (s := s.burnt 3 i v) ⟨hburnt, hs.2⟩ true (by decide)
  have hans := respond_answers (payload := leBytes 2 v) hready.1 (by simpa using h.fits) (status := sOK) (by decide) harea
  refine ⟨_, ?_, (hans.fuse 3 i).trans (burnt_fuse hs.1 3 i v), ?_, by rw [hans.otp]; rfl, fun k hk => ?_, hans.replied_from hbefore,
    hans.frame_from hbefore, hans.mram.trans hbefore.mram, hans.nv.trans hbefore.nv⟩
  · rw [exec_otpProgram ht, hcmd]
    exact hans.done hready.2
  · unfold State.bit at *
    rwa [hans.frame.1 _ (by decide)]
  · rw [hans.otp]
    exact burnt_others s 3 i v hk

/-! OTP.LOCK. -/

/-- The fuses with both lock bits of region r added. -/
def State.locked (s : State) (r : Nat) : State :=
  s.updOtp fun o => { o with wlock := o.wlock + 2 ^ r, rlock := o.rlock + 2 ^ r }

theorem cmdLock_both {c : Taken} {r : Nat} {s : State} (hc : c.payload = leBytes 1 r ++ [3, 0, 0]) (hready : s.otpReady c = true)
    (hforce : c.force = true) (hpol : s.otpPolicy c.port = true) (hr : r < 7) (hw : bitOf s.otp.wlock r = false)
    (hd : bitOf s.otp.rlock r = false) : s.cmdLock true c = (s.locked r).respond c sOK 0 [] := by
  have hregion : c.u 0 1 = r := by
    have hbytes : (c.payload.drop 0).take 1 = leBytes 1 r := by simp [hc]
    rw [Taken.u, hbytes, leNat_leBytes]
    exact Nat.mod_eq_of_lt (by omega)
  have hbits : c.u 1 1 = 3 := by
    have hbytes : (c.payload.drop 1).take 1 = [3] := by simp [hc]
    rw [Taken.u, hbytes]
    rfl
  have hlen : c.badLen 4 = false := by simp [Taken.badLen, hc]
  have hpad : c.notZero 2 2 = false := by
    have hbytes : (c.payload.drop 2).take 2 = [0, 0] := by simp [hc, List.drop_append, List.drop_of_length_le]
    rw [Taken.notZero, zeros, hbytes]
    rfl
  have h7 : ¬7 < r ∧ r ≠ 7 := by omega
  have h30 : bitOf 3 0 = true ∧ bitOf 3 1 = true := by decide
  unfold State.cmdLock
  simp only [hregion, hbits, h30.1, h30.2, ↓reduceIte]
  rw [guarded_passed]
  · rfl
  · simp [hready, hlen, hforce, hpad, h7.1, h7.2, hpol, hw, hd]

theorem otpLock_both {p : Port} {tag : BitVec 6} {c : Taken} {r : Nat} {s : State} (hs : s.ready)
    (ht : s.turn p tag c 0x0D11 (leBytes 1 r ++ [3, 0, 0])) (hforce : c.force = true) (hready : s.otpReady c = true)
    (hpol : s.otpPolicy p = true) (hr : r < 7) (hw : bitOf s.otp.wlock r = false) (hd : bitOf s.otp.rlock r = false) :
    Completes (.otpLock p tag true) s fun t => bitOf t.otp.wlock r = true ∧ bitOf t.otp.rlock r = true ∧ RepliedOk [] [] c s t := by
  obtain ⟨hport, harea⟩ := port_of_turn ht
  have hexec : exec (.otpLock p tag true) s = (s.cmdLock true c).done :=
    runCmd_of_turn (mine := (· == 0x0D11)) ht rfl (State.cmdLock true)
  have hbefore : BeforeAnswer [] s (s.locked r) := ⟨fun _ _ => rfl, rfl, rfl, rfl, rfl, rfl, rfl, rfl, rfl, rfl⟩
  have hlocked : (s.locked r).ready := hs
  have hans := respond_answers (payload := []) hlocked.1 (fits_zero c) (status := sOK) (by decide) harea
  refine ⟨_, ?_, ?_, ?_, hans.replied_from hbefore, hans.frame_from hbefore, hans.mram, by rw [hans.otp]; rfl, hans.nv⟩
  · rw [hexec, cmdLock_both ht.2.2.1 hready hforce (hport ▸ hpol) hr hw hd]
    exact hans.done hlocked.2
  · have hbit := bitOf_add_pow s.otp.wlock r r hw
    rw [hans.otp]
    exact hbit.trans (by simp)
  · have hbit := bitOf_add_pow s.otp.rlock r r hd
    rw [hans.otp]
    exact hbit.trans (by simp)

end Sys2Proof.Machine
end

section
/-!
PROOFS. The run-time re-read of the fuses, and memory errors.
-/

namespace Sys2Proof.Machine

/-! The re-read (R414). -/

/-- A re-read begins anew: its age is 0 and no retry is due. -/
def State.rereadNoted (s : State) : State := (s.setF Reg.OTP_RT_AGE_hours 0).updOtp fun o => { o with us := 0, retry := false }

theorem rereadNoted_readies (s : State) : Readies [Reg.OTP_RT_AGE_hours] s s.rereadNoted := by
  have hset : Readies [Reg.OTP_RT_AGE_hours] s (s.setF Reg.OTP_RT_AGE_hours 0) := ((Acts.refl _ s).setF 0 List.mem_cons_self).readies
  exact hset.trans ⟨(Undisturbed.refl _ _).inner rfl ⟨fun _ => rfl, fun _ => rfl, rfl, rfl, rfl, rfl⟩ rfl rfl, id, rfl, rfl, rfl, rfl⟩

theorem rereadNoted_hours {s : State} (hw : Cells.wf s.fields = true) : s.rereadNoted.getF Reg.OTP_RT_AGE_hours = 0 :=
  getF_setF_same s Reg.OTP_RT_AGE_hours 0 hw

/-- The event of a region with a failing word (R414). -/
def fuseEv (r : Nat) : Ev := { cls := cFUSE, src := r, lvl := 1 }

theorem badKeys_nil (r : Nat) : badKeys [] r = [] := by
  simp [badKeys, wordBad]

theorem reread_clean {s : State} (hl : s.sys.vkeepLow = false) : s.reread [] = s.rereadNoted := by
  unfold State.reread
  simp [hl, badKeys_nil]
  rfl

theorem reread_first {s : State} {bad : List Nat} (hl : s.sys.vkeepLow = false)
    (hb : ((List.range 8).filter fun r => !(badKeys bad r).isEmpty) = [0]) :
    s.reread bad = (s.rereadNoted.setBitOf Reg.OTP_RT_mism 0 true).raise (fuseEv 0) := by
  unfold State.reread
  rw [if_neg (by simp [hl])]
  dsimp only
  rw [hb]
  rfl

theorem romUp_of_ageRuns {s : State} (h : s.ageRuns = true) : s.romUp = true := by
  unfold State.ageRuns at h
  exact (Bool.and_eq_true _ _ |>.mp h).1

theorem otpReread_clean {s : State} (hs : s.ready) (hr : s.ageRuns = true) (hl : s.sys.vkeepLow = false) :
    Completes (.otpReread []) s fun t => t.getF Reg.OTP_RT_AGE_hours = 0 ∧ t.otp.retry = false ∧ Frame [Reg.OTP_RT_AGE_hours] s t := by
  have hexec : exec (.otpReread []) s = s.rereadNoted.done := by
    rw [← reread_clean hl]
    show execOtpReread [] s = _
    simp [execOtpReread, hr]
  have hnoted := rereadNoted_readies s
  have hready := hnoted.ready hs (by decide)
  exact ⟨_, hexec.trans (done_quiet _ hready.2), rereadNoted_hours hs.1.1, rfl, hnoted.undisturbed.frame⟩

/-- A re-read in which region 0 alone has a failing word. -/
theorem reread_done {bad : List Nat} {s : State} (hs : s.ready) (hr : s.ageRuns = true) (hl : s.sys.vkeepLow = false)
    (hb : ((List.range 8).filter fun r => !(badKeys bad r).isEmpty) = [0]) :
    ∃ t, (s.reread bad).done = .next t ∧ bitOf (t.getF Reg.OTP_RT_mism) 0 = true ∧ t.getF Reg.OTP_RT_AGE_hours = 0
      ∧ t.otp.retry = false ∧ Noted cFUSE 0 1 t
      ∧ FrameLog ([Reg.OTP_RT_AGE_hours, Reg.OTP_RT_mism] ++ noteFields) 1 (evCode cFUSE 0 1) s t := by
  have hnoted := (rereadNoted_readies s).mono (m := [Reg.OTP_RT_AGE_hours, Reg.OTP_RT_mism]) (by decide)
  have hflag : Acts [Reg.OTP_RT_mism] s.rereadNoted (s.rereadNoted.setBitOf Reg.OTP_RT_mism 0 true) :=
    (Acts.refl _ _).setBitOf 0 true List.mem_cons_self
  have hall := hnoted.acts (hflag.mono (by decide))
  have hup := (hall.romUp (by decide)).trans (romUp_of_ageRuns hr)
  have hwaits := waits_raise (e := fuseEv 0) (hall.ready hs (by decide)) hup (effective_of_low _ Nat.one_lt_two) (by decide)
  obtain ⟨t, hdone, hev⟩ := hwaits.done_low Nat.one_lt_two
  have hget : ∀ f ∈ [Reg.OTP_RT_mism, Reg.OTP_RT_AGE_hours], t.getF f = (s.rereadNoted.setBitOf Reg.OTP_RT_mism 0 true).getF f := by
    have hkeys : ∀ f ∈ [Reg.OTP_RT_mism, Reg.OTP_RT_AGE_hours],
        f.key ∉ ([] ++ classFields (fuseEv 0).lvl ++ pinFields).map Fld.key := by decide
    intro f hf
    rw [hev.kept f (hkeys f hf), raise_eq hup, updFlt_getF]
  refine ⟨t, (reread_first hl hb).symm ▸ hdone, ?_, ?_, ?_, hev.noted (le_refl 1),
    hev.frameLog_low Nat.one_lt_two (hall.undisturbed.raise (fuseEv 0))⟩
  · rw [hget _ (by simp), bitOf_setBitOf _ _ _ _ (by decide) (hnoted.canonical hs.1).1]
    simp
  · rw [hget _ (by simp), hflag.getF (by decide), rereadNoted_hours hs.1.1]
  · rw [hev.only.otp, raise_eq hup, updFlt_otp, hflag.only.otp]
    rfl

theorem not_illFormed (i : Fin 128) : ([i.val].any fun x => decide (1024 ≤ x)) = false := by
  have hi := i.isLt
  simp
  omega

theorem exec_otpReread_bad {i : Fin 128} {s : State} (hr : s.ageRuns = true) :
    exec (.otpReread [i.val]) s = (s.reread [i.val]).done := by
  show execOtpReread [i.val] s = _
  unfold execOtpReread
  rw [not_illFormed, if_neg Bool.false_ne_true, if_pos hr]

theorem exec_otpRereadRetry_bad {i : Fin 128} {s : State} (hr : s.ageRuns = true) (hretry : s.otp.retry = true)
    (hl : s.sys.vkeepLow = false) : exec (.otpRereadRetry [i.val]) s = (s.reread [i.val]).done := by
  show execOtpRereadRetry [i.val] s = _
  unfold execOtpRereadRetry
  rw [not_illFormed, if_neg Bool.false_ne_true, if_pos (by simp [hr, hretry, hl])]

/-! Memory errors (R34, R281). -/

/-- The event of a memory error: MRAM is source 0, SRAM bank b is source 1 + b. -/
def memEv (src lvl : Nat) : Ev := { cls := cMEM, src := src, lvl := lvl }

/-- A row that only raises the event of a memory error. -/
theorem memError_done {src lvl : Nat} {s : State} (hs : s.ready) (hr : s.romUp = true) (hl : lvl < 2) (hsrc : src < 128) :
    ∃ t, (s.raise (memEv src lvl)).done = .next t ∧ (1 ≤ lvl → Noted cMEM src lvl t)
      ∧ EventDone [] (memEv src lvl) (s.raise (memEv src lvl)) t
      ∧ FrameLog noteFields 1 (evCode cMEM src lvl) s t := by
  have hwaits := waits_raise (e := memEv src lvl) hs hr (effective_of_low s hl) ⟨by show lvl ≤ 5; omega, by show cMEM < 16; decide, hsrc⟩
  obtain ⟨t, hdone, hev⟩ := hwaits.done_low hl
  exact ⟨t, hdone, hev.noted, hev, hev.frameLog_low hl ((Undisturbed.refl [] s).raise _)⟩

theorem secdedError_corrected {a : Nat} {s : State} (hs : s.ready) (hr : s.romUp = true) (hv : s.sys.vkeep = true) (ha : a < 0x200000) :
    Completes (.secdedError (.mram a) true) s fun t => FrameLog noteFields 1 (evCode cMEM 0 0) s t := by
  obtain ⟨t, hdone, -, -, hframe⟩ := memError_done (src := 0) (lvl := 0) hs hr (by decide) (by decide)
  refine ⟨t, ?_, hframe⟩
  rw [← hdone]
  show execSecdedError (.mram a) true s = _
  have ha' : ¬0x200000 ≤ a := by omega
  simp [execSecdedError, hv, ha', memEv]

theorem secdedError_sram {b : Fin 8} {s : State} (row : Nat) (hs : s.ready) (hr : s.romUp = true) (hv : s.sys.vkeep = true) :
    Completes (.secdedError (.sram b row) false) s fun t =>
      Noted cMEM (1 + b.val) 1 t ∧ FrameLog noteFields 1 (evCode cMEM (1 + b.val) 1) s t := by
  have hb := b.isLt
  obtain ⟨t, hdone, hnoted, -, hframe⟩ := memError_done (src := 1 + b.val) (lvl := 1) hs hr (by decide) (by omega)
  refine ⟨t, ?_, hnoted (le_refl 1), hframe⟩
  rw [← hdone]
  show execSecdedError (.sram b row) false s = _
  simp [execSecdedError, hv, memEv]

/-- The word of MRAM is known to be bad (R34). -/
def State.wordFailed (s : State) (a : Nat) : State :=
  s.updNv fun v => { v with bad := if v.bad.contains (a / 4 * 4) then v.bad else (a / 4 * 4) :: v.bad }

/-- Below the areas whose layout is open no record is lost with a word. -/
theorem badMram_below {a : Nat} (s : State) (ha : a < mSTORE) : s.badMram a = (s.wordFailed a).storeStat := by
  have hstore : ¬mSTORE ≤ a / 4 * 4 := by omega
  have hrepair : ¬mREPAIR ≤ a / 4 * 4 := by
    have hlt : mSTORE < mREPAIR := by decide
    omega
  have hnone (u : State) : u.loseRecord (a / 4 * 4) = u := by simp [State.loseRecord, hstore, hrepair]
  unfold State.badMram
  exact congrArg State.storeStat (hnone (s.wordFailed a))

theorem wordFailed_mramBad (s : State) (a : Nat) : (s.wordFailed a).mramBad (a / 4 * 4) 4 = true := by
  have hmem : a / 4 * 4 ∈ (s.wordFailed a).nv.bad := by
    show a / 4 * 4 ∈ if s.nv.bad.contains (a / 4 * 4) then s.nv.bad else (a / 4 * 4) :: s.nv.bad
    split
    next h => simpa using h
    next => exact List.mem_cons_self
  refine List.any_eq_true.mpr ⟨_, hmem, ?_⟩
  simp

theorem secdedError_mram {a : Nat} {s : State} (hs : s.ready) (hr : s.romUp = true) (hv : s.sys.vkeep = true) (ha : a < mSTORE) :
    Completes (.secdedError (.mram a) false) s fun t => t.mramBad (a / 4 * 4) 4 = true ∧ Noted cMEM 0 1 t ∧ t.mram = s.mram
      ∧ t.otp.words = s.otp.words ∧ t.time = s.time ∧ t.pending = s.pending ∧ LoggedOne 1 (evCode cMEM 0 1) s t
      ∧ Kept ([Reg.GAUGE_STORE_a_valid, Reg.GAUGE_STORE_b_valid, Reg.GAUGE_STORE_newest] ++ noteFields) s t := by
  have hfailed : (s.wordFailed a).ready := hs
  have hstat := storeStat_acts (s.wordFailed a)
  have hready := hstat.readies.ready hfailed (by decide)
  have hup : (s.wordFailed a).storeStat.romUp = true := (hstat.readies.romUp (by decide)).trans hr
  obtain ⟨t, hdone, hnoted, hev, hkept, ⟨-, -, hwords, hnv, htime, hpending⟩, hlogged⟩ :=
    memError_done (src := 0) (lvl := 1) hready hup (by decide) (by decide)
  have hexec : exec (.secdedError (.mram a) false) s = (((s.wordFailed a).storeStat).raise (memEv 0 1)).done := by
    rw [← badMram_below s ha]
    show execSecdedError (.mram a) false s = _
    have hlt : mSTORE < 0x200000 := by decide
    have ha' : ¬0x200000 ≤ a := by omega
    simp [execSecdedError, hv, ha', memEv]
  refine ⟨t, hexec.trans hdone, ?_, hnoted (le_refl 1), ?_, ?_, ?_, ?_, ?_, ?_⟩
  · unfold State.mramBad
    rw [hnv, hstat.only.nv]
    exact wordFailed_mramBad s a
  · rw [hev.only.mram, raise_eq hup, updFlt_mram, hstat.only.mram]
    rfl
  · rw [hwords, hstat.only.otp]
    rfl
  · rw [htime, hstat.only.time]
    rfl
  · rw [hpending, hstat.only.pending]
    rfl
  · exact (hlogged.after hstat.win hstat.logNext).after rfl rfl
  · refine Kept.trans (t := s.wordFailed a) (fun _ _ => rfl) ((hstat.kept.mono ?_).trans (hkept.mono ?_))
    · exact fun f hf => List.mem_map_of_mem (List.mem_append_left _ hf)
    · exact fun f hf => List.mem_map_of_mem (List.mem_append_right _ hf)

/-- The range of the phase-current ceilings takes 1.0 A (R412). -/
theorem safetyBad_ceiling {x : Nat} (h0 : 0 < x) (h9 : x < 9) : safetyBad (7 + x) 10 = false := by
  interval_cases x <;> decide

/-- Settles O59: programming (`otpProgram_plain`, `otpProgram_safety`, `otpProgram_locked`), locking (`otpLock_both`), the
re-read (`otpReread_clean`, `reread_done`) and memory errors. -/
theorem fusesAndMemory : Obligations.FusesAndMemory := by
  unfold Obligations.FusesAndMemory
  refine ⟨?_, ?_, ?_, ?_, ?_, ?_, ?_, ?_, ?_, ?_, ?_⟩
  · intro p tag r i v c s hs ht hforce hfits hready hpol hr h2 h3 hi hv16 hlock hfuse hv
    have hwords : otpWords r ≤ 256 := by interval_cases r <;> decide
    have hrb : (BitVec.ofNat 16 v).toNat = v := by simpa using hv16
    have hprog : ProgramFits c r i v s :=
      ⟨hready, programOperands ht.2.2.1 (by omega) (by omega) hv16, hforce, hfits, hr, hi, by simp [h2], by simp [h3]⟩
    have hdone := otpProgram_plain hs ht hprog hpol h2 h3 hlock hfuse hv (.inl ⟨hrb, rfl, rfl⟩)
    rwa [hrb] at hdone
  · intro p tag x c s hs ht hforce hfits hready hpol h0 h9 hlock hfuse
    have hprog : ProgramFits c 3 (7 + x) 10 s :=
      ⟨hready, programOperands ht.2.2.1 (by decide) (by omega) (by decide), hforce, hfits, by decide, by show 7 + x < 64; omega, by simp,
        by simp [safetyBad_ceiling h0 h9]⟩
    exact otpProgram_safety hs ht hprog hpol hlock hfuse (by decide) rfl
  · intro p tag r rb c s hs ht hforce hfits hready hpol hr h2 h3 hlock hfuse hne
    have hpos : 0 < otpWords r := by interval_cases r <;> decide
    have hprog : ProgramFits c r 0 1 s :=
      ⟨hready, programOperands ht.2.2.1 (by omega) (by decide) (by decide), hforce, hfits, hr, hpos, by simp [h2], by simp [h3]⟩
    have hrb : rb.toNat ≠ 1 := fun e => hne (BitVec.eq_of_toNat_eq e)
    obtain ⟨t, hexec, hword, hothers, hrep, hframe, hmram, hnv⟩ :=
      otpProgram_plain hs ht hprog hpol h2 h3 hlock hfuse (by decide) (.inr ⟨hrb, rfl, rfl⟩)
    exact ⟨t, hexec, hword, hrep, hframe, hothers, hmram, hnv⟩
  · intro p tag r rb c s hs ht hforce hfits hready hr h2 h3 hlock
    have hpos : 0 < otpWords r := by interval_cases r <;> decide
    have hprog : ProgramFits c r 0 1 s :=
      ⟨hready, programOperands ht.2.2.1 (by omega) (by decide) (by decide), hforce, hfits, hr, hpos, by simp [h2], by simp [h3]⟩
    exact otpProgram_locked hs ht hprog hlock rb
  · intro p tag r c s hs ht hforce hready hpol hr hw hd
    exact otpLock_both hs ht hforce hready hpol hr hw hd
  · intro s hs hr hl
    exact otpReread_clean hs hr hl
  · intro i s hs hr hl _ _ hb
    obtain ⟨t, hdone, hmism, hhours, -, hrest⟩ := reread_done hs hr hl hb
    exact ⟨t, (exec_otpReread_bad hr).trans hdone, hmism, hhours, hrest⟩
  · intro i s hs hr hl hretry _ _ hb
    obtain ⟨t, hdone, hmism, -, hoff, hrest⟩ := reread_done hs hr hl hb
    exact ⟨t, (exec_otpRereadRetry_bad hr hretry hl).trans hdone, hmism, hoff, hrest⟩
  · intro a s hs hr hv ha _ _
    exact secdedError_corrected hs hr hv ha
  · intro b row s hs hr hv _ _
    exact secdedError_sram row hs hr hv
  · intro a s hs hr hv ha _ _
    exact secdedError_mram hs hr hv ha

end Sys2Proof.Machine
end

section
/-!
PROOFS. SYNCI locks, is lost and locks again.
-/

namespace Sys2Proof.Machine

/-! The lock. -/

/-- The fields that a lock to SYNCI changes (R109, R118). -/
def syncFields : List Fld := Reg.CLK_STAT_sync_locked :: (List.range 8).map Reg.RAIL_LOOP_STAT_stale

theorem railStale_acts (s : State) (k : Nat) : Acts [Reg.RAIL_LOOP_STAT_stale k] s (s.railStale k) := by
  unfold State.railStale
  split
  · exact Acts.refl _ s
  · exact (Acts.refl _ s).setB true List.mem_cons_self

/-- The PWM domains follow these values of SYNCI. -/
def State.clocked (s : State) (now : Option Nat) (last : Nat) : State :=
  { s with clk := { s.clk with synci := now, synciLast := last } }

theorem clocked_readies (m : List Fld) (s : State) (now : Option Nat) (last : Nat) : Readies m s (s.clocked now last) :=
  ⟨(Undisturbed.refl m s).inner rfl ⟨fun _ => rfl, fun _ => rfl, rfl, rfl, rfl, rfl⟩ rfl rfl, id, rfl, rfl, rfl, rfl⟩

/-- The marks of a lock on the rails that are on a multiple. -/
theorem syncMarks_acts (s : State) (khz : Nat) :
    Acts ((List.range 8).map Reg.RAIL_LOOP_STAT_stale) ((s.clocked (some khz) khz).setB Reg.CLK_STAT_sync_locked true)
      (s.syncLock khz) := by
  refine (Acts.refl _ _).each fun k hk u => ?_
  split
  · exact (railStale_acts u k).mono (List.cons_subset.mpr ⟨List.mem_map_of_mem hk, List.nil_subset _⟩)
  · exact Acts.refl _ u

theorem syncLock_acts (s : State) (khz : Nat) : Acts syncFields (s.clocked (some khz) khz) (s.syncLock khz) :=
  ((Acts.refl _ _).setB true List.mem_cons_self).trans ((syncMarks_acts s khz).mono (List.subset_cons_self _ _))

theorem syncLock_readies (s : State) (khz : Nat) : Readies syncFields s (s.syncLock khz) :=
  (clocked_readies _ s _ _).acts (syncLock_acts s khz)

theorem syncLock_clk (s : State) (khz : Nat) : (s.syncLock khz).clk = { s.clk with synci := some khz, synciLast := khz } :=
  (syncLock_acts s khz).only.clk

theorem syncLock_sys (s : State) (khz : Nat) : (s.syncLock khz).sys = s.sys := (syncLock_acts s khz).only.sys

/-- The marks of the rails leave the lock bit. -/
theorem syncLock_locked {s : State} (hw : Cells.wf s.fields = true) (khz : Nat) :
    (s.syncLock khz).bit Reg.CLK_STAT_sync_locked = true := by
  rw [(syncMarks_acts s khz).bit (by decide)]
  exact bit_setB_same _ _ _ Nat.one_pos hw

theorem syncLock_quiet {s : State} (hs : s.ready) (khz : Nat) : (s.syncLock khz).quiet :=
  ((syncLock_readies s khz).ready hs (by decide)).2

theorem exec_synciLock {khz : Nat} {s : State} (hs : s.ready) (hok : s.syncOk khz = true) (hnew : s.present cCLK 8 0 = false) :
    exec (.synciLock khz) s = .next (s.syncLock khz) :=
  (if_pos (by simp [hok, hnew])).trans (done_quiet _ (syncLock_quiet hs khz))

theorem synciLock_locks {khz : Nat} {s : State} (hs : s.ready) (hok : s.syncOk khz = true) (hnew : s.present cCLK 8 0 = false) :
    Completes (.synciLock khz) s fun t =>
      t.bit Reg.CLK_STAT_sync_locked = true ∧ t.clk.synci = some khz ∧ t.clk.synciLast = khz ∧ Frame syncFields s t := by
  have hclk := syncLock_clk s khz
  exact ⟨_, exec_synciLock hs hok hnew, syncLock_locked hs.1.1 khz, by rw [hclk], by rw [hclk],
    (syncLock_readies s khz).undisturbed.frame⟩

theorem present_endCause (s : State) (cls src cause : Nat) : (s.endCause cls src cause).present cls src cause = false := by
  simp [State.present, State.endCause]

theorem synciRelock_locks {khz : Nat} {s : State} (hs : s.ready) (hok : s.syncOk khz = true) (hlost : s.present cCLK 8 0 = true) :
    Completes (.synciRelock khz) s fun t => t.bit Reg.CLK_STAT_sync_locked = true ∧ t.clk.synci = some khz
      ∧ t.present cCLK 8 0 = false ∧ Frame syncFields s t := by
  have hclk := syncLock_clk s khz
  have hend := (syncLock_readies s khz).acts ((Acts.refl _ _).endCause cCLK 8 0)
  refine ⟨_, (if_pos (by simp [hok, hlost])).trans (done_quiet _ (hend.ready hs (by decide)).2), syncLock_locked hs.1.1 khz, ?_,
    present_endCause _ _ _ _, hend.undisturbed.frame⟩
  show (s.syncLock khz).clk.synci = some khz
  rw [hclk]

/-! SYNCO. -/

/-- The fields that SYNCO is made of (R106, R107, R111, R118). -/
def syncoFields : List Fld :=
  [Reg.SYS_STATE_state, Reg.CLK_SYNC_synco_en, Reg.CLK_SYNC_synci_en]
  ++ (List.range 8).flatMap fun k => rangeFields k ++ [Reg.RAIL_STAT_state k, Reg.RAIL_FSW_sync_mult k, Reg.RAIL_FSW_fsw k]

section
variable {s t : State} (hf : ∀ f ∈ syncoFields, t.getF f = s.getF f)
include hf

theorem st_of_syncoFields : t.st = s.st := hf _ (by simp [syncoFields])

theorem rail_getF_of_syncoFields {k : Nat} (hk : k < 8) :
    ∀ f ∈ rangeFields k ++ [Reg.RAIL_STAT_state k, Reg.RAIL_FSW_sync_mult k, Reg.RAIL_FSW_fsw k], t.getF f = s.getF f :=
  fun f hm => hf f (List.mem_append_right _ (List.mem_flatMap.mpr ⟨k, List.mem_range.mpr hk, hm⟩))

theorem bit_of_syncoFields {f : Fld} (hm : f ∈ syncoFields) : t.bit f = s.bit f := by
  unfold State.bit
  rw [hf f hm]

theorem railOf_of_syncoFields (n : Nat) : t.railOf n = s.railOf n := by
  unfold State.railOf
  refine List.find?_congr fun k hk => ?_
  rw [phasesOf_congr fun f hm => rail_getF_of_syncoFields hf (List.mem_range.mp hk) f (List.mem_append_left _ hm)]

theorem railStopped_of_syncoFields {k : Nat} (hk : k < 8) : t.railStopped k = s.railStopped k := by
  have hstate := rail_getF_of_syncoFields hf hk (Reg.RAIL_STAT_state k) (by simp)
  unfold State.railStopped State.railState
  rw [hstate]

theorem railKhz_of_syncoFields {k : Nat} (hk : k < 8) (hlast : t.clk.synciLast = s.clk.synciLast) : t.railKhz k = s.railKhz k := by
  have hmult := rail_getF_of_syncoFields hf hk (Reg.RAIL_FSW_sync_mult k) (by simp)
  have hfsw := rail_getF_of_syncoFields hf hk (Reg.RAIL_FSW_fsw k) (by simp)
  have hen := hf Reg.CLK_SYNC_synci_en (by simp [syncoFields])
  unfold State.railKhz State.bit
  rw [hmult, hfsw, hen, hlast]

theorem synco_of_syncoFields (hsys : t.sys = s.sys) (hlast : t.clk.synciLast = s.clk.synciLast) : t.synco = s.synco := by
  have hst := st_of_syncoFields hf
  have hen : t.bit Reg.CLK_SYNC_synco_en = s.bit Reg.CLK_SYNC_synco_en := bit_of_syncoFields hf (by simp [syncoFields])
  unfold State.synco State.live
  rw [hsys, hst, hen, railOf_of_syncoFields hf]
  cases hrail : s.railOf 0 with
  | none => rfl
  | some k =>
    have hk : k < 8 := List.mem_range.mp (List.mem_of_find?_eq_some hrail)
    simp only [railStopped_of_syncoFields hf hk, railKhz_of_syncoFields hf hk hlast]

end

theorem syncLock_syncoFields (s : State) (khz : Nat) : ∀ f ∈ syncoFields, (s.syncLock khz).getF f = s.getF f := by
  have hkeys : ∀ f ∈ syncoFields, f.key ∉ syncFields.map Fld.key := by decide
  exact fun f hf => (syncLock_readies s khz).getF (hkeys f hf)

/-- The device drives SYNCO: it is live, past BOOT, with VIO up (R56, R61, R111). -/
structure State.DrivesSynco (s : State) : Prop where
  live : s.live = true
  state : s.stIn [stFAWN, stBOOT] = false
  vio : s.sys.vio = true

theorem State.DrivesSynco.low {s : State} (h : s.DrivesSynco) (hen : s.bit Reg.CLK_SYNC_synco_en = false) : s.synco = .low := by
  have hnot : s.st ≠ stFAWN ∧ s.st ≠ stBOOT := by simpa [State.stIn] using h.state
  simp [State.synco, h.live, h.vio, hnot.1, hen]

theorem State.DrivesSynco.clock {s : State} {k : Nat} (h : s.DrivesSynco) (hen : s.bit Reg.CLK_SYNC_synco_en = true)
    (hrail : s.railOf 0 = some k) (hrun : s.railStopped k = false) : s.synco = .clock (s.railKhz k) := by
  have hnot : s.st ≠ stFAWN ∧ s.st ≠ stBOOT := by simpa [State.stIn] using h.state
  simp [State.synco, h.live, h.vio, hnot.1, hnot.2, hen, hrail, hrun]

/-- What syncOk asks of VIO, the enable and the frequency (R61, R109). -/
theorem syncOk_asks {s : State} {khz : Nat} (h : s.syncOk khz = true) :
    s.sys.vio = true ∧ s.bit Reg.CLK_SYNC_synci_en = true ∧ 500 ≤ khz := by
  simp only [State.syncOk, Bool.and_eq_true, decide_eq_true_eq] at h
  obtain ⟨⟨⟨⟨⟨-, hv⟩, hen⟩, -⟩, hlo⟩, -⟩ := h
  exact ⟨hv, hen, hlo⟩

theorem syncLock_drivesSynco {khz : Nat} {s : State} (hl : s.live = true) (hst : s.stIn [stFAWN, stBOOT] = false)
    (hok : s.syncOk khz = true) : (s.syncLock khz).DrivesSynco := by
  have hsys := syncLock_sys s khz
  refine ⟨by simpa only [State.live, hsys] using hl, ?_, by rw [hsys]; exact (syncOk_asks hok).1⟩
  unfold State.stIn
  rwa [st_of_syncoFields (syncLock_syncoFields s khz)]

/-- A rail on a multiple follows the locked frequency (R109). -/
theorem syncLock_railKhz {khz k : Nat} {s : State} (hk : k < 8) (hok : s.syncOk khz = true)
    (hm : s.getF (Reg.RAIL_FSW_sync_mult k) ≠ 0) : (s.syncLock khz).railKhz k = s.getF (Reg.RAIL_FSW_sync_mult k) * khz := by
  obtain ⟨-, hen, hlo⟩ := syncOk_asks hok
  have hf := syncLock_syncoFields s khz
  have hmult := rail_getF_of_syncoFields hf hk (Reg.RAIL_FSW_sync_mult k) (by simp)
  have hen' : (s.syncLock khz).bit Reg.CLK_SYNC_synci_en = true := (bit_of_syncoFields hf (by simp [syncoFields])).trans hen
  have hpos : khz ≠ 0 := by omega
  unfold State.railKhz
  simp [hmult, hen', syncLock_clk, hm, hpos]

/-! The loss. -/

/-- The event of a lost SYNCI (R110). -/
def synciEv : Ev := { cls := cCLK, src := 8, lvl := 1 }

/-- SYNCI is lost, its event still to be raised: the domains hold the last frequency. -/
def State.synciLost (s : State) : State := (s.clocked none s.clk.synciLast).setB Reg.CLK_STAT_sync_locked false

theorem synciLost_readies (s : State) : Readies [Reg.CLK_STAT_sync_locked] s s.synciLost :=
  (clocked_readies _ s _ _).acts ((Acts.refl _ _).setB false List.mem_cons_self)

theorem synciLoss_holds {s : State} (hs : s.ready) (hr : s.romUp = true) (hl : s.bit Reg.CLK_STAT_sync_locked = true)
    (hnew : s.present cCLK 8 0 = false) :
    Completes .synciLoss s fun t => t.bit Reg.CLK_STAT_sync_locked = false ∧ t.clk.synci = none
      ∧ t.clk.synciLast = s.clk.synciLast ∧ t.synco = s.synco
      ∧ Noted cCLK 8 1 t ∧ FrameLog (Reg.CLK_STAT_sync_locked :: noteFields) 1 (evCode cCLK 8 1) s t := by
  have hlost := synciLost_readies s
  have hup : s.synciLost.romUp = true := (hlost.romUp (by decide)).trans hr
  have hwaits := waits_raiseLasting (e := synciEv) (hlost.ready hs (by decide)) hnew hup (effective_of_low _ Nat.one_lt_two) (by decide)
  obtain ⟨t, hdone, hev⟩ := hwaits.done_low Nat.one_lt_two
  have hframe := hev.frameLog_low Nat.one_lt_two (hlost.undisturbed.raiseLasting synciEv)
  rw [raiseLasting_eq (e := synciEv) (v := s.synciLost) hnew hup] at hev
  have hclk : t.clk = { s.clk with synci := none } := hev.only.clk
  have hsynco : ∀ f ∈ syncoFields, t.getF f = s.getF f := by
    have hkeys : ∀ f ∈ syncoFields, f.key ∉ (Reg.CLK_STAT_sync_locked :: noteFields).map Fld.key := by decide
    exact fun f hf => hframe.1 f (hkeys f hf)
  refine ⟨t, (if_pos hl).trans hdone, ?_, by rw [hclk], by rw [hclk], synco_of_syncoFields hsynco hev.only.sys (by rw [hclk]),
    hev.noted (le_refl 1), hframe⟩
  unfold State.bit
  rw [hev.kept _ (by decide)]
  exact bit_setB_same (s.clocked none s.clk.synciLast) _ _ Nat.one_pos hs.1.1

/-- Settles O17: a lock is `synciLock_locks` and `synciRelock_locks`, a loss `synciLoss_holds`; a lock leaves all that SYNCO is made
of but the frequency (`syncLock_syncoFields`, `syncLock_railKhz`). -/
theorem synchronisation : Obligations.Synchronisation := by
  unfold Obligations.Synchronisation
  refine ⟨?_, ?_, ?_, ?_, ?_⟩
  · intro khz s hs hok hnew
    exact synciLock_locks hs hok hnew
  · intro s hs hr hl hnew
    exact synciLoss_holds hs hr hl hnew
  · intro khz s hs hok hlost
    exact synciRelock_locks hs hok hlost
  · intro k khz s hs hl hst hok hnew hen hrail hrun hmult
    have hf := syncLock_syncoFields s khz
    have hclock := (syncLock_drivesSynco hl hst hok).clock ((bit_of_syncoFields hf (by simp [syncoFields])).trans hen)
      ((railOf_of_syncoFields hf 0).trans hrail) ((railStopped_of_syncoFields hf k.isLt).trans hrun)
    rw [syncLock_railKhz k.isLt hok hmult] at hclock
    exact ⟨_, exec_synciLock hs hok hnew, hclock⟩
  · intro khz s hs hl hst hok hnew hen
    have hlow := (bit_of_syncoFields (syncLock_syncoFields s khz) (by simp [syncoFields])).trans hen
    exact ⟨_, exec_synciLock hs hok hnew, (syncLock_drivesSynco hl hst hok).low hlow⟩

end Sys2Proof.Machine
end

section
/-!
PROOFS. FAULT_N, written by the side-band.
-/

namespace Sys2Proof.Machine

/-- A running device whose host is lost, so that the side-band holds every lease (R337). -/
def sideLeases : State :=
  { State.reset with
    sys := { State.reset.sys with stage := .done }
    fields := [(Reg.SYS_STATE_state.key, stRUN), (Reg.SYS_STATE_host_lost.key, 1)] }

/-- The lease opens the register's address to the side-band. -/
theorem sideLeases_opens : sideLeases.opens .side 0x3004 := by decide

theorem rowWrite_of_accUp {s : State} {a : Accessor} (h : s.accUp a = true) (addr mask data : Nat) :
    s.rowWrite a addr mask data = (s.busWrite a addr mask data).1.done := if_pos h

/-- FLT_PIN.drive itself is written in direct mode only, so the write is refused with not_writable. -/
theorem fltPinDriveWrite_sideLeases :
    exec (.fltPinDriveWrite .side 1 1) sideLeases = .next (sideLeases.refuse .side Reg.REG_ERR_not_writable 0x3004) := by
  have hrefused : sideLeases.busWrite .side 0x3004 1 1 = (sideLeases.refuse .side Reg.REG_ERR_not_writable 0x3004, true) := by
    decide +kernel
  show sideLeases.rowWrite .side 0x3004 1 1 = _
  rw [rowWrite_of_accUp (by decide), hrefused]
  exact done_quiet _ (by decide)

/-- Refutes O31: its first part lets any accessor set FLT_PIN.drive that may reach the register, and a side-band with the lease
may; but the field is one of direct mode (R342), which the side-band's write is refused for. FLT.RELEASE is its way. -/
theorem not_faultPin : ¬ Obligations.FaultPin := by
  unfold Obligations.FaultPin
  rintro ⟨hwrite, -⟩
  obtain ⟨t, ht, hdrive, -⟩ := hwrite .side sideLeases (by decide) (by decide) sideLeases_opens
  rw [fltPinDriveWrite_sideLeases] at ht
  obtain rfl := Host.Outcome.next.inj ht
  exact absurd hdrive (by decide)

end Sys2Proof.Machine
end

section
/-!
PROOFS. VIO falls while an offset stands whose LDA pin reads deasserted.
-/

namespace Sys2Proof.Machine

/-- LDA pin 0 reads deasserted, and the offset that rail 0 took from it still stands. -/
def offsetStands : State :=
  { State.reset with
    sys := { State.reset.sys with vio := true }
    fields := [((Reg.RAIL_DYN_ann_offset 0).key, 1)]
    rails := [{ annPin := some 0 }] }

/-- With VIO every pin counts as deasserted, and the offset returns (R141). -/
theorem vioLoss_offsetStands :
    (match exec .vioLoss offsetStands with
      | .next t => t.bit (Reg.RAIL_DYN_ann_offset 0)
      | _ => true) = false := by
  decide +kernel

theorem each_eq_self {s : State} {g : Nat → State → State} (l : List Nat) (h : ∀ i ∈ l, g i s = s) : s.each l g = s := by
  induction l with
  | nil => rfl
  | cons i l ih =>
    have hfirst : s.each (i :: l) g = (g i s).each l g := rfl
    rw [hfirst, h i List.mem_cons_self]
    exact ih fun j hj => h j (List.mem_cons_of_mem _ hj)

theorem dropOffset_of_none {s : State} {k : Nat} (h : s.bit (Reg.RAIL_DYN_ann_offset k) = false) : s.dropOffset k = s :=
  if_neg (by simp [h])

/-- A deasserted pin that deasserts again finds nothing to return. -/
theorem ldaDown_of_none {s : State} {i : Nat} (hl : bitOf s.sys.lda i = false)
    (h : ∀ k < 8, s.bit (Reg.RAIL_DYN_ann_offset k) = false) : s.ldaDown i = s := by
  have hlda : s.setLda i false = s := by simp [State.setLda, State.updSys, hl]
  unfold State.ldaDown
  rw [hlda]
  refine each_eq_self _ fun k hk => ?_
  rw [dropOffset_of_none (h k (List.mem_range.mp hk)), ite_self]

/-- The first part of O23 with the premise it lacks. -/
theorem vioLoss_frame {s : State} (hs : s.ready) (hv : s.sys.vio = true) (hl : s.sys.lda = 0)
    (hoff : ∀ k < 8, s.bit (Reg.RAIL_DYN_ann_offset k) = false) :
    Completes .vioLoss s fun t => t.sys.vio = false ∧ t.spiOut = [] ∧ Frame [] s t := by
  have hpins : ((s.shiftOut []).updSys fun y => { y with vio := false }).each (List.range 4) (fun i t => t.ldaDown i)
      = (s.shiftOut []).updSys fun y => { y with vio := false } :=
    each_eq_self _ fun i _ => ldaDown_of_none (by simp [State.shiftOut, hl, bitOf]) hoff
  have hexec : exec .vioLoss s = (((s.shiftOut []).updSys fun y => { y with vio := false }).each (List.range 4)
      fun i t => t.ldaDown i).done := if_pos hv
  rw [hpins] at hexec
  exact ⟨_, hexec.trans (done_quiet _ hs.2), rfl, rfl, (Undisturbed.refl [] s).frame⟩

/-- Refutes O23: its first part asks that no LDA pin reads asserted, but not that no rail holds an offset that such a pin announced;
where one does, the loss of VIO takes it out of V_tgt. Where none does, no register changes (`vioLoss_frame`). -/
theorem not_hostLines : ¬ Obligations.HostLines := by
  unfold Obligations.HostLines
  rintro ⟨hloss, -⟩
  obtain ⟨t, ht, -, -, hkept, -⟩ := hloss offsetStands (by decide) rfl rfl
  have h := vioLoss_offsetStands
  rw [ht] at h
  have hsame : t.bit (Reg.RAIL_DYN_ann_offset 0) = offsetStands.bit (Reg.RAIL_DYN_ann_offset 0) := by
    unfold State.bit
    rw [hkept _ (by simp)]
  exact absurd (hsame.symm.trans h) (by decide)

end Sys2Proof.Machine
end

section
/-!
PROOFS. The end of a setpoint move.
-/

namespace Sys2Proof.Machine

/-- A setpoint move of rail 0 towards 4096, which the 12 bits of RAIL0_VSET.vset cannot hold (R64). -/
def overlongSetpoint : State :=
  { State.reset with
    fields := [((Reg.RAIL_VSET_vset 0).key, 4096)]
    rails := [{ move := true }] }

theorem railSetpointMoveEnd_overlongSetpoint :
    (match exec (.railSetpointMoveEnd 0) overlongSetpoint with
      | .next t => t.getF (Reg.RAIL_TGT_v_tgt 0)
      | _ => 4096) = 0 := by
  decide +kernel

/-- A flag of a rail that a change clears reads 0, whether the rail stands in the list or not. -/
theorem rail_move_updRail (s : State) (k : Nat) : ((s.updRail k fun r => { r with move := false }).rail k).move = false := by
  unfold State.rail
  rw [updRail_rails, List.getD_eq_getElem?_getD, List.getElem?_modify_eq]
  cases s.rails[k]? <;> rfl

/-- The first part of O39 with the premise it lacks. -/
theorem railSetpointMoveEnd_at_setpoint {k : Fin 8} {s : State} (hs : s.ready) (hm : (s.rail k).move = true)
    (ho : (s.rail k).offset = 0) (hfit : s.getF (Reg.RAIL_VSET_vset k) < 2 ^ (Reg.RAIL_VSET_vset k).w) :
    Completes (.railSetpointMoveEnd k) s fun t => t.getF (Reg.RAIL_TGT_v_tgt k) = s.getF (Reg.RAIL_VSET_vset k)
      ∧ (t.rail k).move = false ∧ Frame [Reg.RAIL_TGT_v_tgt k] s t := by
  have hset : Acts [Reg.RAIL_TGT_v_tgt k] s ((s.setF (Reg.RAIL_TGT_v_tgt k) (s.getF (Reg.RAIL_VSET_vset k))).updRail k fun r =>
      { r with move := false }) := ((Acts.refl _ s).setF _ List.mem_cons_self).updRail k _
  have hexec : exec (.railSetpointMoveEnd k) s = ((s.setF (Reg.RAIL_TGT_v_tgt k) (s.getF (Reg.RAIL_VSET_vset k))).updRail k fun r =>
      { r with move := false }).done := by
    show execRailSetpointMoveEnd k s = _
    simp only [execRailSetpointMoveEnd, hm, ho, ↓reduceIte, Nat.add_zero]
  have hkey : Reg.SYS_RUN_STAT_act_deferred.key ∉ [Reg.RAIL_TGT_v_tgt k].map Fld.key := by
    simp [Fld.key]
    omega
  exact ⟨_, hexec.trans (done_quiet _ (hset.readies.ready hs hkey).2), (getF_setF_same _ _ _ hs.1.1).trans (Nat.mod_eq_of_lt hfit),
    rail_move_updRail _ k, hset.undisturbed.frame⟩

/-- Refutes O39: its first part speaks of every canonical register file, also of one that holds a number beyond its field's width;
V_tgt is cut to its 12 bits. For a setpoint that its field can hold the part is true (`railSetpointMoveEnd_at_setpoint`). -/
theorem not_railDynamics : ¬ Obligations.RailDynamics := by
  unfold Obligations.RailDynamics
  rintro ⟨hmove, -⟩
  obtain ⟨t, ht, htgt, -⟩ := hmove 0 overlongSetpoint (by decide) rfl rfl
  have h := railSetpointMoveEnd_overlongSetpoint
  rw [ht] at h
  exact absurd (htgt.symm.trans h) (by decide)

end Sys2Proof.Machine
end

section
/-!
PROOFS. What a row does across whole blocks of registers: how such changes compose, and what stopping every output changes (R57,
R409).
-/

namespace Sys2Proof.Machine

/-! Changes within blocks of registers. -/

/-- The field stands in one of these 4 KB blocks, or is listed. -/
abbrev Fld.within (bs : List Nat) (l : List Fld) (f : Fld) : Prop := f.key / 65536 ∈ bs ∨ f.key ∈ l.map Fld.key

/-- Only fields of these blocks or of the list change, entries are logged, and neither memories, fuses, the supply nor the boot
state change. -/
structure Roams (bs : List Nat) (l : List Fld) (s t : State) : Prop where
  kept : KeptBut bs l s t
  wf : Cells.wf s.fields = true → Cells.wf t.fields = true
  stores : StoresKept s t
  sys : t.sys = s.sys
  otp : t.otp = s.otp
  grows : LogGrows s t

section
variable {bs cs : List Nat} {l m : List Fld} {s t u : State}

theorem LogGrows.refl (s : State) : LogGrows s s := ⟨le_refl _, fun _ _ => rfl⟩

theorem LogGrows.trans (h : LogGrows s t) (k : LogGrows t u) : LogGrows s u := by
  obtain ⟨hn, hw⟩ := h
  obtain ⟨kn, kw⟩ := k
  refine ⟨hn.trans kn, fun a ha => (kw a fun q hq hu => ?_).trans (hw a fun q hq ht => ?_)⟩
  · exact ha q (hn.trans hq) hu
  · exact ha q hq (Nat.lt_of_lt_of_le ht kn)

theorem LogGrows.log (s : State) (kind code : Nat) (d : List Byte) : LogGrows s (s.log kind code d) := by
  refine ⟨Nat.le_succ _, fun a ha => ?_⟩
  rw [State.log, logAt_win]
  exact memGet_memWrite_out _ _ _ _ (by rw [entryBytes_length]; exact ha _ (le_refl _) (Nat.lt_succ_self _))

theorem StoresKept.refl (s : State) : StoresKept s s := ⟨fun _ => rfl, fun _ => rfl, rfl, rfl, rfl, rfl⟩

theorem KeptBut.trans (h : KeptBut bs l s t) (k : KeptBut bs l t u) : KeptBut bs l s u :=
  fun f hb hl => (k f hb hl).trans (h f hb hl)

theorem KeptBut.mono (h : KeptBut bs l s t) (hb : bs ⊆ cs) (hl : ∀ f ∈ l, f.within cs m) : KeptBut cs m s t := by
  intro f hfb hfl
  refine h f (fun hm => hfb (hb hm)) fun hm => ?_
  obtain ⟨g, hg, he⟩ := List.mem_map.mp hm
  rcases hl g hg with hblock | hlist
  · exact hfb (he ▸ hblock)
  · exact hfl (he ▸ hlist)

/-- A change of listed fields, all of which stand in the blocks or in the list. -/
theorem Kept.keptBut (h : Kept m s t) (hm : ∀ f ∈ m, f.within bs l) : KeptBut bs l s t := by
  intro f hb hl
  refine h f fun hf => ?_
  obtain ⟨g, hg, he⟩ := List.mem_map.mp hf
  rcases hm g hg with hblock | hlist
  · exact hb (he ▸ hblock)
  · exact hl (he ▸ hlist)

theorem Roams.refl (bs : List Nat) (l : List Fld) (s : State) : Roams bs l s s :=
  ⟨fun _ _ _ => rfl, id, .refl s, rfl, rfl, .refl s⟩

theorem Roams.trans (h : Roams bs l s t) (k : Roams bs l t u) : Roams bs l s u :=
  ⟨h.kept.trans k.kept, k.wf ∘ h.wf, h.stores.trans k.stores, k.sys.trans h.sys, k.otp.trans h.otp, h.grows.trans k.grows⟩

theorem Roams.mono (h : Roams bs l s t) (hb : bs ⊆ cs) (hl : ∀ f ∈ l, f.within cs m) : Roams cs m s t :=
  { h with kept := h.kept.mono hb hl }

theorem Acts.roams (h : Acts m s t) (hm : ∀ f ∈ m, f.within bs l) : Roams bs l s t :=
  ⟨h.kept.keptBut hm, h.wf, h.only.storesKept, h.only.sys, h.only.otp, le_of_eq h.logNext.symm, fun a _ => by rw [h.win]⟩

theorem Roams.acts (h : Roams bs l s t) (k : Acts m t u) (hm : ∀ f ∈ m, f.within bs l) : Roams bs l s u := h.trans (k.roams hm)

/-- A change of state that no register, memory, fuse or log shows, nor the supply. -/
theorem Roams.inner (h : Roams bs l s t) (hf : u.fields = t.fields) (hst : StoresKept t u) (hsys : u.sys = t.sys)
    (hotp : u.otp = t.otp) (hw : u.win = t.win) (hn : u.logNext = t.logNext) : Roams bs l s u :=
  h.trans ⟨fun f _ _ => by unfold State.getF; rw [hf], fun w => hf ▸ w, hst, hsys, hotp, le_of_eq hn.symm, fun a _ => by rw [hw]⟩

theorem Roams.setF (h : Roams bs l s t) {f : Fld} (v : Nat) (hf : f.within bs l) : Roams bs l s (t.setF f v) :=
  h.acts ((Acts.refl [f] t).setF v List.mem_cons_self) (by simpa using hf)

theorem Roams.setB (h : Roams bs l s t) {f : Fld} (b : Bool) (hf : f.within bs l) : Roams bs l s (t.setB f b) := h.setF b.toNat hf

theorem Roams.setMany (h : Roams bs l s t) {x : List (Fld × Nat)} (fs : List Fld) (hx : x.map Prod.fst = fs)
    (hf : ∀ f ∈ fs, f.within bs l) : Roams bs l s (t.setMany x) := by
  subst hx
  exact h.acts ((Acts.refl _ t).setMany fun _ => List.mem_map_of_mem) hf

theorem Roams.each (h : Roams bs l s t) {xs : List Nat} {g : Nat → State → State} (hg : ∀ x ∈ xs, ∀ u, Roams bs l u (g x u)) :
    Roams bs l s (t.each xs g) := by
  induction xs generalizing t with
  | nil => exact h
  | cons x xs ih => exact ih (h.trans (hg x List.mem_cons_self t)) fun y hy => hg y (List.mem_cons_of_mem _ hy)

theorem Roams.ite {c : Prop} [Decidable c] (ht : Roams bs l s t) (hu : Roams bs l s u) : Roams bs l s (if c then t else u) := by
  split <;> assumption

theorem Roams.log (h : Roams bs l s t) (kind code : Nat) (d : List Byte) : Roams bs l s (t.log kind code d) :=
  h.trans ⟨fun _ _ _ => rfl, id, .refl t, rfl, rfl, .log t kind code d⟩

theorem Roams.draw (h : Roams bs l s t) : Roams bs l s t.draw := h.inner rfl (.refl t) rfl rfl rfl rfl
theorem Roams.updFe (h : Roams bs l s t) (g : FeSt → FeSt) : Roams bs l s (t.updFe g) := h.inner rfl (.refl t) rfl rfl rfl rfl
theorem Roams.updPath (h : Roams bs l s t) (g : PathSt → PathSt) : Roams bs l s (t.updPath g) := h.inner rfl (.refl t) rfl rfl rfl rfl
theorem Roams.updChg (h : Roams bs l s t) (g : ChgSt → ChgSt) : Roams bs l s (t.updChg g) := h.inner rfl (.refl t) rfl rfl rfl rfl
theorem Roams.updLdo (h : Roams bs l s t) (n : Nat) (g : LdoSt → LdoSt) : Roams bs l s (t.updLdo n g) :=
  h.inner rfl (.refl t) rfl rfl rfl rfl
theorem Roams.updRail (h : Roams bs l s t) (k : Nat) (g : RailSt → RailSt) : Roams bs l s (t.updRail k g) :=
  h.inner rfl (.refl t) rfl rfl rfl rfl

theorem Roams.endCause (h : Roams bs l s t) (cls src cause : Nat) : Roams bs l s (t.endCause cls src cause) :=
  h.inner rfl (.refl t) rfl rfl rfl rfl

theorem Roams.getF (h : Roams bs l s t) {f : Fld} (hf : ¬f.within bs l) : t.getF f = s.getF f :=
  h.kept f (fun hb => hf (.inl hb)) fun hl => hf (.inr hl)

theorem Roams.bit (h : Roams bs l s t) {f : Fld} (hf : ¬f.within bs l) : t.bit f = s.bit f := by
  unfold State.bit
  rw [h.getF hf]

end

/-! The charger and the front end. -/

/-- The fields outside the front end's and the charger's blocks that a change of phase changes. -/
def phaseMarks : List Fld := [Reg.PATH_STAT_bf_mode, Reg.HOST_INT_STAT_chg]

section
variable {s t : State}

theorem Roams.batfet (h : Roams [0x14, 0x16] phaseMarks s t) : Roams [0x14, 0x16] phaseMarks s t.batfet :=
  h.setF _ (by decide)

theorem Roams.retarget (h : Roams [0x14, 0x16] phaseMarks s t) : Roams [0x14, 0x16] phaseMarks s t.retarget :=
  (h.setF _ (by decide)).setF _ (by decide)

theorem Roams.fePick (h : Roams [0x14, 0x16] phaseMarks s t) : Roams [0x14, 0x16] phaseMarks s t.fePick :=
  (h.setF _ (by decide)).draw

theorem setChgPhase_roams (s : State) (p : Nat) : Roams [0x14, 0x16] phaseMarks s (s.setChgPhase p) := by
  unfold State.setChgPhase
  split
  · exact .refl _ _ s
  · extract_lets phased done balanced targeted
    have hphased : Roams [0x14, 0x16] phaseMarks s phased :=
      (Roams.refl _ _ s).setMany [Reg.CHG_STAT_phase, Reg.CHG_STAT_phase_evt, Reg.HOST_INT_STAT_chg] rfl (by decide)
    have hdone : Roams [0x14, 0x16] phaseMarks s done := .ite (hphased.setB _ (by decide)) hphased
    have hbalanced : Roams [0x14, 0x16] phaseMarks s balanced := .ite hdone ((hdone.setB _ (by decide)).updChg _)
    have htargeted : Roams [0x14, 0x16] phaseMarks s targeted := hbalanced.batfet.retarget
    exact .ite htargeted.fePick htargeted

theorem Roams.chgEval (h : Roams [0x14, 0x16] phaseMarks s t) : Roams [0x14, 0x16] phaseMarks s t.chgEval := by
  unfold State.chgEval
  exact .ite (h.trans (setChgPhase_roams t _)) (.ite (h.trans (setChgPhase_roams t _)) h)

theorem Roams.fePhases (h : Roams [0x14, 0x16] phaseMarks s t) : Roams [0x14, 0x16] phaseMarks s t.fePhases := by
  unfold State.fePhases
  extract_lets out keep out'
  have hout : Roams [0x14, 0x16] phaseMarks s out' := h.setF _ (by decide)
  exact .ite h (.ite hout (hout.setMany [Reg.FE_LOOP_STAT_stale 0, Reg.FE_LOOP_STAT_stale 1] rfl (by decide)))

theorem Roams.feSlope (h : Roams [0x14, 0x16] phaseMarks s t) : Roams [0x14, 0x16] phaseMarks s t.feSlope := by
  unfold State.feSlope
  exact h.updFe _

theorem setFe_roams (s : State) (v : Nat) : Roams [0x14, 0x16] phaseMarks s (s.setFe v) := by
  unfold State.setFe
  extract_lets entered pathed switched targeted
  have hentered : Roams [0x14, 0x16] phaseMarks s entered := ((Roams.refl _ _ s).setF _ (by decide)).updFe _
  have hpathed : Roams [0x14, 0x16] phaseMarks s pathed := .ite hentered (hentered.updPath _)
  have hswitched : Roams [0x14, 0x16] phaseMarks s switched := by
    unfold switched
    split
    · refine Roams.endCause (Roams.endCause ?_ _ _ _) _ _ _
      exact hpathed.setMany [Reg.FE_STAT_n_active, Reg.FE_STAT_loop, Reg.FE_STAT_de, Reg.FE_STAT_ilim_active] rfl (by decide)
    · exact (hpathed.setMany [Reg.FE_STAT_n_active, Reg.FE_STAT_de] rfl (by decide)).fePick
  have htargeted : Roams [0x14, 0x16] phaseMarks s targeted := hswitched.retarget.fePhases
  refine Roams.chgEval ?_
  exact .ite htargeted htargeted.feSlope

end

/-! The device state. -/

theorem setState_roams (s : State) (n : Nat) : Roams [] stateFields s (s.setState n) := by
  unfold State.setState
  split
  · exact .refl _ _ s
  · extract_lets old entered
    have hentered : Acts stateFields s entered := ((Acts.refl _ s).setF _ (by simp [stateFields])).setF _ (by simp [stateFields])
    have hnoted := (hentered.setB (f := Reg.HOST_INT_STAT_state) true (by simp [stateFields])).request rqSTATE (by simp [stateFields])
    exact (hnoted.roams fun f hf => .inr (List.mem_map_of_mem hf)).log _ _ _

/-- What the end of a hold-up changes (R90, R193). -/
def ibexFields : List Fld := Reg.SYS_RUN_STAT_ibex :: stateFields

theorem endIbex_roams (s : State) : Roams [] ibexFields s s.endIbex := by
  have hstate (u : State) : Roams [] ibexFields u u.refresh := by
    unfold State.refresh
    exact .ite ((setState_roams u _).mono (List.nil_subset _) (by decide)) (.refl _ _ u)
  unfold State.endIbex
  exact .ite ((((Roams.refl _ _ s).setB false (by decide)).updPath _).trans (hstate _)) (.refl _ _ s)

/-! The power path. -/

/-- The fields outside the front end's and the charger's blocks that the end of the path's work changes. -/
def pathMarks : List Fld := Reg.PATH_STAT_mode :: ibexFields ++ phaseMarks

theorem openIsw_roams (s : State) : Roams [0x14, 0x16] phaseMarks (s.setB Reg.PATH_STAT_isw_closed false) s.openIsw := by
  unfold State.openIsw
  extract_lets opened
  have hopened : Roams [0x14, 0x16] phaseMarks (s.setB Reg.PATH_STAT_isw_closed false) opened := (Roams.refl _ _ _).updPath _
  exact .ite (hopened.trans (setFe_roams _ _)) hopened

theorem setPath_roams (s : State) (m : Nat) : Roams [0x14, 0x16] pathMarks s (s.setPath m) := by
  have heval (u : State) : Roams [0x14, 0x16] pathMarks u u.chgEval := (Roams.refl _ _ u).chgEval.mono (List.Subset.refl _) (by decide)
  exact ((Roams.refl _ _ s).setF _ (by decide)).trans (heval _)

/-- Beside the opening itself, the path ends its work without touching ISW. -/
theorem pathOff_roams (s : State) (cause : Nat) :
    Roams [0x14, 0x16] pathMarks (s.setB Reg.PATH_STAT_isw_closed false) (s.pathOff cause) := by
  unfold State.pathOff
  extract_lets was off
  have hopen := (openIsw_roams s).mono (cs := [0x14, 0x16]) (m := pathMarks) (List.Subset.refl _) (by decide)
  have hoff : Roams [0x14, 0x16] pathMarks (s.setB Reg.PATH_STAT_isw_closed false) off :=
    (hopen.trans (setPath_roams _ _)).trans ((endIbex_roams _).mono (List.nil_subset _) (by decide))
  exact .ite (hoff.log _ _ _) hoff

end Sys2Proof.Machine
end

section
/-!
PROOFS. Stopping every output (R57, R409).
-/

namespace Sys2Proof.Machine

/-! A loop that brings each of its numbers into a state. -/

/-- Every number's property holds after the loop: its own turn establishes it, and no turn takes another's away. -/
theorem each_all {I : State → Prop} {P : Nat → State → Prop} {g : Nat → State → State} {xs : List Nat}
    (hI : ∀ k ∈ xs, ∀ t, I t → I (g k t)) (hset : ∀ k ∈ xs, ∀ t, I t → P k (g k t))
    (hkeep : ∀ k ∈ xs, ∀ j ∈ xs, ∀ t, j ≠ k → P j t → P j (g k t)) {s : State} (hs : I s) : ∀ k ∈ xs, P k (s.each xs g) := by
  suffices h : ∀ (ys : List Nat) (t : State), ys ⊆ xs → I t → (∀ k ∈ xs, k ∉ ys → P k t) → ∀ k ∈ xs, P k (t.each ys g) from
    h xs s (List.Subset.refl _) hs fun k hk hn => absurd hk hn
  intro ys
  induction ys with
  | nil => exact fun t _ _ hp k hk => hp k hk List.not_mem_nil
  | cons y ys ih =>
    intro t hsub ht hp
    obtain ⟨hy, hsub⟩ := List.cons_subset.mp hsub
    refine ih (g y t) hsub (hI y hy t ht) fun k hk hn => ?_
    by_cases hky : k = y
    · exact hky ▸ hset y hy t ht
    · exact hkeep y hy k hk t hky (hp k hk (by simp [hky, hn]))

/-! Rails. -/

/-- Where the fields of a rail's stop stand: in its own registers, in its monitor's, or in those of phases. -/
theorem railOffFields_where {s : State} {k : Nat} (hk : k < 8) : ∀ f ∈ s.railOffFields k, f.lo < 16
    ∧ (0x10000 ≤ f.addr ∧ f.addr < 0x11000 ∨ 0x11000 + 0x100 * k ≤ f.addr ∧ f.addr < 0x11100 + 0x100 * k
      ∨ 0x1A000 ≤ f.addr ∧ f.addr < 0x1B000) := by
  intro f hf
  simp only [State.railOffFields, State.phaseFields, List.mem_append, List.mem_cons, List.not_mem_nil, or_false, List.mem_flatMap] at hf
  rcases hf with (rfl | rfl | rfl | rfl | rfl | rfl | rfl | rfl | rfl) | (rfl | rfl | rfl) | ⟨n, hn, rfl | rfl⟩
  case inr.inr.inl | inr.inr.inr =>
    have hn := phasesOf_lt hn
    simp only
    omega
  all_goals
    simp only
    omega

/-- One rail stops at once (R57). -/
def State.railStops (s : State) (k : Nat) : State :=
  ((if s.railState k = rLOCKED then s else s.railToOff k).setB (Reg.RAIL_DYN_ovclamp k) false).updRail k fun r =>
    { r with discharge := false }

/-- Rail k is stopped. -/
def State.railIsOff (s : State) (k : Nat) : Prop := s.railState k = rOFF ∨ s.railState k = rLOCKED

theorem railToOff_acts (s : State) (k : Nat) : Acts (s.railOffFields k) s (s.railToOff k) := by
  have hpg : pgFields k ⊆ s.railOffFields k := by
    intro f hf
    simp only [pgFields, List.mem_cons, List.not_mem_nil, or_false] at hf
    rcases hf with rfl | rfl <;> simp [State.railOffFields]
  have hstate := (railQuiet_acts s k).setF (f := Reg.RAIL_STAT_state k) rOFF (by simp [State.railOffFields])
  exact (hstate.trans ((setRailState_acts _ k rOFF).mono hpg)).updRail k _

theorem railToOff_railState {s : State} (hw : Cells.wf s.fields = true) {k : Nat} (hk : k < 8) : (s.railToOff k).railState k = rOFF := by
  have hlast : Acts [] ((s.railQuiet k).setRailState k rOFF) (s.railToOff k) := (Acts.refl _ _).updRail k _
  exact (hlast.getF List.not_mem_nil).trans (setRailState_railState ((railQuiet_acts s k).wf hw) hk (by decide))

theorem railStops_acts (s : State) (k : Nat) : Acts (Reg.RAIL_DYN_ovclamp k :: s.railOffFields k) s (s.railStops k) := by
  have hoff : Acts (Reg.RAIL_DYN_ovclamp k :: s.railOffFields k) s (if s.railState k = rLOCKED then s else s.railToOff k) := by
    split
    · exact .refl _ s
    · exact (railToOff_acts s k).mono (List.subset_cons_self _ _)
  exact (hoff.setB false List.mem_cons_self).updRail k _

theorem railStops_where {s : State} {k : Nat} (hk : k < 8) : ∀ f ∈ Reg.RAIL_DYN_ovclamp k :: s.railOffFields k, f.lo < 16
    ∧ (0x10000 ≤ f.addr ∧ f.addr < 0x11000 ∨ 0x11000 + 0x100 * k ≤ f.addr ∧ f.addr < 0x11100 + 0x100 * k
      ∨ 0x1A000 ≤ f.addr ∧ f.addr < 0x1B000) := by
  intro f hf
  rcases List.mem_cons.mp hf with rfl | hf
  · simp only
    omega
  · exact railOffFields_where hk f hf

theorem railStops_roams {k : Nat} (hk : k < 8) (s : State) : Roams [0x10, 0x11, 0x1A] [] s (s.railStops k) := by
  refine (railStops_acts s k).roams fun f hf => .inl ?_
  obtain ⟨hlo, hwhere⟩ := railStops_where hk f hf
  simp only [Fld.key, List.mem_cons, List.not_mem_nil, or_false]
  omega

theorem railStops_isOff {s : State} (hw : Cells.wf s.fields = true) {k : Nat} (hk : k < 8) : (s.railStops k).railIsOff k := by
  have hclamp : Acts [Reg.RAIL_DYN_ovclamp k] (if s.railState k = rLOCKED then s else s.railToOff k) (s.railStops k) :=
    ((Acts.refl _ _).setB false List.mem_cons_self).updRail k _
  have hstate : (s.railStops k).railState k = (if s.railState k = rLOCKED then s else s.railToOff k).railState k :=
    hclamp.getF (by simp [Fld.key]; omega)
  unfold State.railIsOff
  rw [hstate]
  split
  next h => exact .inr h
  next => exact .inl (railToOff_railState hw hk)

theorem railStops_others {s : State} {j k : Nat} (hj : j < 8) (hk : k < 8) (hne : j ≠ k) :
    (s.railStops k).railState j = s.railState j := by
  refine (railStops_acts s k).getF fun hm => ?_
  obtain ⟨f, hf, he⟩ := List.mem_map.mp hm
  obtain ⟨hlo, hwhere⟩ := railStops_where hk f hf
  simp only [Fld.key] at he
  omega

/-! LDOs. -/

/-- One LDO stops at once. -/
def State.ldoStops (s : State) (n : Nat) : State := if s.ldoState n = lLOCKED then s else s.ldoToOff n

/-- LDO n is stopped. -/
def State.ldoIsOff (s : State) (n : Nat) : Prop := s.ldoState n = lOFF ∨ s.ldoState n = lLOCKED

/-- Beside the state itself, its power-good at most. -/
theorem setLdoState_acts (s : State) (n v : Nat) : Acts (pgFields (8 + n)) (s.setF (Reg.LDO_STAT_state n) v) (s.setLdoState n v) := by
  unfold State.setLdoState
  extract_lets was set fallen
  have hfallen : Acts (pgFields (8 + n)) set fallen := by
    unfold fallen
    split
    · exact (pgFall_acts _ _).trans (disarmLo_acts _ _ _)
    · exact .refl _ _
  split
  · exact hfallen.trans (disarmHi_acts _ _ _)
  · exact hfallen

/-- The fields that the end of an LDO's work changes beside its state. -/
def ldoOffFields (n : Nat) : List Fld := [Reg.LDO_STAT_dropout n, Reg.LDO_STAT_ilim n] ++ pgFields (8 + n)

theorem ldoToOff_roams (s : State) (n : Nat) : Roams [] (ldoOffFields n) (s.setF (Reg.LDO_STAT_state n) lOFF) (s.ldoToOff n) := by
  have hlisted {l : List Fld} (hl : l ⊆ ldoOffFields n) : ∀ f ∈ l, f.within [] (ldoOffFields n) :=
    fun f hf => .inr (List.mem_map_of_mem (hl hf))
  have hstate : Roams [] (ldoOffFields n) (s.setF (Reg.LDO_STAT_state n) lOFF) (s.setLdoState n lOFF) :=
    (setLdoState_acts s n lOFF).roams (hlisted (List.subset_append_right _ _))
  exact (hstate.setMany [Reg.LDO_STAT_dropout n, Reg.LDO_STAT_ilim n] rfl (hlisted (List.subset_append_left _ _))).updLdo n _

/-- Where the fields of an LDO's stop stand. -/
theorem ldoOffFields_where {n : Nat} (hn : n < 6) : ∀ f ∈ ldoOffFields n,
    f.key / 65536 = 0x19 ∧ f.key % 16 ≠ 0 ∨ f.key / 65536 = 0x1A := by
  intro f hf
  simp only [ldoOffFields, pgFields, List.cons_append, List.nil_append, List.mem_cons, List.not_mem_nil, or_false] at hf
  rcases hf with rfl | rfl | rfl | rfl
  all_goals
    simp only [Fld.key]
    omega

theorem ldoState_key {n : Nat} (hn : n < 6) : (Reg.LDO_STAT_state n).key / 65536 = 0x19 ∧ (Reg.LDO_STAT_state n).key % 16 = 0 := by
  simp only [Fld.key]
  omega

theorem ldoState_not_within {n m : Nat} (hn : n < 6) (hm : m < 6) : ¬(Reg.LDO_STAT_state m).within [] (ldoOffFields n) := by
  rintro (hb | hmem)
  · exact List.not_mem_nil hb
  · obtain ⟨f, hf, he⟩ := List.mem_map.mp hmem
    have hkey := ldoState_key hm
    have hwhere := ldoOffFields_where hn f hf
    omega

theorem ldoToOff_ldoState {s : State} (hw : Cells.wf s.fields = true) {n : Nat} (hn : n < 6) : (s.ldoToOff n).ldoState n = lOFF :=
  ((ldoToOff_roams s n).getF (ldoState_not_within hn hn)).trans (getF_setF_same _ _ _ hw)

theorem ldoStops_roams {n : Nat} (hn : n < 6) (s : State) : Roams [0x19, 0x1A] [] s (s.ldoStops n) := by
  have hset : Roams [0x19, 0x1A] [] s (s.setF (Reg.LDO_STAT_state n) lOFF) :=
    (Roams.refl _ _ s).setF _ (.inl (by simp [(ldoState_key hn).1]))
  refine .ite (.refl _ _ s) (hset.trans ((ldoToOff_roams s n).mono (List.nil_subset _) fun f hf => .inl ?_))
  rcases ldoOffFields_where hn f hf with ⟨h, -⟩ | h <;> simp [h]

theorem ldoStops_isOff {s : State} (hw : Cells.wf s.fields = true) {n : Nat} (hn : n < 6) : (s.ldoStops n).ldoIsOff n := by
  unfold State.ldoStops
  split
  next h => exact .inr h
  next => exact .inl (ldoToOff_ldoState hw hn)

theorem ldoStops_others {s : State} {m n : Nat} (hm : m < 6) (hn : n < 6) (hne : m ≠ n) : (s.ldoStops n).ldoState m = s.ldoState m := by
  unfold State.ldoStops
  split
  · rfl
  · exact ((ldoToOff_roams s n).getF (ldoState_not_within hn hm)).trans (getF_setF_ne _ _ _ _ (by simp only [Fld.key]; omega))

/-! ISO channels. -/

/-- One ISO channel is off at once. -/
def State.isoStops (s : State) (n : Nat) : State := if s.isoState n = iOFF then s else s.setIsoState n iOFF

/-- A change of a channel's state changes no other field. -/
theorem setIsoState_roams (s : State) (n v : Nat) : Roams [] [] (s.setF (Reg.ISO_STAT_state n) v) (s.setIsoState n v) := by
  unfold State.setIsoState
  extract_lets set q queued
  have hqueued : Roams [] [] set queued := (Roams.refl _ _ set).inner rfl (.refl set) rfl rfl rfl rfl
  clear_value queued
  split
  · exact hqueued
  · extract_lets low
    have hlow : Roams [] [] set low := .ite hqueued ((hqueued.acts (disarmLo_acts [] _ _) (by simp)).endCause _ _ _)
    exact .ite hlow (((hlow.acts (disarmHi_acts [] _ _) (by simp)).endCause _ _ _).endCause _ _ _)

theorem setIsoState_isoState {s : State} (hw : Cells.wf s.fields = true) (n : Nat) {v : Nat} (hv : v < 8) :
    (s.setIsoState n v).isoState n = v :=
  ((setIsoState_roams s n v).getF (by simp [Fld.within])).trans ((getF_setF_same _ _ _ hw).trans (Nat.mod_eq_of_lt hv))

theorem isoStops_roams {n : Nat} (hn : n < 12) (s : State) : Roams [0x18] [] s (s.isoStops n) := by
  have hset : Roams [0x18] [] s (s.setF (Reg.ISO_STAT_state n) iOFF) :=
    (Roams.refl _ _ s).setF _ (.inl (by simp only [Fld.key, List.mem_singleton]; omega))
  exact .ite (.refl _ _ s) (hset.trans ((setIsoState_roams s n iOFF).mono (List.nil_subset _) (by simp)))

theorem isoStops_isoState {s : State} (hw : Cells.wf s.fields = true) (n : Nat) : (s.isoStops n).isoState n = iOFF := by
  unfold State.isoStops
  split
  next h => exact h
  next => exact setIsoState_isoState hw n (by decide)

theorem isoStops_others {s : State} {m n : Nat} (hne : m ≠ n) : (s.isoStops n).isoState m = s.isoState m := by
  unfold State.isoStops
  split
  · rfl
  · exact ((setIsoState_roams s n iOFF).getF (by simp [Fld.within])).trans (getF_setF_ne _ _ _ _ (by simp only [Fld.key]; omega))

end Sys2Proof.Machine
end

section
/-!
PROOFS. RESET_N and the fuse-integrity hold stop every output (R57, R409).
-/

namespace Sys2Proof.Machine

/-! Every output. -/

def State.railsStop (s : State) : State := s.each (List.range 8) fun k t => t.railStops k
def State.ldosStop (s : State) : State := s.each (List.range 6) fun n t => t.ldoStops n
def State.isosStop (s : State) : State := s.each (List.range 12) fun n t => t.isoStops n

/-- The front end stops where it works. -/
def State.feStops (s : State) : State := if s.feState = feOFF then s else (s.updFe fun f => { f with lockBits := [] }).setFe feOFF

theorem outputsOff_eq (s : State) : s.outputsOff = s.railsStop.ldosStop.isosStop.feStops := rfl

theorem railsStop_roams (s : State) : Roams [0x10, 0x11, 0x1A] [] s s.railsStop :=
  (Roams.refl _ _ s).each fun _ hk t => railStops_roams (List.mem_range.mp hk) t

theorem ldosStop_roams (s : State) : Roams [0x19, 0x1A] [] s s.ldosStop :=
  (Roams.refl _ _ s).each fun _ hn t => ldoStops_roams (List.mem_range.mp hn) t

theorem isosStop_roams (s : State) : Roams [0x18] [] s s.isosStop :=
  (Roams.refl _ _ s).each fun _ hn t => isoStops_roams (List.mem_range.mp hn) t

theorem feStops_roams (s : State) : Roams [0x14, 0x16] phaseMarks s s.feStops :=
  .ite (.refl _ _ s) (((Roams.refl _ _ s).updFe _).trans (setFe_roams _ _))

section
variable {s t : State} (hw : Cells.wf s.fields = true)
include hw

theorem railsStop_isOff {k : Nat} (hk : k < 8) : s.railsStop.railIsOff k := by
  refine each_all (I := fun t => Cells.wf t.fields = true) (P := fun k t => t.railIsOff k)
    (fun k hk t ht => (railStops_roams (List.mem_range.mp hk) t).wf ht) (fun k hk t ht => railStops_isOff ht (List.mem_range.mp hk))
    (fun k hk j hj t hne h => ?_) hw k (List.mem_range.mpr hk)
  unfold State.railIsOff
  rwa [railStops_others (List.mem_range.mp hj) (List.mem_range.mp hk) hne]

theorem ldosStop_isOff {n : Nat} (hn : n < 6) : s.ldosStop.ldoIsOff n := by
  refine each_all (I := fun t => Cells.wf t.fields = true) (P := fun n t => t.ldoIsOff n)
    (fun n hn t ht => (ldoStops_roams (List.mem_range.mp hn) t).wf ht) (fun n hn t ht => ldoStops_isOff ht (List.mem_range.mp hn))
    (fun n hn m hm t hne h => ?_) hw n (List.mem_range.mpr hn)
  unfold State.ldoIsOff
  rwa [ldoStops_others (List.mem_range.mp hm) (List.mem_range.mp hn) hne]

theorem isosStop_isoState {n : Nat} (hn : n < 12) : s.isosStop.isoState n = iOFF :=
  each_all (I := fun t => Cells.wf t.fields = true) (P := fun n t => t.isoState n = iOFF)
    (fun _ hn t ht => (isoStops_roams (List.mem_range.mp hn) t).wf ht) (fun _ _ _ ht => isoStops_isoState ht _)
    (fun _ _ _ _ _ hne h => (isoStops_others hne).trans h) hw n (List.mem_range.mpr hn)

end

/-! What is off stays off where its registers are kept. -/

theorem Roams.railIsOff {bs : List Nat} {l : List Fld} {s t : State} (h : Roams bs l s t) {k : Nat}
    (hf : ¬(Reg.RAIL_STAT_state k).within bs l) (hoff : s.railIsOff k) : t.railIsOff k := by
  have hstate : t.railState k = s.railState k := h.getF hf
  unfold State.railIsOff
  rwa [hstate]

theorem Roams.ldoIsOff {bs : List Nat} {l : List Fld} {s t : State} (h : Roams bs l s t) {n : Nat}
    (hf : ¬(Reg.LDO_STAT_state n).within bs l) (hoff : s.ldoIsOff n) : t.ldoIsOff n := by
  have hstate : t.ldoState n = s.ldoState n := h.getF hf
  unfold State.ldoIsOff
  rwa [hstate]

/-! The stop as a whole. -/

/-- The blocks and the other fields that the stop of every output changes. -/
def stopBlocks : List Nat := [0x10, 0x11, 0x14, 0x15, 0x16, 0x18, 0x19, 0x1A]
def stopMarks : List Fld := [Reg.HOST_INT_STAT_chg, Reg.SYS_RUN_STAT_ibex] ++ stateFields

/-- The rails, LDOs and ISO channels are off; the front end and the charger stop. -/
def State.powerStops (s : State) : State := s.railsStop.ldosStop.isosStop.feStops.setChgPhase gOFF

/-- Where the path's own stop starts: ISW is open. -/
def State.iswOpens (s : State) : State := s.setB Reg.PATH_STAT_isw_closed false

theorem allStop_eq (s : State) : s.allStop = ((s.powerStops.pathOff 0x20).updPath fun p => { p with held := false }).batfet := by
  rw [State.allStop, outputsOff_eq]
  rfl

/-- After the outputs, only registers of the front end, the path and the charger change. -/
theorem powerStops_after (s : State) : Roams [0x14, 0x16] phaseMarks s.railsStop.ldosStop.isosStop s.powerStops :=
  (feStops_roams _).trans (setChgPhase_roams _ _)

theorem allStop_after (s : State) : Roams [0x14, 0x16] pathMarks s.powerStops.iswOpens s.allStop := by
  rw [allStop_eq]
  exact ((pathOff_roams s.powerStops 0x20).updPath _).setF _ (by decide)

theorem powerStops_roams (s : State) : Roams stopBlocks stopMarks s s.powerStops :=
  ((((railsStop_roams s).mono (by decide) (by decide)).trans ((ldosStop_roams _).mono (by decide) (by decide))).trans
    ((isosStop_roams _).mono (by decide) (by decide))).trans ((powerStops_after s).mono (by decide) (by decide))

theorem allStop_roams (s : State) : Roams stopBlocks stopMarks s s.allStop :=
  ((powerStops_roams s).setB (f := Reg.PATH_STAT_isw_closed) false (by decide)).trans
    ((allStop_after s).mono (by decide) (by decide))

/-- What a register outside the front end's, the path's and the charger's holds once the outputs are off, it holds at the end. -/
theorem allStop_outputs (s : State) : Roams [0x14, 0x15, 0x16] stopMarks s.railsStop.ldosStop.isosStop s.allStop :=
  (((powerStops_after s).mono (by decide) (by decide)).setB (f := Reg.PATH_STAT_isw_closed) false (by decide)).trans
    ((allStop_after s).mono (by decide) (by decide))

/-- No output's state is among the registers that the end of the stop changes. -/
theorem not_within_stop {bs : List Nat} {f : Fld} (hb : f.key / 65536 ∉ bs) (hout : f.key / 65536 ∈ [0x11, 0x18, 0x19]) :
    ¬f.within bs stopMarks := by
  rintro (h | h)
  · exact hb h
  · obtain ⟨g, hg, he⟩ := List.mem_map.mp h
    have hother : ∀ g ∈ stopMarks, g.key / 65536 ∉ [0x11, 0x18, 0x19] := by decide
    exact hother g hg (he ▸ hout)

theorem railState_block {k : Nat} (hk : k < 8) : (Reg.RAIL_STAT_state k).key / 65536 = 0x11 := by
  simp only [Fld.key]
  omega

theorem isoState_block {n : Nat} (hn : n < 12) : (Reg.ISO_STAT_state n).key / 65536 = 0x18 := by
  simp only [Fld.key]
  omega

section
variable {s : State} (hw : Cells.wf s.fields = true)
include hw

theorem allStop_railIsOff {k : Nat} (hk : k < 8) : s.allStop.railIsOff k := by
  have hrest : Roams [0x14, 0x15, 0x16, 0x18, 0x19, 0x1A] stopMarks s.railsStop s.allStop :=
    (((ldosStop_roams _).mono (by decide) (by decide)).trans ((isosStop_roams _).mono (by decide) (by decide))).trans
      ((allStop_outputs s).mono (by decide) (by decide))
  have hblock := railState_block hk
  exact hrest.railIsOff (not_within_stop (by simp [hblock]) (by simp [hblock])) (railsStop_isOff hw hk)

theorem allStop_ldoIsOff {n : Nat} (hn : n < 6) : s.allStop.ldoIsOff n := by
  have hrest : Roams [0x14, 0x15, 0x16, 0x18] stopMarks s.railsStop.ldosStop s.allStop :=
    ((isosStop_roams _).mono (by decide) (by decide)).trans ((allStop_outputs s).mono (by decide) (by decide))
  have hblock := (ldoState_key hn).1
  exact hrest.ldoIsOff (not_within_stop (by simp [hblock]) (by simp [hblock])) (ldosStop_isOff ((railsStop_roams s).wf hw) hn)

theorem allStop_isoState {n : Nat} (hn : n < 12) : s.allStop.isoState n = iOFF := by
  have hblock := isoState_block hn
  have hwf := (ldosStop_roams _).wf ((railsStop_roams s).wf hw)
  exact ((allStop_outputs s).getF (not_within_stop (by simp [hblock]) (by simp [hblock]))).trans (isosStop_isoState hwf hn)

theorem allStop_iswClosed : s.allStop.bit Reg.PATH_STAT_isw_closed = false :=
  ((allStop_after s).bit (by decide)).trans (bit_setB_same _ _ _ (by decide) ((powerStops_roams s).wf hw))

/-- Where the device does not live, BATFET ends off (R182). -/
theorem allStop_bfMode (hlive : s.live = false) : s.allStop.getF Reg.PATH_STAT_bf_mode = 0 := by
  have hpath := (pathOff_roams s.powerStops 0x20).updPath fun p => { p with held := false }
  have hopened := (powerStops_roams s).setB (f := Reg.PATH_STAT_isw_closed) false (by decide)
  have hmode : ((s.powerStops.pathOff 0x20).updPath fun p => { p with held := false }).batfetMode = 0 := by
    have hsys := hpath.sys.trans hopened.sys
    unfold State.live at hlive
    unfold State.batfetMode State.live
    rw [hsys, hlive]
    rfl
  rw [allStop_eq, State.batfet, getF_setF_same _ _ _ (hpath.wf (hopened.wf hw)), hmode, Nat.zero_mod]

end

/-! RESET_N is recognised (R57). -/

theorem Roams.frameWide {bs : List Nat} {l : List Fld} {s t : State} (h : Roams bs l s t) : FrameWide bs l s t :=
  ⟨h.kept, h.stores, h.grows⟩

/-- RESET_N stands: a FAWN entry, the herd's presence and a ship request end. -/
def State.resetStands (s : State) : State :=
  s.updSys fun y => { y with resetHeld := true, sleep := none, herd := none, ship := if y.ship = .requested then .off else y.ship }

/-- FLT_PIN is reset with it. -/
def State.pinReset (s : State) : State :=
  (s.resetStands.setMany [(Reg.FLT_PIN_drive, 0), (Reg.FLT_PIN_pulse, 0)]).updFlt fun f => { f with releaseHeld := false }

/-- FAULT_N is released and a running table aborted. -/
def State.tableAborts (s : State) : State :=
  (s.setMany [(Reg.FLT_PIN_pin, 0), (Reg.SEQ_STAT_table, 0), (Reg.SEQ_STAT_phase, 0), (Reg.SEQ_STAT_step, 0)]).updSeq fun q =>
    { q with ended := false }

/-- HSDO and SBDA are released. -/
def State.portsRelease (s : State) : State := { s with spiOut := [], sbOut := [] }

theorem portsRelease_roams (s : State) : Roams [] [] s s.portsRelease := (Roams.refl _ _ s).inner rfl (.refl s) rfl rfl rfl rfl

theorem portsRelease_getF (s : State) (f : Fld) : s.portsRelease.getF f = s.getF f := (portsRelease_roams s).getF (by simp [Fld.within])

theorem portsRelease_bit (s : State) (f : Fld) : s.portsRelease.bit f = s.bit f := (portsRelease_roams s).bit (by simp [Fld.within])

theorem exec_resetNRecognised {s : State} (hv : s.sys.vkeep = true) (hr : s.sys.resetHeld = false) :
    exec .resetNRecognised s = .next (if s.sys.fuseHold then s.pinReset
      else s.pinReset.tableAborts.allStop.portsRelease) := by
  have hexec : exec .resetNRecognised s = execResetNRecognised s := rfl
  rw [hexec, execResetNRecognised, if_pos (by simp [hv, hr])]
  split <;> rfl

theorem pinReset_acts (s : State) : Acts [Reg.FLT_PIN_drive, Reg.FLT_PIN_pulse] s.resetStands s.pinReset :=
  ((Acts.refl _ s.resetStands).setMany (x := [(Reg.FLT_PIN_drive, 0), (Reg.FLT_PIN_pulse, 0)]) (by decide)).inner rfl rfl rfl rfl rfl rfl

theorem tableAborts_acts (s : State) :
    Acts [Reg.FLT_PIN_pin, Reg.SEQ_STAT_table, Reg.SEQ_STAT_phase, Reg.SEQ_STAT_step] s s.tableAborts :=
  ((Acts.refl _ s).setMany (by decide)).updSeq _

section
variable {s : State} (hw : Cells.wf s.fields = true)
include hw

theorem pinReset_drive : s.pinReset.bit Reg.FLT_PIN_drive = false :=
  bit_setMany_mem (s := s.resetStands) (l := [(Reg.FLT_PIN_drive, 0), (Reg.FLT_PIN_pulse, 0)]) hw (by decide) (by decide) (by decide)

theorem pinReset_pulse : s.pinReset.bit Reg.FLT_PIN_pulse = false :=
  bit_setMany_mem (s := s.resetStands) (l := [(Reg.FLT_PIN_drive, 0), (Reg.FLT_PIN_pulse, 0)]) hw (by decide) (by decide) (by decide)

theorem tableAborts_pin : s.tableAborts.bit Reg.FLT_PIN_pin = false :=
  bit_setMany_mem (s := s) (l := [(Reg.FLT_PIN_pin, 0), (Reg.SEQ_STAT_table, 0), (Reg.SEQ_STAT_phase, 0), (Reg.SEQ_STAT_step, 0)])
    hw (by decide) (by decide) (by decide)

theorem tableAborts_table : s.tableAborts.getF Reg.SEQ_STAT_table = 0 :=
  getF_setMany_mem (s := s) (l := [(Reg.FLT_PIN_pin, 0), (Reg.SEQ_STAT_table, 0), (Reg.SEQ_STAT_phase, 0), (Reg.SEQ_STAT_step, 0)])
    hw (by decide) (p := (Reg.SEQ_STAT_table, 0)) (by decide)

end

/-- The fields outside the outputs' blocks that RESET_N changes. -/
def resetMarks : List Fld :=
  [Reg.FLT_PIN_drive, Reg.FLT_PIN_pulse, Reg.FLT_PIN_pin, Reg.HOST_INT_STAT_chg, Reg.SYS_RUN_STAT_ibex, Reg.SEQ_STAT_table,
    Reg.SEQ_STAT_phase, Reg.SEQ_STAT_step] ++ stateFields

theorem resetNRecognised_roams (s : State) :
    Roams stopBlocks resetMarks s.resetStands s.pinReset.tableAborts.allStop.portsRelease := by
  have hpins : Roams stopBlocks resetMarks s.resetStands s.pinReset.tableAborts :=
    ((pinReset_acts s).roams (by decide)).acts (tableAborts_acts _) (by decide)
  exact (hpins.trans ((allStop_roams _).mono (List.Subset.refl _) (by decide))).trans
    ((portsRelease_roams _).mono (List.nil_subset _) (by simp))

theorem resetNRecognised_stops {s : State} (hv : s.sys.vkeep = true) (hr : s.sys.resetHeld = false) (hf : s.sys.fuseHold = false)
    (hw : Cells.wf s.fields = true) :
    Completes .resetNRecognised s fun t => t.sys.resetHeld = true
      ∧ (∀ k < 8, t.railState k = rOFF ∨ t.railState k = rLOCKED) ∧ (∀ n < 6, t.ldoState n = lOFF ∨ t.ldoState n = lLOCKED)
      ∧ (∀ n < 12, t.isoState n = iOFF ∨ t.isoState n = iLOCKED) ∧ t.bit Reg.PATH_STAT_isw_closed = false
      ∧ t.getF Reg.PATH_STAT_bf_mode = 0 ∧ t.bit Reg.FLT_PIN_drive = false ∧ t.bit Reg.FLT_PIN_pin = false ∧ t.getF Reg.SEQ_STAT_table = 0
      ∧ FrameWide stopBlocks resetMarks s t := by
  have hw1 : Cells.wf s.pinReset.fields = true := (pinReset_acts s).wf hw
  have hw2 := (tableAborts_acts s.pinReset).wf hw1
  have hsys : s.pinReset.tableAborts.sys = s.resetStands.sys := ((tableAborts_acts _).only.sys).trans (pinReset_acts s).only.sys
  have hstop := allStop_roams s.pinReset.tableAborts
  have hlive : s.pinReset.tableAborts.live = false := by
    unfold State.live
    rw [hsys]
    simp [State.resetStands]
  have hdrive : s.pinReset.tableAborts.allStop.bit Reg.FLT_PIN_drive = false :=
    (hstop.bit (by decide)).trans (((tableAborts_acts _).bit (by decide)).trans (pinReset_drive hw))
  have hpin := (hstop.bit (f := Reg.FLT_PIN_pin) (by decide)).trans (tableAborts_pin hw1)
  have htable := (hstop.getF (f := Reg.SEQ_STAT_table) (by decide)).trans (tableAborts_table hw1)
  have hports := portsRelease_roams s.pinReset.tableAborts.allStop
  refine ⟨s.pinReset.tableAborts.allStop.portsRelease, (exec_resetNRecognised hv hr).trans (by rw [hf]; rfl), ?_,
    fun k hk => hports.railIsOff (by simp [Fld.within]) (allStop_railIsOff hw2 hk),
    fun n hn => hports.ldoIsOff (by simp [Fld.within]) (allStop_ldoIsOff hw2 hn),
    fun n hn => .inl ((portsRelease_getF _ _).trans (allStop_isoState hw2 hn)), (portsRelease_bit _ _).trans (allStop_iswClosed hw2),
    (portsRelease_getF _ _).trans (allStop_bfMode hw2 hlive), (portsRelease_bit _ _).trans hdrive, (portsRelease_bit _ _).trans hpin,
    (portsRelease_getF _ _).trans htable, (resetNRecognised_roams s).frameWide⟩
  exact congrArg Sys.resetHeld ((resetNRecognised_roams s).sys)

theorem resetNRecognised_fuseHold {s : State} (hv : s.sys.vkeep = true) (hr : s.sys.resetHeld = false) (hf : s.sys.fuseHold = true)
    (hw : Cells.wf s.fields = true) :
    Completes .resetNRecognised s fun t => t.sys.resetHeld = true ∧ t.sys.fuseHold = true ∧ t.bit Reg.FLT_PIN_drive = false
      ∧ t.bit Reg.FLT_PIN_pulse = false ∧ Frame [Reg.FLT_PIN_drive, Reg.FLT_PIN_pulse] s t := by
  have hacts := pinReset_acts s
  have hsys := hacts.only.sys
  refine ⟨s.pinReset, (exec_resetNRecognised hv hr).trans (by rw [hf]; rfl), by rw [hsys]; rfl, by rw [hsys]; exact hf, pinReset_drive hw,
    pinReset_pulse hw, hacts.kept, hacts.only.storesKept, fun a => ?_, hacts.logNext⟩
  rw [hacts.win]
  rfl

end Sys2Proof.Machine
end

section
/-!
PROOFS. A reset boot, and RESET_N as a whole (R57, R85, R86, R93).
-/

namespace Sys2Proof.Machine

/-! The cells that a boot keeps. -/

theorem Cells.wf_iff_isChain (c : Cells) : Cells.wf c = true ↔ c.IsChain fun p q => p.1 < q.1 := by
  induction c using Cells.wf.induct with
  | case1 => simp [Cells.wf]
  | case2 => simp [Cells.wf]
  | case3 a w b u r ih => simp [Cells.wf, ih]

theorem Cells.wf_iff_pairwise (c : Cells) : Cells.wf c = true ↔ c.Pairwise fun p q => p.1 < q.1 := by
  have : IsTrans (Nat × Nat) fun p q => p.1 < q.1 := ⟨fun _ _ _ => Nat.lt_trans⟩
  rw [Cells.wf_iff_isChain, List.isChain_iff_pairwise]

theorem Cells.wf_filter {c : Cells} (h : Cells.wf c = true) (p : Nat × Nat → Bool) : Cells.wf (c.filter p) = true :=
  (Cells.wf_iff_pairwise _).mpr (((Cells.wf_iff_pairwise c).mp h).filter p)

theorem cellGet_filter (p : Nat → Bool) (k d : Nat) (c : Cells) :
    cellGet k d (c.filter fun x => p x.1) = if p k then cellGet k d c else d := by
  induction c with
  | nil => simp [cellGet]
  | cons x r ih =>
    obtain ⟨a, v⟩ := x
    by_cases ha : p a <;> by_cases hk : a = k <;> simp_all [cellGet]

/-! The change of state. -/

theorem setState_onlyActs (s : State) (n : Nat) : OnlyActs s (s.setState n) := by
  unfold State.setState
  split
  · exact .refl s
  · extract_lets old entered
    have hentered : Acts stateFields s entered := ((Acts.refl _ s).setF _ (by decide)).setF _ (by decide)
    have hnoted := (hentered.setB (f := Reg.HOST_INT_STAT_state) true (by decide)).request rqSTATE (by decide)
    have hlog (u : State) (kind code : Nat) (d : List Byte) : OnlyActs u (u.log kind code d) := rfl
    exact hnoted.only.trans (hlog _ _ _ _)

theorem setState_st {s : State} (hw : Cells.wf s.fields = true) {n : Nat} (hn : n < 2 ^ Reg.SYS_STATE_state.w) : (s.setState n).st = n := by
  unfold State.setState
  split
  next h => exact h
  next =>
    extract_lets old entered
    have hst : entered.getF Reg.SYS_STATE_state = n :=
      (getF_setF_same _ _ _ (setF_fields_wf _ _ _ hw)).trans (Nat.mod_eq_of_lt hn)
    have hnoted : Acts [Reg.HOST_INT_STAT_state, Reg.SB_REQ_req] entered ((entered.setB Reg.HOST_INT_STAT_state true).request rqSTATE) :=
      ((Acts.refl _ entered).setB true (by decide)).request rqSTATE (by decide)
    exact (hnoted.getF (by decide)).trans hst

/-! A reset boot. -/

/-- The reset boot's causes stand in what it keeps. -/
def State.bootCauses (s : State) (causes : List Fld) : State := (s.cleared .reset).setMany (causes.map fun f => (f, 1))

/-- The status fields that a reset boot clears. -/
def bootCleared : List Fld :=
  [Reg.SYS_RUN_STAT_safe, Reg.SYS_RUN_STAT_ibex, Reg.SYS_RUN_STAT_activating, Reg.SYS_RUN_STAT_act_deferred,
    Reg.SYS_RUN_STAT_return_state, Reg.SYS_BOOT_STAT_early_up, Reg.SYS_BOOT_STAT_dead, Reg.SYS_BOOT_STAT_recovery,
    Reg.SYS_BOOT_STAT_wake_boot]

def State.bootClears (s : State) (causes : List Fld) : State := (s.bootCauses causes).setMany (bootCleared.map fun f => (f, 0))

/-- What else a reset boot sets before it enters BOOT. -/
def bootSet : List Fld := (List.range 8).map Reg.MON_PG_CFG_pin ++ [Reg.SB_REQ_req, Reg.SYS_STATE_state]

def State.bootStarts (s : State) (causes : List Fld) : State :=
  (((s.bootClears causes).setMany ((List.range 8).map fun j => (Reg.MON_PG_CFG_pin j, 0))).setBitOf Reg.SB_REQ_req rqDOWNSTREAM false).setF
    Reg.SYS_STATE_state s.st

theorem bootCauses_acts (s : State) (causes : List Fld) : Acts causes (s.cleared .reset) (s.bootCauses causes) :=
  (Acts.refl _ _).setMany fun p hp => by
    obtain ⟨f, hf, rfl⟩ := List.mem_map.mp hp
    exact hf

theorem bootClears_acts (s : State) (causes : List Fld) : Acts bootCleared (s.bootCauses causes) (s.bootClears causes) :=
  (Acts.refl _ _).setMany (by decide)

theorem bootSet_acts (s : State) (causes : List Fld) : Acts bootSet (s.bootClears causes) (s.bootStarts causes) := by
  have hpins : Acts bootSet (s.bootClears causes) ((s.bootClears causes).setMany ((List.range 8).map fun j => (Reg.MON_PG_CFG_pin j, 0))) :=
    (Acts.refl _ _).setMany (by decide)
  exact (hpins.setBitOf rqDOWNSTREAM false (by decide)).setF _ (by decide)

theorem bootStarts_acts (s : State) (causes : List Fld) : Acts bootFields (s.bootCauses causes) (s.bootStarts causes) :=
  ((bootClears_acts s causes).mono (by decide)).trans ((bootSet_acts s causes).mono (by decide))

theorem bootStarts_onlyActs (s : State) (causes : List Fld) : OnlyActs (s.cleared .reset) (s.bootStarts causes) :=
  (bootCauses_acts s causes).only.trans (bootStarts_acts s causes).only

/-- A reset boot ends with its change to BOOT: no hold of ISW stands in it. -/
theorem boot_reset (s : State) (causes : List Fld) : s.boot .reset causes = (s.bootStarts causes).setState stBOOT := by
  have honly := (bootStarts_onlyActs s causes).trans (setState_onlyActs (s.bootStarts causes) stBOOT)
  have hheld : ((s.bootStarts causes).setState stBOOT).path.held = false := by
    unfold OnlyActs at honly
    rw [honly]
    rfl
  have hboot : s.boot .reset causes = if ((s.bootStarts causes).setState stBOOT).path.held then
      (((s.bootStarts causes).setState stBOOT).setMany [(Reg.PATH_STAT_isw_closed, 1), (Reg.PATH_STAT_mode, pBUS)]).updPath fun p =>
        { p with held := false }
    else (s.bootStarts causes).setState stBOOT := rfl
  rw [hboot, hheld]
  rfl

theorem cleared_getF (s : State) (k : BootKind) (f : Fld) : (s.cleared k).getF f = if keptAt k f.key then s.getF f else f.rst :=
  cellGet_filter (keptAt k) f.key f.rst s.fields

section
variable {s : State} {causes : List Fld}

theorem boot_reset_roams (s : State) (causes : List Fld) : Roams [] bootFields (s.bootCauses causes) (s.boot .reset causes) := by
  rw [boot_reset]
  have hstate : ∀ f ∈ stateFields, f.within [] bootFields := by decide
  exact ((bootStarts_acts s causes).roams fun f hf => .inr (List.mem_map_of_mem hf)).trans
    ((setState_roams _ _).mono (List.Subset.refl _) hstate)

theorem boot_reset_onlyActs (s : State) (causes : List Fld) : OnlyActs (s.cleared .reset) (s.boot .reset causes) := by
  rw [boot_reset]
  exact (bootStarts_onlyActs s causes).trans (setState_onlyActs _ _)

theorem boot_reset_flt (s : State) (causes : List Fld) : (s.boot .reset causes).flt.stats = [] ∧ (s.boot .reset causes).flt.evs = [] := by
  have hcauses := bootCauses_acts s causes
  have hstarts := bootStarts_acts s causes
  rw [boot_reset, setState_flt, hstarts.stats, hstarts.evs, hcauses.stats, hcauses.evs]
  exact ⟨rfl, rfl⟩

theorem boot_reset_getF {f : Fld} (hf : f.key ∉ (causes ++ bootFields).map Fld.key) :
    (s.boot .reset causes).getF f = if keptAt .reset f.key then s.getF f else f.rst := by
  rw [List.map_append, List.mem_append, not_or] at hf
  obtain ⟨hcauses, hboot⟩ := hf
  have hafter : (s.boot .reset causes).getF f = (s.bootCauses causes).getF f :=
    (boot_reset_roams s causes).getF (by simpa [Fld.within] using hboot)
  rw [hafter, (bootCauses_acts s causes).getF hcauses, cleared_getF]

theorem bootCauses_wf (hw : Cells.wf s.fields = true) : Cells.wf (s.bootCauses causes).fields = true :=
  (bootCauses_acts s causes).wf (Cells.wf_filter hw _)

theorem boot_reset_st (hw : Cells.wf s.fields = true) : (s.boot .reset causes).st = stBOOT := by
  rw [boot_reset]
  exact setState_st ((bootStarts_acts s causes).wf (bootCauses_wf hw)) (by decide)

theorem boot_reset_cause (hw : Cells.wf s.fields = true) (hd : (causes.map Fld.key).Nodup)
    (hc : ∀ f ∈ causes, 0 < f.w ∧ f.key ∉ bootFields.map Fld.key) {f : Fld} (hf : f ∈ causes) : (s.boot .reset causes).bit f = true := by
  obtain ⟨hwidth, hboot⟩ := hc f hf
  have hset : (s.bootCauses causes).bit f = true :=
    bit_setMany_mem (Cells.wf_filter hw _) (by simpa [List.map_map, Function.comp_def] using hd) hwidth (List.mem_map_of_mem hf)
  exact ((boot_reset_roams s causes).bit (by simpa [Fld.within] using hboot)).trans hset

/-- A reset boot does what R93 says (R85, R86). -/
theorem boot_reset_begun (hw : Cells.wf s.fields = true) (hd : (causes.map Fld.key).Nodup)
    (hc : ∀ f ∈ causes, 0 < f.w ∧ f.key ∉ bootFields.map Fld.key) : BootBegun .reset causes s (s.boot .reset causes) := by
  have honly := boot_reset_onlyActs s causes
  obtain ⟨hstats, hevs⟩ := boot_reset_flt s causes
  have hst : (s.boot .reset causes).st = stBOOT := boot_reset_st hw
  have hparts : (s.boot .reset causes).sys = (s.cleared .reset).sys ∧ (s.boot .reset causes).time = s.time
      ∧ (s.boot .reset causes).staged = [] ∧ (s.boot .reset causes).mbx = {} ∧ RecordsKept s (s.boot .reset causes)
      ∧ (s.boot .reset causes).pending = s.pending := by
    unfold OnlyActs at honly
    rw [honly]
    exact ⟨rfl, rfl, rfl, rfl, ⟨rfl, rfl, rfl⟩, rfl⟩
  obtain ⟨hsys, htime, hstaged, hmbx, hrecords, hpending⟩ := hparts
  refine ⟨hst, by rw [hsys]; rfl, by rw [hsys]; rfl, by rw [hsys]; rfl, htime, by rw [hsys]; rfl,
    fun f hf => boot_reset_cause hw hd hc hf, fun f hf => boot_reset_getF hf, hstaged, by rw [hmbx], by rw [hmbx], hstats, hevs,
    hrecords, hpending⟩

/-- Nothing is left to do at the end of a reset boot's row. -/
theorem boot_reset_quiet (hw : Cells.wf s.fields = true) : (s.boot .reset causes).quiet := by
  refine ⟨(boot_reset_flt s causes).2, ?_, ?_⟩
  · rw [boot_reset]
    have hdeferred : (s.bootClears causes).bit Reg.SYS_RUN_STAT_act_deferred = false :=
      bit_setMany_mem (bootCauses_wf hw) (by decide) (by decide) (by decide)
    exact ((setState_roams _ _).bit (by decide)).trans (((bootSet_acts s causes).bit (by decide)).trans hdeferred)
  · have honly := boot_reset_onlyActs s causes
    unfold OnlyActs at honly
    rw [honly]
    rfl

end

/-! RESET_N. -/

/-- After a fuse-integrity hold, the reset boot remembers it (R409). -/
def State.holdNoted (s : State) : State := s.updSys fun y => { y with heldBefore := y.fuseHold || y.heldBefore }

theorem exec_resetNRelease {s : State} (hv : s.sys.vkeep = true) (hr : s.sys.resetHeld = true) :
    exec .resetNRelease s = (s.holdNoted.boot .reset [Reg.SYS_RESET_CAUSE_reset_n]).done := by
  have hexec : exec .resetNRelease s = execResetNRelease s := rfl
  rw [hexec, execResetNRelease, if_pos (by simp [hv, hr])]
  rfl

/-- Settles O10: RESET_N stops every output, in the hold only FLT_PIN is reset, and its release begins a reset boot. -/
theorem resetPin : Obligations.ResetPin := by
  refine ⟨fun s hv hr hf hw => resetNRecognised_stops hv hr hf hw, fun s hv hr hf hw => resetNRecognised_fuseHold hv hr hf hw,
    fun s hw hv hr => ⟨_, (exec_resetNRelease hv hr).trans (done_quiet _ (boot_reset_quiet (s := s.holdNoted) hw)), ?_⟩⟩
  exact boot_reset_begun (s := s.holdNoted) hw (by decide) (by decide)

end Sys2Proof.Machine
end

section
/-!
PROOFS. Changes of registers alone: the repair map, the phases' grouping and the history at BOOT (R106, R118, R440, R462).
-/

namespace Sys2Proof.Machine

/-! Changes of registers alone. -/

/-- Only registers change: those of these blocks and those listed. -/
structure Rewrites (bs : List Nat) (l : List Fld) (s t : State) : Prop where
  kept : KeptBut bs l s t
  wf : Cells.wf s.fields = true → Cells.wf t.fields = true
  only : t = { s with fields := t.fields }

section
variable {bs cs : List Nat} {l m : List Fld} {s t u : State}

theorem Rewrites.refl (bs : List Nat) (l : List Fld) (s : State) : Rewrites bs l s s := ⟨fun _ _ _ => rfl, id, rfl⟩

theorem Rewrites.trans (h : Rewrites bs l s t) (k : Rewrites bs l t u) : Rewrites bs l s u := by
  refine ⟨h.kept.trans k.kept, k.wf ∘ h.wf, ?_⟩
  have hk := k.only
  rw [h.only] at hk
  exact hk

theorem Rewrites.mono (h : Rewrites bs l s t) (hb : bs ⊆ cs) (hl : ∀ f ∈ l, f.within cs m) : Rewrites cs m s t :=
  { h with kept := h.kept.mono hb hl }

theorem Rewrites.setF (h : Rewrites bs l s t) {f : Fld} (v : Nat) (hf : f.within bs l) : Rewrites bs l s (t.setF f v) :=
  h.trans ⟨(((Roams.refl bs l t).setF v hf).kept), setF_fields_wf t f v, rfl⟩

theorem Rewrites.setB (h : Rewrites bs l s t) {f : Fld} (b : Bool) (hf : f.within bs l) : Rewrites bs l s (t.setB f b) := h.setF _ hf

theorem Rewrites.setMany (h : Rewrites bs l s t) {x : List (Fld × Nat)} (hx : ∀ p ∈ x, p.1.within bs l) :
    Rewrites bs l s (t.setMany x) := by
  induction x generalizing t with
  | nil => exact h
  | cons p x ih => exact ih (h.setF p.2 (hx p List.mem_cons_self)) fun q hq => hx q (List.mem_cons_of_mem _ hq)

theorem Rewrites.setBitOf (h : Rewrites bs l s t) {f : Fld} (i : Nat) (b : Bool) (hf : f.within bs l) :
    Rewrites bs l s (t.setBitOf f i b) := by
  unfold State.setBitOf
  split
  · exact h
  · split
    · exact h.setF _ hf
    · exact h.setF _ hf

theorem Rewrites.foldl {α : Type} (h : Rewrites bs l s t) {xs : List α} {g : State → α → State}
    (hg : ∀ x ∈ xs, ∀ u, Rewrites bs l u (g u x)) : Rewrites bs l s (xs.foldl g t) := by
  induction xs generalizing t with
  | nil => exact h
  | cons x xs ih => exact ih (h.trans (hg x List.mem_cons_self t)) fun y hy => hg y (List.mem_cons_of_mem _ hy)

theorem Rewrites.each (h : Rewrites bs l s t) {xs : List Nat} {g : Nat → State → State} (hg : ∀ x ∈ xs, ∀ u, Rewrites bs l u (g x u)) :
    Rewrites bs l s (t.each xs g) := h.foldl hg

theorem Rewrites.ite {c : Prop} [Decidable c] (ht : Rewrites bs l s t) (hu : Rewrites bs l s u) :
    Rewrites bs l s (if c then t else u) := by
  split <;> assumption

theorem Rewrites.getF (h : Rewrites bs l s t) {f : Fld} (hf : ¬f.within bs l) : t.getF f = s.getF f :=
  h.kept f (fun hb => hf (.inl hb)) fun hl => hf (.inr hl)

theorem Rewrites.bit (h : Rewrites bs l s t) {f : Fld} (hf : ¬f.within bs l) : t.bit f = s.bit f := by
  unfold State.bit
  rw [h.getF hf]

theorem Rewrites.sys (h : Rewrites bs l s t) : t.sys = s.sys := by rw [h.only]
theorem Rewrites.otp (h : Rewrites bs l s t) : t.otp = s.otp := by rw [h.only]
theorem Rewrites.flt (h : Rewrites bs l s t) : t.flt = s.flt := by rw [h.only]
theorem Rewrites.age (h : Rewrites bs l s t) : t.age = s.age := by rw [h.only]
theorem Rewrites.path (h : Rewrites bs l s t) : t.path = s.path := by rw [h.only]
theorem Rewrites.clk (h : Rewrites bs l s t) : t.clk = s.clk := by rw [h.only]
theorem Rewrites.nv (h : Rewrites bs l s t) : t.nv = s.nv := by rw [h.only]

theorem Rewrites.storesKept (h : Rewrites bs l s t) : StoresKept s t := by
  have ho := h.only
  rw [ho]
  exact .refl s

theorem Rewrites.logGrows (h : Rewrites bs l s t) : LogGrows s t := by
  have ho := h.only
  rw [ho]
  exact .refl s

end

/-! The repair map (R440, R445). -/

theorem bitsOf_lt (v lo w : Nat) : bitsOf v lo w < 2 ^ w := Nat.mod_lt _ (Nat.two_pow_pos w)

/-- The blocks of the phases' and the ageing registers. -/
def mapBlocks : List Nat := [9, 0x10]

/-- A register of a phase's own 256 bytes stands in the phases' block. -/
theorem within_phase {n a lo w d : Nat} {l : List Fld} (hn : n < 16) (ha : a < 0x100) (hlo : lo < 16) :
    (⟨0x10000 + 0x100 * n + a, lo, w, d⟩ : Fld).within mapBlocks l := by
  left
  simp only [Fld.key, mapBlocks, List.mem_cons, List.not_mem_nil, or_false]
  omega

theorem within_age {a lo w d : Nat} {l : List Fld} (ha : 0x9000 ≤ a) (ha' : a < 0xA000) (hlo : lo < 16) :
    (⟨a, lo, w, d⟩ : Fld).within mapBlocks l := by
  left
  simp only [Fld.key, mapBlocks, List.mem_cons, List.not_mem_nil, or_false]
  omega

section
variable {s : State}

theorem countTines_rewrites {n : Nat} (hn : n < 16) (s : State) : Rewrites mapBlocks [] s (s.countTines n) := by
  refine (Rewrites.refl _ _ s).setMany fun p hp => ?_
  simp only [List.mem_cons, List.not_mem_nil, or_false] at hp
  rcases hp with rfl | rfl | rfl | rfl
  · exact within_phase (a := 0) hn (by omega) (by omega)
  · exact within_age (by omega) (by omega) (by omega)
  · exact within_age (by omega) (by omega) (by omega)
  · exact within_phase (a := 0) hn (by omega) (by omega)

theorem setMap36_rewrites {f : Nat → Fld} (hf : ∀ m < 3, (f m).within mapBlocks []) (s : State) (v : Nat) :
    Rewrites mapBlocks [] s (s.setMap36 f v) := by
  refine (Rewrites.refl _ _ s).setMany fun p hp => ?_
  simp only [List.mem_cons, List.not_mem_nil, or_false] at hp
  rcases hp with rfl | rfl | rfl
  · exact hf 0 (by omega)
  · exact hf 1 (by omega)
  · exact hf 2 (by omega)

theorem map_within {n m : Nat} (hn : n < 16) (hm : m < 3) : (Reg.POL_PH_TMAP_map n m).within mapBlocks [] := by
  left
  simp only [Fld.key, mapBlocks, List.mem_cons, List.not_mem_nil, or_false]
  omega

theorem retired_within {n m : Nat} (hn : n < 16) (hm : m < 3) : (Reg.POL_PH_TRET_retired n m).within mapBlocks [] := by
  left
  simp only [Fld.key, mapBlocks, List.mem_cons, List.not_mem_nil, or_false]
  omega

theorem retire_rewrites {n : Nat} (hn : n < 16) (s : State) (i : Nat) : Rewrites mapBlocks [] s (s.retire n i) := by
  unfold State.retire
  split
  · exact .refl _ _ s
  · extract_lets act out off
    have hout : Rewrites mapBlocks [] s out := setMap36_rewrites (fun m hm => retired_within hn hm) s _
    have hmap (u : State) (v : Nat) : Rewrites mapBlocks [] u (u.setMap36 (Reg.POL_PH_TMAP_map n) v) :=
      setMap36_rewrites (fun m hm => map_within hn hm) u v
    have hoff : Rewrites mapBlocks [] s off := .ite (hout.trans (hmap _ _)) hout
    have hspare : Rewrites mapBlocks [] s (match (if act then (off.spares n).head? else none) with
        | some j => off.setMap36 (Reg.POL_PH_TMAP_map n) (off.map36 (Reg.POL_PH_TMAP_map n) + 2 ^ j)
        | none => off) := by
      split
      · exact hoff.trans (hmap _ _)
      · exact hoff
    exact hspare.trans (countTines_rewrites hn _)

theorem applyRepair_rewrites (s : State) (r : Nat) : Rewrites mapBlocks [] s (s.applyRepair r) := by
  unfold State.applyRepair
  split
  · exact retire_rewrites (bitsOf_lt r 9 4) s _
  · have hc := bitsOf_lt r 8 5
    refine (Rewrites.refl _ _ s).setBitOf _ _ ?_
    split
    · exact within_age (by omega) (by omega) (by omega)
    · exact within_age (by omega) (by omega) (by omega)
  · exact .refl _ _ s

theorem loadRepair_rewrites (s : State) : Rewrites mapBlocks [] s s.loadRepair :=
  (Rewrites.refl _ _ s).foldl fun r _ u => applyRepair_rewrites u r

end

/-! The phases' grouping (R106, R118). -/

theorem regroup_rewrites (s : State) : Rewrites [0x10, 0x11] [] s s.regroup := by
  have hrail {k a lo w d : Nat} (hk : k < 8) (ha : a < 0x100) (hlo : lo < 16) :
      (⟨0x11000 + a + 0x100 * k, lo, w, d⟩ : Fld).within [0x10, 0x11] [] := by
    left
    simp only [Fld.key, List.mem_cons, List.not_mem_nil, or_false]
    omega
  have hphase {n lo w d : Nat} (hn : n < 16) (hlo : lo < 16) : (⟨0x10000 + 0x100 * n, lo, w, d⟩ : Fld).within [0x10, 0x11] [] := by
    left
    simp only [Fld.key, List.mem_cons, List.not_mem_nil, or_false]
    omega
  have hservice (k : Nat) (hk : k < 8) (t : State) :
      Rewrites [0x10, 0x11] [] t ((t.setF (Reg.RAIL_STAT2_n_service k) (t.servicePhases k).length).setRegime k) :=
    ((Rewrites.refl _ _ t).setF _ (hrail (a := 0x58) hk (by omega) (by omega))).setF _ (hrail (a := 0x54) hk (by omega) (by omega))
  unfold State.regroup
  refine ((Rewrites.refl _ _ s).each fun n hn t => ?_).each fun k hk t => ?_
  · have hn := List.mem_range.mp hn
    split
    all_goals
      refine (Rewrites.refl _ _ t).setMany fun p hp => ?_
      simp only [List.mem_cons, List.not_mem_nil, or_false] at hp
      rcases hp with rfl | rfl
      · exact hphase hn (by omega)
      · exact hphase hn (by omega)
  · have hk := List.mem_range.mp hk
    exact .ite (.refl _ _ t) (.ite (hservice k hk t) ((hservice k hk t).setB _ (hrail (a := 0x3C) hk (by omega) (by omega))))

/-! The history (R462). -/

theorem loadHistory_rewrites (s : State) : Rewrites mapBlocks [] s s.loadHistory := by
  unfold State.loadHistory
  extract_lets loaded
  have hloaded : Rewrites mapBlocks [] s loaded := by
    unfold loaded
    split
    · refine (Rewrites.refl _ _ s).setMany fun p hp => ?_
      simp only [List.mem_append, List.mem_cons, List.not_mem_nil, or_false, List.mem_map, List.mem_range] at hp
      rcases hp with (rfl | rfl | rfl | rfl) | ⟨d, hd, rfl⟩
      all_goals exact within_age (by omega) (by omega) (by omega)
    · exact .refl _ _ s
  clear_value loaded
  split
  · exact hloaded.setF _ (by decide)
  · exact hloaded

end Sys2Proof.Machine
end

section
/-!
PROOFS. The strap and the fuse read (R54, R407-R410).
-/

namespace Sys2Proof.Machine

/-! The strap (R54). -/

/-- The windows of two indices meet only at their ends. -/
theorem strapOf_eq {i mv : Nat} (hi : i < 16) (hlo : 120 * i < mv + 60) (hhi : mv < 120 * i + 60) : strapOf mv = i := by
  have hfind : (List.range 16).find? (fun j => decide (120 * j ≤ mv + 60) && decide (mv ≤ 120 * j + 60)) = some i := by
    refine List.find?_range_eq_some.mpr ⟨?_, List.mem_range.mpr hi, fun j hj => ?_⟩
    · simp
      omega
    · simp
      omega
  unfold strapOf
  rw [hfind]

theorem exec_addrStrapRead {s : State} {mv : Nat} (hv : s.sys.vkeep = true) (hstrap : s.sys.strap = none) :
    exec (.addrStrapRead mv) s = .next ((s.updSys fun y => { y with strap := some (strapOf mv) }).setMany
      [(Reg.SB_ADDR_index, strapOf mv), (Reg.SB_ADDR_src, 0)]) := by
  have hexec : exec (.addrStrapRead mv) s = execAddrStrapRead mv s := rfl
  rw [hexec, execAddrStrapRead, if_pos (by simp [hv, hstrap])]

theorem addrStrapRead_index {i mv : Nat} {s : State} (hi : i < 16) (hlo : 120 * i < mv + 60) (hhi : mv < 120 * i + 60)
    (hw : Cells.wf s.fields = true) (hv : s.sys.vkeep = true) (hstrap : s.sys.strap = none) :
    Completes (.addrStrapRead mv) s fun t => t.sys.strap = some i ∧ t.getF Reg.SB_ADDR_index = i ∧ t.getF Reg.SB_ADDR_src = 0
      ∧ Frame [Reg.SB_ADDR_index, Reg.SB_ADDR_src] s t := by
  have hexec := exec_addrStrapRead (mv := mv) hv hstrap
  rw [strapOf_eq hi hlo hhi] at hexec
  have hacts : Acts [Reg.SB_ADDR_index, Reg.SB_ADDR_src] (s.updSys fun y => { y with strap := some i })
      ((s.updSys fun y => { y with strap := some i }).setMany [(Reg.SB_ADDR_index, i), (Reg.SB_ADDR_src, 0)]) :=
    (Acts.refl _ _).setMany (by simp)
  have hd : ([Reg.SB_ADDR_index, Reg.SB_ADDR_src].map Fld.key).Nodup := by decide
  have hread {p : Fld × Nat} (hp : p ∈ [(Reg.SB_ADDR_index, i), (Reg.SB_ADDR_src, 0)]) :=
    getF_setMany_mem (l := [(Reg.SB_ADDR_index, i), (Reg.SB_ADDR_src, 0)]) (s := s.updSys fun y => { y with strap := some i }) hw hd hp
  refine ⟨_, hexec, congrArg Sys.strap hacts.only.sys, ?_, hread (p := (Reg.SB_ADDR_src, 0)) (by simp), hacts.kept,
    hacts.only.storesKept, fun a => by rw [hacts.win]; rfl, hacts.logNext⟩
  exact (hread (p := (Reg.SB_ADDR_index, i)) List.mem_cons_self).trans (Nat.mod_eq_of_lt (by show i < 64; omega))

/-! The fuse-integrity hold (R409). -/

/-- A bad critical word lies in region 2 or 3, of 64 words each (R404). -/
theorem critical_key {bad : List Nat} {k : Nat} (hk : (badKeys bad 2 ++ badKeys bad 3).head? = some k) :
    2 ≤ k / 256 ∧ k / 256 ≤ 3 ∧ k % 256 < 64 := by
  have hmem : k ∈ badKeys bad 2 ++ badKeys bad 3 := List.mem_of_mem_head? hk
  simp only [badKeys, otpWords, List.mem_append, List.mem_map, List.mem_filter, List.mem_range] at hmem
  rcases hmem with ⟨i, ⟨hi, -⟩, rfl⟩ | ⟨i, ⟨hi, -⟩, rfl⟩
  · omega
  · omega

/-- The hold and its word are recorded, with FAULT_N low. -/
def State.holdRecorded (s : State) (key : Nat) : State :=
  s.setMany [(Reg.OTP_HOLD_valid, 1), (Reg.OTP_HOLD_region, key / 256 - 2), (Reg.OTP_HOLD_word, key % 256), (Reg.FLT_PIN_pin, 1)]

def State.holdStands (s : State) (key : Nat) : State := (s.holdRecorded key).updSys fun y => { y with fuseHold := true }

theorem enterHold_eq (s : State) (key : Nat) : s.enterHold key = (s.holdStands key).allStop := rfl

def holdFields : List Fld := [Reg.OTP_HOLD_valid, Reg.OTP_HOLD_region, Reg.OTP_HOLD_word, Reg.FLT_PIN_pin]

theorem holdRecorded_acts (s : State) (key : Nat) : Acts holdFields s (s.holdRecorded key) :=
  (Acts.refl _ s).setMany (by simp [holdFields])

theorem holdRecorded_getF {s : State} (hw : Cells.wf s.fields = true) (key : Nat) {p : Fld × Nat}
    (hp : p ∈ [(Reg.OTP_HOLD_valid, 1), (Reg.OTP_HOLD_region, key / 256 - 2), (Reg.OTP_HOLD_word, key % 256), (Reg.FLT_PIN_pin, 1)]) :
    (s.holdRecorded key).getF p.1 = p.2 % 2 ^ p.1.w := by
  have hd : (holdFields.map Fld.key).Nodup := by decide
  exact getF_setMany_mem (l := [(Reg.OTP_HOLD_valid, 1), (Reg.OTP_HOLD_region, key / 256 - 2), (Reg.OTP_HOLD_word, key % 256),
    (Reg.FLT_PIN_pin, 1)]) hw hd hp

/-- Outside what the stop changes, a register holds what the hold recorded. -/
theorem enterHold_getF (s : State) (key : Nat) {f : Fld} (hf : ¬f.within stopBlocks stopMarks) :
    (s.enterHold key).getF f = (s.holdRecorded key).getF f := (allStop_roams (s.holdStands key)).getF hf

theorem exec_fuseReadComplete_bad {r : FuseRead} {s : State} {k : Nat} (hr : r.wf = true) (hlive : s.live = true)
    (hstage : s.sys.stage = .fuses) (hst : s.st = stBOOT) (hk : (badKeys r.bad 2 ++ badKeys r.bad 3).head? = some k) :
    exec (.fuseReadComplete r) s = .next (s.enterHold k) := by
  have hexec : exec (.fuseReadComplete r) s = execFuseReadComplete r s := rfl
  rw [hexec, execFuseReadComplete, if_neg (by simp [hr]), if_pos (by simp [hlive, hstage, hst]), hk]

theorem fuseReadComplete_holds {r : FuseRead} {s : State} {k : Nat} (hr : r.wf = true) (hw : Cells.wf s.fields = true)
    (hlive : s.live = true) (hstage : s.sys.stage = .fuses) (hst : s.st = stBOOT)
    (hk : (badKeys r.bad 2 ++ badKeys r.bad 3).head? = some k) :
    Completes (.fuseReadComplete r) s fun t => t.sys.fuseHold = true ∧ t.sys.stage = .fuses ∧ t.bit Reg.OTP_HOLD_valid = true
      ∧ t.getF Reg.OTP_HOLD_region = k / 256 - 2 ∧ t.getF Reg.OTP_HOLD_word = k % 256 ∧ t.bit Reg.FLT_PIN_pin = true
      ∧ (∀ k < 8, t.railState k = rOFF ∨ t.railState k = rLOCKED) ∧ t.bit Reg.PATH_STAT_isw_closed = false
      ∧ FrameWide stopBlocks ([Reg.OTP_HOLD_valid, Reg.OTP_HOLD_region, Reg.OTP_HOLD_word, Reg.FLT_PIN_pin, Reg.HOST_INT_STAT_chg,
          Reg.SYS_RUN_STAT_ibex] ++ stateFields) s t := by
  obtain ⟨hregion, hregion', hword⟩ := critical_key hk
  have hrecorded := holdRecorded_acts s k
  have hstop : Roams stopBlocks stopMarks (s.holdStands k) (s.enterHold k) := by
    rw [enterHold_eq]
    exact allStop_roams _
  have hstands : Cells.wf (s.holdStands k).fields = true := hrecorded.wf hw
  have hrails (j : Nat) (hj : j < 8) : (s.enterHold k).railIsOff j := allStop_railIsOff hstands hj
  have hisw : (s.enterHold k).bit Reg.PATH_STAT_isw_closed = false := allStop_iswClosed hstands
  have hsys : (s.enterHold k).sys = { s.sys with fuseHold := true } := by
    rw [hstop.sys, State.holdStands, updSys_sys, hrecorded.only.sys]
  have hbit {f : Fld} (hf : ¬f.within stopBlocks stopMarks) (hrec : (s.holdRecorded k).getF f = 1) : (s.enterHold k).bit f = true := by
    unfold State.bit
    rw [enterHold_getF s k hf, hrec]
    rfl
  refine ⟨s.enterHold k, exec_fuseReadComplete_bad hr hlive hstage hst hk, by rw [hsys], by rw [hsys]; exact hstage, ?_, ?_, ?_, ?_,
    hrails, hisw, ?_⟩
  · exact hbit (by decide) (holdRecorded_getF hw k (p := (Reg.OTP_HOLD_valid, 1)) (by simp))
  · rw [enterHold_getF s k (by decide), holdRecorded_getF hw k (p := (Reg.OTP_HOLD_region, k / 256 - 2)) (by simp)]
    exact Nat.mod_eq_of_lt (by show _ < 2; omega)
  · rw [enterHold_getF s k (by decide), holdRecorded_getF hw k (p := (Reg.OTP_HOLD_word, k % 256)) (by simp)]
    exact Nat.mod_eq_of_lt (by show _ < 64; omega)
  · exact hbit (by decide) (holdRecorded_getF hw k (p := (Reg.FLT_PIN_pin, 1)) (by simp))
  · have hfirst : FrameWide stopBlocks (holdFields ++ stopMarks) s (s.holdRecorded k) :=
      (hrecorded.roams (bs := stopBlocks) (l := holdFields ++ stopMarks) (by decide)).frameWide
    obtain ⟨hkept, hstores, hlog⟩ := hfirst
    obtain ⟨hkept', hstores', hlog'⟩ := (hstop.mono (m := holdFields ++ stopMarks) (List.Subset.refl _) (by decide)).frameWide
    exact ⟨hkept.trans hkept', hstores.trans hstores', hlog.trans hlog'⟩

/-! A clean read (R410, R417, R429, R63). -/

/-- The critical regions are latched and no word is invalid. -/
def State.fusesLatched (s : State) : State := s.latchFuses.updOtp fun o => { o with invalid := [], fresh := [] }

/-- The OTP registers that a clean read writes. -/
def otpReadFields : List Fld := [Reg.OTP_STAT_inval, Reg.OTP_STAT_pend_crit, Reg.OTP_CORR_count, Reg.OTP_REPAIR_used]

def State.readClean (s : State) (corrected : Nat) : State :=
  s.fusesLatched.setMany [(Reg.OTP_STAT_inval, 0), (Reg.OTP_STAT_pend_crit, 0), (Reg.OTP_CORR_count, min 255 corrected),
    (Reg.OTP_REPAIR_used, ((List.range 32).filter fun i => s.fusesLatched.fuse 7 i != 0).length)]

/-- The active slot is to be verified, and the herd's presence decided. -/
def State.slotPicked (s : State) : State := s.updSys fun y => { y with stage := .verify s.selector.active false }

def State.herdDecided (s : State) (lowA lowB : Bool) : State :=
  s.updSys fun y => { y with herd := some (s.sys.herd.getD (!lowA, !lowB)) }

def State.readDecided (s : State) (r : FuseRead) : State := (s.readClean r.corrected).slotPicked.herdPresence r.herdALow r.herdBLow

/-- The rest of the ROM's first work, where no cause stands. -/
def State.mapsLoaded (s : State) : State :=
  ((s.loadHistory.loadRepair.each (List.range 16) fun n t => t.countTines n).regroup).batfet

def mapMarks : List Fld := [Reg.PATH_STAT_bf_mode]

theorem sramMarch_nil (s : State) : Rewrites mapBlocks [] s (s.sramMarch []) := by
  refine (Rewrites.refl _ _ s).each fun b hb t => ?_
  have hb := List.mem_range.mp hb
  refine (Rewrites.refl _ _ t).setMany fun p hp => ?_
  simp only [List.mem_cons, List.not_mem_nil, or_false] at hp
  rcases hp with rfl | rfl
  all_goals exact within_age (by omega) (by omega) (by omega)

theorem mapsLoaded_rewrites (s : State) : Rewrites [9, 0x10, 0x11] mapMarks s s.mapsLoaded := by
  have hmaps : Rewrites mapBlocks [] s (s.loadHistory.loadRepair.each (List.range 16) fun n t => t.countTines n) :=
    ((loadHistory_rewrites s).trans (loadRepair_rewrites _)).each fun n hn t => countTines_rewrites (List.mem_range.mp hn) t
  exact ((hmaps.mono (by decide) (by simp)).trans ((regroup_rewrites _).mono (by decide) (by simp))).setF _ (by decide)

section
variable {s : State} {r : FuseRead}

theorem readClean_rewrites (s : State) (c : Nat) : Rewrites [8] [] s.fusesLatched (s.readClean c) := by
  have hblock : ∀ f ∈ otpReadFields, f.within [8] [] := by decide
  refine (Rewrites.refl _ _ _).setMany fun p hp => hblock _ ?_
  simp only [List.mem_cons, List.not_mem_nil, or_false] at hp
  rcases hp with rfl | rfl | rfl | rfl <;> simp [otpReadFields]

theorem readClean_selector (s : State) (c : Nat) : (s.readClean c).selector = s.selector := by
  unfold State.selector
  rw [(readClean_rewrites s c).nv]
  rfl

theorem pickSlot_active (htrial : s.selector.trial = false) : s.pickSlot = s.slotPicked := by
  simp [State.pickSlot, State.slotPicked, htrial]

def herdMarks : List Fld := [Reg.SB_HERD_STAT_pres_a, Reg.SB_HERD_STAT_pres_b]

theorem herdPresence_rewrites (s : State) (lowA lowB : Bool) :
    Rewrites [] herdMarks (s.herdDecided lowA lowB) (s.herdPresence lowA lowB) := by
  refine (Rewrites.refl _ _ _).setMany fun p hp => .inr ?_
  simp only [List.mem_cons, List.not_mem_nil, or_false] at hp
  rcases hp with rfl | rfl <;> simp [herdMarks]

theorem readDecided_rewrites (s : State) (r : FuseRead) :
    Rewrites [] herdMarks ((s.readClean r.corrected).slotPicked.herdDecided r.herdALow r.herdBLow) (s.readDecided r) :=
  herdPresence_rewrites _ _ _

/-- Before the march, beside fuses and boot state, OTP's registers and the herd's presence change. -/
theorem readDecided_kept (s : State) (r : FuseRead) : KeptBut [8] herdMarks s (s.readDecided r) := by
  have hclean : KeptBut [8] herdMarks s (s.readClean r.corrected) :=
    ((readClean_rewrites s r.corrected).mono (List.Subset.refl _) (by simp)).kept
  have hherd : KeptBut [8] herdMarks (s.readClean r.corrected) (s.readDecided r) :=
    ((readDecided_rewrites s r).mono (List.nil_subset _) (by decide)).kept
  exact hclean.trans hherd

theorem readDecided_path (s : State) (r : FuseRead) : (s.readDecided r).path = s.path :=
  (readDecided_rewrites s r).path.trans (readClean_rewrites s r.corrected).path

theorem readDecided_clk (s : State) (r : FuseRead) : (s.readDecided r).clk = s.clk :=
  (readDecided_rewrites s r).clk.trans (readClean_rewrites s r.corrected).clk

theorem romStart_clean (hbad : r.bad = []) (hsram : r.sram = []) (htrial : s.selector.trial = false)
    (hheld : s.sys.heldBefore = false) (hopening : s.path.opening = [])
    (hxtal : (s.bit Reg.CLK_STAT_xtal_seen && !s.clk.xtalRuns) = false) :
    s.romStart r = ((s.readDecided r).sramMarch []).mapsLoaded := by
  have hmarch := sramMarch_nil (s.readDecided r)
  unfold State.romStart
  extract_lets inv regions latched written held marched raised opened ready
  have hinv : inv = fun _ => [] := by
    funext x
    simp [inv, hbad, badKeys_nil]
  have hregions : regions = [] := by simp [regions, hinv]
  have hwritten : written = s.readClean r.corrected := by
    simp only [written, latched, hregions, hinv]
    rfl
  have hclean := readClean_rewrites s r.corrected
  have hheld' : held = written := if_neg (by
    have hsys : written.sys.heldBefore = s.sys.heldBefore := by
      rw [hwritten, hclean.sys]
      rfl
    simp [hsys, hheld])
  have hpicked : held.pickSlot = (s.readClean r.corrected).slotPicked := by
    rw [hheld', hwritten]
    exact pickSlot_active (by rw [readClean_selector, htrial])
  have hmarched : marched = (s.readDecided r).sramMarch [] := by
    simp only [marched, hpicked, hsram]
    rfl
  have hraised : raised = marched := by
    simp only [raised, hregions]
    rfl
  have hopened : opened = marched := by
    have hpath : marched.path.opening = [] := by rw [hmarched, hmarch.path, readDecided_path, hopening]
    simp only [opened, hraised, hpath]
    rfl
  have hseen : (opened.bit Reg.CLK_STAT_xtal_seen && !opened.clk.xtalRuns) = false := by
    have hbit : (s.readDecided r).bit Reg.CLK_STAT_xtal_seen = s.bit Reg.CLK_STAT_xtal_seen := by
      unfold State.bit
      rw [readDecided_kept s r Reg.CLK_STAT_xtal_seen (by decide) (by decide)]
    rw [hopened, hmarched, hmarch.clk, hmarch.bit (by decide), readDecided_clk, hbit, hxtal]
  have hready : ready = opened := if_neg (by simp [hseen])
  rw [hready, hopened, hmarched]
  rfl

/-- What a clean read decides beside registers: the slot and the herd's presence. -/
theorem readDecided_sys (s : State) (r : FuseRead) : (s.readDecided r).sys =
    { s.sys with stage := .verify s.selector.active false, herd := some (s.sys.herd.getD (!r.herdALow, !r.herdBLow)) } := by
  rw [(readDecided_rewrites s r).sys]
  simp only [State.herdDecided, State.slotPicked, updSys_sys, readClean_selector, (readClean_rewrites s r.corrected).sys]
  rfl

theorem readDecided_otp (s : State) (r : FuseRead) : (s.readDecided r).otp = s.fusesLatched.otp :=
  (readDecided_rewrites s r).otp.trans (readClean_rewrites s r.corrected).otp

theorem readDecided_storesKept (s : State) (r : FuseRead) : StoresKept s (s.readDecided r) := by
  have hclean : StoresKept s (s.readClean r.corrected) := (readClean_rewrites s r.corrected).storesKept
  exact hclean.trans (readDecided_rewrites s r).storesKept

theorem readDecided_logGrows (s : State) (r : FuseRead) : LogGrows s (s.readDecided r) := by
  have hclean : LogGrows s (s.readClean r.corrected) := (readClean_rewrites s r.corrected).logGrows
  exact hclean.trans (readDecided_rewrites s r).logGrows

/-- What the OTP registers show after a clean read. -/
theorem readDecided_getF (hw : Cells.wf s.fields = true) {p : Fld × Nat} (hp : p ∈ [(Reg.OTP_STAT_inval, 0), (Reg.OTP_STAT_pend_crit, 0),
    (Reg.OTP_CORR_count, min 255 r.corrected)]) : (s.readDecided r).getF p.1 = p.2 % 2 ^ p.1.w := by
  have hd : (otpReadFields.map Fld.key).Nodup := by decide
  have hclean : (s.readClean r.corrected).getF p.1 = p.2 % 2 ^ p.1.w :=
    getF_setMany_mem (l := [(Reg.OTP_STAT_inval, 0), (Reg.OTP_STAT_pend_crit, 0), (Reg.OTP_CORR_count, min 255 r.corrected),
      (Reg.OTP_REPAIR_used, ((List.range 32).filter fun i => s.fusesLatched.fuse 7 i != 0).length)]) (s := s.fusesLatched) hw hd
      (by simp only [List.mem_cons, List.not_mem_nil, or_false] at hp ⊢; tauto)
  have hother : ¬p.1.within [] herdMarks := by
    simp only [List.mem_cons, List.not_mem_nil, or_false] at hp
    rcases hp with rfl | rfl | rfl
    · exact (by decide : ¬Reg.OTP_STAT_inval.within [] herdMarks)
    · exact (by decide : ¬Reg.OTP_STAT_pend_crit.within [] herdMarks)
    · exact (by decide : ¬Reg.OTP_CORR_count.within [] herdMarks)
  exact ((readDecided_rewrites s r).getF hother).trans hclean

/-- After the march and the maps. -/
theorem readLoaded_rewrites (s : State) : Rewrites [9, 0x10, 0x11] mapMarks s (s.sramMarch []).mapsLoaded :=
  ((sramMarch_nil s).mono (by decide) (by simp)).trans (mapsLoaded_rewrites _)

theorem exec_fuseReadComplete_clean (hr : r.wf = true) (hlive : s.live = true) (hstage : s.sys.stage = .fuses) (hst : s.st = stBOOT)
    (hbad : r.bad = []) : exec (.fuseReadComplete r) s = (s.romStart r).done := by
  have hexec : exec (.fuseReadComplete r) s = execFuseReadComplete r s := rfl
  have hnone : (badKeys r.bad 2 ++ badKeys r.bad 3).head? = none := by simp [hbad, badKeys_nil]
  rw [hexec, execFuseReadComplete, if_neg (by simp [hr]), if_pos (by simp [hlive, hstage, hst]), hnone]

end

theorem fuseReadComplete_starts {r : FuseRead} {s : State} (hbad : r.bad = []) (hsram : r.sram = []) (hs : s.ready)
    (hlive : s.live = true) (hstage : s.sys.stage = .fuses) (hst : s.st = stBOOT) (htrial : s.selector.trial = false)
    (hheld : s.sys.heldBefore = false) (hopening : s.path.opening = [])
    (hxtal : (s.bit Reg.CLK_STAT_xtal_seen && !s.clk.xtalRuns) = false) :
    Completes (.fuseReadComplete r) s fun t => t.sys.stage = .verify s.selector.active false ∧ t.sys.fuseHold = false
      ∧ t.otp.latch = s.otp.words.filter (fun p => p.1 / 256 = 2 || p.1 / 256 = 3) ∧ t.getF Reg.OTP_STAT_inval = 0
      ∧ t.getF Reg.OTP_CORR_count = min 255 r.corrected
      ∧ t.sys.herd = some (s.sys.herd.getD (!r.herdALow, !r.herdBLow))
      ∧ FrameWide [8, 9, 0x10, 0x11] [Reg.FLT_PIN_pin, Reg.SB_HERD_STAT_pres_a, Reg.SB_HERD_STAT_pres_b, Reg.PATH_STAT_bf_mode] s t := by
  obtain ⟨⟨hw, -⟩, hevs, hdeferred, htests⟩ := hs
  have hwf : r.wf = true := by simp [FuseRead.wf, hbad, hsram]
  have hclean := readClean_rewrites s r.corrected
  have hdecided := readDecided_rewrites s r
  have hloaded := readLoaded_rewrites (s.readDecided r)
  have hkept := readDecided_kept s r
  have hquiet : ((s.readDecided r).sramMarch []).mapsLoaded.quiet := by
    refine ⟨?_, ?_, ?_⟩
    · rw [hloaded.flt, hdecided.flt]
      exact (congrArg Flt.evs hclean.flt).trans hevs
    · rw [hloaded.bit (by decide)]
      unfold State.bit
      rw [hkept _ (by decide) (by decide)]
      exact hdeferred
    · rw [hloaded.age, hdecided.age]
      exact (congrArg AgeSt.live hclean.age).trans htests
  have hexec := exec_fuseReadComplete_clean hwf hlive hstage hst hbad
  rw [romStart_clean hbad hsram htrial hheld hopening hxtal, done_quiet _ hquiet] at hexec
  have hfuseHold : s.sys.fuseHold = false := by
    unfold State.live at hlive
    simp_all
  refine ⟨_, hexec, ?_, ?_, ?_, ?_, ?_, ?_, ?_, ?_, ?_⟩
  · rw [hloaded.sys, readDecided_sys]
  · rw [hloaded.sys, readDecided_sys]
    exact hfuseHold
  · rw [hloaded.otp, readDecided_otp]
    rfl
  · rw [hloaded.getF (by decide)]
    exact readDecided_getF hw (p := (Reg.OTP_STAT_inval, 0)) (by simp)
  · rw [hloaded.getF (by decide)]
    exact (readDecided_getF hw (p := (Reg.OTP_CORR_count, min 255 r.corrected)) (by simp)).trans
      (Nat.mod_eq_of_lt (by show _ < 256; omega))
  · rw [hloaded.sys, readDecided_sys]
  · exact (hkept.mono (by decide) (by decide)).trans (hloaded.mono (by decide) (by decide)).kept
  · exact (readDecided_storesKept s r).trans hloaded.storesKept
  · exact (readDecided_logGrows s r).trans hloaded.logGrows

/-- Settles O11: by cases of the strap's index, of a bad critical word and of a clean read. -/
theorem bootReads : Obligations.BootReads :=
  ⟨fun _ _ _ hi hlo hhi hw hv hstrap => addrStrapRead_index hi hlo hhi hw hv hstrap,
    fun _ _ _ hr hw hlive hstage hst hk => fuseReadComplete_holds hr hw hlive hstage hst hk,
    fun _ _ hbad hsram hs hlive hstage hst htrial hheld hopening hxtal =>
      fuseReadComplete_starts hbad hsram hs hlive hstage hst htrial hheld hopening hxtal⟩

end Sys2Proof.Machine
end

section
/-!
PROOFS. Canonical states: the staging file, the canonical state as a structure, and how it passes choices, folds, outcomes and
changes of single parts.
-/

namespace Sys2Proof.Machine

/-! The staging file. -/

theorem Staged.wf_iff_isChain (l : List (Fld × Nat)) : Staged.wf l = true ↔ l.IsChain fun p q => p.1.key < q.1.key := by
  induction l using Staged.wf.induct with
  | case1 => simp [Staged.wf]
  | case2 => simp [Staged.wf]
  | case3 f v g w r ih => simp [Staged.wf, ih]

theorem Staged.wf_iff_pairwise (l : List (Fld × Nat)) : Staged.wf l = true ↔ l.Pairwise fun p q => p.1.key < q.1.key := by
  have : IsTrans (Fld × Nat) fun p q => p.1.key < q.1.key := ⟨fun _ _ _ => Nat.lt_trans⟩
  rw [Staged.wf_iff_isChain, List.isChain_iff_pairwise]

theorem Staged.wf_filter {l : List (Fld × Nat)} (h : Staged.wf l = true) (p : Fld × Nat → Bool) : Staged.wf (l.filter p) = true :=
  (Staged.wf_iff_pairwise _).mpr (((Staged.wf_iff_pairwise l).mp h).filter p)

/-- What stands in the staging file after a store: the stored value, or what stood there. -/
theorem mem_stageSet {f : Fld} {v : Nat} {p : Fld × Nat} {l : List (Fld × Nat)} (h : p ∈ stageSet f v l) : p = (f, v) ∨ p ∈ l := by
  induction l with
  | nil => simpa [stageSet] using h
  | cons q r ih =>
    unfold stageSet at h
    split at h
    · rcases List.mem_cons.mp h with rfl | hr
      · exact .inr List.mem_cons_self
      · exact (ih hr).imp_right (List.mem_cons_of_mem _)
    · split at h
      · exact (List.mem_cons.mp h).imp_right (List.mem_cons_of_mem _)
      · exact List.mem_cons.mp h

theorem stageSet_wf (f : Fld) (v : Nat) {l : List (Fld × Nat)} (h : Staged.wf l = true) : Staged.wf (stageSet f v l) = true := by
  rw [Staged.wf_iff_pairwise] at *
  induction l with
  | nil => exact List.pairwise_singleton _ _
  | cons q r ih =>
    obtain ⟨hq, hr⟩ := List.pairwise_cons.mp h
    unfold stageSet
    split
    next hlt =>
      refine List.pairwise_cons.mpr ⟨fun p hp => ?_, ih hr⟩
      rcases mem_stageSet hp with rfl | hp
      · exact hlt
      · exact hq p hp
    next hge =>
      split
      next heq => exact List.pairwise_cons.mpr ⟨fun p hp => heq ▸ hq p hp, hr⟩
      next hne =>
        have hlt : f.key < q.1.key := by omega
        refine List.pairwise_cons.mpr ⟨fun p hp => ?_, h⟩
        rcases List.mem_cons.mp hp with rfl | hp
        · exact hlt
        · exact hlt.trans (hq p hp)

/-! Canonical states. -/

/-- `State.canonical` as a structure: the rules below are found by the operation that a state ends with, and unification does not
look through the state for its seven files. -/
structure State.Tidy (s : State) : Prop where
  fields : Cells.wf s.fields = true
  words : Cells.wf s.otp.words = true
  latch : Cells.wf s.otp.latch = true
  win : Memory.wf s.win = true
  sbBuf : Memory.wf s.sbBuf = true
  mram : Memory.wf s.mram = true
  staged : Staged.wf s.staged = true

theorem State.tidy_iff (s : State) : s.Tidy ↔ s.canonical :=
  ⟨fun ⟨hf, hw, hl, hwin, hbuf, hmram, hstaged⟩ => ⟨hf, hw, hl, hwin, hbuf, hmram, hstaged⟩,
    fun ⟨hf, hw, hl, hwin, hbuf, hmram, hstaged⟩ => ⟨hf, hw, hl, hwin, hbuf, hmram, hstaged⟩⟩

/-- Whatever next state the outcome answers is canonical. -/
structure Out.Tidy (o : Out State) : Prop where
  next_tidy : ∀ t, o = .next t → t.Tidy

section
variable {s : State}

/-! Choices, folds and outcomes. -/

theorem State.Tidy.ite {c : Prop} [Decidable c] {a b : State} (ha : a.Tidy) (hb : b.Tidy) : (if c then a else b).Tidy := by
  split <;> assumption

theorem State.Tidy.ite_fst {α : Type} {c : Prop} [Decidable c] {a b : State × α} (ha : a.1.Tidy) (hb : b.1.Tidy) :
    (if c then a else b).1.Tidy := by
  split <;> assumption

theorem State.Tidy.foldl {α : Type} {g : State → α → State} {l : List α} (h : s.Tidy) (hg : ∀ t x, t.Tidy → (g t x).Tidy) :
    (l.foldl g s).Tidy := by
  induction l generalizing s with
  | nil => exact h
  | cons x l ih => exact ih (hg s x h)

theorem State.Tidy.foldl_fst {α β : Type} {g : State × β → α → State × β} {l : List α} {p : State × β} (h : p.1.Tidy)
    (hg : ∀ q x, q.1.Tidy → (g q x).1.Tidy) : (l.foldl g p).1.Tidy := by
  induction l generalizing p with
  | nil => exact h
  | cons x l ih => exact ih (hg p x h)

/-- A pair's state, where the operation's own arguments are functions. -/
theorem State.Tidy.pair {α : Type} {x : α} (h : s.Tidy) : (s, x).1.Tidy := h

theorem Out.Tidy.next (h : s.Tidy) : Out.Tidy (.next s) where
  next_tidy := by
    rintro _ ⟨⟩
    exact h

theorem Out.Tidy.fault {f : Fault} : Out.Tidy (.fault f) where
  next_tidy := by rintro _ ⟨⟩

theorem Out.Tidy.ite {c : Prop} [Decidable c] {a b : Out State} (ha : Out.Tidy a) (hb : Out.Tidy b) :
    Out.Tidy (if c then a else b) := by
  split <;> assumption

/-! Changes of single parts. -/

/-- The sparse files and the staging file of a state. -/
def State.files (s : State) : Cells × Cells × Cells × Mem × Mem × Mem × List (Fld × Nat) :=
  (s.fields, s.otp.words, s.otp.latch, s.win, s.sbBuf, s.mram, s.staged)

/-- A change outside the files. -/
theorem State.Tidy.inner {t : State} (h : s.Tidy) (hf : t.files = s.files) : t.Tidy := by
  simp only [State.files, Prod.mk.injEq] at hf
  obtain ⟨hf, hw, hl, hwin, hbuf, hmram, hstaged⟩ := hf
  exact ⟨hf ▸ h.fields, hw ▸ h.words, hl ▸ h.latch, hwin ▸ h.win, hbuf ▸ h.sbBuf, hmram ▸ h.mram, hstaged ▸ h.staged⟩

theorem State.Tidy.putWin {a : Nat} {l : List Byte} (h : s.Tidy) : State.Tidy { s with win := memWrite a l s.win } :=
  { h with win := memWrite_wf _ _ _ h.win }

theorem State.Tidy.putSbBuf {a : Nat} {l : List Byte} (h : s.Tidy) : State.Tidy { s with sbBuf := memWrite a l s.sbBuf } :=
  { h with sbBuf := memWrite_wf _ _ _ h.sbBuf }

theorem State.Tidy.putMram {a : Nat} {l : List Byte} (h : s.Tidy) : State.Tidy { s with mram := memWrite a l s.mram } :=
  { h with mram := memWrite_wf _ _ _ h.mram }

/-- Some staged values are dropped. -/
theorem State.Tidy.unstage {p : Fld × Nat → Bool} (h : s.Tidy) : State.Tidy { s with staged := s.staged.filter p } :=
  { h with staged := Staged.wf_filter h.staged p }

end

end Sys2Proof.Machine
end

section
/-!
PROOFS. Canonical states: what the rows share keeps the canonical form, one rule for each operation in the order of the model's
files: fields, outputs, power, staging, the gauge, the responses of the mailboxes and the fault pipeline.
-/

namespace Sys2Proof.Machine

section
variable {s : State}

/-! Fields, parts of the state, the log and events. -/

theorem State.Tidy.setF {f : Fld} {v : Nat} (h : s.Tidy) : (s.setF f v).Tidy := { h with fields := setF_fields_wf s f v h.fields }
theorem State.Tidy.setB {f : Fld} {b : Bool} (h : s.Tidy) : (s.setB f b).Tidy := .setF h
theorem State.Tidy.setI {f : Fld} {i : Int} (h : s.Tidy) : (s.setI f i).Tidy := .setF h
theorem State.Tidy.count {f : Fld} (h : s.Tidy) : (s.count f).Tidy := .ite (.setF h) h

theorem State.Tidy.setBitOf {f : Fld} {i : Nat} {b : Bool} (h : s.Tidy) : (s.setBitOf f i b).Tidy :=
  .ite h (.ite (.setF h) (.setF h))

theorem State.Tidy.setMany {l : List (Fld × Nat)} (h : s.Tidy) : (s.setMany l).Tidy := .foldl h fun _ _ h => .setF h
theorem State.Tidy.updSys {g : Sys → Sys} (h : s.Tidy) : (s.updSys g).Tidy := .inner h rfl
theorem State.Tidy.updFlt {g : Flt → Flt} (h : s.Tidy) : (s.updFlt g).Tidy := .inner h rfl
theorem State.Tidy.updMbx {g : Mbx → Mbx} (h : s.Tidy) : (s.updMbx g).Tidy := .inner h rfl
theorem State.Tidy.updSeq {g : SeqSt → SeqSt} (h : s.Tidy) : (s.updSeq g).Tidy := .inner h rfl
theorem State.Tidy.updTel {g : Tel → Tel} (h : s.Tidy) : (s.updTel g).Tidy := .inner h rfl
theorem State.Tidy.updFe {g : FeSt → FeSt} (h : s.Tidy) : (s.updFe g).Tidy := .inner h rfl
theorem State.Tidy.updPath {g : PathSt → PathSt} (h : s.Tidy) : (s.updPath g).Tidy := .inner h rfl
theorem State.Tidy.updChg {g : ChgSt → ChgSt} (h : s.Tidy) : (s.updChg g).Tidy := .inner h rfl

/-- A change of the fuse state that leaves its words as they are. -/
theorem State.Tidy.updOtp {g : Otp → Otp} (h : s.Tidy) (hw : (g s.otp).words = s.otp.words)
    (hl : (g s.otp).latch = s.otp.latch) : (s.updOtp g).Tidy :=
  { h with words := (congrArg Cells.wf hw).trans h.words, latch := (congrArg Cells.wf hl).trans h.latch }

theorem State.Tidy.updRail {k : Nat} {g : RailSt → RailSt} (h : s.Tidy) : (s.updRail k g).Tidy := .inner h rfl
theorem State.Tidy.updLdo {n : Nat} {g : LdoSt → LdoSt} (h : s.Tidy) : (s.updLdo n g).Tidy := .inner h rfl
theorem State.Tidy.updMon {c : Nat} {g : MonSt → MonSt} (h : s.Tidy) : (s.updMon c g).Tidy := .inner h rfl

theorem State.Tidy.updAcc {a : Accessor} {g : AccSt → AccSt} (h : s.Tidy) : (s.updAcc a g).Tidy := by
  unfold State.updAcc
  split
  · exact .inner h rfl
  · exact .inner h rfl
  · exact .inner h rfl
  · exact .inner h rfl

theorem State.Tidy.each {l : List Nat} {g : Nat → State → State} (h : s.Tidy) (hg : ∀ x1 t, State.Tidy t → (g x1 t).Tidy) :
    (s.each l g).Tidy := .foldl h fun _ _ h => hg _ _ h

theorem State.Tidy.draw (h : s.Tidy) : s.draw.Tidy := .inner h rfl

theorem State.Tidy.logAt {time kind code : Nat} {data : List Byte} (h : s.Tidy) : (s.logAt time kind code data).Tidy :=
  { h with win := memWrite_wf _ _ _ h.win }

theorem State.Tidy.log {kind code : Nat} {data : List Byte} (h : s.Tidy) : (s.log kind code data).Tidy := .logAt h

theorem State.Tidy.request {b : Nat} (h : s.Tidy) : (s.request b).Tidy :=
  .ite h
    (have h₁ : State.Tidy _ := .setBitOf h
     .ite (.inner h₁ rfl) h₁)

theorem State.Tidy.setState {n : Nat} (h : s.Tidy) : (s.setState n).Tidy := .ite h (.log (.request (.setB (.setF (.setF h)))))
theorem State.Tidy.followPin (h : s.Tidy) : s.followPin.Tidy := .ite h (.setB h)
theorem State.Tidy.refresh (h : s.Tidy) : s.refresh.Tidy := .ite (.setState h) h
theorem State.Tidy.setRun {r : Bool} (h : s.Tidy) : (s.setRun r).Tidy := .refresh (.setB (.updSys h))
theorem State.Tidy.raise {e : Ev} (h : s.Tidy) : (s.raise e).Tidy := .ite (.updFlt h) h
theorem State.Tidy.raiseLasting {e : Ev} (h : s.Tidy) : (s.raiseLasting e).Tidy := .ite h (.updFlt h)
theorem State.Tidy.endCause {cls src cause : Nat} (h : s.Tidy) : (s.endCause cls src cause).Tidy := .updFlt h

/-! Commit words of firmware images. -/

theorem State.Tidy.uncommit {slot gauge : Bool} (h : s.Tidy) : (s.uncommit slot gauge).Tidy := .putMram h
theorem State.Tidy.uncommitSlot {slot : Bool} (h : s.Tidy) : (s.uncommitSlot slot).Tidy := .uncommit (.uncommit h)
theorem State.Tidy.commitArea {slot gauge : Bool} (h : s.Tidy) : (s.commitArea slot gauge).Tidy := .putMram h

/-! Rails, LDOs and ISO channels. -/

theorem State.Tidy.stepChatter {c : Nat} (h : s.Tidy) : (s.stepChatter c).Tidy := .ite (.updSeq h) h

theorem State.Tidy.pgFall {c : Nat} (h : s.Tidy) : (s.pgFall c).Tidy :=
  .ite (.stepChatter (.updMon (.count (.setB h)))) (.updMon h)

theorem State.Tidy.disarmLo {c : Nat} (h : s.Tidy) : (s.disarmLo c).Tidy := .updMon (.endCause (.endCause h))
theorem State.Tidy.disarmHi {c : Nat} (h : s.Tidy) : (s.disarmHi c).Tidy := .updMon (.endCause (.endCause h))
theorem State.Tidy.setSwitching {k m : Nat} (h : s.Tidy) : (s.setSwitching k m).Tidy := .each (.setF h) fun _ _ h => .setB h
theorem State.Tidy.setRegime {k : Nat} (h : s.Tidy) : (s.setRegime k).Tidy := .setF h
theorem State.Tidy.leaveDe {k : Nat} (h : s.Tidy) : (s.leaveDe k).Tidy := .each h fun _ _ h => .setB h

theorem State.Tidy.setRailState {k v : Nat} (h : s.Tidy) : (s.setRailState k v).Tidy :=
  have h₁ : State.Tidy _ := .setF h
  have h₂ : State.Tidy _ := .ite (.disarmLo (.pgFall h₁)) h₁
  .ite (.disarmHi h₂) h₂

theorem State.Tidy.railQuiet {k : Nat} (h : s.Tidy) : (s.railQuiet k).Tidy :=
  .updRail (.endCause (.setMany (.setSwitching (.leaveDe h))))

theorem State.Tidy.railToOff {k : Nat} (h : s.Tidy) : (s.railToOff k).Tidy := .updRail (.setRailState (.railQuiet h))
theorem State.Tidy.railLock {k : Nat} (h : s.Tidy) : (s.railLock k).Tidy := .setRailState (.railQuiet h)
theorem State.Tidy.railRelease {k : Nat} (h : s.Tidy) : (s.railRelease k).Tidy := .ite (.railToOff h) h
theorem State.Tidy.railRefuse {k : Nat} (h : s.Tidy) : (s.railRefuse k).Tidy := .raise (.railLock h)

theorem State.Tidy.railBegin {k : Nat} (h : s.Tidy) : (s.railBegin k).Tidy :=
  have h₁ : State.Tidy _ := .setMany (.setRailState h)
  .updRail (.ite (.setB h₁) h₁)

theorem State.Tidy.railStart {k : Nat} (h : s.Tidy) : (s.railStart k).Tidy :=
  .ite h
    (.ite (.updRail (.setRailState h))
       (.ite (.ite (.updRail h) (.ite (.railBegin (.setF h)) (.ite (.railRefuse h) (.updRail (.setB h))))) h))

theorem State.Tidy.endTest {n : Nat} (h : s.Tidy) : (s.endTest n).Tidy := by
  unfold State.endTest
  extract_lets age s₁
  have h₁ : s₁.Tidy := .setB (.inner h rfl)
  split
  · exact .ite (.railStart (.updRail h₁)) h₁
  · exact h₁

theorem State.Tidy.abandon {ps : List Nat} (h : s.Tidy) : (s.abandon ps).Tidy :=
  .each h fun _ _ h => .endTest (.ite (.setF h) h)

theorem State.Tidy.abandonTests {k : Nat} (h : s.Tidy) : (s.abandonTests k).Tidy := .abandon h

theorem State.Tidy.railStop {k : Nat} (h : s.Tidy) : (s.railStop k).Tidy :=
  have h₁ : State.Tidy _ := .ite (.abandonTests h) h
  .ite h₁
    (.ite (.updRail h₁)
       (.ite (.railToOff h₁)
          (.ite h₁ (.updRail (.setRailState (.endCause (.setMany (.setSwitching (.leaveDe (.updRail h₁))))))))))

theorem State.Tidy.railOn {k : Nat} (h : s.Tidy) : (s.railOn k).Tidy := .updRail (.setRailState (.setF h))

theorem State.Tidy.setLdoState {n v : Nat} (h : s.Tidy) : (s.setLdoState n v).Tidy :=
  have h₁ : State.Tidy _ := .setF h
  have h₂ : State.Tidy _ := .ite (.disarmLo (.pgFall h₁)) h₁
  .ite (.disarmHi h₂) h₂

theorem State.Tidy.ldoToOff {n : Nat} (h : s.Tidy) : (s.ldoToOff n).Tidy := .updLdo (.setMany (.setLdoState h))
theorem State.Tidy.ldoLock {n : Nat} (h : s.Tidy) : (s.ldoLock n).Tidy := .updLdo (.setMany (.setLdoState h))
theorem State.Tidy.ldoRelease {n : Nat} (h : s.Tidy) : (s.ldoRelease n).Tidy := .ite (.ldoToOff h) h
theorem State.Tidy.ldoStart {n : Nat} (h : s.Tidy) : (s.ldoStart n).Tidy := .ite h (.updLdo (.setLdoState h))
theorem State.Tidy.ldoStop {n : Nat} (h : s.Tidy) : (s.ldoStop n).Tidy := .ite h (.ldoToOff h)

theorem State.Tidy.setIsoState {n v : Nat} (h : s.Tidy) : (s.setIsoState n v).Tidy := by
  unfold State.setIsoState
  extract_lets s₁ q s₂
  have h₁ : s₁.Tidy := .setF h
  have h₂ : s₂.Tidy := .inner h₁ rfl
  split
  · exact h₂
  · exact
      have h₃ : State.Tidy _ := .ite h₂ (.endCause (.disarmLo h₂))
      .ite h₃ (.endCause (.endCause (.disarmHi h₃)))

theorem State.Tidy.isoRelease {n : Nat} (h : s.Tidy) : (s.isoRelease n).Tidy := .ite (.setIsoState h) h
theorem State.Tidy.isoStart {n : Nat} (h : s.Tidy) : (s.isoStart n).Tidy := .ite h (.setIsoState h)
theorem State.Tidy.isoStop {n : Nat} (h : s.Tidy) : (s.isoStop n).Tidy := .ite h (.setIsoState h)

theorem State.Tidy.regroup (h : s.Tidy) : s.regroup.Tidy :=
  .each (.each h fun _ _ h => by split <;> exact .setMany h) fun _ _ h =>
    .ite h
      (have h₁ : State.Tidy _ := .setRegime (.setF h)
       .ite h₁ (.setB h₁))

/-! The front end, the path and the charger. -/

theorem State.Tidy.batfet (h : s.Tidy) : s.batfet.Tidy := .setF h
theorem State.Tidy.retarget (h : s.Tidy) : s.retarget.Tidy := .setF (.setF h)
theorem State.Tidy.fePick (h : s.Tidy) : s.fePick.Tidy := .draw (.setF h)

theorem State.Tidy.feSlope (h : s.Tidy) : s.feSlope.Tidy := by
  unfold State.feSlope
  exact .updFe h

theorem State.Tidy.feSlopeMoved (h : s.Tidy) : s.feSlopeMoved.Tidy := .ite (.feSlope h) h

theorem State.Tidy.setChgPhase {p : Nat} (h : s.Tidy) : (s.setChgPhase p).Tidy :=
  .ite h
    (have h₁ : State.Tidy _ := .setMany h
     have h₂ : State.Tidy _ := .ite (.setB h₁) h₁
     have h₃ : State.Tidy _ := .retarget (.batfet (.ite h₂ (.updChg (.setB h₂))))
     .ite (.fePick h₃) h₃)

theorem State.Tidy.chgEval (h : s.Tidy) : s.chgEval.Tidy := .ite (.setChgPhase h) (.ite (.setChgPhase h) h)
theorem State.Tidy.chgStart (h : s.Tidy) : s.chgStart.Tidy := .ite (.chgEval (.setChgPhase h)) h
theorem State.Tidy.chgStop (h : s.Tidy) : s.chgStop.Tidy := .setChgPhase (.endCause h)
theorem State.Tidy.chgToFault (h : s.Tidy) : s.chgToFault.Tidy := .ite (.setChgPhase h) h

theorem State.Tidy.fePhases (h : s.Tidy) : s.fePhases.Tidy :=
  .ite h
    (have h₁ : State.Tidy _ := .setF h
     .ite h₁ (.setMany h₁))

theorem State.Tidy.setFe {v : Nat} (h : s.Tidy) : (s.setFe v).Tidy :=
  have h₁ : State.Tidy _ := .updFe (.setF h)
  have h₂ : State.Tidy _ := .ite h₁ (.updPath h₁)
  have h₃ : State.Tidy _ := .fePhases (.retarget (.ite (.endCause (.endCause (.setMany h₂))) (.fePick (.setMany h₂))))
  .chgEval (.ite h₃ (.feSlope h₃))

theorem State.Tidy.feTryStart (h : s.Tidy) : s.feTryStart.Tidy := .ite (.ite (.raise h) (.setFe (.setF h))) h
theorem State.Tidy.feRev (h : s.Tidy) : s.feRev.Tidy := .ite (.raise h) (.setFe (.setF h))
theorem State.Tidy.feStop (h : s.Tidy) : s.feStop.Tidy := .ite (.setFe h) h

theorem State.Tidy.reportOpening {x : IswCause} (h : s.Tidy) : (s.reportOpening x).Tidy := by
  unfold State.reportOpening
  split
  · exact .raiseLasting (.setB h)
  · exact .raiseLasting (.setB h)
  · exact h

theorem State.Tidy.pathLog {cause : Nat} (h : s.Tidy) : (s.pathLog cause).Tidy := .log h
theorem State.Tidy.setPath {m : Nat} (h : s.Tidy) : (s.setPath m).Tidy := .chgEval (.setF h)

theorem State.Tidy.openIsw (h : s.Tidy) : s.openIsw.Tidy :=
  have h₁ : State.Tidy _ := .updPath (.setB h)
  .ite (.setFe h₁) h₁

theorem State.Tidy.endIbex (h : s.Tidy) : s.endIbex.Tidy := .ite (.refresh (.updPath (.setB h))) h
theorem State.Tidy.orderClose (h : s.Tidy) : s.orderClose.Tidy := .ite (.updPath h) h
theorem State.Tidy.tryClose (h : s.Tidy) : s.tryClose.Tidy := .ite (.orderClose h) h
theorem State.Tidy.slewedClose (h : s.Tidy) : s.slewedClose.Tidy := .ite (.updPath h) h
theorem State.Tidy.tryReturn (h : s.Tidy) : s.tryReturn.Tidy := .ite (.updPath (.setPath h)) h

theorem State.Tidy.handover {cause : Nat} (h : s.Tidy) : (s.handover cause).Tidy :=
  have h₁ : State.Tidy _ := .openIsw (.pathLog (.count (.setPath (.setB h))))
  .ite (.ite (.updFe h₁) (.feRev h₁)) (.endIbex (.setB (.setPath (.ite (.setFe h₁) h₁))))

theorem State.Tidy.loss {cause : Nat} (h : s.Tidy) : (s.loss cause).Tidy :=
  .ite (.handover h)
    (.ite
       (.ite (.handover h)
          (have h₁ : State.Tidy _ := .setB (.setPath h)
           .ite (.feRev (.updPath h₁)) h₁))
       (.ite (.pathLog (.openIsw h)) h))

theorem State.Tidy.feLock {bits : List Fld} (h : s.Tidy) : (s.feLock bits).Tidy :=
  .ite h
    (have h₁ : State.Tidy _ := .updFe (.setFe h)
     .ite
       (have h₂ : State.Tidy _ := .ite (.setB h₁) h₁
        .tryClose (.endIbex (.updPath (.setPath (.ite (.pathLog (.openIsw h₂)) (.openIsw h₂))))))
       h₁)

theorem State.Tidy.pathOff {cause : Nat} (h : s.Tidy) : (s.pathOff cause).Tidy :=
  have h₁ : State.Tidy _ := .endIbex (.setPath (.openIsw h))
  .ite (.pathLog h₁) h₁

theorem State.Tidy.enOn {o : OutRef} (h : s.Tidy) : (s.enOn o).Tidy := by
  unfold State.enOn
  dsimp only
  exact
    have h₁ : State.Tidy _ := .setB h
    by
      split
      · exact .ite h₁ (.railStart h₁)
      · exact .ite h₁ (.ldoStart h₁)
      · exact .ite h₁ (.isoStart h₁)
      · exact .feTryStart h₁
      · exact .tryReturn (.tryClose h₁)
      · exact .ite h₁ (.chgStart h₁)

theorem State.Tidy.enOff {o : OutRef} (h : s.Tidy) : (s.enOff o).Tidy := by
  unfold State.enOff
  dsimp only
  exact
    have h₁ : State.Tidy _ := .setB h
    by split; exacts [.railStop h₁, .ldoStop h₁, .isoStop h₁, .feStop h₁, .ite (.loss h₁) h₁, .chgStop h₁]

/-! Commits. -/

theorem State.Tidy.addAll {k : Nat} (h : s.Tidy) : (s.addAll k).Tidy :=
  .setRegime (.updRail (.setB (.setSwitching (.leaveDe h))))

theorem State.Tidy.feAddAll (h : s.Tidy) : s.feAddAll.Tidy := .ite (.updFe (.setMany h)) h

theorem State.Tidy.afterCommit {b : State} {i : Instance} {fs : List Fld} (h : s.Tidy) : (s.afterCommit b i fs).Tidy := by
  unfold State.afterCommit
  dsimp only
  split
  · exact
      have h₁ : State.Tidy _ := .ite (.updRail (.addAll h)) h
      have h₂ : State.Tidy _ := .ite (.setB h₁) h₁
      have h₃ : State.Tidy _ := .ite (.ite (.addAll h₂) (.setRegime h₂)) h₂
      .ite
        (have h₄ : State.Tidy _ := .setB h₃
         .ite (.railStart (.updRail h₄)) h₄)
        h₃
  · exact
      have h₁ : State.Tidy _ := .ite (.setMany h) h
      .each (.ite (.feSlope h₁) h₁) fun _ _ h => .ite (.setB h) h
  · exact .ite (.setB h) h
  · exact .each h fun _ _ h => .ite (.updMon (.disarmHi (.disarmLo (.pgFall h)))) h
  · exact h

theorem State.Tidy.commit {i : Instance} (h : s.Tidy) : (s.commit i).Tidy := by
  unfold State.commit
  exact .ite h (.afterCommit (.log (.setB (.setMany (.unstage h)))))

theorem State.Tidy.commitIdle {i : Instance} (h : s.Tidy) : (s.commitIdle i).Tidy := .ite h (.commit h)

theorem State.Tidy.discard {i : Instance} (h : s.Tidy) : (s.discard i).Tidy := by
  unfold State.discard
  exact .setB (.unstage h)

theorem State.Tidy.stage {i : Instance} {f : Fld} {v : Nat} (h : s.Tidy) : (s.stage i f v).Tidy := by
  unfold State.stage
  exact .setB { h with staged := stageSet_wf f _ h.staged }

/-! The sequencer and SAFE. -/

theorem State.Tidy.seqAction {i : Nat} (h : s.Tidy) : (s.seqAction i).Tidy := by
  unfold State.seqAction
  dsimp only
  split
  · exact .enOn h
  · exact .enOff h
  · exact .ite (.setB h) h

theorem State.Tidy.seqEnter {i : Nat} (h : s.Tidy) : (s.seqEnter i).Tidy :=
  have h₁ : State.Tidy _ := .commit h
  .ite (.updSeq h₁)
    (have h₂ : State.Tidy _ := .updSeq (.setMany h₁)
     .ite (.updSeq h₂) (.seqAction h₂))

theorem State.Tidy.monDisarm (h : s.Tidy) : s.monDisarm.Tidy := .each h fun _ _ h => .updMon (.disarmLo h)
theorem State.Tidy.monRearm (h : s.Tidy) : s.monRearm.Tidy := .each h fun _ _ h => .updMon h

theorem State.Tidy.seqStart {t : Nat} (h : s.Tidy) : (s.seqStart t).Tidy :=
  .ite h
    (have h₁ : State.Tidy _ := .updSeq (.setMany h)
     .seqEnter (.ite h₁ (.monDisarm h₁)))

theorem State.Tidy.seqEnd {outcome : Nat} (h : s.Tidy) : (s.seqEnd outcome).Tidy :=
  have h₁ : State.Tidy _ := .updSeq (.setMany h)
  .ite (.monRearm h₁) h₁

theorem State.Tidy.seqLog {outcome : Nat} (h : s.Tidy) : (s.seqLog outcome).Tidy := .log h
theorem State.Tidy.seqAbort (h : s.Tidy) : s.seqAbort.Tidy := .ite h (.seqEnd (.seqLog h))

theorem State.Tidy.abortSleep (h : s.Tidy) : s.abortSleep.Tidy :=
  .ite h
    (have h₁ : State.Tidy _ := .updPath (.updSys h)
     .batfet (.feTryStart (.tryClose (.ite (.chgStart h₁) h₁))))

theorem State.Tidy.enterSafe (h : s.Tidy) : s.enterSafe.Tidy :=
  .ite h (.seqStart (.chgEval (.refresh (.updSys (.updSeq (.setMany (.abortSleep (.seqAbort h))))))))

/-! Early outputs and tines. -/

theorem State.Tidy.earlyPg (h : s.Tidy) : s.earlyPg.Tidy :=
  .ite h
    (.ite h
       (have h₁ : State.Tidy _ := .updSys h
        .ite (.setB h₁) h₁))

theorem State.Tidy.earlyStart {d : Nat} (h : s.Tidy) : (s.earlyStart d).Tidy := by
  unfold State.earlyStart
  extract_lets w k k₀ k₁ k₂ t₁ j src t₂ t₃
  have h₁ : t₁.Tidy := by
    dsimp only [t₁]
    split
    · exact .regroup (.setMany h)
    · exact .setMany h
    · exact .setMany h
    · exact h
  have h₃ : t₃.Tidy := .updSys (.ite (.each (.setF h₁) fun _ _ h => .setF h) h₁)
  split
  · exact .enOn h₃
  · exact h₃

theorem State.Tidy.setMap36 {f : Nat → Fld} {v : Nat} (h : s.Tidy) : (s.setMap36 f v).Tidy := .setMany h
theorem State.Tidy.countTines {n : Nat} (h : s.Tidy) : (s.countTines n).Tidy := .setMany h

theorem State.Tidy.retire {n i : Nat} (h : s.Tidy) : (s.retire n i).Tidy :=
  .ite h
    (have h₁ : State.Tidy _ := .setMap36 h
     have h₂ : State.Tidy _ := .ite (.setMap36 h₁) h₁
     .countTines (by split; exacts [.setMap36 h₂, h₂]))

theorem State.Tidy.applyRepair {r : Nat} (h : s.Tidy) : (s.applyRepair r).Tidy := by
  unfold State.applyRepair
  dsimp only
  split
  · exact .retire h
  · exact .setBitOf h
  · exact h

theorem State.Tidy.loadRepair (h : s.Tidy) : s.loadRepair.Tidy := .foldl h fun _ _ h => .applyRepair h

/-! MRAM. -/

theorem State.Tidy.mramWrite {a : Nat} {bs : List Byte} (h : s.Tidy) : (s.mramWrite a bs).Tidy :=
  { h with mram := memWrite_wf _ _ _ h.mram }

/-! The gauge. -/

theorem State.Tidy.updGauge {g : Gauge → Gauge} (h : s.Tidy) : (s.updGauge g).Tidy := .inner h rfl
theorem State.Tidy.updNv {g : Nv → Nv} (h : s.Tidy) : (s.updNv g).Tidy := .inner h rfl
theorem State.Tidy.addCharge {q : Int} (h : s.Tidy) : (s.addCharge q).Tidy := .each h fun _ _ h => .setF h
theorem State.Tidy.flagged {b : State} (h : s.Tidy) : (s.flagged b).Tidy := .ite h (.request (.setB h))
theorem State.Tidy.storeStat (h : s.Tidy) : s.storeStat.Tidy := .setMany h

theorem State.Tidy.putSave {cause : Nat} {body : List Byte} (h : s.Tidy) : (s.putSave cause body).Tidy :=
  .ite (.setB h) (.storeStat (.updGauge (.mramWrite h)))

theorem State.Tidy.startSave {cause : Nat} (h : s.Tidy) : (s.startSave cause).Tidy :=
  have h₁ : State.Tidy _ := .updGauge h
  .ite (.updGauge (.setB h₁)) (.putSave h₁)

theorem State.Tidy.requestSave {cause : Nat} (h : s.Tidy) : (s.requestSave cause).Tidy := .ite (.startSave h) h

theorem State.Tidy.endSave (h : s.Tidy) : s.endSave.Tidy := by
  unfold State.endSave
  dsimp only
  split
  · exact h
  · exact .storeStat (.setMany (.updGauge (.mramWrite h)))

theorem State.Tidy.saveNow {cause : Nat} (h : s.Tidy) : (s.saveNow cause).Tidy := .ite (.endSave (.startSave (.endSave h))) h
theorem State.Tidy.noOutputs (h : s.Tidy) : s.noOutputs.Tidy := .updGauge (.setMany h)
theorem State.Tidy.publish {i : Rat} (h : s.Tidy) : (s.publish i).Tidy := .ite h (.each (.setMany h) fun _ _ h => .setF h)

theorem State.Tidy.beginInsertion {cold : Bool} (h : s.Tidy) : (s.beginInsertion cold).Tidy :=
  .flagged (.updGauge (.noOutputs (.endCause (.setMany h))))

theorem State.Tidy.gaugeStops (h : s.Tidy) : s.gaugeStops.Tidy := .flagged (.setB (.updSys h))

theorem State.Tidy.loadLearned (h : s.Tidy) : s.loadLearned.Tidy := by
  unfold State.loadLearned
  split
  · exact .raise (.updGauge h)
  · exact .updGauge h

theorem State.Tidy.swapPack {m : Mirror} (h : s.Tidy) : (s.swapPack m).Tidy :=
  .beginInsertion (.updGauge (.setB (.setF (.startSave (.updGauge (.setF h))))))

theorem State.Tidy.predictAll {x : CycleIn} {moveH : Bool} (h : s.Tidy) : (s.predictAll x moveH).Tidy := by
  unfold State.predictAll
  exact .updGauge h

theorem State.Tidy.resume {m : Mirror} (h : s.Tidy) : (s.resume m).Tidy := .predictAll (.setMany (.updGauge h))

theorem State.Tidy.gaugeStart {warm : Bool} (h : s.Tidy) : (s.gaugeStart warm).Tidy :=
  have h₁ : State.Tidy _ := .setB (.updSys h)
  have h₂ : State.Tidy _ := .updGauge (.storeStat (.ite (.updGauge (.setB h₁)) h₁))
  .flagged (by
      split
      · exact .ite (.swapPack h₂) (.resume h₂)
      · exact
          have h₃ : State.Tidy _ := .loadLearned h₂
          .ite (.beginInsertion h₃) (.setB (.noOutputs h₃)))

theorem State.Tidy.learnAnchor {x : CycleIn} {before : List CellSt} {v sa : List Rat} (h : s.Tidy) :
    (s.learnAnchor x before v sa).Tidy := by
  unfold State.learnAnchor
  dsimp only
  exact .ite h
      (by
         split
         · exact h
         · exact
             have h₁ : State.Tidy _ := .ite (.ite (.setB h) (.updGauge (.setB h))) h
             by split; exacts [.ite (.updGauge h₁) h₁, h₁])

theorem State.Tidy.dispute (h : s.Tidy) : s.dispute.Tidy := .ite (.ite h (.raiseLasting (.updGauge (.setMany h)))) h

/-! Responses. -/

theorem State.Tidy.respondAs {c : Taken} {who : Port} {status detail : Nat} {payload : List Byte} (h : s.Tidy) :
    (s.respondAs c who status detail payload).Tidy :=
  have h₁ : State.Tidy _ := .updMbx h
  have h₂ : State.Tidy _ := by
      split
      · exact
          have h₃ : State.Tidy _ := .putWin h₁
          .setMany (.ite (.putWin h₃) h₃)
      · exact .request (.updMbx (.ite (.putSbBuf h₁) h₁))
  .ite (.log h₂) h₂

theorem State.Tidy.respond {c : Taken} {status detail : Nat} {payload : List Byte} (h : s.Tidy) :
    (s.respond c status detail payload).Tidy := .respondAs h

theorem State.Tidy.answer {w : Wait} {f : Taken → State → State} (h : s.Tidy) (hf : ∀ x1 t, State.Tidy t → (f x1 t).Tidy) :
    (s.answer w f).Tidy := .ite h (.foldl h fun _ _ h => hf _ _ h)

theorem State.Tidy.failTaken (h : s.Tidy) : s.failTaken.Tidy := .foldl h fun _ _ h => .respond h

/-! Activation and rollback. -/

theorem State.Tidy.updUpd {g : Upd → Upd} (h : s.Tidy) : (s.updUpd g).Tidy := .inner h rfl
theorem State.Tidy.updLog {status : Nat} (h : s.Tidy) : (s.updLog status).Tidy := .log h
theorem State.Tidy.updState {v status : Nat} (h : s.Tidy) : (s.updState v status).Tidy := .request (.updLog (.setF h))

theorem State.Tidy.updResult {outcome status : Nat} (h : s.Tidy) : (s.updResult outcome status).Tidy :=
  .request (.setB (.updLog (.setMany h)))

theorem State.Tidy.setSel {x : Sel} (h : s.Tidy) : (s.setSel x).Tidy := .ite h (.updNv h)
theorem State.Tidy.discardSlot {slot : Bool} (h : s.Tidy) : (s.discardSlot slot).Tidy := .ite h (.uncommitSlot h)
theorem State.Tidy.pause (h : s.Tidy) : s.pause.Tidy := .failTaken (.setB h)

theorem State.Tidy.warmCores {ctl gauge : Bool} (h : s.Tidy) : (s.warmCores ctl gauge).Tidy :=
  have h₁ : State.Tidy _ := .ite (.updSys (.gaugeStops h)) h
  .ite (.updSys h₁) h₁

theorem State.Tidy.putMirror {cut : Bool} (h : s.Tidy) : (s.putMirror cut).Tidy := by
  unfold State.putMirror
  exact .updGauge h

theorem State.Tidy.activate (h : s.Tidy) : s.activate.Tidy :=
  have h₁ : State.Tidy _ := .putMirror (.saveNow (.refresh (.updState (.setMany h))))
  .ite (.refresh (.updState (.setB (.failTaken h₁)))) (.updUpd (.warmCores (.setSel (.pause h₁))))

theorem State.Tidy.rollback {outcome : Nat} (h : s.Tidy) : (s.rollback outcome).Tidy := by
  unfold State.rollback
  dsimp only
  split
  · exact h
  · exact .updUpd (.warmCores (.discardSlot (.setSel (.pause h))))

theorem State.Tidy.leaveActivate (h : s.Tidy) : s.leaveActivate.Tidy := .refresh (.setB h)

theorem State.Tidy.ifVer (h : s.Tidy) : s.ifVer.Tidy := by
  unfold State.ifVer
  split
  · exact .setMany h
  · exact .setMany h

theorem State.Tidy.rolledBack {outcome : Nat} (h : s.Tidy) : (s.rolledBack outcome).Tidy :=
  .updResult (.leaveActivate (.ifVer (.updUpd h)))

theorem State.Tidy.runDeferred (h : s.Tidy) : s.runDeferred.Tidy := .ite (.activate h) h

/-! The fault pipeline and the end of a row. -/

theorem State.Tidy.lockEntry {e : Nat} (h : s.Tidy) : (s.lockEntry e).Tidy := by
  unfold State.lockEntry
  split
  · exact .railLock h
  · exact .ldoLock h
  · exact .setIsoState h
  · exact h

theorem State.Tidy.groupOff {es : List Nat} (h : s.Tidy) : (s.groupOff es).Tidy :=
  .each h fun _ _ h => by split; exacts [.enOff h, h]

theorem State.Tidy.actL2 {e : Ev} (h : s.Tidy) : (s.actL2 e).Tidy := .ite (.setB h) h

theorem State.Tidy.actL3 {e : Ev} (h : s.Tidy) : (s.actL3 e).Tidy :=
  have h₁ : State.Tidy _ := .each h fun _ _ h => .lockEntry h
  .groupOff (.ite (.feLock h₁) (.ite (.feLock h₁) (.ite (.chgToFault h₁) h₁)))

theorem State.Tidy.newKey (h : s.Tidy) : s.newKey.Tidy := .draw (.setF h)

theorem State.Tidy.actL5 (h : s.Tidy) : s.actL5.Tidy :=
  have h₁ : State.Tidy _ := .setMany (.each
        (.each
           (.each (.setB (.abortSleep (.seqAbort h))) fun _ _ h =>
              have h₆ : State.Tidy _ := .setB h
              .ite h₆ (.railToOff h₆))
           fun _ _ h =>
             have h₅ : State.Tidy _ := .setB h
             .ite h₅ (.ldoToOff h₅))
        fun _ _ h =>
          have h₄ : State.Tidy _ := .setB h
          .ite h₄ (.setIsoState h₄))
  have h₂ : State.Tidy _ := .ite (.loss h₁) (.pathOff h₁)
  have h₃ : State.Tidy _ := .updFlt (.setF (.newKey (.ite h₂ (.setFe h₂))))
  .chgEval (.refresh (.updSys (.updSeq (.setMany (.ite (.setB h₃) h₃)))))

theorem State.Tidy.assertFaultN (h : s.Tidy) : s.assertFaultN.Tidy := .followPin (.updFlt (.setMany h))

theorem State.Tidy.latchFirst {e : Ev} {l : Nat} (h : s.Tidy) : (s.latchFirst e l).Tidy :=
  .ite (.count (.setB h)) (.updFlt (.each (.setMany h) fun _ _ h => .setF h))

theorem State.Tidy.wantSnap {trigger : Nat} {copy : Bool} (h : s.Tidy) : (s.wantSnap trigger copy).Tidy := by
  unfold State.wantSnap
  dsimp only
  split
  · exact .updTel h
  · exact .updTel h

theorem State.Tidy.askSnap {copy : Bool} (h : s.Tidy) : (s.askSnap copy).Tidy := .updTel h

theorem State.Tidy.classify {e : Ev} (h : s.Tidy) : (s.classify e).1.Tidy :=
  have h₁ : State.Tidy _ := .ite (.latchFirst (.setB (.updFlt h))) h
  have h₂ : State.Tidy _ := .ite (.setBitOf h₁) h₁
  .ite (.request h₂) h₂

theorem State.Tidy.recordEv {p : Ev × Nat} (h : s.Tidy) : (s.recordEv p).Tidy := .log (.ite (.wantSnap h) h)

theorem State.Tidy.classifyAll : ∀ {l : List Ev} {s : State}, s.Tidy → (s.classifyAll l).1.Tidy
  | [], _, h => h
  | _ :: r, _, h => by
    unfold State.classifyAll
    exact State.Tidy.classifyAll (l := r) (.classify h)

theorem State.Tidy.react {p : Ev × Nat} (h : s.Tidy) : (s.react p).Tidy :=
  have h₁ : State.Tidy _ := .ite (.enterSafe h) (.ite (.actL5 h) h)
  have h₂ : State.Tidy _ := .ite (.actL3 h₁) h₁
  have h₃ : State.Tidy _ := .ite (.actL2 h₂) h₂
  .ite (.assertFaultN h₃) h₃

theorem State.Tidy.sampleSnap (h : s.Tidy) : s.sampleSnap.Tidy := by
  unfold State.sampleSnap
  split
  · exact .ite (.updTel h) h
  · exact h

theorem State.Tidy.drain : ∀ {n : Nat} {s : State}, s.Tidy → (s.drain n).Tidy
  | 0, _, h => h
  | n + 1, _, h => by
    unfold State.drain
    refine .ite h (State.Tidy.drain (n := n) (.sampleSnap (.foldl (.foldl ?_ fun _ _ h => .foldl h fun _ _ h => .react h) ?_)))
    · exact .classifyAll (.updFlt h)
    · exact fun _ _ h => .recordEv h

theorem State.Tidy.stopTests (h : s.Tidy) : s.stopTests.Tidy := .ite h (.abandon h)
theorem State.Tidy.settle (h : s.Tidy) : s.settle.Tidy := .updFlt (.drain (.stopTests (.runDeferred (.drain h))))
theorem Out.Tidy.done (h : s.Tidy) : Out.Tidy s.done := .next (.settle h)
theorem State.Tidy.rearmFirst (h : s.Tidy) : s.rearmFirst.Tidy := .ite (.updFlt (.setB h)) h
theorem State.Tidy.underate {k : Nat} (h : s.Tidy) : (s.underate k).Tidy := .ite h (.setB h)

theorem State.Tidy.clearOne {cls src : Nat} (h : s.Tidy) : (s.clearOne cls src).1.Tidy :=
  .ite_fst h
    (.ite_fst (.count h)
       (have h₁ : State.Tidy _ := .setMany (.updFlt h)
        have h₂ : State.Tidy _ := .ite (.ite (.setBitOf h₁) (.setBitOf h₁)) h₁
        have h₃ : State.Tidy _ := .ite h₂ (.setBitOf h₂)
        have h₄ : State.Tidy _ := .ite (.underate h₃) h₃
        .rearmFirst (.ite (.batfet h₄) (.ite (.feTryStart (.fePhases h₄)) h₄))))

theorem State.Tidy.clearWord {cls w bits : Nat} (h : s.Tidy) : (s.clearWord cls w bits).1.Tidy := by
  unfold State.clearWord
  exact .foldl_fst h fun _ _ h => .ite_fst (.clearOne h) h

theorem State.Tidy.ack {bits : Nat} (h : s.Tidy) : (s.ack bits).Tidy := .each h fun _ _ h => .setBitOf h
theorem State.Tidy.releaseFaultN (h : s.Tidy) : s.releaseFaultN.Tidy := .ite (.updFlt h) (.followPin (.setB h))

end

end Sys2Proof.Machine
end

section
/-!
PROOFS. Canonical states: the rows from supervision to telemetry keep the canonical form, and so do register reads, register
writes and the start of a boot.
-/

namespace Sys2Proof.Machine

section
variable {s : State}

/-! Window supervision. -/

theorem State.Tidy.takeEarlyLoss {c : Nat} (h : s.Tidy) : (s.takeEarlyLoss c).Tidy :=
  have h₁ : State.Tidy _ := .raise h
  .enOff (.ite h₁ (.count (.setBitOf h₁)))

theorem State.Tidy.noteWindow {c : Nat} {fault above : Bool} (h : s.Tidy) : (s.noteWindow c fault above).Tidy :=
  .ite h (.updFlt h)

theorem State.Tidy.judge {c : Nat} {fault above : Bool} {e : Ev} (h : s.Tidy) : (s.judge c fault above e).Tidy :=
  .ite h (.raise (.updMon (.noteWindow h)))

theorem Out.Tidy.warningJudged {monitor : Bool} {i : Fin 14} {above : Bool} (h : s.Tidy) :
    Out.Tidy (execWarningJudged monitor i above s) :=
  .ite (.ite (.done (.takeEarlyLoss h)) (.done (.judge (.setB h)))) (.next h)

theorem State.Tidy.windowFault {c : Nat} {above : Bool} {sample : Word} (h : s.Tidy) : (s.windowFault c above sample).Tidy := by
  unfold State.windowFault
  dsimp only
  exact
    have h₁ : State.Tidy _ := .setB h
    have h₂ : State.Tidy _ := .ite (.setB h₁) h₁
    by split; exacts [.judge (.setB h₂), .judge h₂]

theorem State.Tidy.setTrip {c : Nat} {above : Bool} (h : s.Tidy) : (s.setTrip c above).Tidy := .updMon h

theorem Out.Tidy.converterFaultJudged {monitor : Bool} {i : Fin 14} {above : Bool} (h : s.Tidy) :
    Out.Tidy (execConverterFaultJudged monitor i above s) :=
  .ite (.done (.raise (.setB (.ite (.takeEarlyLoss h) (.windowFault h))))) (.next h)

theorem Out.Tidy.pgStable {c : Fin 28} (h : s.Tidy) : Out.Tidy (execPgStable c s) :=
  .ite
    (have h₁ : State.Tidy _ := .setB h
     .done (.earlyPg (.ite (.updMon h₁) h₁)))
    (.next h)

/-! Rows of the rails. -/

theorem State.Tidy.deriveRail {k : Nat} (h : s.Tidy) : (s.deriveRail k).Tidy :=
  .ite h (.commitIdle (.stage (.stage (.stage (.stage (.updRail (.setMany h)))))))

theorem State.Tidy.deriveFe {f : Nat} (h : s.Tidy) : (s.deriveFe f).Tidy :=
  .ite h (.stage (.stage (.stage (.stage (.updFe (.setMany h))))))

theorem State.Tidy.deriveFront (h : s.Tidy) : s.deriveFront.Tidy := .ite h (.commitIdle (.deriveFe (.deriveFe h)))

theorem Out.Tidy.railSenseCheck {k : Fin 8} {isOpen : Bool} {vpb : Nat} (h : s.Tidy) :
    Out.Tidy (execRailSenseCheck k isOpen vpb s) :=
  .ite
    (.ite (.done (.raise (.setB (.railLock h))))
       (have h₁ : State.Tidy _ := .setSwitching (.updRail (.setB h))
        .ite (.done (.railOn h₁)) (.done (.updRail (.setF h₁)))))
    (.next h)

theorem Out.Tidy.railSoftstartCheck {k : Fin 8} {v : Nat} (h : s.Tidy) : Out.Tidy (execRailSoftstartCheck k v s) :=
  .ite (.ite (.done (.updRail h)) (.ite (.done (.raise (.railLock h))) (.done (.setF (.setRailState (.railQuiet h))))))
    (.next h)

theorem Out.Tidy.phaseRampOutDone {p : PhaseRef} (h : s.Tidy) : Out.Tidy (execPhaseRampOutDone p s) := by
  unfold execPhaseRampOutDone
  dsimp only
  split
  · split
    · exact .ite (.done (.setRegime (.updRail (.setMany h)))) (.next h)
    · exact .next h
  · exact .ite (.done (.updFe (.setF h))) (.next h)

theorem State.Tidy.dropOffset {k : Nat} (h : s.Tidy) : (s.dropOffset k).Tidy := .ite (.updRail (.setMany h)) h

theorem Out.Tidy.loadStepFire {e : LoadStep} (h : s.Tidy) : Out.Tidy (execLoadStepFire e s) :=
  .ite (.done (.dropOffset (.count (.addAll (.setB (.abandonTests h)))))) (.next h)

theorem State.Tidy.announce {i k : Nat} (h : s.Tidy) : (s.announce i k).Tidy :=
  .updRail (.count (.setMany (.addAll (.abandonTests h))))

theorem State.Tidy.setLda {i : Nat} {b : Bool} (h : s.Tidy) : (s.setLda i b).Tidy := .updSys h
theorem State.Tidy.ldaUp {i : Nat} (h : s.Tidy) : (s.ldaUp i).Tidy := .each (.setLda h) fun _ _ h => .ite (.announce h) h
theorem State.Tidy.ldaDown {i : Nat} (h : s.Tidy) : (s.ldaDown i).Tidy := .each (.setLda h) fun _ _ h => .ite (.dropOffset h) h

/-! Plans and bases. -/

theorem State.Tidy.updAge {g : AgeSt → AgeSt} (h : s.Tidy) : (s.updAge g).Tidy := .inner h rfl
theorem State.Tidy.updNvPlan {p : Option Plan} (h : s.Tidy) : (s.updNvPlan p).Tidy := .inner h rfl

theorem State.Tidy.closePlan (h : s.Tidy) : s.closePlan.Tidy := by
  unfold State.closePlan
  split
  · exact .ite h (.updAge (.updNvPlan h))
  · exact h

theorem State.Tidy.putBase {k v : Nat} (h : s.Tidy) : (s.putBase k v).Tidy := .ite (.updAge h) (.inner h rfl)
theorem State.Tidy.flushPlan (h : s.Tidy) : s.flushPlan.Tidy := .closePlan (.updAge (.foldl h fun _ _ h => .putBase h))

theorem State.Tidy.baseWrite {f : Fld} {v : Nat} (h : s.Tidy) : (s.baseWrite f v).Tidy := by
  unfold State.baseWrite
  dsimp only
  split
  · exact h
  · exact .closePlan (.updAge (.putBase h))

/-! Reads. -/

theorem State.Tidy.refuse {acc : Accessor} {f : Fld} {a : Nat} (h : s.Tidy) : (s.refuse acc f a).Tidy := .updAcc h

theorem State.Tidy.clearRc {a : Nat} (h : s.Tidy) : (s.clearRc a).Tidy :=
  have h₁ : State.Tidy _ := .setMany h
  .ite (.rearmFirst (.updFlt h₁)) h₁

theorem State.Tidy.readEffect {acc : Accessor} {a : Nat} (h : s.Tidy) : (s.readEffect acc a).Tidy := by
  unfold State.readEffect
  split
  · exact .clearRc h
  · exact .clearRc h
  · exact h

theorem State.Tidy.readReg {acc : Accessor} {a : Nat} (h : s.Tidy) : (s.readReg acc a).1.Tidy :=
  .ite_fst (.pair (.refuse h))
    (by
       split
       · exact .readEffect h
       · exact .ite_fst (.readEffect (.updAcc h))
             (by split; exacts [.ite_fst (.readEffect h) (.readEffect (.refuse h)), .readEffect (.refuse h)]))

theorem State.Tidy.readRegs {acc : Accessor} : ∀ {n a : Nat} {s : State}, s.Tidy → (s.readRegs acc a n).1.Tidy
  | 0, _, _, h => h
  | n + 1, _, _, h => by
    unfold State.readRegs
    exact State.Tidy.readRegs (n := n) (.readReg h)

theorem State.Tidy.readMem {acc : Accessor} {a : Nat} (h : s.Tidy) : (s.readMem acc a).1.Tidy :=
  .ite_fst (.pair (.refuse h)) (.ite_fst h h)

theorem State.Tidy.readMems {acc : Accessor} : ∀ {n a : Nat} {s : State}, s.Tidy → (s.readMems acc a n).1.Tidy
  | 0, _, _, h => h
  | n + 1, _, _, h => by
    unfold State.readMems
    exact State.Tidy.readMems (n := n) (.readMem h)

/-! The start of a boot. -/

theorem State.Tidy.cleared {k : BootKind} (h : s.Tidy) : (s.cleared k).Tidy where
  fields := Cells.wf_filter h.fields _
  words := h.words
  latch := h.latch
  win := by
    unfold State.cleared
    dsimp only
    split
    · exact h.win
    · rfl
  sbBuf := h.sbBuf
  mram := h.mram
  staged := by
    unfold State.cleared
    dsimp only
    split
    · exact Staged.wf_filter h.staged _
    · rfl

theorem State.Tidy.powerUp (h : s.Tidy) : s.powerUp.Tidy where
  fields := rfl
  words := h.words
  latch := rfl
  win := rfl
  sbBuf := rfl
  mram := h.mram
  staged := rfl

theorem State.Tidy.boot {k : BootKind} {causes : List Fld} (h : s.Tidy) : (s.boot k causes).Tidy :=
  have h₁ : State.Tidy _ := .setState (.setF (.setBitOf (.setMany (.setMany (.setMany (.cleared h))))))
  have h₂ : State.Tidy _ := .ite (.log h₁) h₁
  .ite (.updPath (.setMany h₂)) h₂

/-! Run requests and the rows of the sequencer. -/

theorem State.Tidy.sleepEdge {rise : Bool} (h : s.Tidy) : (s.sleepEdge rise).Tidy := .updSys h

theorem State.Tidy.runRise (h : s.Tidy) : s.runRise.Tidy :=
  .ite (.ite h (.updSeq h)) (.ite (.sleepEdge h) (.ite (.seqStart h) h))

theorem State.Tidy.runFall (h : s.Tidy) : s.runFall.Tidy := by
  unfold State.runFall
  split
  · exact .ite (.sleepEdge h) (.ite (.seqStart h) h)
  · exact .updSeq h
  · exact .updSeq h
  · exact h

theorem State.Tidy.runEval (h : s.Tidy) : s.runEval.Tidy :=
  have h₁ : State.Tidy _ := .setB h
  .ite (.runRise h₁) (.ite (.runFall h₁) h₁)

theorem State.Tidy.runAtStandby (h : s.Tidy) : s.runAtStandby.Tidy :=
  have h₁ : State.Tidy _ := .setB h
  .ite (.runRise h₁) h₁

theorem State.Tidy.abandonSleep (h : s.Tidy) : s.abandonSleep.Tidy := by
  unfold State.abandonSleep
  split
  · split
    · exact .runRise (.abortSleep h)
    · exact .runFall (.abortSleep h)
    · exact .abortSleep h
  · exact h

theorem State.Tidy.wakeLatch {src : Fld} (h : s.Tidy) : (s.wakeLatch src).Tidy := .ite (.setB h) h

theorem State.Tidy.wakeSeen {enabled : Bool} {src : Fld} (h : s.Tidy) : (s.wakeSeen enabled src).Tidy :=
  .ite h (.wakeLatch (.abandonSleep h))

theorem Out.Tidy.enRunFilter {level : Bool} (h : s.Tidy) : Out.Tidy (execEnRunFilter level s) :=
  .ite
    (have h₁ : State.Tidy _ := .runEval (.updSys h)
     .done (.ite (.wakeSeen h₁) h₁))
    (.next h)

theorem State.Tidy.seqNext (h : s.Tidy) : s.seqNext.Tidy := .ite (.updSeq (.seqStart (.seqEnd h))) (.seqEnter h)

theorem Out.Tidy.seqStepDone (h : s.Tidy) : Out.Tidy (execSeqStepDone s) :=
  .ite (.done (.seqNext (.seqLog (.ite (.setBitOf h) h)))) (.next h)

theorem State.Tidy.upFails (h : s.Tidy) : s.upFails.Tidy :=
  have h₁ : State.Tidy _ := .seqEnd (.setB (.raise (.seqLog h)))
  .ite h₁ (.seqStart h₁)

theorem State.Tidy.stepGoesOn {f : Fld} (h : s.Tidy) : (s.stepGoesOn f).Tidy := .seqNext (.raise (.count (.seqLog h)))

theorem Out.Tidy.seqStepTimeout (h : s.Tidy) : Out.Tidy (execSeqStepTimeout s) :=
  .ite
    (.ite
       (by
          split
          · exact .done (.stepGoesOn h)
          · exact .ite (.done (.upFails h))
                (have h₁ : State.Tidy _ := .updSeq h
                 by split; exacts [.done (.setF (.enOff h₁)), .done (.seqAction h₁)])
          · exact .done (.upFails h))
       (.ite (.done (.stepGoesOn (.ite (.updRail h) (.updLdo h)))) (.done (.stepGoesOn h))))
    (.next h)

theorem State.Tidy.postSafe (h : s.Tidy) : s.postSafe.Tidy :=
  have h₁ : State.Tidy _ := .each (.each (.each h fun _ _ h => .ite h (.enOff h)) fun _ _ h => .ite h (.enOff h)) fun _ _ h =>
      .ite h (.enOff h)
  have h₂ : State.Tidy _ := .ite h₁ (.enOff h₁)
  .ite h₂ (.enOff h₂)

theorem Out.Tidy.seqTableComplete (h : s.Tidy) : Out.Tidy (execSeqTableComplete s) :=
  .ite
    (by
       split
       · exact
           have h₁ : State.Tidy _ := .setRun (.setB (.seqEnd h))
           .done (.ite h₁ (.seqStart h₁))
       · exact .ite (.done (.boot (.seqEnd h)))
             (have h₂ : State.Tidy _ := .setRun (.seqEnd h)
              .done (.ite (.seqStart h₂) h₂))
       · exact .done (.updSeq (.postSafe (.seqEnd h)))
       · exact .next h)
    (.next h)

/-! Register writes. -/

theorem State.Tidy.popDs (h : s.Tidy) : s.popDs.Tidy :=
  have h₁ : State.Tidy _ := .inner h (by rfl)
  .ite (.setBitOf h₁) h₁

theorem State.Tidy.w1c {f : Fld} {v : Nat} (h : s.Tidy) : (s.w1c f v).Tidy :=
  .ite (.clearWord h)
    (.ite (.setF h)
       (.ite h
          (have h₁ : State.Tidy _ := .setF h
           .ite (.fePhases h₁) (.ite (.batfet h₁) h₁))))

theorem State.Tidy.heartbeat (h : s.Tidy) : s.heartbeat.Tidy :=
  .ite h
    (have h₁ : State.Tidy _ := .updSys h
     .ite (.endCause (.request (.request (.setMany (.updMbx h₁))))) h₁)

theorem State.Tidy.writeDrive {v : Nat} (h : s.Tidy) : (s.writeDrive v).Tidy := .ite (.releaseFaultN h) (.followPin (.setB h))
theorem State.Tidy.writeStream {v : Nat} (h : s.Tidy) : (s.writeStream v).Tidy := .ite (.updTel (.setMany h)) (.setF h)
theorem State.Tidy.writeChem {v : Nat} (h : s.Tidy) : (s.writeChem v).Tidy := .ite h (.setMany (.setF h))

theorem State.Tidy.writeProd {v : Nat} (h : s.Tidy) : (s.writeProd v).1.Tidy :=
  .ite_fst (.setB h) (.ite_fst (.setB h) (.pair (.updMbx (.setF h))))

theorem State.Tidy.writeCons {v : Nat} (h : s.Tidy) : (s.writeCons v).1.Tidy := .ite_fst (.setB h) (.setF h)
theorem State.Tidy.shadowPut {acc : Accessor} {low a m v : Nat} (h : s.Tidy) : (s.shadowPut acc low a m v).Tidy := .updAcc h

theorem State.Tidy.applyMulti {acc : Accessor} {low w0 : Nat} (h : s.Tidy) : (s.applyMulti acc low w0).Tidy := by
  unfold State.applyMulti
  exact .updAcc (.setMany h)

theorem State.Tidy.byHost {f : Fld} (h : s.Tidy) : (s.byHost f).Tidy :=
  have h₁ : State.Tidy _ := .each h fun _ _ h => .updRail h
  .ite (.updFe h₁) h₁

theorem State.Tidy.applyField {acc : Accessor} {w : WField} (h : s.Tidy) : (s.applyField acc w).Tidy := by
  unfold State.applyField
  split
  · exact h
  · exact h
  · split
    · exact .byHost (.stage h)
    · exact h
  · exact .w1c h
  · exact .ite (.ack h) (.ite (.log h) (.ite h (.ite (.ite (.popDs h) h) (by split; exacts [.ite (.discard h) h, h]))))
  · split
    · exact .ite (.applyMulti h) (.shadowPut h)
    · exact .ite (.writeChem h)
          (.ite (.writeDrive h)
             (.ite (.writeStream h)
                (.ite (.ite (.heartbeat (.setF h)) (.setF h)) (.ite (.writeProd h) (.ite (.writeCons h) (.setF h))))))

theorem State.Tidy.applyEnable {w : WField} (h : s.Tidy) : (s.applyEnable w).Tidy := by
  unfold State.applyEnable
  split
  · exact .ite (.enOn h) (.enOff h)
  · exact h

theorem State.Tidy.railStale {k : Nat} (h : s.Tidy) : (s.railStale k).Tidy := .ite h (.setB h)

theorem State.Tidy.syncOff {b : State} (h : s.Tidy) : (s.syncOff b).Tidy := by
  have hoff : ((s.setB Reg.CLK_STAT_sync_locked false).endCause cCLK 8 0).Tidy := .endCause (.setB h)
  unfold State.syncOff
  exact .each (.inner hoff rfl) fun _ _ h => .ite (.railStale h) h

theorem State.Tidy.pruneMons (h : s.Tidy) : s.pruneMons.Tidy :=
  .each h fun _ _ h =>
    have h₁ : State.Tidy _ := .ite h (.disarmLo h)
    .ite h₁ (.disarmHi h₁)

theorem State.Tidy.remap {b : State} (h : s.Tidy) : (s.remap b).Tidy :=
  .each h fun _ _ h => .ite h (.foldl (.endCause (.endCause (.endCause h))) fun _ _ h => .disarmHi (.disarmLo h))

theorem State.Tidy.afterWrite {b : State} {ws : List WField} (h : s.Tidy) : (s.afterWrite b ws).Tidy :=
  have h₁ : State.Tidy _ := .ite (.askSnap h) h
  have h₂ : State.Tidy _ := .ite (.runEval h₁) h₁
  have h₃ : State.Tidy _ := .ite (.syncOff h₂) h₂
  have h₄ : State.Tidy _ := .ite (.regroup (.each h₃ fun _ _ h => .countTines h)) h₃
  have h₅ : State.Tidy _ := .each
      (.ite
         (.each (.regroup h₄) fun _ _ h =>
            have h10 : State.Tidy _ := .ite (.addAll h) h
            .ite (.railStale h10) h10)
         h₄)
      fun _ _ h => .ite (.updLdo h) h
  have h₆ : State.Tidy _ := .ite (.setMany h₅) h₅
  have h₇ : State.Tidy _ := .ite (.retarget (.ite (.updGauge h₆) h₆)) h₆
  have h₈ : State.Tidy _ := .ite (.feAddAll h₇) h₇
  have h₉ : State.Tidy _ := .ite (.updChg (.setB h₈)) h₈
  .ite (.pruneMons (.remap h₉)) h₉

theorem State.Tidy.applyAll {acc : Accessor} {ws : List WField} (h : s.Tidy) : (s.applyAll acc ws).Tidy :=
  .foldl (.afterWrite (.foldl (.foldl h fun _ _ h => .applyField h) fun _ _ h => .commitIdle h)) fun _ _ h => .applyEnable h

theorem State.Tidy.applyBases {ws : List WField} (h : s.Tidy) : (s.applyBases ws).Tidy := .foldl h fun _ _ h => .baseWrite h
theorem State.Tidy.clearErr {acc : Accessor} {bits : Nat} (h : s.Tidy) : (s.clearErr acc bits).Tidy := .updAcc h

theorem State.Tidy.busWrite {acc : Accessor} {a mask data : Nat} (h : s.Tidy) : (s.busWrite acc a mask data).1.Tidy := by
  unfold State.busWrite
  dsimp only
  exact .ite_fst h
      (.ite_fst (.pair (.refuse h))
         (.ite_fst (.clearErr h)
            (by
               split
               · exact .pair (.refuse h)
               · exact
                   have h₁ : State.Tidy _ := .applyAll h
                   .ite (.applyBases h₁) h₁)))

theorem State.Tidy.busWrites {acc : Accessor} : ∀ {l : List (Nat × Nat)} {a : Nat} {s : State}, s.Tidy → (s.busWrites acc a l).1.Tidy
  | [], _, _, h => h
  | _ :: r, _, _, h => by
    unfold State.busWrites
    exact State.Tidy.busWrites (l := r) (.busWrite h)

/-! The mailboxes. -/

theorem State.Tidy.supersede {c w : Taken} (h : s.Tidy) : (s.supersede c w).Tidy := .respondAs (.count h)

theorem State.Tidy.dropPost {x : Port} (h : s.Tidy) : (s.dropPost x).Tidy := by
  unfold State.dropPost
  split
  · exact .updMbx (.setF h)
  · exact .updMbx h

theorem State.Tidy.beat {c r : Taken} {taken : Bool} (h : s.Tidy) : (s.beat c r taken).Tidy := .ite (.supersede h) (.updMbx h)

theorem State.Tidy.arbitrate {c : Taken} (h : s.Tidy) : (s.arbitrate c).Tidy := by
  unfold State.arbitrate
  dsimp only
  exact
    have h₁ : State.Tidy _ := .foldl h fun _ _ h => .beat h
    by split; exacts [.supersede h₁, .updMbx h₁]

theorem State.Tidy.takeIn {p : Port} {c : Taken} {check : Option Nat} (h : s.Tidy) : (s.takeIn p c check).Tidy := by
  unfold State.takeIn
  dsimp only
  split
  · exact .respond h
  · exact
      have h₁ : State.Tidy _ := .ite (.heartbeat h) h
      by split; exacts [.supersede (.updMbx h₁), .arbitrate h₁]

theorem Out.Tidy.commandTake {p : Port} (h : s.Tidy) : Out.Tidy (execCommandTake p s) := by
  unfold execCommandTake
  dsimp only
  split
  · exact .next h
  · exact .done (.takeIn (.dropPost h))

theorem Out.Tidy.runCmd {p : Port} {tag : BitVec 6} {mine : Nat → Bool} {f : State → Taken → State}
    (h : s.Tidy) (hf : ∀ t x2, State.Tidy t → (f t x2).Tidy) : Out.Tidy (s.runCmd p tag mine f) := by
  unfold State.runCmd
  split
  · exact .ite (.done (hf _ _ h)) (.next h)
  · exact .next h

theorem State.Tidy.guarded {c : Taken} {checks : List (Bool × Nat)} {ok : State → State}
    (h : s.Tidy) (hok : ∀ t, State.Tidy t → (ok t).Tidy) : (s.guarded c checks ok).Tidy := by
  unfold State.guarded
  split
  · exact .respond h
  · exact hok _ h

theorem State.Tidy.cmdRead {c : Taken} (h : s.Tidy) : (s.cmdRead c).Tidy := by
  unfold State.cmdRead
  exact .guarded h fun _ h => .respond (.foldl h fun _ _ h => .readEffect h)

theorem Out.Tidy.read {p : Port} {tag : BitVec 6} (h : s.Tidy) : Out.Tidy (execRead p tag s) := by
  unfold execRead
  exact .runCmd h fun _ _ h => .cmdRead h

theorem State.Tidy.cmdWrite {c : Taken} (h : s.Tidy) : (s.cmdWrite c).Tidy :=
  .ite (.respond h)
    (.guarded h fun _ h => by split; exacts [.respond h, .respond (.applyBases (.applyAll (.foldl h fun _ _ h => .clearErr h)))])

theorem State.Tidy.cmdEnable {c : Taken} {v : Bool} (h : s.Tidy) : (s.cmdEnable c v).Tidy := by
  unfold State.cmdEnable
  exact .guarded h fun _ h => .respond (.foldl h fun _ _ h => .ite (.enOn h) (.enOff h))

theorem Out.Tidy.enable {p : Port} {tag : BitVec 6} (h : s.Tidy) : Out.Tidy (execEnable p tag s) := by
  unfold execEnable
  exact .runCmd h fun _ _ h => .cmdEnable h

theorem Out.Tidy.disable {p : Port} {tag : BitVec 6} (h : s.Tidy) : Out.Tidy (execDisable p tag s) := by
  unfold execDisable
  exact .runCmd h fun _ _ h => .cmdEnable h

/-! Snapshots and the stream. -/

theorem State.Tidy.snapLog {code seq slot : Nat} (h : s.Tidy) : (s.snapLog code seq slot).Tidy := .log h

theorem State.Tidy.beginCopy {c : Copy} {i : Nat} {rest : List Copy} (h : s.Tidy) : (s.beginCopy c i rest).Tidy := by
  unfold State.beginCopy
  exact .updTel (.mramWrite (.mramWrite h))

theorem State.Tidy.nextCopy : ∀ {n : Nat} {s : State}, s.Tidy → (s.nextCopy n).Tidy
  | 0, _, h => h
  | n + 1, _, h => by
    unfold State.nextCopy
    refine .ite h ?_
    split
    · exact h
    · refine .ite h ?_
      split
      · exact .beginCopy h
      · exact State.Tidy.nextCopy (n := n) (.snapLog (.setB (.updTel h)))

theorem State.Tidy.endCopy (h : s.Tidy) : s.endCopy.Tidy := by
  unfold State.endCopy
  dsimp only
  split
  · split
    · exact .nextCopy (.snapLog (.updTel (.mramWrite h)))
    · exact h
  · exact h

theorem State.Tidy.abandonCopy (h : s.Tidy) : s.abandonCopy.Tidy := by
  unfold State.abandonCopy
  split
  · split
    · exact .snapLog (.setB (.updTel h))
    · exact h
  · exact h

theorem State.Tidy.resumeCopy (h : s.Tidy) : s.resumeCopy.Tidy := by
  unfold State.resumeCopy
  dsimp only
  exact
    have h₁ : State.Tidy _ := .updTel h
    by split; exacts [.ite (.beginCopy h₁) (.nextCopy h₁), .nextCopy h₁]

theorem State.Tidy.loseCopies {seq : Nat} (h : s.Tidy) : (s.loseCopies seq).Tidy :=
  .foldl (.updTel h) fun _ _ h => .snapLog (.setB h)

theorem State.Tidy.putSnap {r : SnapReq} {chan : List Word} (h : s.Tidy) : (s.putSnap r chan).Tidy :=
  have h₁ : State.Tidy _ := .answer (.snapLog (.updTel (.putWin (.loseCopies h)))) fun _ _ h => .respond h
  .ite (.nextCopy (.updTel h₁)) h₁

theorem State.Tidy.startRound (h : s.Tidy) : s.startRound.Tidy := by
  unfold State.startRound
  dsimp only
  exact
    have h₁ : State.Tidy _ := .updMbx h
    by split; exacts [.wantSnap (.updTel h₁), h₁]

theorem State.Tidy.takeSnap {chan : List Word} (h : s.Tidy) : (s.takeSnap chan).Tidy :=
  .startRound (by split; exacts [.putSnap h, h])

theorem State.Tidy.streamRound {chan : List Word} (h : s.Tidy) : (s.streamRound chan).Tidy := .ite (.updTel h) h

theorem Out.Tidy.streamRecord (h : s.Tidy) : Out.Tidy (execStreamRecord s) := by
  unfold execStreamRecord
  refine .ite ?_ (.next h)
  extract_lets n vals len rec off tail src t start t₁ t₂ t₃
  have ht : t.Tidy := .inner h rfl
  have h₁ : t₁.Tidy := { ht with win := memWrite_wf _ _ _ (memWrite_wf _ _ _ ht.win) }
  have h₃ : t₃.Tidy := .setF (.ite (.setF h₁) h₁)
  exact .ite (.done (.count ht)) (.done (.ite (.setB h₃) h₃))

end

end Sys2Proof.Machine
end

section
/-!
PROOFS. Canonical states: the rows from sleep to the power path keep the canonical form.
-/

namespace Sys2Proof.Machine

section
variable {s : State}

/-! Sleep, waking and shipping. -/

theorem State.Tidy.outputsOff (h : s.Tidy) : s.outputsOff.Tidy := by
  unfold State.outputsOff
  exact
    have h₁ : State.Tidy _ := .each
        (.each (.each h fun _ _ h => .updRail (.setB (.ite h (.railToOff h)))) fun _ _ h => .ite h (.ldoToOff h)) fun _ _ h =>
        .ite h (.setIsoState h)
    .ite h₁ (.setFe (.updFe h₁))

theorem State.Tidy.earlyOff {d : Nat} (h : s.Tidy) : (s.earlyOff d).Tidy := by
  unfold State.earlyOff
  split
  · exact .updRail (.enOff h)
  · exact .updLdo (.enOff h)
  · exact .enOff h
  · exact h

theorem State.Tidy.startSleep {ship : Bool} (h : s.Tidy) : (s.startSleep ship).Tidy :=
  have h₁ : State.Tidy _ := .setChgPhase (.updSys h)
  have h₂ : State.Tidy _ := .ite h₁ (.setFe h₁)
  .batfet (.each (.ite (.updPath h₂) (.pathOff h₂)) fun _ _ h => .earlyOff h)

theorem Out.Tidy.earlyRailDischargeTimeout {d : Fin 4} (h : s.Tidy) : Out.Tidy (execEarlyRailDischargeTimeout d s) := by
  unfold execEarlyRailDischargeTimeout
  split
  · exact .ite (.done (.raise (.updSys h))) (.next h)
  · exact .next h

theorem State.Tidy.endCopies : ∀ {n : Nat} {s : State}, s.Tidy → (State.endCopies n s).Tidy
  | 0, _, h => h
  | n + 1, _, h => by
    unfold State.endCopies
    exact .ite (State.Tidy.endCopies (n := n) (.endCopy h)) h

theorem State.Tidy.enterFawn {ship : Bool} (h : s.Tidy) : (s.enterFawn ship).Tidy := by
  unfold State.enterFawn
  exact .batfet <| .setState <| .updSys <| .updGauge <| .setMany <| .outputsOff <| .abandon <| .log <| .endCopies <|
      .ite (.saveNow h) (.updGauge h)

theorem Out.Tidy.fawnEntryComplete (h : s.Tidy) : Out.Tidy (execFawnEntryComplete s) := by
  unfold execFawnEntryComplete
  split
  · exact .done (.enterFawn h)
  · exact .next h

theorem State.Tidy.latchSources (h : s.Tidy) : s.latchSources.Tidy :=
  .ite
    (.setB (.ite
         (.setB (.ite (.setB (.ite (.setB (.ite (.setB h) h)) (.ite (.setB h) h)))
              (.ite (.setB (.ite (.setB h) h)) (.ite (.setB h) h))))
         (.ite (.setB (.ite (.setB (.ite (.setB h) h)) (.ite (.setB h) h))) (.ite (.setB (.ite (.setB h) h)) (.ite (.setB h) h)))))
    (.ite
       (.setB (.ite (.setB (.ite (.setB (.ite (.setB h) h)) (.ite (.setB h) h)))
            (.ite (.setB (.ite (.setB h) h)) (.ite (.setB h) h))))
       (.ite (.setB (.ite (.setB (.ite (.setB h) h)) (.ite (.setB h) h))) (.ite (.setB (.ite (.setB h) h)) (.ite (.setB h) h))))

theorem State.Tidy.wakeUp {src : Fld} (h : s.Tidy) : (s.wakeUp src).Tidy := .boot (.updGauge (.latchSources (.setB h)))
theorem State.Tidy.noteOpening {c : IswCause} (h : s.Tidy) : (s.noteOpening c).Tidy := .ite h (.updPath h)

theorem State.Tidy.fawnOpening {c : IswCause} (h : s.Tidy) : (s.fawnOpening c).Tidy :=
  have h₁ : State.Tidy _ := .noteOpening h
  .ite
    (have h₂ : State.Tidy _ := .pathLog (.updPath (.setB h₁))
     .ite (.wakeUp h₂) h₂)
    h₁

theorem Out.Tidy.wakeEvent {w : WakeSource} (h : s.Tidy) : Out.Tidy (execWakeEvent w s) :=
  .ite
    (by
       split
       · exact .ite (.done (.wakeUp (.updSys h))) (.next h)
       · exact .ite (.done (.wakeUp (.updSys h))) (.next h)
       · exact .ite (.done (.wakeUp (.updSys h))) (.next h)
       · exact .done (.wakeUp h)
       · exact .done (.fawnOpening h)
       · exact .ite (.done (.wakeUp h)) (.next h))
    (.next h)

theorem Out.Tidy.wakeTimerExpiry (h : s.Tidy) : Out.Tidy (execWakeTimerExpiry s) :=
  .ite (.next h) (.ite (.done (.wakeUp h)) (.done (.wakeLatch h)))

theorem Out.Tidy.wakeSourceAsserted {w : WakeSource} (h : s.Tidy) : Out.Tidy (execWakeSourceAsserted w s) :=
  .ite
    (by
       split
       · exact .done (.wakeSeen (.updSys h))
       · exact .done (.wakeSeen (.updSys h))
       · exact .done (.wakeSeen (.updSys h))
       · exact .done (.wakeSeen h)
       · exact .done (.ite (.wakeLatch h) h)
       · exact .done (.ite (.abandonSleep h) h))
    (.next h)

theorem Out.Tidy.shipLatchRelease (h : s.Tidy) : Out.Tidy (execShipLatchRelease s) :=
  .ite
    (have h₁ : State.Tidy _ := .updSys h
     .ite (.done (.boot h₁)) (.next h₁))
    (.next h)

/-! The configuration store. -/

theorem State.Tidy.restore {cold : Bool} (h : s.Tidy) : (s.restore cold).Tidy := by
  unfold State.restore
  extract_lets l t₁ hold t₂ t₃ t₄ t₅ t₆
  have h₁ : t₁.Tidy := by
    dsimp only [t₁]
    split
    · exact .writeChem h
    · exact h
  have h₃ : t₃.Tidy := by
    refine .foldl (.setMany h₁) fun _ _ h => ?_
    split
    · exact .stage h
    · exact h
  have h₅ : t₅.Tidy := .setMany (.foldl h₃ fun _ _ h => .commit h)
  have h₆ : t₆.Tidy := by
    dsimp only [t₆]
    split
    · exact .writeDrive h₅
    · exact h₅
  exact .tryClose (.pruneMons (.retarget (.regroup (.each h₆ fun _ _ h => .countTines h))))

/-! Supply, RESET_N and the boot. -/

theorem State.Tidy.abandonSave (h : s.Tidy) : s.abandonSave.Tidy :=
  .ite (.storeStat (.answer (.answer (.setMany (.updGauge h)) fun _ _ h => .respond h) fun _ _ h => .respond h)) h

theorem Out.Tidy.vkeepLowAssert {mv : Word} (h : s.Tidy) : Out.Tidy (execVkeepLowAssert mv s) :=
  .ite
    (have h₁ : State.Tidy _ := .updSys h
     .done (.ite (.abandonCopy (.abandonSave (.log h₁))) h₁))
    (.next h)

theorem Out.Tidy.vkeepLowRelease {mv : Word} (h : s.Tidy) : Out.Tidy (execVkeepLowRelease mv s) :=
  .ite
    (have h₁ : State.Tidy _ := .updSys h
     .done (.ite (.flushPlan (.resumeCopy (.log h₁))) h₁))
    (.next h)

theorem State.Tidy.allStop (h : s.Tidy) : s.allStop.Tidy := by
  unfold State.allStop
  exact .batfet (.updPath (.pathOff (.setChgPhase (.outputsOff h))))

theorem Out.Tidy.resetNRecognised (h : s.Tidy) : Out.Tidy (execResetNRecognised s) := by
  unfold execResetNRecognised
  refine .ite ?_ (.next h)
  extract_lets t₁ t₂ u
  have h₂ : t₂.Tidy := .updFlt (.setMany (.updSys h))
  have hstop : u.allStop.Tidy := .allStop (.updSeq (.setMany h₂))
  exact .ite (.next h₂) (.next (.inner hstop (by dsimp only [State.files])))

theorem State.Tidy.latchFuses (h : s.Tidy) : s.latchFuses.Tidy := { h with latch := Cells.wf_filter h.words _ }

theorem State.Tidy.pickSlot (h : s.Tidy) : s.pickSlot.Tidy :=
  .ite (.updSys (.setB (.updResult (.setSel (.discardSlot (.setF h)))))) (.updSys (.ite (.setSel h) h))

theorem State.Tidy.sramMarch {rows : List (Nat × Nat)} (h : s.Tidy) : (s.sramMarch rows).Tidy :=
  .each h fun _ _ h =>
    have h₁ : State.Tidy _ := .foldl (.setMany h) fun _ _ h => .log h
    .ite (.raise h₁) h₁

theorem State.Tidy.herdPresence {lowA lowB : Bool} (h : s.Tidy) : (s.herdPresence lowA lowB).Tidy := .setMany (.updSys h)
theorem State.Tidy.enterHold {key : Nat} (h : s.Tidy) : (s.enterHold key).Tidy := .allStop (.updSys (.setMany h))

theorem State.Tidy.loadHistory (h : s.Tidy) : s.loadHistory.Tidy := by
  unfold State.loadHistory
  extract_lets s₁
  have h₁ : s₁.Tidy := by
    dsimp only [s₁]
    split
    · exact .setMany h
    · exact h
  split
  · exact .setI h₁
  · exact h₁

theorem State.Tidy.xtalStopped (h : s.Tidy) : s.xtalStopped.Tidy := .raiseLasting (.setB h)

theorem State.Tidy.romStart {r : FuseRead} (h : s.Tidy) : (s.romStart r).Tidy :=
  have h₁ : State.Tidy _ := .setMany (.updOtp (.latchFuses h) rfl rfl)
  have h₂ : State.Tidy _ := .foldl
      (.foldl (.sramMarch (.herdPresence (.pickSlot (.ite (.updSys (.setB h₁)) h₁)))) fun _ _ h => .raise h) fun _ _ h =>
      .reportOpening h
  .batfet (.regroup (.each (.loadRepair (.loadHistory (.ite (.xtalStopped h₂) h₂))) fun _ _ h => .countTines h))

theorem Out.Tidy.fuseReadComplete {r : FuseRead} (h : s.Tidy) : Out.Tidy (execFuseReadComplete r s) :=
  .ite .fault (.ite (by split; exacts [.next (.enterHold h), .done (.romStart h)]) (.next h))

theorem Out.Tidy.earlyOutputTimeout {d : Fin 4} (h : s.Tidy) : Out.Tidy (execEarlyOutputTimeout d s) :=
  .ite
    (have h₁ : State.Tidy _ := .updSys h
     .done (.raise (by split; exacts [.enOff h₁, h₁])))
    (.next h)

theorem State.Tidy.bootTime (h : s.Tidy) : s.bootTime.Tidy := .setF h

theorem State.Tidy.noSlot (h : s.Tidy) : s.noSlot.Tidy :=
  .ite (.allStop (.updSys (.setB h)))
    (.followPin <| .ifVer <| .setB <| .setState <| .bootTime <|
       .foldl (.each (.updSys (.setB h)) fun _ _ h => .ite h (.enOff h)) fun _ _ h => by split; exacts [.enOff h, h])

theorem State.Tidy.slotFails {slot second : Bool} (h : s.Tidy) : (s.slotFails slot second).Tidy :=
  have h₁ : State.Tidy _ := .updUpd h
  .ite (.noSlot h₁) (.updSys h₁)

theorem Out.Tidy.imageVerified {ok : Bool} (h : s.Tidy) : Out.Tidy (execImageVerified ok s) := by
  unfold execImageVerified
  dsimp only
  split
  · exact .ite
        (.ite
           (have h₁ : State.Tidy _ := .updSys (.setF h)
            .done (.ite (.setB h₁) h₁))
           (.done (.slotFails h)))
        (.next h)
  · exact .next h

theorem Out.Tidy.bootCoreTimeout (h : s.Tidy) : Out.Tidy (execBootCoreTimeout s) := by
  unfold execBootCoreTimeout
  split
  · exact .ite (.done (.slotFails h)) (.next h)
  · exact .next h

theorem State.Tidy.standby {slot : Bool} (h : s.Tidy) : (s.standby slot).Tidy := by
  unfold State.standby
  exact
    have h₁ : State.Tidy _ := .updSys <| .setB <| .followPin <| .setState <| .bootTime <| .ifVer <| .gaugeStart <| .updSys <|
        .updUpd <| .deriveFront <| .restore <| h
    .runAtStandby (.batfet (.tryClose (.feTryStart (.ite (.chgStart h₁) h₁))))

theorem Out.Tidy.bootComplete (h : s.Tidy) : Out.Tidy (execBootComplete s) := by
  unfold execBootComplete
  split
  · exact .ite (.done (.standby h)) (.next h)
  · exact .next h

/-! Fuses. -/

theorem State.Tidy.burnt {r i v : Nat} (h : s.Tidy) : (s.burnt r i v).Tidy := { h with words := cellSet_wf _ _ _ _ h.words }

theorem State.Tidy.program {r i v : Nat} (h : s.Tidy) : (s.program r i v).Tidy := by
  have hb : (s.burnt r i v).Tidy := .burnt h
  unfold State.program
  exact .ite (.setB hb) hb

theorem State.Tidy.cmdProgram {readBack : Word} {c : Taken} (h : s.Tidy) : (s.cmdProgram readBack c).Tidy :=
  .guarded h fun _ h =>
    .ite (.respond h)
      (have h₁ : State.Tidy _ := .program h
       .ite (.respond h₁) (.respond h₁))

theorem State.Tidy.cmdLock {ok : Bool} {c : Taken} (h : s.Tidy) : (s.cmdLock ok c).Tidy :=
  .guarded h fun _ h => .respond (.updOtp h rfl rfl)

theorem State.Tidy.reread {bad : List Nat} (h : s.Tidy) : (s.reread bad).Tidy :=
  .ite (.updOtp h rfl rfl) (.foldl (.updOtp (.setF h) rfl rfl) fun _ _ h => .raise (.setBitOf h))

/-! Tests of tines, plans and copies. -/

theorem State.Tidy.repairRecord {r rOn leak : Nat} (h : s.Tidy) : (s.repairRecord r rOn leak).Tidy :=
  have h₁ : State.Tidy _ := .ite h (.updNv h)
  .log (by split; exacts [.setF (.program h₁), h₁])

theorem State.Tidy.startTest {n : Nat} (h : s.Tidy) : (s.startTest n).Tidy := .setB (.updAge h)

theorem Out.Tidy.runtimeTineTestStart {n : Fin 16} (h : s.Tidy) : Out.Tidy (execRuntimeTineTestStart n s) := by
  unfold execRuntimeTineTestStart
  dsimp only
  split
  · exact .next h
  · split
    · exact .next h
    · exact .ite (.done (.updAge (.startTest (.ite (.setRegime (.updRail (.setB (.setSwitching h)))) h)))) (.next h)

theorem State.Tidy.retireTine {n : Nat} {x : TineReading} (h : s.Tidy) : (s.retireTine n x).Tidy :=
  .ite h
    (have h₁ : State.Tidy _ := .repairRecord (.raise (.retire h))
     .ite (.raise h₁) h₁)

theorem State.Tidy.leaveService {n : Nat} (h : s.Tidy) : (s.leaveService n).Tidy := by
  unfold State.leaveService
  dsimp only
  exact
    have h₁ : State.Tidy _ := .regroup (.raise (.setB h))
    by split; exacts [h₁, .ite (.ite h₁ (.raise (.railLock h₁))) (.ite (.setRegime (.setSwitching h₁)) h₁)]

theorem Out.Tidy.tineTestDone {n : Fin 16} {readings : List TineReading} (h : s.Tidy) :
    Out.Tidy (execTineTestDone n readings s) :=
  .ite .fault
    (.ite
       (have h₁ : State.Tidy _ := .foldl h fun _ _ h => .retireTine h
        .done (.endTest (.setMany (.updAge (.ite (.leaveService h₁) h₁)))))
       (.next h))

theorem State.Tidy.retireCopy {c : Nat} {above : Bool} {copy : Nat} (h : s.Tidy) : (s.retireCopy c above copy).Tidy :=
  .repairRecord (.raise (.setBitOf h))

theorem State.Tidy.copyDisagrees {c : Nat} {above : Bool} {copy : Nat} (h : s.Tidy) : (s.copyDisagrees c above copy).Tidy :=
  .ite h (.ite (.retireCopy (.updAge h)) (.updAge h))

theorem Out.Tidy.comparatorTrip {c : Fin 28} {above : Bool} {x : Confirm} (h : s.Tidy) :
    Out.Tidy (execComparatorTrip c above x s) :=
  .ite
    (have h₁ : State.Tidy _ := .setTrip h
     have h₂ : State.Tidy _ := .ite (.pgFall h₁) h₁
     have h₃ : State.Tidy _ := .ite (.takeEarlyLoss h₂) (.windowFault h₂)
     have h₄ : State.Tidy _ := .ite h₃ (.raise (.setB h₃))
     .done (by split; exacts [.copyDisagrees h₄, h₄]))
    (.next h)

theorem State.Tidy.noteBases (h : s.Tidy) : s.noteBases.Tidy := .foldl h fun _ _ h => .ite h (.putBase h)
theorem State.Tidy.planLog {p : Plan} {event : Nat} (h : s.Tidy) : (s.planLog p event).Tidy := .log h

theorem State.Tidy.publishPlan {items : List PlanItem} (h : s.Tidy) : (s.publishPlan items).Tidy :=
  .ite h (.planLog (.setB (.updAge (.updNv (by split; exacts [.planLog h, h])))))

theorem State.Tidy.appendHistory {x : PlanInput} {boot : Bool} (h : s.Tidy) : (s.appendHistory x boot).Tidy :=
  .ite h (.updNv (.mramWrite h))

theorem Out.Tidy.planRun {x : PlanInput} (h : s.Tidy) : Out.Tidy (execPlanRun x s) :=
  .ite .fault
    (.ite
       (have h₁ : State.Tidy _ := .updAge h
        have h₂ : State.Tidy _ := .setMany (.ite h₁ (.noteBases h₁))
        have h₃ : State.Tidy _ := .ite (.draw (.raise h₂)) h₂
        .done (.appendHistory (.ite h₃ (.publishPlan h₃))))
       (.next h))

theorem State.Tidy.applyItem {x : PlanItem} (h : s.Tidy) : (s.applyItem x).1.Tidy :=
  .ite_fst (.setI h) (.ite_fst h (.applyAll h))

theorem State.Tidy.setItems {l : List PlanItem} (h : s.Tidy) : (s.setItems l).Tidy := .updAge h

theorem Out.Tidy.planItemApply {item : Nat} (h : s.Tidy) : Out.Tidy (execPlanItemApply item s) := by
  unfold execPlanItemApply
  dsimp only
  split
  · exact .next h
  · split
    · exact .next h
    · exact .ite
          (have h₁ : State.Tidy _ := .applyItem h
           .done (.closePlan (.setItems (.ite (.planLog h₁) h₁))))
          (.next h)

theorem State.Tidy.cmdVeto {c : Taken} (h : s.Tidy) : (s.cmdVeto c).Tidy :=
  .guarded h fun _ h => by split; exacts [h, .respond (.closePlan (.planLog (.updAge (.setItems h))))]

theorem State.Tidy.applyItems : ∀ {l : List PlanItem} {s : State}, s.Tidy → (s.applyItems l).1.Tidy
  | [], _, h => h
  | _ :: r, _, h => by
    unfold State.applyItems
    exact State.Tidy.applyItems (l := r) (.ite_fst (.applyItem h) h)

theorem State.Tidy.cmdApprove {c : Taken} (h : s.Tidy) : (s.cmdApprove c).Tidy :=
  .guarded h fun _ h => by split; exacts [h, .respond (.closePlan (.planLog (.setItems (.applyItems h))))]

theorem State.Tidy.cmdPlan {c : Taken} (h : s.Tidy) : (s.cmdPlan c).Tidy := by
  unfold State.cmdPlan
  dsimp only
  split
  · exact .guarded h fun _ h => .respond h
  · exact .guarded h fun _ h => .respond h

/-! Rows of the front end. -/

theorem State.Tidy.endReturn (h : s.Tidy) : s.endReturn.Tidy :=
  .feTryStart (.pathLog (.count (.endIbex (.updPath (.setPath h)))))

theorem State.Tidy.feForward (h : s.Tidy) : s.feForward.Tidy := .ite (.setFe h) (.ite (.raise (.setFe h)) (.setFe (.setF h)))

theorem Out.Tidy.feChangeDone (h : s.Tidy) : Out.Tidy (execFeChangeDone s) :=
  .ite
    (.ite (.done (.feRev (.updFe h)))
       (.ite
          (have h₁ : State.Tidy _ := .feForward h
           .done (.ite (.endReturn h₁) h₁))
          (.done (.setFe h))))
    (.next h)

theorem State.Tidy.feTrip {bit : Fld} {cause : Nat} (h : s.Tidy) : (s.feTrip bit cause).Tidy :=
  have h₁ : State.Tidy _ := .setB h
  .raiseLasting (.endCause (.ite h₁ (.feLock h₁)))

theorem Out.Tidy.feVhbOv {third : Bool} (h : s.Tidy) : Out.Tidy (execFeVhbOv third s) :=
  .ite (.ite (.done (.feTrip h)) (.done (.raiseLasting (.updFe (.setMany h))))) (.next h)

theorem Out.Tidy.feVhbOvRelease (h : s.Tidy) : Out.Tidy (execFeVhbOvRelease s) :=
  have h₁ : State.Tidy _ := .endCause h
  .done (.ite (.updFe (.setF h₁)) h₁)

theorem Out.Tidy.feOpenPhase {p : Fin 2} (h : s.Tidy) : Out.Tidy (execFeOpenPhase p s) :=
  .ite
    (have h₁ : State.Tidy _ := .setB (.setBitOf h)
     .ite (.done (.raise (.feLock h₁)))
       (have h₂ : State.Tidy _ := .updFe (.setF h₁)
        .done (.raise (.ite h₂ (.setMany h₂)))))
    (.next h)

theorem Out.Tidy.feStepInhibitStart {byError : Bool} (h : s.Tidy) : Out.Tidy (execFeStepInhibitStart byError s) :=
  .ite (.done (.feAddAll (.updFe (.ite (.setF h) h)))) (.next h)

/-! Rows of the power path. -/

theorem State.Tidy.clearOpening (h : s.Tidy) : s.clearOpening.Tidy := .endCause (.endCause (.updPath h))

theorem Out.Tidy.vbusQualified (h : s.Tidy) : Out.Tidy (execVbusQualified s) :=
  .ite (.done (.tryReturn (.tryClose (.setB (.clearOpening h))))) (.next h)

theorem State.Tidy.discharge {c : IswCause} (h : s.Tidy) : (s.discharge c).Tidy :=
  .ite
    (have h₁ : State.Tidy _ := .updPath (.openIsw h)
     .ite (.pathLog h₁) h₁)
    h

theorem Out.Tidy.iswOpeningCause {c : IswCause} (h : s.Tidy) : Out.Tidy (execIswOpeningCause c s) :=
  .ite (.next h)
    (.ite (.done (.fawnOpening h))
       (have h₁ : State.Tidy _ := .reportOpening (.discharge (.noteOpening h))
        .done (.ite (.abandonSleep h₁) h₁)))

theorem Out.Tidy.vbusLoss {c : LossCause} (h : s.Tidy) : Out.Tidy (execVbusLoss c s) :=
  .ite (by split; exacts [.done (.loss (.setB h)), .ite (.done (.loss (.setB h))) (.next h)]) (.next h)

theorem Out.Tidy.handoverComplete {inReg : Bool} {us : Nat} (h : s.Tidy) : Out.Tidy (execHandoverComplete inReg us s) :=
  .ite
    (have h₁ : State.Tidy _ := .setMany h
     .ite
       (have h₂ : State.Tidy _ := .setPath h₁
        have h₃ : State.Tidy _ := .ite h₂ (.refresh (.setMany h₂))
        .done (.ite h₃ (.raise (.setB h₃))))
       (.done (.endIbex (.setPath (.ite h₁ (.setFe h₁))))))
    (.next h)

theorem Out.Tidy.returnMatchTimeout (h : s.Tidy) : Out.Tidy (execReturnMatchTimeout s) :=
  .ite (.done (.raise (.setB (.slewedClose (.updPath (.setFe h)))))) (.next h)

theorem Out.Tidy.iswCloseComplete (h : s.Tidy) : Out.Tidy (execIswCloseComplete s) :=
  .ite
    (have h₁ : State.Tidy _ := .updPath (.setB h)
     .ite (.done (.feTryStart (.setPath h₁))) (.ite (.done (.ite (.endReturn h₁) (.ite (.setFe h₁) h₁))) (.done h₁)))
    (.next h)

theorem Out.Tidy.iswCloseTimeout (h : s.Tidy) : Out.Tidy (execIswCloseTimeout s) :=
  .ite
    (have h₁ : State.Tidy _ := .raise (.setMany (.openIsw h))
     .done (.pathLog (.endIbex (.ite (.setPath h₁) h₁))))
    (.next h)

theorem State.Tidy.endHold (h : s.Tidy) : s.endHold.Tidy := by
  unfold State.endHold
  exact .updPath (.endIbex (.setPath (.openIsw (.ite h (.setFe h)))))

theorem Out.Tidy.holdupExhausted (h : s.Tidy) : Out.Tidy (execHoldupExhausted s) := by
  unfold execHoldupExhausted
  exact .ite (.done (.tryClose (.raise (.setB (.endHold h))))) (.next h)

theorem Out.Tidy.deepDischargeCutoff (h : s.Tidy) : Out.Tidy (execDeepDischargeCutoff s) :=
  .ite
    (have h₁ : State.Tidy _ := .requestSave (.raise (.updPath (.setB h)))
     .done (.ite h₁ (.setChgPhase h₁)))
    (.next h)

theorem Out.Tidy.cutoffBatfetOff (h : s.Tidy) : Out.Tidy (execCutoffBatfetOff s) := by
  unfold execCutoffBatfetOff
  exact .ite
      (have h₁ : State.Tidy _ := .batfet (.updPath h)
       have h₂ : State.Tidy _ := .ite (.endHold h₁) h₁
       .done (.ite (.tryClose h₂) (.updSys h₂)))
      (.next h)

end

end Sys2Proof.Machine
end

section
/-!
PROOFS. Canonical states: the remaining rows keep the canonical form, and with them every step.
-/

namespace Sys2Proof.Machine

section
variable {s : State}

/-! The battery. -/

theorem Out.Tidy.batteryPresenceRise {ntc1 : Nat} (h : s.Tidy) : Out.Tidy (execBatteryPresenceRise ntc1 s) :=
  .ite
    (have h₁ : State.Tidy _ := .pathLog (.retarget (.batfet (.endCause (.updPath (.flagged (.updGauge (.draw (.setMany h))))))))
     .done (.ite (.beginInsertion h₁) h₁))
    (.next h)

theorem Out.Tidy.insertionCheck {bats : Nat} (h : s.Tidy) : Out.Tidy (execInsertionCheck bats s) :=
  .ite
    (have h₁ : State.Tidy _ := .batfet (.updPath h)
     .ite
       (have h₂ : State.Tidy _ := .setMany h₁
        .done (.raise (.flagged (.updGauge (.ite (.noOutputs h₂) h₂)))))
       (.done (.ite (.updGauge h₁) h₁)))
    (.next h)

theorem Out.Tidy.insertionFirstEstimate {cells : List Nat} {i : Int} (h : s.Tidy) :
    Out.Tidy (execInsertionFirstEstimate cells i s) := .ite .fault (.ite (.done (.updGauge (.updGauge h))) (.next h))

theorem State.Tidy.gaugeRemoval (h : s.Tidy) : s.gaugeRemoval.Tidy :=
  .ite (.updGauge (.setMany (.noOutputs (.requestSave h)))) h

theorem State.Tidy.removeBattery {vsys : Nat} (h : s.Tidy) : (s.removeBattery vsys).Tidy := by
  unfold State.removeBattery
  exact
    have h₁ : State.Tidy _ := .updPath (.endCause (.setMany h))
    have h₂ : State.Tidy _ := .ite (.raiseLasting (.chgToFault (.setB h₁))) h₁
    .retarget <| .pathLog <| .batfet <| .flagged <| .setMany <| .gaugeRemoval <|
      .ite (.tryClose (.endHold h₂))
        (.ite
           (have h₃ : State.Tidy _ := .updFe h₂
            .ite (.setFe h₃) h₃)
           h₂)

theorem State.Tidy.restSecond {mean : Rat} (h : s.Tidy) : (s.restSecond mean).Tidy :=
  .ite (.updGauge h) (.flagged (.updGauge (.setB h)))

theorem State.Tidy.restSample {i : Int} (h : s.Tidy) : (s.restSample i).Tidy :=
  .ite (.updGauge h) (.ite (.restSecond h) (.ite (.updGauge h) (.restSecond (.updGauge h))))

theorem State.Tidy.stepSample {di : Int} (h : s.Tidy) : (s.stepSample di).Tidy := by
  unfold State.stepSample
  split
  · exact .ite (.updGauge h) h
  · exact h

theorem State.Tidy.takeSample {nV : Int} {carry : Nat} (h : s.Tidy) : (s.takeSample nV carry).Tidy :=
  have h₁ : State.Tidy _ := .updGauge h
  have h₂ : State.Tidy _ := .setMany (.addCharge (.ite h₁ (.stepSample h₁)))
  .restSample (.ite (.setI h₂) h₂)

theorem State.Tidy.cellRound (h : s.Tidy) : s.cellRound.Tidy :=
  have h₁ : State.Tidy _ := by split; exacts [.updGauge h, h]
  .ite h₁ (by split <;> exact .updGauge h₁)

theorem State.Tidy.windowReadings (h : s.Tidy) : s.windowReadings.Tidy := .setI (.ite h (.each h fun _ _ h => .setF h))

theorem State.Tidy.windowFlags (h : s.Tidy) : s.windowFlags.Tidy :=
  have h₁ : State.Tidy _ := .setMany h
  have h₂ : State.Tidy _ := .ite (.raiseLasting h₁) (.endCause h₁)
  .ite (.raiseLasting h₂) (.endCause h₂)

theorem State.Tidy.anchorStep (h : s.Tidy) : (s.anchorStep).1.Tidy :=
  have h₁ : State.Tidy _ := .updGauge h
  .ite_fst (.requestSave (.endCause (.setMany (.updGauge (.learnAnchor h₁))))) (.setB h₁)

theorem State.Tidy.loadStep (h : s.Tidy) : s.loadStep.Tidy := by
  unfold State.loadStep
  exact .updGauge h

theorem State.Tidy.settleStep {was : InsStage} (h : s.Tidy) : (s.settleStep was).Tidy :=
  .ite (.requestSave (.updGauge (.setMany h))) h

theorem State.Tidy.filterStep (h : s.Tidy) : s.filterStep.Tidy :=
  .ite (.beginInsertion (.gaugeRemoval h))
    (have h₁ : State.Tidy _ := .updGauge (.predictAll h)
     have h₂ : State.Tidy _ := .ite_fst (.anchorStep h₁) (.pair (.updGauge h₁))
     have h₃ : State.Tidy _ := .updGauge (.ite (.updGauge h₂) h₂)
     .updGauge (.settleStep (.loadStep (.ite (.dispute h₃) h₃))))

theorem State.Tidy.takeProfile (h : s.Tidy) : s.takeProfile.Tidy :=
  .ite
    (have h₁ : State.Tidy _ := .updGauge (.updGauge h)
     .ite h₁ (.setB (.updGauge (.beginInsertion h₁))))
    h

theorem Out.Tidy.gaugeFilterCycle {cut : Bool} (h : s.Tidy) : Out.Tidy (execGaugeFilterCycle cut s) :=
  .ite
    (have h₁ : State.Tidy _ := .windowReadings (.commit h)
     .done <| .updGauge <|
       .ite
         (have h₂ : State.Tidy _ := .takeProfile (.windowFlags h₁)
          .flagged (.putMirror (.publish (.ite h₂ (.filterStep h₂)))))
         h₁)
    (.next h)

theorem Out.Tidy.restReached (h : s.Tidy) : Out.Tidy (execRestReached s) :=
  .ite
    (have h₁ : State.Tidy _ := .updGauge (.setB h)
     .done (.flagged (.updGauge (.ite (.draw (.draw (.updGauge h₁))) h₁))))
    (.next h)

theorem Out.Tidy.fawnGaugeInterval {nV : Int} {carry : Nat} (h : s.Tidy) : Out.Tidy (execFawnGaugeInterval nV carry s) :=
  .ite
    (have h₁ : State.Tidy _ := .updGauge (.updSys (.takeSample h))
     .ite (.done (.wakeUp h₁)) (.done h₁))
    (.next h)

theorem Out.Tidy.learnedRecordWriteDone (h : s.Tidy) : Out.Tidy (execLearnedRecordWriteDone s) := by
  unfold execLearnedRecordWriteDone
  dsimp only
  split
  · exact .next h
  · exact
      have h₁ : State.Tidy _ := .answer (.endSave h) fun _ _ h => .respond h
      by split; exacts [.done (.putSave (.updMbx h₁)), .done h₁]

/-! Rows of the charger. -/

theorem Out.Tidy.chgStep {p : Nat} {go : State → State} (h : s.Tidy) (hgo : ∀ t, State.Tidy t → (go t).Tidy) :
    Out.Tidy (s.chgStep p go) := .ite (.done (hgo _ h)) (.next h)

theorem Out.Tidy.chgCvToTopoff (h : s.Tidy) : Out.Tidy (execChgCvToTopoff s) :=
  .chgStep h fun _ h =>
    have h₁ : State.Tidy _ := .requestSave (.setChgPhase h)
    .ite (.setChgPhase h₁) h₁

theorem Out.Tidy.chgRecharge {byVoltage : Bool} (h : s.Tidy) : Out.Tidy (execChgRecharge byVoltage s) :=
  .ite (.done (.chgEval (.setChgPhase (.setMany h)))) (.next h)

theorem State.Tidy.chgFail {bit : Fld} {cause lvl : Nat} (h : s.Tidy) : (s.chgFail bit cause lvl).Tidy :=
  .raiseLasting (.chgToFault (.setB h))

theorem Out.Tidy.chgFault {c : ChgCause} (h : s.Tidy) : Out.Tidy (execChgFault c s) :=
  .ite (.next h)
    (by split; exacts [.ite (.done (.chgFail h)) (.next h), .done (.chgFail h), .ite (.done (.chgFail h)) (.next h)])

theorem Out.Tidy.balanceWindow {bleed : Bool} (h : s.Tidy) : Out.Tidy (execBalanceWindow bleed s) :=
  .ite (.ite (.done (.setB (.updChg h))) (.done (.setB h))) (.next h)

/-! Commands. -/

theorem State.Tidy.cmdInfo {c : Taken} (h : s.Tidy) : (s.cmdInfo c).Tidy := .guarded h fun _ h => .respond h
theorem State.Tidy.cmdHeartbeat {c : Taken} (h : s.Tidy) : (s.cmdHeartbeat c).Tidy := .guarded h fun _ h => .respond h
theorem State.Tidy.cmdRun {c : Taken} (h : s.Tidy) : (s.cmdRun c).Tidy := .guarded h fun _ h => .respond (.runEval (.setB h))
theorem State.Tidy.cmdStop {c : Taken} (h : s.Tidy) : (s.cmdStop c).Tidy := .guarded h fun _ h => .respond (.runEval (.setB h))
theorem State.Tidy.askWake (h : s.Tidy) : s.askWake.Tidy := .ite (.draw (.updSys h)) h

theorem State.Tidy.cmdSleep {c : Taken} (h : s.Tidy) : (s.cmdSleep c).Tidy := by
  unfold State.cmdSleep
  split
  · exact .respond (.ite (.setB h) h)
  · exact .ite (.respond (.setB (.askWake h))) (.startSleep (.respond (.askWake h)))

theorem State.Tidy.cmdShip {c : Taken} (h : s.Tidy) : (s.cmdShip c).Tidy := .guarded h fun _ h => .startSleep (.respond h)

theorem State.Tidy.resetDown (h : s.Tidy) : s.resetDown.Tidy := by
  unfold State.resetDown
  dsimp only
  exact
    have h₁ : State.Tidy _ := .updSys (.abortSleep h)
    by split; exacts [.seqStart h₁, .updSeq h₁, h₁]

theorem State.Tidy.cmdReset {c : Taken} (h : s.Tidy) : (s.cmdReset c).Tidy :=
  .guarded h fun _ h =>
    have h₁ : State.Tidy _ := .respond h
    .ite (.resetDown h₁) (.boot h₁)

theorem State.Tidy.cmdResume {c : Taken} (h : s.Tidy) : (s.cmdResume c).Tidy :=
  .guarded h fun _ h => .respond (.refresh (.updSys (.setMany h)))

theorem State.Tidy.denyRevoked (h : s.Tidy) : s.denyRevoked.Tidy := .foldl h fun _ _ h => .respond h

theorem State.Tidy.cmdLease {c : Taken} (h : s.Tidy) : (s.cmdLease c).Tidy := by
  unfold State.cmdLease
  exact .guarded h fun _ h =>
      have h₁ : State.Tidy _ := .inner h (by rfl)
      have h₂ : State.Tidy _ := .ite h₁ (.setB h₁)
      .respond (.denyRevoked (.ite h₂ (.request h₂)))

theorem State.Tidy.cmdSave {c : Taken} (h : s.Tidy) : (s.cmdSave c).Tidy := .guarded h fun _ h => .respond (.draw (.updNv h))

theorem Out.Tidy.sysLease {p : Port} {tag : BitVec 6} (h : s.Tidy) : Out.Tidy (execSysLease p tag s) := by
  unfold execSysLease
  exact .runCmd h fun _ _ h => .cmdLease h

theorem State.Tidy.cmdAck {c : Taken} (h : s.Tidy) : (s.cmdAck c).Tidy := .guarded h fun _ h => .respond (.ack h)

theorem State.Tidy.cmdClear {c : Taken} (h : s.Tidy) : (s.cmdClear c).Tidy := by
  unfold State.cmdClear
  exact .guarded h fun _ h => .respond (.foldl_fst h fun _ _ h => .clearWord h)

theorem State.Tidy.cmdRelease {c : Taken} (h : s.Tidy) : (s.cmdRelease c).Tidy :=
  .guarded h fun _ h => .respond (.releaseFaultN h)

theorem State.Tidy.cmdUnlatch {c : Taken} (h : s.Tidy) : (s.cmdUnlatch c).Tidy := by
  unfold State.cmdUnlatch
  dsimp only
  exact .guarded h fun _ h =>
      .ite (.respond h)
        (.ite (.respond h)
           (.ite (.respond (.updFlt (.newKey (.setF h))))
              (.ite (.respond h) (by split; exacts [.respond (.updFlt (.setF h)), .respond (.updFlt (.setMany h))]))))

theorem State.Tidy.await {c : Taken} {w : Wait} (h : s.Tidy) : (s.await c w).Tidy := .updMbx h

theorem State.Tidy.cmdGaugeSave {c : Taken} (h : s.Tidy) : (s.cmdGaugeSave c).Tidy := by
  unfold State.cmdGaugeSave
  split
  · exact .respond h
  · exact .ite (.respond (.setB h)) (.ite (.respond h) (.startSave (.await h)))

theorem State.Tidy.cmdProfile {c : Taken} (h : s.Tidy) : (s.cmdProfile c).Tidy :=
  .ite (.respond h)
    (.ite (.respond h) (by split; exacts [.respond h, .ite (.respond h) (.ite (.respond h) (.respond (.updGauge (.updNv h))))]))

theorem State.Tidy.cmdEvent {c : Taken} (h : s.Tidy) : (s.cmdEvent c).Tidy := .guarded h fun _ h => .respond (.applyAll h)
theorem State.Tidy.cmdSnapshot {c : Taken} (h : s.Tidy) : (s.cmdSnapshot c).Tidy := .guarded h fun _ h => .askSnap (.await h)

theorem State.Tidy.cmdSlotRead {c : Taken} (h : s.Tidy) : (s.cmdSlotRead c).Tidy := by
  unfold State.cmdSlotRead
  exact .guarded h fun _ h => .respond h

theorem State.Tidy.cmdMark {c : Taken} (h : s.Tidy) : (s.cmdMark c).Tidy := .guarded h fun _ h => .respond (.log h)

theorem Out.Tidy.telSlotRead {p : Port} {tag : BitVec 6} (h : s.Tidy) : Out.Tidy (execTelSlotRead p tag s) := by
  unfold execTelSlotRead
  exact .runCmd h fun _ _ h => .cmdSlotRead h

theorem State.Tidy.cmdGrant {c : Taken} (h : s.Tidy) : (s.cmdGrant c).Tidy := .guarded h fun _ h => .respond (.setB h)
theorem State.Tidy.cmdEnd {c : Taken} (h : s.Tidy) : (s.cmdEnd c).Tidy := .guarded h fun _ h => .respond (.setB h)

theorem State.Tidy.enumerate {b : Bool} {levels : List Byte} (h : s.Tidy) : (s.enumerate b levels).Tidy :=
  .setF (.foldl (.each h fun _ _ h => .setMany h) fun _ _ h => .setMany h)

theorem State.Tidy.herdLost {b lost : Bool} (h : s.Tidy) : (s.herdLost b lost).Tidy := .ite (.raise h) h

theorem State.Tidy.cmdEnumerate {onA onB : List Byte} {lowA lowB lostA lostB : Bool} {c : Taken} (h : s.Tidy) :
    (s.cmdEnumerate onA onB lowA lowB lostA lostB c).Tidy :=
  .guarded h fun _ h =>
    .ite (.respond (.herdLost (.herdLost h)))
      (have h₁ : State.Tidy _ := .ite (.enumerate h) h
       .respond (.ite (.enumerate h₁) h₁))

theorem State.Tidy.cmdForward {lost : Bool} {c : Taken} (h : s.Tidy) : (s.cmdForward lost c).Tidy :=
  .guarded h fun _ h => .await (.herdLost h)

theorem State.Tidy.cmdHerdList {c : Taken} (h : s.Tidy) : (s.cmdHerdList c).Tidy := .guarded h fun _ h => .respond h

theorem Out.Tidy.forwardResponseReceived {p : Port} {tag : BitVec 6} {entry payload : List Byte} {pecOk : Bool} (h : s.Tidy) :
    Out.Tidy (execForwardResponseReceived p tag entry payload pecOk s) :=
  .ite .fault (by split; exacts [.done (.ite (.respond h) (.respond h)), .next h])

theorem Out.Tidy.forwardTimeout {p : Port} {tag : BitVec 6} (h : s.Tidy) : Out.Tidy (execForwardTimeout p tag s) := by
  unfold execForwardTimeout
  split
  · exact .done (.respond h)
  · exact .next h

/-! The cores, clocks and dies. -/

theorem State.Tidy.loseCore {c : Core} (h : s.Tidy) : (s.loseCore c).Tidy :=
  have h₁ : State.Tidy _ := .setB h
  .raiseLasting (by split; exacts [.updSys (.setB h₁), .gaugeStops h₁])

theorem State.Tidy.startGrace {c : Core} (h : s.Tidy) : (s.startGrace c).Tidy := .updSys h
theorem State.Tidy.started {c : Core} (h : s.Tidy) : (s.started c).Tidy := .updSys h
theorem State.Tidy.endGrace {c : Core} (h : s.Tidy) : (s.endGrace c).Tidy := .updSys h

theorem Out.Tidy.watchdogExpiry {c : Core} (h : s.Tidy) : Out.Tidy (execWatchdogExpiry c s) :=
  .ite
    (have h₁ : State.Tidy _ := .loseCore h
     .done (.ite (.rollback h₁) (.startGrace h₁)))
    (.next h)

theorem State.Tidy.coreStarts {x : Core} (h : s.Tidy) : (s.coreStarts x).Tidy := by
  unfold State.coreStarts
  dsimp only
  split
  · exact .updSys h
  · exact .gaugeStart h

theorem State.Tidy.coreBack {c : Core} (h : s.Tidy) : (s.coreBack c).Tidy := by
  unfold State.coreBack
  dsimp only
  exact
    have h₁ : State.Tidy _ := .endCause (.endCause (.setB h))
    by split; exacts [.failTaken (.setB h₁), h₁]

theorem State.Tidy.noteAlive {c : Core} (h : s.Tidy) : (s.noteAlive c).Tidy := .updUpd h

theorem Out.Tidy.coreAlive {c : Core} (h : s.Tidy) : Out.Tidy (execCoreAlive c s) :=
  .ite
    (have h₁ : State.Tidy _ := .started (.endGrace (.coreStarts h))
     .done (.noteAlive (.ite (.coreBack h₁) h₁)))
    (.next h)

theorem Out.Tidy.coreGraceExpiry {c : Core} (h : s.Tidy) : Out.Tidy (execCoreGraceExpiry c s) :=
  .ite
    (have h₁ : State.Tidy _ := .endGrace h
     .ite (.done (.rollback h₁)) (.done (.raiseLasting h₁)))
    (.next h)

theorem Out.Tidy.mailboxResume (h : s.Tidy) : Out.Tidy (execMailboxResume s) := by
  unfold execMailboxResume
  dsimp only
  split
  · exact .ite (.next h)
        (have h₁ : State.Tidy _ := .updUpd (.setB h)
         .done (by split; exacts [.runEval (.rolledBack h₁), .runEval h₁]))
  · exact .next h

theorem Out.Tidy.activationConfirmed (h : s.Tidy) : Out.Tidy (execActivationConfirmed s) := by
  unfold execActivationConfirmed
  dsimp only
  split
  · exact .ite (.done (.updResult (.leaveActivate (.ifVer (.updUpd (.setSel h)))))) (.next h)
  · exact .ite (.done (.updResult (.updUpd (.setSel h)))) (.next h)

theorem Out.Tidy.rollbackMailboxTimeout (h : s.Tidy) : Out.Tidy (execRollbackMailboxTimeout s) := by
  unfold execRollbackMailboxTimeout
  split
  · exact .ite (.done (.rollback h)) (.next h)
  · exact .next h

theorem Out.Tidy.rollbackAliveTimeout (h : s.Tidy) : Out.Tidy (execRollbackAliveTimeout s) := by
  unfold execRollbackAliveTimeout
  split
  · exact .ite (.done (.rollback h)) (.next h)
  · exact .next h

theorem State.Tidy.judgeClock {i : Nat} {dev : Int} {lock : Bool} (h : s.Tidy) : (s.judgeClock i dev lock).Tidy :=
  .ite (.ite h (.raiseLasting (.setB h))) (.endCause h)

theorem Out.Tidy.clkMonitorWindow {m : ClkWindow} (h : s.Tidy) : Out.Tidy (execClkMonitorWindow m s) :=
  .ite .fault (.ite (.done (.each (.setMany (.inner h rfl)) fun _ _ h => .judgeClock h)) (.next h))

theorem Out.Tidy.xtalStart (h : s.Tidy) : Out.Tidy (execXtalStart s) :=
  .ite
    (have h₁ : State.Tidy _ := .setB (.inner h (by rfl))
     .next (.endCause (.ite (.setB h₁) h₁)))
    (.next h)

theorem Out.Tidy.xtalStop (h : s.Tidy) : Out.Tidy (execXtalStop s) :=
  .ite
    (have h₁ : State.Tidy _ := .setB (.inner h (by rfl))
     .done (.ite (.xtalStopped h₁) h₁))
    (.next h)

theorem State.Tidy.syncLock {khz : Nat} (h : s.Tidy) : (s.syncLock khz).Tidy :=
  .each (.setB (.inner h rfl)) fun _ _ h => .ite (.railStale h) h

theorem Out.Tidy.synciLoss (h : s.Tidy) : Out.Tidy (execSynciLoss s) :=
  .ite (.done (.raiseLasting (.setB (.inner h rfl)))) (.next h)

theorem Out.Tidy.dieThermalShutdown {d : Fin 4} (h : s.Tidy) : Out.Tidy (execDieThermalShutdown d s) :=
  .ite (.done (.each (.each h fun _ _ h => .setB h) fun _ _ h => .raiseLasting h)) (.next h)

theorem Out.Tidy.dieThermalRelease {d : Fin 4} (h : s.Tidy) : Out.Tidy (execDieThermalRelease d s) :=
  .next (.each (.each h fun _ _ h => .setB h) fun _ _ h => .endCause h)

theorem Out.Tidy.controllerDieThermal {t : Int} (h : s.Tidy) : Out.Tidy (execControllerDieThermal t s) :=
  .ite (.done (.raiseLasting h)) (.ite (.done (.raiseLasting h)) (.next h))

/-! Rows of register writes. -/

theorem Out.Tidy.rowWrite {a : Accessor} {addr mask data : Nat} (h : s.Tidy) : Out.Tidy (s.rowWrite a addr mask data) :=
  .ite (.done (.busWrite h)) (.next h)

theorem Out.Tidy.faultNPulseEnd (h : s.Tidy) : Out.Tidy (execFaultNPulseEnd s) :=
  .ite
    (have h₁ : State.Tidy _ := .setB h
     .done (.followPin (.ite (.updFlt (.setB h₁)) h₁)))
    (.next h)

theorem Out.Tidy.rowEnable {a : Accessor} {o : OutRef} {v : Bool} (h : s.Tidy) : Out.Tidy (s.rowEnable a o v) := .rowWrite h

/-! Host frames. -/

theorem State.Tidy.framePrev {p : Nat} (h : s.Tidy) : (s.framePrev p).Tidy := .updMbx h
theorem State.Tidy.frameAccepted (h : s.Tidy) : s.frameAccepted.Tidy := .updMbx h
theorem State.Tidy.shiftOut {l : List Word} (h : s.Tidy) : (s.shiftOut l).Tidy := .inner h rfl
theorem State.Tidy.frameCrc (h : s.Tidy) : s.frameCrc.Tidy := .raise (.framePrev (.count h))

theorem Out.Tidy.frame {mine : Bool} {f : State} (h : s.Tidy) (hf : f.Tidy) : Out.Tidy (s.frame mine f) := by
  unfold State.frame
  exact .ite .fault (.ite (.done hf) (.next (.shiftOut h)))

theorem Out.Tidy.status {f : StatusFrame} (h : s.Tidy) : Out.Tidy (execStatus f s) :=
  .frame h (.ite (.framePrev (.frameAccepted (.shiftOut h))) (.shiftOut h))

theorem State.Tidy.readFrame {h crc clocked : Nat} {reserved : Bool} {rd : State → Nat → Nat → State × List Nat}
    (hs : s.Tidy) (hrd : ∀ t x2 x3, State.Tidy t → (rd t x2 x3).1.Tidy) : (s.readFrame h crc clocked reserved rd).Tidy :=
  .ite (.shiftOut (.frameCrc hs))
    (.ite (.shiftOut (.framePrev (.frameAccepted hs)))
       (.ite (.shiftOut (.framePrev (.frameAccepted hs))) (.shiftOut (.framePrev (.frameAccepted (hrd _ _ _ hs))))))

theorem State.Tidy.writeFrame {h crc : Nat} {data : List Nat} {full : Bool} {wr : State → Nat → List Nat → State × Bool}
    (hs : s.Tidy) (hwr : ∀ t x2 x3, State.Tidy t → (wr t x2 x3).1.Tidy) : (s.writeFrame h crc data full wr).Tidy :=
  have h₁ : State.Tidy _ := .shiftOut hs
  .ite (.framePrev h₁)
    (.ite (.frameCrc h₁) (.ite (.framePrev (.frameAccepted h₁)) (.framePrev (.frameAccepted (hwr _ _ _ h₁)))))

theorem State.Tidy.memWrWord {a w : Nat} (h : s.Tidy) : (s.memWrWord a w).1.Tidy :=
  .ite_fst (.pair (.refuse h)) (.ite_fst (.putWin h) (.ite_fst (.pair (.refuse h)) h))

theorem State.Tidy.memWrWords : ∀ {l : List Nat} {a : Nat} {s : State}, s.Tidy → (s.memWrWords a l).1.Tidy
  | [], _, _, h => h
  | _ :: r, _, _, h => by
    unfold State.memWrWords
    exact State.Tidy.memWrWords (l := r) (.memWrWord h)

theorem State.Tidy.ring {h crc : Nat} {full : Bool} (hs : s.Tidy) : (s.ring h crc full).Tidy :=
  have h₁ : State.Tidy _ := .shiftOut hs
  .ite (.framePrev h₁)
    (.ite (.frameCrc h₁)
       (have h₂ : State.Tidy _ := .ite_fst (.writeCons h₁) h₁
        .framePrev (.frameAccepted (.ite_fst (.writeProd h₂) h₂))))

theorem Out.Tidy.vioLoss (h : s.Tidy) : Out.Tidy (execVioLoss s) :=
  .ite (.done (.each (.updSys (.shiftOut h)) fun _ _ h => .ldaDown h)) (.next h)

theorem Out.Tidy.vioReturn {lda : BitVec 4} (h : s.Tidy) : Out.Tidy (execVioReturn lda s) :=
  .ite (.next h) (.done (.each (.updSys h) fun _ _ h => .ldaUp h))

theorem State.Tidy.leaseChanged (h : s.Tidy) : s.leaseChanged.Tidy := .request (.setB h)

theorem Out.Tidy.heartbeatDeadline (h : s.Tidy) : Out.Tidy (execHeartbeatDeadline s) :=
  .ite (.done (.raiseLasting (.request (.leaseChanged (.updSys (.setMany h)))))) (.next h)

/-! ISO and LDO rows. -/

theorem Out.Tidy.isoQueueStart (h : s.Tidy) : Out.Tidy (execIsoQueueStart s) := by
  unfold execIsoQueueStart
  split
  · exact .done (.setIsoState h)
  · exact .next h

theorem Out.Tidy.isopwrUndervoltage (h : s.Tidy) : Out.Tidy (execIsopwrUndervoltage s) :=
  .done (.raiseLasting (.each h fun _ _ h => .setIsoState h))

theorem State.Tidy.isoTrip {n : Nat} {bit : Fld} {cause : Nat} (h : s.Tidy) : (s.isoTrip n bit cause).Tidy :=
  .ite (.raise (.setB (.setIsoState h))) h

/-! Memory errors. -/

theorem State.Tidy.loseRecord {a : Nat} (h : s.Tidy) : (s.loseRecord a).Tidy :=
  .ite (.draw (.updNv h)) (.ite (.draw (.updNv h)) h)

theorem State.Tidy.badMram {a : Nat} (h : s.Tidy) : (s.badMram a).Tidy := .storeStat (.loseRecord (.updNv h))

theorem State.Tidy.sramHit {b row : Nat} (h : s.Tidy) : (s.sramHit b row).Tidy := by
  unfold State.sramHit
  exact .updAge h

theorem Out.Tidy.secdedError {m : MemWord} {correctable : Bool} (h : s.Tidy) : Out.Tidy (execSecdedError m correctable s) :=
  .ite (.next h)
    (by split; exacts [.ite (.next h) (.done (.raise (.ite h (.badMram h)))), .done (.raise (.ite (.sramHit h) h))])

/-! The scan round. -/

theorem State.Tidy.putChannels {r : ScanRound} (h : s.Tidy) : (s.putChannels r).Tidy := .setMany h

theorem State.Tidy.reading {f : Fld} {c num den : Nat} (h : s.Tidy) : (s.reading f c num den).Tidy := by
  unfold State.reading
  split
  · exact .setI h
  · exact h

theorem State.Tidy.dieReading {d : Nat} {l : List Int} (h : s.Tidy) : (s.dieReading d l).Tidy :=
  have h₁ : State.Tidy _ := .each h fun _ _ h => .setB (.setI h)
  .ite (.endCause h₁) (.raiseLasting h₁)

theorem State.Tidy.readings {r : ScanRound} (h : s.Tidy) : (s.readings r).Tidy :=
  .each
    (.reading <| .reading <| .reading <| .reading <| .reading <| .reading <|
       .each (.each (.each (.each h fun _ _ h => .setF (.reading h)) fun _ _ h => .reading h) fun _ _ h => .reading h)
         fun _ _ h => .reading h)
    fun _ _ h => .dieReading h

theorem State.Tidy.roundBits {b : RoundBits} (h : s.Tidy) : (s.roundBits b).Tidy :=
  have h₁ : State.Tidy _ := .each
      (.each
         (.each
            (.each h fun _ _ h =>
               have h₂ : State.Tidy _ := .setB h
               .ite h₂ (.endCause (.setB h₂)))
            fun _ _ h => .setB (.setB h))
         fun _ _ h => .setB h)
      fun _ _ h => .ite h (.endCause h)
  .ite (.setB h₁) h₁

theorem State.Tidy.endWindow {c : Nat} {fault above : Bool} {v : Word} (h : s.Tidy) : (s.endWindow c fault above v).Tidy :=
  .ite
    (have h₁ : State.Tidy _ := .updMon (.ite (.endCause h) h)
     .ite (.updMon h₁) h₁)
    h

theorem State.Tidy.pgRestart {c : Nat} (h : s.Tidy) : (s.pgRestart c).Tidy :=
  have h₁ : State.Tidy _ := .updMon h
  .ite h₁ (.stepChatter (.count h₁))

theorem State.Tidy.countBeyond {c : Nat} {fault above : Bool} {v : Word} (h : s.Tidy) :
    (s.countBeyond c fault above v).Tidy :=
  have h₁ : State.Tidy _ := .updMon h
  .ite (.noteWindow h₁) h₁

theorem State.Tidy.sample {c : Nat} {v : Word} (h : s.Tidy) : (s.sample c v).Tidy :=
  .ite h
    (have h₁ : State.Tidy _ := .updMon (.setB h)
     .foldl (.ite (.pgFall h₁) (.ite (.updMon h₁) (.ite (.pgRestart h₁) (.updMon h₁)))) fun _ _ h => .endWindow (.countBeyond h))

theorem State.Tidy.endCauses (h : s.Tidy) : s.endCauses.Tidy := by
  unfold State.endCauses
  exact .updPath (.updFlt h)

theorem State.Tidy.pathReadings (h : s.Tidy) : s.pathReadings.Tidy :=
  have h₁ : State.Tidy _ := .setB (by split; exacts [.setB h, .setB (.ite (.setB h) (.ite (.setB h) h))])
  .feSlopeMoved (.chgEval (.retarget (.updPath (.updFe (.updPath (.ite (.updSys h₁) h₁))))))

theorem State.Tidy.pathStarts (h : s.Tidy) : s.pathStarts.Tidy :=
  have h₁ : State.Tidy _ := .feTryStart (.slewedClose (.tryClose h))
  .ite (.fePick h₁) h₁

theorem State.Tidy.shedOne {k m : Nat} (h : s.Tidy) : (s.shedOne k m).Tidy := .setRegime (.updRail (.setB h))

theorem State.Tidy.endHold0 {k : Nat} (h : s.Tidy) : (s.endHold0 k).Tidy := by
  unfold State.endHold0
  dsimp only
  split
  · exact .ite (.setRegime (.setSwitching (.updRail h))) h
  · exact h

theorem State.Tidy.lightLoad {k : Nat} (h : s.Tidy) : (s.lightLoad k).Tidy :=
  .ite h
    (.ite (.shedOne h)
       (.ite (.ite (.addAll h) h)
          (.ite h
             (.ite (.ite (.updRail (.setRegime (.leaveDe h))) h)
                (.ite (.updRail (.setRegime (.setSwitching (.abandon h))))
                   (.ite (.shedOne h) (.ite (.updRail (.setRegime (.each h fun _ _ h => .setB h))) h)))))))

theorem State.Tidy.feLight (h : s.Tidy) : s.feLight.Tidy :=
  .ite h
    (.ite (.ite (.feAddAll h) h)
       (.ite h
          (.ite (.ite (.updFe (.setB h)) h) (.ite (.updFe (.setF h)) (.ite (.updFe (.updFe h)) (.ite (.updFe (.setB h)) h))))))

theorem State.Tidy.trio (h : s.Tidy) : s.trio.Tidy := by
  unfold State.trio
  dsimp only
  split
  · split
    · exact .setF (.endCause (.each h fun _ _ h => .ite h (.endCause h)))
    · exact .raiseLasting (.setF (.endCause (.each h fun _ _ h => .ite h (.endCause h))))
    · exact .raiseLasting (.draw (.setF (.each h fun _ _ h => .ite h (.endCause h))))
  · exact h

theorem Out.Tidy.scanRoundEnd {r : ScanRound} (h : s.Tidy) : Out.Tidy (execScanRoundEnd r s) :=
  .ite .fault
    (.ite
       (.done <| .streamRound <| .takeSnap <| .drain <| .feLight <|
          .each
            (.trio <| .pathStarts <| .pathReadings <| .endCauses <| .cellRound <|
               .each (.roundBits (.readings (.putChannels h))) fun _ _ h => .sample h)
            fun _ _ h => .lightLoad (.endHold0 h))
       (.next h))

/-! The side-band and herds. -/

theorem State.Tidy.sbPrev {p : Nat} (h : s.Tidy) : (s.sbPrev p).Tidy := .inner h rfl
theorem State.Tidy.sbShift {l : List Byte} (h : s.Tidy) : (s.sbShift l).Tidy := .inner h rfl
theorem State.Tidy.sbMatch (h : s.Tidy) : s.sbMatch.Tidy := .wakeSeen h
theorem State.Tidy.sbNote (h : s.Tidy) : s.sbNote.Tidy := .raise h
theorem State.Tidy.sbRefuse (h : s.Tidy) : s.sbRefuse.Tidy := .sbShift (.sbPrev (.setB h))

theorem State.Tidy.sbWrite {h : SbHead} {params : Bool} {early : Option Fld} {extra : Option Bool}
    {commit : State → State × Bool}
    (hs : s.Tidy) (hcommit : ∀ t, State.Tidy t → (commit t).1.Tidy) : (s.sbWrite h params early extra commit).Tidy :=
  have h₁ : State.Tidy _ := .sbShift (.sbMatch hs)
  .ite (.sbRefuse h₁)
    (by
       split
       · exact .sbPrev (.setB h₁)
       · exact .ite (.sbPrev (.setB h₁))
             (.ite (.sbPrev h₁) (.ite (.sbPrev (.ite (.sbNote (.setB h₁)) h₁)) (.sbPrev (hcommit _ h₁)))))

theorem State.Tidy.sbRead {h : SbHead} {params : Bool} {wr : List Byte} {rd : State → State × List Byte}
    (hs : s.Tidy) (hrd : ∀ t, State.Tidy t → (rd t).1.Tidy) : (s.sbRead h params wr rd).Tidy :=
  have h₁ : State.Tidy _ := .sbMatch hs
  .ite (.sbRefuse h₁)
    (.ite (.sbShift (.setB h₁))
       (have h₂ : State.Tidy _ := .sbShift (hrd _ h₁)
        .ite (.raise (.setB h₂)) h₂))

theorem Out.Tidy.sbRegWr {h : SbHead} {addr : BitVec 24} {n : Byte} {words : List (BitVec 32)} (hs : s.Tidy) :
    Out.Tidy (execSbRegWr h addr n words s) := .ite (.done (.sbWrite hs fun _ h => .busWrites h)) (.next hs)

theorem Out.Tidy.bufWr {h : SbHead} {off : Word} {n : Byte} {bytes : List Byte} (hs : s.Tidy) :
    Out.Tidy (execBufWr h off n bytes s) := .ite (.done (.sbWrite hs fun _ h => .putSbBuf h)) (.next hs)

theorem Out.Tidy.mbxPost {h : SbHead} {desc : List Byte} (hs : s.Tidy) : Out.Tidy (execMbxPost h desc s) :=
  .ite (.done (.sbWrite hs fun _ h => .pair (.updMbx h))) (.next hs)

theorem Out.Tidy.sbRegRd {h : SbHead} {addr : BitVec 24} {n : Byte} (hs : s.Tidy) : Out.Tidy (execSbRegRd h addr n s) :=
  .ite (.done (.sbRead hs fun _ h => .readRegs h)) (.next hs)

theorem Out.Tidy.sbMemRd {h : SbHead} {addr : BitVec 24} {n : Byte} (hs : s.Tidy) : Out.Tidy (execSbMemRd h addr n s) :=
  .ite (.done (.sbRead hs fun _ h => .readMems h)) (.next hs)

theorem Out.Tidy.bufRd {h : SbHead} {off : Word} {n : Byte} (hs : s.Tidy) : Out.Tidy (execBufRd h off n s) :=
  .ite (.done (.sbRead hs fun _ h => h)) (.next hs)

theorem Out.Tidy.mbxResp {h : SbHead} (hs : s.Tidy) : Out.Tidy (execMbxResp h s) :=
  .ite (.done (.sbRead hs fun _ h => by split; exacts [.ite (.updMbx h) h, h])) (.next hs)

theorem Out.Tidy.mbxStat {h : SbHead} (hs : s.Tidy) : Out.Tidy (execMbxStat h s) :=
  .ite (.done (.sbRead hs fun _ h => h)) (.next hs)

theorem Out.Tidy.dsRead {h : SbHead} (hs : s.Tidy) : Out.Tidy (execDsRead h s) :=
  .ite (.done (.sbRead hs fun _ h => by split; exacts [.ite (.popDs h) h, h])) (.next hs)

theorem Out.Tidy.sbStatus {h : SbHead} (hs : s.Tidy) : Out.Tidy (execSbStatus h s) :=
  .ite (.done (.sbRead hs fun _ h => h)) (.next hs)

theorem State.Tidy.sbCut {f : Fld} {write : Bool} (h : s.Tidy) : (s.sbCut f write).Tidy :=
  have h₁ : State.Tidy _ := .sbNote (.setB h)
  .ite (.sbPrev h₁) h₁

theorem Out.Tidy.alertResponse {wins : Bool} (h : s.Tidy) : Out.Tidy (execAlertResponse wins s) :=
  .ite (.ite (.done (.sbShift (.inner (.ite (.draw h) h) rfl))) (.next h)) (.next h)

theorem Out.Tidy.identify {wins : Bool} (h : s.Tidy) : Out.Tidy (execIdentify wins s) :=
  .ite (.ite (.done (.sbShift (.sbMatch h))) (.done (.sbMatch h))) (.next h)

theorem Out.Tidy.assign {uid : BitVec 64} {index : BitVec 6} (h : s.Tidy) : Out.Tidy (execAssign uid index s) :=
  .ite (.done (.ite (.setMany (.sbMatch h)) (.sbMatch h))) (.next h)

theorem State.Tidy.delivered {i : Nat} (h : s.Tidy) : (s.delivered i).Tidy := .ite h (.setBitOf h)

theorem Out.Tidy.bleatRead {wins : Bool} (h : s.Tidy) : Out.Tidy (execBleatRead wins s) := by
  unfold execBleatRead
  refine .ite ?_ (.next h)
  extract_lets sb t
  have ht : t.Tidy := .inner h rfl
  split
  · exact .done (.delivered (.sbShift ht))
  · exact .done ht

theorem Out.Tidy.bleatUnanswered (h : s.Tidy) : Out.Tidy (execBleatUnanswered s) :=
  .ite
    (have h₁ : State.Tidy _ := .inner h (by rfl)
     .done (.ite (.setB h₁) h₁))
    (.next h)

theorem State.Tidy.dropDs (h : s.Tidy) : s.dropDs.Tidy := .count h

theorem Out.Tidy.herdChildBleat {p : HerdPort} {index : BitVec 6} {reason : Byte} (h : s.Tidy) :
    Out.Tidy (execHerdChildBleat p index reason s) :=
  .ite (.ite (.next (.inner h rfl)) (.ite (.done (.dropDs h)) (.next h))) (.next h)

theorem State.Tidy.pushDs {route reason : Nat} (h : s.Tidy) : (s.pushDs route reason).Tidy :=
  .ite (.dropDs h) (.setB (.request (.inner h rfl)))

theorem Out.Tidy.downstreamEntry {route : BitVec 20} {reason : Byte} (h : s.Tidy) :
    Out.Tidy (execDownstreamEntry route reason s) := by
  unfold execDownstreamEntry
  dsimp only
  split
  · exact .next h
  · exact
      have h₁ : State.Tidy _ := .inner h (by rfl)
      .done (.ite (.pushDs h₁) (.ite h₁ (.ite (.dropDs h₁) (.pushDs h₁))))

/-! Updates. -/

theorem State.Tidy.setRx {n : Nat} (h : s.Tidy) : (s.setRx n).Tidy := .setMany h

theorem State.Tidy.beginUpdate {p : Port} {h : List Byte} (hs : s.Tidy) : (s.beginUpdate p h).Tidy :=
  have h₁ : State.Tidy _ := .uncommitSlot hs
  .updState (.updUpd (.setRx (.setMany (.ite h₁ (.putMram h₁)))))

theorem State.Tidy.cmdUpdBegin {keyOk : Bool} {c : Taken} (h : s.Tidy) : (s.cmdUpdBegin keyOk c).Tidy :=
  .guarded h fun _ h => .respond (.beginUpdate h)

theorem State.Tidy.areaWrite {slot gauge : Bool} {o : Nat} {bs : List Byte} (h : s.Tidy) :
    (s.areaWrite slot gauge o bs).Tidy := .putMram h

theorem State.Tidy.bodyWrite {k : Nat} {bs : List Byte} (h : s.Tidy) : (s.bodyWrite k bs).Tidy := by
  unfold State.bodyWrite
  dsimp only
  split
  · exact .areaWrite (.areaWrite (.ite (.areaWrite h) h))
  · exact .areaWrite h

theorem State.Tidy.cmdUpdData {c : Taken} (h : s.Tidy) : (s.cmdUpdData c).Tidy :=
  .ite (.respond h)
    (.ite (.respond h) (.ite (.respond h) (.ite (.respond h) (.ite (.respond h) (.respond (.setRx (.bodyWrite h)))))))

theorem State.Tidy.copyPartner (h : s.Tidy) : s.copyPartner.Tidy := by
  unfold State.copyPartner
  split
  · exact .putMram h
  · exact .putMram h
  · exact h

theorem State.Tidy.commitSlot (h : s.Tidy) : s.commitSlot.Tidy := .request (.updUpd (.setB (.commitArea (.commitArea h))))

theorem State.Tidy.cmdUpdEnd {sigOk : Bool} {c : Taken} (h : s.Tidy) : (s.cmdUpdEnd sigOk c).Tidy :=
  .guarded h fun _ h =>
    .ite (.respond (.updState (.setB h)))
      (have h₁ : State.Tidy _ := .copyPartner h
       .ite (.respond (.updResult h₁)) (.ite (.boot (.respond (.setSel (.commitSlot h₁)))) (.respond (.commitSlot h₁))))

theorem State.Tidy.cmdUpdActivate {c : Taken} (h : s.Tidy) : (s.cmdUpdActivate c).Tidy :=
  .guarded h fun _ h => .ite (.respond (.setMany h)) (.activate (.respond h))

theorem State.Tidy.abortUpdate {outcome status : Nat} (h : s.Tidy) : (s.abortUpdate outcome status).Tidy :=
  .updResult (.discardSlot h)

theorem State.Tidy.cmdUpdAbort {c : Taken} (h : s.Tidy) : (s.cmdUpdAbort c).Tidy :=
  .guarded h fun _ h => .respond (.abortUpdate h)

/-! The tick. -/

theorem State.Tidy.countRun (h : s.Tidy) : s.countRun.Tidy := .ite (.ite (.inner h rfl) (.inner (.setMany h) rfl)) h

theorem State.Tidy.countReread (h : s.Tidy) : s.countReread.Tidy := by
  unfold State.countReread
  exact .ite (.ite (.inner h rfl) (.updOtp (.count h) rfl rfl)) h

theorem State.Tidy.commitStopped (h : s.Tidy) : s.commitStopped.Tidy := .ite (.foldl h fun _ _ h => .commitIdle h) h
theorem State.Tidy.tick (h : s.Tidy) : s.tick.Tidy := .ite h (.inner (.commitStopped (.countReread (.countRun h))) rfl)

/-! All rows, the tick and the step. -/

theorem exec_tidy (c : Instr) (h : s.Tidy) : Out.Tidy (exec c s) := by
  unfold exec
  cases c with
  | vkeepValid => exact .ite (.next h) (.done (.powerUp h))
  | vkeepLost => exact .ite (.next (.updSys (.powerUp h))) (.next h)
  | resetNRelease => exact .ite (.done (.boot (.updSys h))) (.next h)
  | addrStrapRead _ => exact .ite (.next (.setMany (.updSys h))) (.next h)
  | earlyOutputStart _ => exact .ite (.done (.earlyStart h)) (.next h)
  | synciLock _ => exact .ite (.done (.syncLock h)) (.next h)
  | synciRelock _ => exact .ite (.done (.endCause (.syncLock h))) (.next h)
  | dieLinkFailure _ => exact .done (.each h fun _ _ h => .raise h)
  | railThermalWarn _ => exact .ite (.done (.raiseLasting h)) (.next h)
  | registerWrite _ _ _ _ | commitDiscard _ _ | commitHold _ _ _ | hostHbWrite _ _ | mbxCmdProdWrite _ _
  | mbxRespConsWrite _ _ | fltAckWrite _ _ _ | fltSrcClear _ _ _ _ _ | fltPinDriveWrite _ _ _ | telSnapReqWrite _ _ _
  | logMarkWrite _ _ _ | seqEventWrite _ _ _ | telStrEnWrite _ _ _ | sbDsPopWrite _ _ _ | chgCfgChemWrite _ _ _
  | ldoVsetWrite _ _ _ _ => exact .rowWrite h
  | rcRead _ _ | multiwordLowRead _ _ => exact .ite (.done (.readReg h)) (.next h)
  | bufCommit _ => exact .ite (.done (.commit h)) (.next h)
  | regRd _ _ _ _ => exact .frame h (.readFrame h fun _ _ _ h => .readRegs h)
  | regWr _ _ _ _ _ => exact .frame h (.writeFrame h fun _ _ _ h => .busWrites h)
  | memRd _ _ _ _ => exact .frame h (.readFrame h fun _ _ _ h => .readMems h)
  | memWr _ _ _ _ _ => exact .frame h (.writeFrame h fun _ _ _ h => .memWrWords h)
  | doorbell _ _ _ => exact .frame h (.ring h)
  | write _ _ => exact .runCmd h fun _ _ h => .cmdWrite h
  | sysInfo _ _ => exact .runCmd h fun _ _ h => .cmdInfo h
  | sysHeartbeat _ _ => exact .runCmd h fun _ _ h => .cmdHeartbeat h
  | sysRun _ _ => exact .runCmd h fun _ _ h => .cmdRun h
  | sysStop _ _ => exact .runCmd h fun _ _ h => .cmdStop h
  | sysSleep _ _ => exact .runCmd h fun _ _ h => .cmdSleep h
  | sysShip _ _ => exact .runCmd h fun _ _ h => .cmdShip h
  | sysReset _ _ => exact .runCmd h fun _ _ h => .cmdReset h
  | sysResume _ _ => exact .runCmd h fun _ _ h => .cmdResume h
  | sysSave _ _ => exact .runCmd h fun _ _ h => .cmdSave h
  | fltAck _ _ => exact .runCmd h fun _ _ h => .cmdAck h
  | fltClear _ _ => exact .runCmd h fun _ _ h => .cmdClear h
  | fltRelease _ _ => exact .runCmd h fun _ _ h => .cmdRelease h
  | fltUnlatch _ _ => exact .runCmd h fun _ _ h => .cmdUnlatch h
  | gaugeSave _ _ => exact .runCmd h fun _ _ h => .cmdGaugeSave h
  | gaugeProfile _ _ => exact .runCmd h fun _ _ h => .cmdProfile h
  | seqEvent _ _ => exact .runCmd h fun _ _ h => .cmdEvent h
  | telSnapshot _ _ => exact .runCmd h fun _ _ h => .cmdSnapshot h
  | logMark _ _ => exact .runCmd h fun _ _ h => .cmdMark h
  | otpProgram _ _ _ => exact .runCmd h fun _ _ h => .cmdProgram h
  | otpLock _ _ _ => exact .runCmd h fun _ _ h => .cmdLock h
  | updBegin _ _ _ => exact .runCmd h fun _ _ h => .cmdUpdBegin h
  | updData _ _ => exact .runCmd h fun _ _ h => .cmdUpdData h
  | updEnd _ _ _ => exact .runCmd h fun _ _ h => .cmdUpdEnd h
  | updActivate _ _ => exact .runCmd h fun _ _ h => .cmdUpdActivate h
  | updAbort _ _ => exact .runCmd h fun _ _ h => .cmdUpdAbort h
  | ageVeto _ _ => exact .runCmd h fun _ _ h => .cmdVeto h
  | ageApprove _ _ => exact .runCmd h fun _ _ h => .cmdApprove h
  | agePlan _ _ => exact .runCmd h fun _ _ h => .cmdPlan h
  | herdEnumerate _ _ _ _ _ _ _ _ => exact .runCmd h fun _ _ h => .cmdEnumerate h
  | herdForward _ _ _ => exact .runCmd h fun _ _ h => .cmdForward h
  | herdList _ _ => exact .runCmd h fun _ _ h => .cmdHerdList h
  | directGrant _ _ => exact .runCmd h fun _ _ h => .cmdGrant h
  | directEnd _ _ => exact .runCmd h fun _ _ h => .cmdEnd h
  | railEnSet _ _ | railEnClear _ _ | isoEnSet _ _ | isoEnClear _ _ | ldoEnSet _ _ | ldoEnClear _ _ | iswEnClear _
  | feFwdEnSet _ | feFwdEnClear _ | chgEnSet _ | chgEnClear _ => exact .rowEnable h
  | railHiccupRestart _ => exact .ite (.done (.railBegin h)) (.next h)
  | railRampComplete _ => exact .ite (.done (.railOn h)) (.next h)
  | railSoftStopDone _ => exact .ite (.done (.railToOff h)) (.next h)
  | railSetpointMoveEnd _ => exact .ite (.done (.updRail (.setF h))) (.next h)
  | loopDerivation _ => exact .done (.deriveRail h)
  | railCoeffTimeout _ => exact .ite (.done (.railRefuse h)) (.next h)
  | feDerivation => exact .done (.deriveFront h)
  | shedInhibitEnd _ => exact .done (.setB h)
  | ldaAssert _ => exact .ite (.done (.ldaUp h)) (.next h)
  | ldaDeassert _ => exact .done (.ldaDown h)
  | announceOffsetReturn _ => exact .done (.dropOffset h)
  | announceEnd _ | tineTestOverdue _ => exact .ite (.done (.setB h)) (.next h)
  | railIlimSustained _ | feBootstrapUv _ _ | herdBusFault _ _ => exact .ite (.done (.raiseLasting (.setB h))) (.next h)
  | railClampEnd _ => exact .ite (.done (.railLock (.setB h))) (.next h)
  | railUnlock _ => exact .done (.railRelease h)
  | isoSoftstartDone _ => exact .ite (.done (.earlyPg (.setIsoState h))) (.next h)
  | isopwrRestored => exact .done (.each (.endCause h) fun _ _ h => .setIsoState h)
  | isoSecondaryShort _ | isoOverload _ => exact .done (.isoTrip h)
  | isoOpenWinding _ _ => exact .done (.ite (.isoTrip h) (.isoTrip h))
  | isoUnlock _ => exact .done (.isoRelease h)
  | ldoRampDone _ => exact .ite (.done (.updLdo (.setLdoState h))) (.next h)
  | ldoCurrentLimit _ => exact .ite (.next h) (.done (.raise (.ldoLock h)))
  | ldoUnlock _ => exact .done (.ldoRelease h)
  | pgFall _ => exact .ite (.done (.pgFall h)) (.next h)
  | seqRetryReenable => exact .ite (.done (.seqAction (.setF h))) (.next h)
  | dwellEnd => exact .done (.tryReturn (.tryClose (.setB h)))
  | returnMatch => exact .ite (.done (.updPath h)) (.next h)
  | feStartRampDone => exact .ite (.done (.setFe h)) (.next h)
  | feStopRampDone => exact .ite (.done (.feTryStart (.setFe h))) (.next h)
  | feRegionChange _ => exact .ite (.done (.feSlope (.setF (.commit h)))) (.next h)
  | feVsysOv | feVdrvUv => exact .ite (.done (.feTrip h)) (.next h)
  | feIlimSustained _ => exact .ite (.done (.raiseLasting (.setMany h))) (.next h)
  | feStepInhibitEnd | feRevHoldEnd => exact .done (.updFe h)
  | feUnlock => exact .ite (.done (.feTryStart (.setFe (.updFe h)))) (.next h)
  | chgQualDone _ | chgPreToCc | chgCcToCv | chgTopoffToDone => exact .chgStep h fun _ h => .setChgPhase h
  | chgSuspend _ => exact .done (.chgEval (.ite (.setB h) h))
  | chgSuspendEnd => exact .ite (.done (.setChgPhase (.setB h))) (.next h)
  | chgSafetyTimerExpiry => exact .ite (.done (.chgFail h)) (.next h)
  | chgFaultRecover => exact .ite (.done (.chgEval (.setChgPhase h))) (.next h)
  | batteryPresenceLoss | batteryRemovalFast _ => exact .ite (.done (.removeBattery h)) (.next h)
  | chargeSample _ _ => exact .next (.ite (.takeSample h) h)
  | learnedRecordTimer => exact .ite (.done (.requestSave h)) (.next h)
  | idleTimerExpiry => exact .ite (.done (.startSleep (.updSys h))) (.next h)
  | shipLatchArm => exact .ite (.next (.updSys h)) (.next h)
  | snapshotCopyDone => exact .ite (.done (.endCopy h)) (.next h)
  | release => exact .ite (.done (.setF (.sbMatch h))) (.next h)
  | sbBusTimeout _ | sbAbortAck _ => exact .ite (.done (.sbCut h)) (.next h)
  | bleat => exact .ite (.next (.inner h rfl)) (.next h)
  | herdBusClearRetry _ _ => exact .ite (.done (.endCause (.setB h))) (.next h)
  | trialBootTimeout => exact .ite (.done (.rollback (.updUpd h))) (.next h)
  | updInactivityTimeout => exact .ite (.done (.abortUpdate h)) (.next h)
  | otpReread _ | otpRereadRetry _ => exact .ite .fault (.ite (.done (.reread h)) (.next h))
  | bootTineTest _ => exact .ite (.done (.updAge (.startTest h))) (.next h)
  | comparatorSelfTest _ _ _ _ => exact .ite (.done (.retireCopy h)) (.next h)
  | vkeepLowAssert _ => exact .vkeepLowAssert h
  | vkeepLowRelease _ => exact .vkeepLowRelease h
  | resetNRecognised => exact .resetNRecognised h
  | fuseReadComplete _ => exact .fuseReadComplete h
  | earlyOutputTimeout _ => exact .earlyOutputTimeout h
  | imageVerified _ => exact .imageVerified h
  | bootCoreTimeout => exact .bootCoreTimeout h
  | bootComplete => exact .bootComplete h
  | watchdogExpiry _ => exact .watchdogExpiry h
  | coreAlive _ => exact .coreAlive h
  | coreGraceExpiry _ => exact .coreGraceExpiry h
  | clkMonitorWindow _ => exact .clkMonitorWindow h
  | xtalStart => exact .xtalStart h
  | xtalStop => exact .xtalStop h
  | synciLoss => exact .synciLoss h
  | dieThermalShutdown _ => exact .dieThermalShutdown h
  | dieThermalRelease _ => exact .dieThermalRelease h
  | controllerDieThermal _ => exact .controllerDieThermal h
  | status _ => exact .status h
  | vioLoss => exact .vioLoss h
  | vioReturn _ => exact .vioReturn h
  | heartbeatDeadline => exact .heartbeatDeadline h
  | commandTake _ => exact .commandTake h
  | read _ _ => exact .read h
  | enable _ _ => exact .enable h
  | disable _ _ => exact .disable h
  | sysLease _ _ => exact .sysLease h
  | telSlotRead _ _ => exact .telSlotRead h
  | forwardResponseReceived _ _ _ _ _ => exact .forwardResponseReceived h
  | forwardTimeout _ _ => exact .forwardTimeout h
  | faultNPulseEnd => exact .faultNPulseEnd h
  | railSenseCheck _ _ _ => exact .railSenseCheck h
  | railSoftstartCheck _ _ => exact .railSoftstartCheck h
  | scanRoundEnd _ => exact .scanRoundEnd h
  | phaseRampOutDone _ => exact .phaseRampOutDone h
  | loadStepFire _ => exact .loadStepFire h
  | isoQueueStart => exact .isoQueueStart h
  | isopwrUndervoltage => exact .isopwrUndervoltage h
  | warningJudged _ _ _ => exact .warningJudged h
  | comparatorTrip _ _ _ => exact .comparatorTrip h
  | converterFaultJudged _ _ _ => exact .converterFaultJudged h
  | pgStable _ => exact .pgStable h
  | enRunFilter _ => exact .enRunFilter h
  | seqStepDone => exact .seqStepDone h
  | seqStepTimeout => exact .seqStepTimeout h
  | seqTableComplete => exact .seqTableComplete h
  | vbusQualified => exact .vbusQualified h
  | iswOpeningCause _ => exact .iswOpeningCause h
  | vbusLoss _ => exact .vbusLoss h
  | handoverComplete _ _ => exact .handoverComplete h
  | returnMatchTimeout => exact .returnMatchTimeout h
  | iswCloseComplete => exact .iswCloseComplete h
  | iswCloseTimeout => exact .iswCloseTimeout h
  | holdupExhausted => exact .holdupExhausted h
  | deepDischargeCutoff => exact .deepDischargeCutoff h
  | cutoffBatfetOff => exact .cutoffBatfetOff h
  | feChangeDone => exact .feChangeDone h
  | feVhbOv _ => exact .feVhbOv h
  | feVhbOvRelease => exact .feVhbOvRelease h
  | feOpenPhase _ => exact .feOpenPhase h
  | chgCvToTopoff => exact .chgCvToTopoff h
  | chgRecharge _ => exact .chgRecharge h
  | chgFault _ => exact .chgFault h
  | balanceWindow _ => exact .balanceWindow h
  | batteryPresenceRise _ => exact .batteryPresenceRise h
  | insertionCheck _ => exact .insertionCheck h
  | insertionFirstEstimate _ _ => exact .insertionFirstEstimate h
  | gaugeFilterCycle _ => exact .gaugeFilterCycle h
  | restReached => exact .restReached h
  | fawnGaugeInterval _ _ => exact .fawnGaugeInterval h
  | learnedRecordWriteDone => exact .learnedRecordWriteDone h
  | earlyRailDischargeTimeout _ => exact .earlyRailDischargeTimeout h
  | fawnEntryComplete => exact .fawnEntryComplete h
  | wakeEvent _ => exact .wakeEvent h
  | wakeTimerExpiry => exact .wakeTimerExpiry h
  | shipLatchRelease => exact .shipLatchRelease h
  | streamRecord => exact .streamRecord h
  | sbRegWr _ _ _ _ => exact .sbRegWr h
  | sbRegRd _ _ _ => exact .sbRegRd h
  | sbMemRd _ _ _ => exact .sbMemRd h
  | bufWr _ _ _ _ => exact .bufWr h
  | bufRd _ _ _ => exact .bufRd h
  | mbxPost _ _ => exact .mbxPost h
  | mbxResp _ => exact .mbxResp h
  | mbxStat _ => exact .mbxStat h
  | dsRead _ => exact .dsRead h
  | sbStatus _ => exact .sbStatus h
  | alertResponse _ => exact .alertResponse h
  | identify _ => exact .identify h
  | assign _ _ => exact .assign h
  | bleatRead _ => exact .bleatRead h
  | bleatUnanswered => exact .bleatUnanswered h
  | herdChildBleat _ _ _ => exact .herdChildBleat h
  | downstreamEntry _ _ => exact .downstreamEntry h
  | mailboxResume => exact .mailboxResume h
  | activationConfirmed => exact .activationConfirmed h
  | rollbackMailboxTimeout => exact .rollbackMailboxTimeout h
  | rollbackAliveTimeout => exact .rollbackAliveTimeout h
  | runtimeTineTestStart _ => exact .runtimeTineTestStart h
  | tineTestDone _ _ => exact .tineTestDone h
  | planRun _ => exact .planRun h
  | planItemApply _ => exact .planItemApply h
  | wakeSourceAsserted _ => exact .wakeSourceAsserted h
  | feStepInhibitStart _ => exact .feStepInhibitStart h
  | secdedError _ _ => exact .secdedError h

theorem step_tidy (h : s.Tidy) : Out.Tidy (step s) := by
  unfold step
  split
  · exact exec_tidy _ (.inner h rfl)
  · exact .next (.tick h)

end

/-- Settles O6: a step is a row, by the rules of the operations it is made of, or a tick. -/
theorem canonicalKept : Obligations.CanonicalKept := by
  unfold Obligations.CanonicalKept
  intro s t hs hstep
  exact (State.tidy_iff t).mp ((step_tidy ((State.tidy_iff s).mpr hs)).next_tidy t hstep)

end Sys2Proof.Machine
end

section
/-!
PROOFS. The fields of a register as the map gives them: their keys are distinct, and a staging address is no register's own (R64,
R74, R82).
-/

namespace Sys2Proof.Machine

/-- The fields of a register start at distinct bits of its 16 (R64). -/
def RegInfo.sound (r : RegInfo) : Bool := decide (r.fields.map FieldInfo.lo).Nodup && r.fields.all fun f => decide (f.lo < 16)

/-- A register, or row of registers, ends below the staging copies of its block (R74). -/
def RegInfo.belowStaging (r : RegInfo) : Bool := decide (0 < r.stride) && decide (r.off + r.stride * r.count ≤ 0x800)

theorem findReg_mem {o : Nat} {l : List RegInfo} {r : RegInfo} (h : findReg o l = some r) : r ∈ l := by
  induction l with
  | nil => simp [findReg] at h
  | cons q l ih =>
    unfold findReg at h
    split at h
    · exact Option.some.inj h ▸ List.mem_cons_self
    · exact List.mem_cons_of_mem _ (ih h)

theorem findReg_all {o : Nat} {l : List RegInfo} {p : RegInfo → Bool} (h : l.all p = true) : (findReg o l).all p = true := by
  cases hr : findReg o l with
  | none => rfl
  | some r => exact List.all_eq_true.mp h r (findReg_mem hr)

theorem findReg_belowStaging {o : Nat} {l : List RegInfo} (h : l.all RegInfo.belowStaging = true) (ho : 0x800 ≤ o) :
    findReg o l = none := by
  induction l with
  | nil => rfl
  | cons r l ih =>
    rw [List.all_cons, Bool.and_eq_true] at h
    obtain ⟨hr, hl⟩ := h
    simp only [RegInfo.belowStaging, Bool.and_eq_true, decide_eq_true_eq] at hr
    obtain ⟨hstride, hend⟩ := hr
    have hout : ¬(o - r.off) / r.stride < r.count := by
      rw [Nat.div_lt_iff_lt_mul hstride, Nat.mul_comm]
      omega
    simp [findReg, hout, ih hl]

theorem regMap_sound :
    RegMap.sysRegs.all RegInfo.sound = true ∧ RegMap.clkRegs.all RegInfo.sound = true ∧ RegMap.mbxRegs.all RegInfo.sound = true
    ∧ RegMap.fltRegs.all RegInfo.sound = true ∧ RegMap.seqRegs.all RegInfo.sound = true ∧ RegMap.telRegs.all RegInfo.sound = true
    ∧ RegMap.logRegs.all RegInfo.sound = true ∧ RegMap.otpRegs.all RegInfo.sound = true ∧ RegMap.ageRegs.all RegInfo.sound = true
    ∧ RegMap.updRegs.all RegInfo.sound = true ∧ RegMap.phaseRegs.all RegInfo.sound = true ∧ RegMap.railRegs.all RegInfo.sound = true
    ∧ RegMap.feRegs.all RegInfo.sound = true ∧ RegMap.pathRegs.all RegInfo.sound = true ∧ RegMap.chgRegs.all RegInfo.sound = true
    ∧ RegMap.gaugeRegs.all RegInfo.sound = true ∧ RegMap.isoRegs.all RegInfo.sound = true ∧ RegMap.ldoRegs.all RegInfo.sound = true
    ∧ RegMap.monChRegs.all RegInfo.sound = true ∧ RegMap.monPgRegs.all RegInfo.sound = true
    ∧ RegMap.monBlkRegs.all RegInfo.sound = true ∧ RegMap.sbRegs.all RegInfo.sound = true
    ∧ RegMap.hostRegs.all RegInfo.sound = true := by
  decide +kernel

theorem regAt_sound {a : Nat} {r : RegInfo} (h : regAt a = some r) : r.sound = true := by
  have hall : (regAt a).all RegInfo.sound = true := by
    unfold regAt
    dsimp only
    split <;> simp only [apply_ite (Option.all RegInfo.sound), findReg_all, regMap_sound, Option.all_none, ite_self]
  rwa [h] at hall

/-- The blocks whose registers have staging copies (R74). -/
theorem instAt_isSome {a : Nat} (h : (instAt a).isSome = true) :
    a % 0x1000 < 0x800 ∧ a / 0x1000 ∈ [0x03, 0x04, 0x05, 0x11, 0x14, 0x17, 0x18, 0x1A, 0x1C] := by
  unfold instAt at h
  dsimp only at h
  split at h
  case h_10 => exact absurd h (by decide)
  all_goals
    next hb =>
      split at h
      · exact ⟨by omega, by simp [hb]⟩
      · exact absurd h (by decide)

theorem stagedBlocks_belowStaging :
    RegMap.fltRegs.all RegInfo.belowStaging = true ∧ RegMap.seqRegs.all RegInfo.belowStaging = true
    ∧ RegMap.telRegs.all RegInfo.belowStaging = true ∧ RegMap.feRegs.all RegInfo.belowStaging = true
    ∧ RegMap.gaugeRegs.all RegInfo.belowStaging = true ∧ RegMap.sbRegs.all RegInfo.belowStaging = true := by
  decide +kernel

/-- The upper half of such a block holds no register of its own. -/
theorem regAt_upperHalf {a : Nat} (h : 0x800 ≤ a % 0x1000)
    (hb : a / 0x1000 ∈ [0x03, 0x04, 0x05, 0x11, 0x14, 0x17, 0x18, 0x1A, 0x1C]) : regAt a = none := by
  obtain ⟨hflt, hseq, htel, hfe, hgauge, hsb⟩ := stagedBlocks_belowStaging
  have h800 : ¬a % 0x1000 < 0x800 := by omega
  have h600 : ¬a % 0x1000 < 0x600 := by omega
  have h380 : ¬a % 0x1000 < 0x380 := by omega
  have h480 : ¬a % 0x1000 < 0x480 := by omega
  have h7FC : a % 0x1000 ≠ 0x7FC := by omega
  simp only [List.mem_cons, List.not_mem_nil, or_false] at hb
  rcases hb with hb | hb | hb | hb | hb | hb | hb | hb | hb <;>
    simp [regAt, hb, findReg_belowStaging, hflt, hseq, htel, hfe, hgauge, hsb, h, h800, h600, h380, h480, h7FC]

theorem regAt_staging {a : Nat} (h : (stagingOf a).isSome = true) : regAt a = none := by
  unfold stagingOf at h
  split at h
  next hc =>
    rw [Bool.and_eq_true, decide_eq_true_eq] at hc
    obtain ⟨hlow, hinst⟩ := hc
    obtain ⟨hoff, hblock⟩ := instAt_isSome hinst
    have hsame : (a - 0x800) / 0x1000 = a / 0x1000 := by omega
    exact regAt_upperHalf (by omega) (hsame ▸ hblock)
  next => exact absurd h (by decide)

theorem fieldsAt_of_regAt_none {a : Nat} (h : regAt a = none) : fieldsAt a = [] := by
  unfold fieldsAt
  rw [h]

/-- The keys of a register's fields are those of distinct bits of its 16. -/
theorem fieldsAt_keys (a : Nat) : ∃ los : List Nat, los.Nodup ∧ (∀ lo ∈ los, lo < 16)
    ∧ (fieldsAt a).map (fun q => q.1.key) = los.map fun lo => 16 * a + lo := by
  unfold fieldsAt
  split
  next => exact ⟨[], List.nodup_nil, by simp, rfl⟩
  next r hr =>
    have hsound := regAt_sound hr
    rw [RegInfo.sound, Bool.and_eq_true, decide_eq_true_eq, List.all_eq_true] at hsound
    obtain ⟨hnodup, hlow⟩ := hsound
    have hsub (c : Prop) [Decidable c] : (if c then [] else r.fields).Sublist r.fields := by
      split
      · exact List.nil_sublist _
      · exact List.Sublist.refl _
    refine ⟨List.map FieldInfo.lo _, hnodup.sublist ((hsub _).map _), fun lo hlo => ?_,
      List.map_map.trans (List.map_map (g := fun lo => 16 * a + lo) (f := FieldInfo.lo)).symm⟩
    obtain ⟨f, hf, rfl⟩ := List.mem_map.mp hlo
    exact of_decide_eq_true (hlow f ((hsub _).subset hf))

theorem fieldsAt_keys_nodup (a : Nat) : ((fieldsAt a).map fun q => q.1.key).Nodup := by
  obtain ⟨los, hnodup, -, hkeys⟩ := fieldsAt_keys a
  rw [hkeys]
  exact hnodup.map fun x y h => Nat.add_left_cancel h

/-- A field's key tells its register's address. -/
theorem key_div_of_mem_fieldsAt {a : Nat} {q : Fld × FieldInfo} (h : q ∈ fieldsAt a) : q.1.key / 16 = a := by
  obtain ⟨los, -, hlow, hkeys⟩ := fieldsAt_keys a
  have hmem : q.1.key ∈ (fieldsAt a).map fun q => q.1.key := List.mem_map_of_mem h
  rw [hkeys] at hmem
  obtain ⟨lo, hlo, hkey⟩ := List.mem_map.mp hmem
  have := hlow lo hlo
  omega

theorem eq_of_key_eq {a : Nat} {p q : Fld × FieldInfo} (hp : p ∈ fieldsAt a) (hq : q ∈ fieldsAt a) (h : p.1.key = q.1.key) : p = q :=
  List.inj_on_of_nodup_map (fieldsAt_keys_nodup a) hp hq h

end Sys2Proof.Machine
end

section
/-!
PROOFS. Register reads: what a read keeps to its accessor, and what a port's read clears (R69, R80, R204, R289).
-/

namespace Sys2Proof.Machine

/-- The RC fields of the register at an address. -/
abbrev rcFields (a : Nat) : List (Fld × FieldInfo) := (fieldsAt a).filter fun q => q.2.acc = .rc

/-- The RC field stands again after the read that cleared it: a CHG_FLT bit with its cause (R204). -/
abbrev State.standsAgain (s : State) (a : Nat) (f : Fld) : Prop := a = 0x16038 ∧ s.present cCHG 0 f.lo = true

/-- What a port's read of a live register writes. -/
def State.rcWrites (s : State) (a : Nat) : List (Fld × Nat) :=
  ((fieldsAt a).filter fun p => p.2.acc = .rc && !(a = 0x16038 && s.present cCHG 0 p.1.lo)).map fun p => (p.1, 0)

section
variable {s u : State} {a : Nat} {q : Fld × FieldInfo}

theorem mem_rcFields : q ∈ rcFields a ↔ q ∈ fieldsAt a ∧ q.2.acc = .rc := by
  simp [rcFields]

theorem mem_rcWrites {w : Fld × Nat} : w ∈ s.rcWrites a ↔ ∃ q ∈ rcFields a, ¬s.standsAgain a q.1 ∧ w = (q.1, 0) := by
  simp only [State.rcWrites, List.mem_map, List.mem_filter, Bool.and_eq_true, decide_eq_true_eq, Bool.not_eq_true', Bool.and_eq_false_imp,
    State.standsAgain]
  constructor
  · rintro ⟨q, ⟨hq, hrc, hgone⟩, rfl⟩
    exact ⟨q, ⟨hq, by simpa using hrc⟩, fun ⟨ha, hp⟩ => by simp [hgone ha] at hp, rfl⟩
  · rintro ⟨q, ⟨hq, hrc⟩, hgone, rfl⟩
    exact ⟨q, ⟨hq, by simpa using hrc, fun ha => by simpa [ha] using hgone⟩, rfl⟩

theorem rcWrites_keys_nodup (s : State) (a : Nat) : ((s.rcWrites a).map fun w => w.1.key).Nodup := by
  rw [State.rcWrites, List.map_map]
  exact (fieldsAt_keys_nodup a).sublist (List.filter_sublist.map _)

/-- An RC field reads 0 after the read that clears it. -/
theorem getF_rcWrites_cleared (hw : Cells.wf s.fields = true) (hq : q ∈ rcFields a) (hgone : ¬s.standsAgain a q.1) :
    (s.setMany (s.rcWrites a)).getF q.1 = 0 :=
  (getF_setMany_mem hw (rcWrites_keys_nodup s a) (mem_rcWrites.mpr ⟨q, hq, hgone, rfl⟩)).trans (Nat.zero_mod _)

theorem getF_rcWrites_standing (hq : q ∈ rcFields a) (hst : s.standsAgain a q.1) :
    (s.setMany (s.rcWrites a)).getF q.1 = s.getF q.1 := by
  refine getF_setMany_ne _ s q.1 fun w hw hkey => ?_
  obtain ⟨p, hp, hgone, rfl⟩ := mem_rcWrites.mp hw
  have hsame : q = p := eq_of_key_eq (mem_rcFields.mp hq).1 (mem_rcFields.mp hp).1 hkey
  exact hgone (hsame ▸ hst)

theorem rcWrites_acts (s : State) (a : Nat) : Acts ((rcFields a).map (·.1)) s (s.setMany (s.rcWrites a)) := by
  refine (Acts.refl _ s).setMany fun w hw => ?_
  obtain ⟨q, hq, -, rfl⟩ := mem_rcWrites.mp hw
  exact List.mem_map_of_mem hq

theorem clearRc_of_ne (h : a ≠ 0x3024) : s.clearRc a = s.setMany (s.rcWrites a) := by
  simp [State.clearRc, State.rcWrites, h]

theorem rearmFirst_acts (s : State) : Acts [Reg.FLT_FIRST_valid] s s.rearmFirst := by
  unfold State.rearmFirst
  split
  · exact ((Acts.refl _ s).setB false List.mem_cons_self).inner rfl rfl rfl rfl rfl rfl
  · exact Acts.refl _ s

/-- FLT_FIRST is no RC field, but its read lets it re-arm (R289). -/
theorem clearRc_acts (s : State) (a : Nat) : Acts (Reg.FLT_FIRST_valid :: (rcFields a).map (·.1)) s (s.clearRc a) := by
  have hclear : Acts (Reg.FLT_FIRST_valid :: (rcFields a).map (·.1)) s (s.setMany (s.rcWrites a)) :=
    (rcWrites_acts s a).mono (List.subset_cons_self _ _)
  by_cases ha : a = 0x3024
  · subst ha
    have hfirst : [Reg.FLT_FIRST_valid] ⊆ Reg.FLT_FIRST_valid :: (rcFields 0x3024).map (·.1) := by simp
    unfold State.clearRc
    dsimp only
    split
    · refine Acts.trans ?_ ((rearmFirst_acts _).mono hfirst)
      exact hclear.inner rfl rfl rfl rfl rfl rfl
    · exact hclear
  · rw [clearRc_of_ne ha]
    exact hclear

/-- The end of a row looks at no RC field. -/
theorem act_deferred_not_rc (a : Nat) : Reg.SYS_RUN_STAT_act_deferred.key ∉ ((rcFields a).map (·.1)).map Fld.key := by
  intro h
  obtain ⟨f, hf, hkey⟩ := List.mem_map.mp h
  obtain ⟨q, hq, rfl⟩ := List.mem_map.mp hf
  have ha : a = Reg.SYS_RUN_STAT_act_deferred.key / 16 := by
    rw [← hkey]
    exact (key_div_of_mem_fieldsAt (mem_rcFields.mp hq).1).symm
  have hnone : rcFields (Reg.SYS_RUN_STAT_act_deferred.key / 16) = [] := by decide
  rw [ha, hnone] at hq
  exact List.not_mem_nil hq

theorem getF_clearRc_cleared (hw : Cells.wf s.fields = true) (hq : q ∈ rcFields a) (hgone : ¬s.standsAgain a q.1) :
    (s.clearRc a).getF q.1 = 0 := by
  have ha : a ≠ 0x3024 := by
    rintro rfl
    have hnone : rcFields 0x3024 = [] := by decide
    simp [hnone] at hq
  rw [clearRc_of_ne ha]
  exact getF_rcWrites_cleared hw hq hgone

/-! A read and its accessor. -/

theorem updAcc_id (s : State) (acc : Accessor) : s.updAcc acc id = s := by cases acc <;> rfl

theorem acc_updAcc (s : State) (acc : Accessor) (g : AccSt → AccSt) : (s.updAcc acc g).acc acc = g (s.acc acc) := by cases acc <;> rfl

theorem present_updAcc (s : State) (acc : Accessor) (g : AccSt → AccSt) (cls src cause : Nat) :
    (s.updAcc acc g).present cls src cause = s.present cls src cause := by cases acc <;> rfl

theorem getF_updAcc (s : State) (acc : Accessor) (g : AccSt → AccSt) (f : Fld) : (s.updAcc acc g).getF f = s.getF f := by
  cases acc <;> rfl

/-- What an accessor keeps for itself is no register, memory or record. -/
theorem updAcc_readies (s : State) (acc : Accessor) (g : AccSt → AccSt) : Readies [] s (s.updAcc acc g) := by
  cases acc <;> exact ⟨(Undisturbed.refl [] s).inner rfl ⟨fun _ => rfl, fun _ => rfl, rfl, rfl, rfl, rfl⟩ rfl rfl, id, rfl, rfl, rfl, rfl⟩

/-- A register read changes the accessor's own shadow and error record, and clears what a port's read clears. -/
theorem readReg_effect (s : State) (acc : Accessor) (h : a < 0x40000) :
    ∃ g, (s.readReg acc a).1 = (s.updAcc acc g).readEffect acc a := by
  have hself : s.readEffect acc a = (s.updAcc acc id).readEffect acc a := by rw [updAcc_id]
  have hreg : ¬0x40000 ≤ a := by omega
  unfold State.readReg
  rw [if_neg hreg]
  split
  · exact ⟨id, hself⟩
  · split
    · exact ⟨_, rfl⟩
    · split
      · split
        · exact ⟨id, hself⟩
        · exact ⟨_, rfl⟩
      · exact ⟨_, rfl⟩

/-- A word of no multi-word value is read as it stands. -/
theorem readReg_value (s : State) (acc : Accessor) (h : a < 0x40000) (hm : multiword a = none) : (s.readReg acc a).2 = s.peek acc a := by
  have hreg : ¬0x40000 ≤ a := by omega
  simp [State.readReg, hreg, hm]

/-- Only the error record is the accessor's own (R73). -/
theorem peek_shared (s : State) (acc acc' : Accessor) (h : a < 0x34 ∨ 0x40 ≤ a) : s.peek acc a = s.peek acc' a := by
  have herr : a ≠ 0x34 := by omega
  have hlow : a ≠ 0x38 := by omega
  have hhigh : a ≠ 0x3C := by omega
  simp [State.peek, State.liveWord, herr, hlow, hhigh]

theorem readEffect_port (s : State) (p : Port) (a : Nat) : s.readEffect (portAcc p) a = s.clearRc a := by cases p <;> rfl

theorem exec_rcRead {p : Port} {addr : BitVec 20} (h : s.accUp (portAcc p) = true) :
    exec (.rcRead p addr) s = (s.readReg (portAcc p) addr.toNat).1.done := by
  cases p <;> exact if_pos h

theorem exec_multiwordLowRead {acc : Accessor} {addr : BitVec 20} (h : s.accUp acc = true) :
    exec (.multiwordLowRead acc addr) s = (s.readReg acc addr.toNat).1.done := if_pos h

/-- A port's read of a register: what its live address clears, and what the port keeps for itself. -/
theorem rcRead_clears {p : Port} {addr : BitVec 20} (hs : s.ready) (hup : s.accUp (portAcc p) = true) (hreg : addr.toNat < 0x40000) :
    ∃ g, exec (.rcRead p addr) s = .next ((s.updAcc (portAcc p) g).clearRc addr.toNat) := by
  obtain ⟨g, hg⟩ := readReg_effect s (portAcc p) hreg
  rw [readEffect_port] at hg
  refine ⟨g, ?_⟩
  rw [exec_rcRead hup, hg]
  refine done_quiet _ (((updAcc_readies s (portAcc p) g).mono (List.nil_subset _)).acts (clearRc_acts _ addr.toNat) |>.ready hs ?_).2
  rw [List.map_cons, List.mem_cons, not_or]
  exact ⟨by decide, act_deferred_not_rc _⟩

theorem rcRead_frame (s : State) (acc : Accessor) (g : AccSt → AccSt) (a : Nat) :
    Frame (Reg.FLT_FIRST_valid :: (rcFields a).map (·.1)) s ((s.updAcc acc g).clearRc a) :=
  (((updAcc_readies s acc g).mono (List.nil_subset _)).acts (clearRc_acts _ a)).undisturbed.frame

theorem rcRead_frame_of_ne (s : State) (acc : Accessor) (g : AccSt → AccSt) (ha : a ≠ 0x3024) :
    Frame ((rcFields a).map (·.1)) s ((s.updAcc acc g).clearRc a) := by
  rw [clearRc_of_ne ha]
  exact (((updAcc_readies s acc g).mono (List.nil_subset _)).acts (rcWrites_acts _ a)).undisturbed.frame

theorem updAcc_fields_wf {acc : Accessor} {g : AccSt → AccSt} (hs : s.ready) : Cells.wf (s.updAcc acc g).fields = true :=
  ((updAcc_readies s acc g).canonical hs.1).1

/-- The read of CHG_FLT: a bit whose cause is present stands (R204). -/
theorem getF_clearRc_chgFlt (hw : Cells.wf s.fields = true) (hq : q ∈ rcFields 0x16038) :
    (s.clearRc 0x16038).getF q.1 = if s.present cCHG 0 q.1.lo then s.getF q.1 else 0 := by
  split
  next hp =>
    rw [clearRc_of_ne (by decide)]
    exact getF_rcWrites_standing hq ⟨rfl, hp⟩
  next hp => exact getF_clearRc_cleared hw hq fun hst => hp hst.2

/-- A read of a core clears nothing. -/
theorem coreRead_frame {acc : Accessor} {addr : BitVec 20} (hs : s.ready) (hup : s.accUp acc = true)
    (hcore : acc = .control ∨ acc = .gauge) (hreg : addr.toNat < 0x40000) :
    ∃ t, exec (.multiwordLowRead acc addr) s = .next t ∧ Frame [] s t := by
  obtain ⟨g, hg⟩ := readReg_effect s acc hreg
  have hnone : (s.updAcc acc g).readEffect acc addr.toNat = s.updAcc acc g := by rcases hcore with rfl | rfl <;> rfl
  have hkeeps := updAcc_readies s acc g
  rw [exec_multiwordLowRead hup, hg, hnone]
  exact ⟨_, done_quiet _ (hkeeps.ready hs (by simp)).2, hkeeps.undisturbed.frame⟩

theorem rcFields_staging (h : (stagingOf a).isSome = true) : rcFields a = [] := by
  simp [rcFields, fieldsAt_of_regAt_none (regAt_staging h)]

theorem staging_lt (h : (stagingOf a).isSome = true) : a < 0x40000 := by
  unfold stagingOf at h
  split at h
  next hc =>
    rw [Bool.and_eq_true] at hc
    obtain ⟨-, hinst⟩ := hc
    obtain ⟨-, hblock⟩ := instAt_isSome hinst
    simp only [List.mem_cons, List.not_mem_nil, or_false] at hblock
    omega
  next => exact absurd h (by decide)

end

/-- Settles O19: a port's read is `rcRead_clears`, where RC fields read 0 (`getF_clearRc_cleared`) but for the bits of CHG_FLT with
their causes (`getF_clearRc_chgFlt`); a core's read has no such effect (`coreRead_frame`), and a staging address has no RC field
(`rcFields_staging`). -/
theorem rcReads : Obligations.RcReads := by
  unfold Obligations.RcReads
  refine ⟨?_, ?_, ?_, ?_⟩
  · intro p addr s hs hup hreg hne
    obtain ⟨g, hexec⟩ := rcRead_clears hs hup hreg
    refine ⟨_, hexec, List.all_eq_true.mpr fun q hq => ?_, rcRead_frame s _ g _⟩
    exact beq_iff_eq.mpr (getF_clearRc_cleared (updAcc_fields_wf hs) hq fun hst => hne hst.1)
  · intro p s hs hup
    obtain ⟨g, hexec⟩ := rcRead_clears (addr := 0x16038) hs hup (by decide)
    refine ⟨_, hexec, List.all_eq_true.mpr fun q hq => ?_, rcRead_frame_of_ne s _ g (by decide)⟩
    have hvalue := getF_clearRc_chgFlt (updAcc_fields_wf (acc := portAcc p) (g := g) hs) hq
    rw [present_updAcc, getF_updAcc] at hvalue
    exact beq_iff_eq.mpr hvalue
  · intro acc addr s hs hup hcore hreg
    obtain ⟨t, hexec, hframe⟩ := coreRead_frame hs hup hcore hreg
    refine ⟨t, hexec, hframe, fun hm hown p => ?_⟩
    rw [readReg_value s acc hreg hm, readReg_value s (portAcc p) hreg hm]
    exact peek_shared s acc (portAcc p) hown
  · intro p addr s hs hup hst
    obtain ⟨g, hexec⟩ := rcRead_clears hs hup (staging_lt hst)
    have hne : addr.toNat ≠ 0x3024 := fun h => by
      rw [h] at hst
      exact absurd hst (by decide)
    have hframe := rcRead_frame_of_ne s (portAcc p) g hne
    rw [rcFields_staging hst] at hframe
    exact ⟨_, hexec, hframe⟩

end Sys2Proof.Machine
end

section
/-!
PROOFS. Writes of HOST_INT_EN (R65), also where it holds a number beyond its field's width.
-/

namespace Sys2Proof.Machine

/-! The merge of masked bits. -/

theorem land_add_lor (a b : Nat) : (a &&& b) + (a ||| b) = a + b := by
  induction a using Nat.strongRecOn generalizing b with
  | ind a ih =>
    rcases Nat.eq_zero_or_pos a with rfl | ha
    · simp
    · have hhalf := ih (a / 2) (by omega) (b / 2)
      have hand : (a &&& b) / 2 = a / 2 &&& b / 2 := Nat.and_div_two
      have hor : (a ||| b) / 2 = a / 2 ||| b / 2 := Nat.or_div_two
      have handBit : (a &&& b) % 2 = a % 2 &&& b % 2 := Nat.and_mod_two_pow (n := 1)
      have horBit : (a ||| b) % 2 = a % 2 ||| b % 2 := Nat.or_mod_two_pow (n := 1)
      have hbits : (a % 2 &&& b % 2) + (a % 2 ||| b % 2) = a % 2 + b % 2 := by
        rcases Nat.mod_two_eq_zero_or_one a with h | h <;> rcases Nat.mod_two_eq_zero_or_one b with k | k <;> simp [h, k]
      omega

/-- The merge of a number and a mask that fit a field fits it too. -/
theorem maskMerge_lt {w old m : Nat} (d : Nat) (ho : old < 2 ^ w) (hm : m < 2 ^ w) : maskMerge old m d < 2 ^ w := by
  have hor : old ||| m < 2 ^ w := Nat.or_lt_two_pow ho hm
  have hd : d &&& m ≤ m := Nat.and_le_right
  have hsum := land_add_lor old m
  show old - (old &&& m) + (d &&& m) < 2 ^ w
  omega

theorem maskMerge_zero (old d : Nat) : maskMerge old 0 d = old := by
  show old - (old &&& 0) + (d &&& 0) = old
  simp

/-! HOST_INT_EN. -/

/-- The one field of HOST_INT_EN, as the map gives it. -/
def intEnInfo : FieldInfo := { lo := 0, w := 11, acc := .rw, rst := 0x3 }

/-- A write of v to it. -/
def intEnWrite (m v : Nat) : WField := ⟨0, Reg.HOST_INT_EN_en, intEnInfo, m, v⟩

theorem fieldsAt_intEn : fieldsAt 0x1D00C = [(Reg.HOST_INT_EN_en, intEnInfo)] := by decide

theorem regAt_intEn : regAt 0x1D00C = some { off := 0xC, hostW := true, fields := [intEnInfo] } := by decide +kernel

theorem liveAddr_intEn : liveAddr 0x1D00C = 0x1D00C := by decide

theorem outOfEnable_intEn : outOfEnable Reg.HOST_INT_EN_en = none := by decide

section
variable {s u : State} {acc : Accessor} {m d v : Nat} {ws : List WField}

/-- A write covers the field if its mask has one of the 11 bits. -/
theorem cover_intEn (hst : s.getStaged Reg.HOST_INT_EN_en = s.getF Reg.HOST_INT_EN_en) :
    s.cover [(0x1D00C, m, d)] = if m % 2 ^ 11 = 0 then []
      else [intEnWrite (m % 2 ^ 11) (maskMerge (s.getF Reg.HOST_INT_EN_en) (m % 2 ^ 11) (d % 2 ^ 11))] := by
  have hstaging : stagingOf 0x1D00C = none := by decide
  have hmask : bitsOf m 0 11 = m % 2 ^ 11 := by simp [bitsOf]
  have hdata : bitsOf d 0 11 = d % 2 ^ 11 := by simp [bitsOf]
  simp only [State.cover, List.zipIdx_cons, List.zipIdx_nil, List.foldl_cons, List.foldl_nil, liveAddr_intEn, hstaging, fieldsAt_intEn,
    List.filterMap_cons, List.filterMap_nil, hmask, hdata]
  split <;> simp_all [intEnWrite, intEnInfo]

theorem accessRefusal_intEn (hacc : acc ≠ .side) (hws : ∀ w ∈ ws, w = intEnWrite m v) : s.accessRefusal acc 0x1D00C ws = none := by
  cases acc with
  | side => exact absurd rfl hacc
  | host =>
    have hdirect : (ws.any fun w => w.i.direct) = false :=
      List.any_eq_false.mpr fun w hw => by simp [hws w hw, intEnWrite, intEnInfo]
    have hclosed : (ws.any fun w => s.coeffClosed w.f) = false :=
      List.any_eq_false.mpr fun w hw => by simp [hws w hw, intEnWrite, State.coeffClosed]
    simp [State.accessRefusal, liveAddr_intEn, regAt_intEn, hdirect, hclosed]
  | control => rfl
  | gauge => rfl

theorem writeRefusal_intEn_nil (hacc : acc ≠ .side) : s.writeRefusal acc 0x1D00C [] = none := by
  have haccess : s.accessRefusal acc 0x1D00C [] = none := accessRefusal_intEn (m := 0) (v := 0) hacc (by simp)
  simp [State.writeRefusal, liveAddr_intEn, regAt_intEn, haccess]

theorem writeRefusal_intEn (hacc : acc ≠ .side) (hv : v < 2 ^ 11) : s.writeRefusal acc 0x1D00C [intEnWrite m v] = none := by
  have haccess : s.accessRefusal acc 0x1D00C [intEnWrite m v] = none := accessRefusal_intEn (m := m) (v := v) hacc (by simp)
  have henc (g : Fld → Nat) : reservedEnc g (intEnWrite m v) = false := by simp [reservedEnc, seqReserved, intEnWrite, intEnInfo]
  have hrange : outOfRange (intEnWrite m v) = false := by
    simp [outOfRange, intEnWrite, intEnInfo]
    omega
  have hrule (g : Fld → Nat) : s.ruleBroken g Reg.HOST_INT_EN_en = false := by simp [State.ruleBroken]
  have hmap : s.badMap acc [intEnWrite m v] Reg.HOST_INT_EN_en = false := by simp [State.badMap]
  have hceil (g : Fld → Nat) : s.overCeiling g Reg.HOST_INT_EN_en = false := by simp [State.overCeiling]
  have henable : enableField Reg.HOST_INT_EN_en = false := by decide
  have hf : (intEnWrite m v).f = Reg.HOST_INT_EN_en := rfl
  have hi : (intEnWrite m v).i.acc = .rw := rfl
  simp [State.writeRefusal, liveAddr_intEn, regAt_intEn, haccess, henc, hrange, hf, hrule, hmap, hceil, hi, WField.enables, henable]

/-- Nothing follows from a write of HOST_INT_EN in any block. -/
theorem afterWrite_intEn (hws : ws = [] ∨ ws = [intEnWrite m v]) (hu : s.getF Reg.FE_VBUS_uv = u.getF Reg.FE_VBUS_uv) :
    u.afterWrite s ws = u := by
  have hldo (n : Nat) : 1900736 ≠ 16 * (102404 + 16 * n) := by omega
  have hskip (l : List Nat) : (u.each l fun _ t => t) = u := each_eq_self l fun _ _ => rfl
  rcases hws with rfl | rfl <;> simp [State.afterWrite, intEnWrite, Fld.key, hldo, hskip, hu]

theorem applyAll_intEn_nil : s.applyAll acc [] = s := by
  have hnone (l : List Nat) : (l.flatMap fun _ => ([] : List WField)) = [] := by simp
  simp [State.applyAll, hnone, afterWrite_intEn (s := s) (u := s) (ws := []) (m := 0) (v := 0) (.inl rfl) rfl]

theorem applyAll_intEn : s.applyAll acc [intEnWrite m v] = s.setF Reg.HOST_INT_EN_en v := by
  have hinst : instAt 0x1D00C = none := by decide
  have hmulti : writableMulti 0x1D00C = none := by decide
  have hfield : s.applyField acc (intEnWrite m v) = s.setF Reg.HOST_INT_EN_en v := by
    simp [State.applyField, intEnWrite, intEnInfo, hmulti]
  have hafter : (s.setF Reg.HOST_INT_EN_en v).afterWrite s [intEnWrite m v] = s.setF Reg.HOST_INT_EN_en v :=
    afterWrite_intEn (.inr rfl) (getF_setF_ne _ _ _ _ (by decide)).symm
  have hf : (intEnWrite m v).f = Reg.HOST_INT_EN_en := rfl
  have hi : (intEnWrite m v).i.acc = .rw := rfl
  have hnone (l : List Nat) : (l.flatMap fun _ => ([] : List WField)) = [] := by simp
  simp [State.applyAll, hnone, hf, hi, outOfEnable_intEn, hinst, hfield, hafter]

theorem applyBases_intEn : s.applyBases [intEnWrite m v] = s := by
  have hbase : governed Reg.HOST_INT_EN_en = none := by decide
  simp [State.applyBases, intEnWrite, State.baseWrite, hbase]

theorem busWrite_intEn_none (hacc : acc ≠ .side) (hst : s.getStaged Reg.HOST_INT_EN_en = s.getF Reg.HOST_INT_EN_en)
    (hm : m % 2 ^ 11 = 0) : (s.busWrite acc 0x1D00C m d).1 = s := by
  simp only [State.busWrite, cover_intEn hst, hm, ↓reduceIte, writeRefusal_intEn_nil hacc, applyAll_intEn_nil]
  simp [State.applyBases]

theorem busWrite_intEn (hacc : acc ≠ .side) (hst : s.getStaged Reg.HOST_INT_EN_en = s.getF Reg.HOST_INT_EN_en)
    (hfit : s.getF Reg.HOST_INT_EN_en < 2 ^ 11) (hm : m % 2 ^ 11 ≠ 0) : (s.busWrite acc 0x1D00C m d).1
      = s.setF Reg.HOST_INT_EN_en (maskMerge (s.getF Reg.HOST_INT_EN_en) (m % 2 ^ 11) (d % 2 ^ 11)) := by
  have hv := maskMerge_lt (d % 2 ^ 11) hfit (Nat.mod_lt m (Nat.two_pow_pos 11))
  have hm0 : m ≠ 0 := fun h => hm (by simp [h])
  simp only [State.busWrite, cover_intEn hst, hm, hm0, ↓reduceIte, writeRefusal_intEn hacc hv, applyAll_intEn, applyBases_intEn]
  simp

/-- The third part of O20 with the premises it lacks. -/
theorem registerWrite_intEn {mask data : Word} (hs : s.ready) (hup : s.accUp acc = true) (hacc : acc ≠ .side)
    (hst : s.getStaged Reg.HOST_INT_EN_en = s.getF Reg.HOST_INT_EN_en) (hfit : s.getF Reg.HOST_INT_EN_en < 2 ^ 11) :
    Completes (.registerWrite acc 0x1D00C mask data) s fun t =>
      t.getF Reg.HOST_INT_EN_en = maskMerge (s.getF Reg.HOST_INT_EN_en) (mask.toNat % 2 ^ 11) (data.toNat % 2 ^ 11)
      ∧ Frame [Reg.HOST_INT_EN_en] s t := by
  have hexec : exec (.registerWrite acc 0x1D00C mask data) s = (s.busWrite acc 0x1D00C mask.toNat data.toNat).1.done :=
    rowWrite_of_accUp hup _ _ _
  by_cases hm : mask.toNat % 2 ^ 11 = 0
  · rw [busWrite_intEn_none hacc hst hm] at hexec
    refine ⟨s, hexec.trans (done_quiet s hs.2), ?_, (Undisturbed.refl _ s).frame⟩
    rw [hm, maskMerge_zero]
  · rw [busWrite_intEn hacc hst hfit hm] at hexec
    refine ⟨_, hexec.trans (done_quiet _ (hs.setF _ (by decide)).2), ?_, ((Acts.refl _ s).setF _ List.mem_cons_self).undisturbed.frame⟩
    rw [getF_setF_same _ _ _ hs.1.1]
    exact Nat.mod_eq_of_lt (maskMerge_lt _ hfit (Nat.mod_lt _ (Nat.two_pow_pos 11)))

end

/-! A register that holds more than its field can. -/

/-- A running device whose HOST_INT_EN holds 2048, which the 11 bits of its field cannot (R64). -/
def overlongIntEn : State :=
  { State.reset with
    sys := { State.reset.sys with stage := .done, ctlAlive := true }
    fields := [(Reg.SYS_STATE_state.key, stRUN), (Reg.HOST_INT_EN_en.key, 2048)] }

/-- The write of bit 0 stores the field's 11 bits. -/
theorem registerWrite_overlongIntEn :
    (match exec (.registerWrite .control 0x1D00C 1 1) overlongIntEn with
      | .next t => t.getF Reg.HOST_INT_EN_en
      | _ => 2049) = 1 := by
  decide +kernel

/-- Refutes O20: its third part speaks of every canonical register file, also of one that holds a number beyond its field's width;
the write stores the field's 11 bits, and the masked merge of the old number keeps the twelfth. For a
number that its field can hold, and none staged beside it, the part is true (`registerWrite_intEn`). -/
theorem not_registerWrites : ¬ Obligations.RegisterWrites := by
  unfold Obligations.RegisterWrites
  rintro ⟨-, -, hwrite, -⟩
  obtain ⟨t, ht, hmerged, -⟩ := hwrite .control 1 1 overlongIntEn (by decide) (by decide) (by decide) (by decide)
  have h := registerWrite_overlongIntEn
  rw [ht] at h
  exact absurd (hmerged.symm.trans h) (by decide)

end Sys2Proof.Machine
end

section
/-!
PROOFS. A hold that is released where no boundary is to come.
-/

namespace Sys2Proof.Machine

/-- Rail 0 is off, and a setpoint staged under its hold waits for the hold to end (R77). -/
def heldSetpoint : State :=
  { State.reset with
    sys := { State.reset.sys with stage := .done, ctlAlive := true }
    fields := [(Reg.SYS_STATE_state.key, stRUN), ((pendingF (.rail 0)).key, 1), ((holdF (.rail 0)).key, 1)]
    staged := [(Reg.RAIL_VSET_vset 0, 900)] }

/-- A rail that does not run has its boundary at once (R76): the end of the hold commits the setpoint. -/
theorem commitHold_heldSetpoint :
    (match exec (.commitHold .control (.rail 0) false) heldSetpoint with
      | .next t => t.staged
      | _ => heldSetpoint.staged) = [] := by
  decide +kernel

/-- Refutes O21: its fifth part says that a write of the hold bit leaves what is staged, also where it ends the hold of a rail that
does not run; there the values that waited commit with the write (R76, R77). -/
theorem not_buffered : ¬ Obligations.Buffered := by
  unfold Obligations.Buffered
  rintro ⟨-, -, -, -, hhold⟩
  obtain ⟨t, ht, -, hstaged, -⟩ := hhold .control (.rail 0) false heldSetpoint (by decide) (by decide)
  have h := commitHold_heldSetpoint
  rw [ht] at h
  exact absurd (hstaged.symm.trans h) (by decide)

end Sys2Proof.Machine
end

section
/-!
PROOFS. The run request taken from the command, and SYS.STOP with the request taken from the pin, where the level of R89 stays; and a
run_req that holds more than its bit can.
-/

namespace Sys2Proof.Machine

/-- A request whose level stays has no edge; its bit is stored with the level it has (R89). -/
theorem runEval_of_steady {s : State} (h : s.runLevel = s.bit Reg.SYS_RUN_STAT_run_req) :
    s.runEval = s.setB Reg.SYS_RUN_STAT_run_req (s.bit Reg.SYS_RUN_STAT_run_req) := by
  unfold State.runEval
  cases hreq : s.bit Reg.SYS_RUN_STAT_run_req <;> simp [h, hreq]

theorem runLevel_of_command {s : State} (h : s.getF Reg.SYS_RUN_CFG_run_src = 1) : s.runLevel = s.bit Reg.SYS_RUN_STAT_cmd_run := by
  simp [State.runLevel, h]

theorem runLevel_of_pin {s : State} (h : s.getF Reg.SYS_RUN_CFG_run_src = 0) : s.runLevel = s.sys.pinReq := by
  simp [State.runLevel, h]

/-- Outside a wake boot a source that asserts without a FAWN entry in progress is not latched (R95, R97). -/
theorem wakeSeen_of_awake {s : State} (hsleep : s.sys.sleep = none) (hst : s.st ≠ stBOOT ∨ s.sys.kind ≠ .wake) (enabled : Bool) (f : Fld) :
    s.wakeSeen enabled f = s := by
  have habandon : s.abandonSleep = s := by simp [State.abandonSleep, hsleep]
  have hlatch : s.wakeLatch f = s := by
    unfold State.wakeLatch
    rcases hst with hst | hst <;> simp [hst]
  unfold State.wakeSeen
  rw [habandon, hlatch, ite_self]

/-- The filtered level of EN_RUN as the rows remember it. -/
def State.pinNoted (s : State) (level : Bool) : State := s.updSys fun y => { y with pinReq := level, wakeEnRun := level }

/-- The first part of O45, with run_req among what is stored: its level stays. -/
theorem enRunFilter_of_command {l : Bool} {s : State} (hs : s.ready) (hlive : s.live = true) (hsleep : s.sys.sleep = none)
    (hst : s.st ≠ stBOOT ∨ s.sys.kind ≠ .wake) (hsrc : s.getF Reg.SYS_RUN_CFG_run_src = 1)
    (hreq : s.bit Reg.SYS_RUN_STAT_run_req = s.bit Reg.SYS_RUN_STAT_cmd_run) :
    Completes (.enRunFilter l) s fun t => t.sys.pinReq = l ∧ t.sys.wakeEnRun = l
      ∧ t.bit Reg.SYS_RUN_STAT_run_req = s.bit Reg.SYS_RUN_STAT_run_req ∧ Frame [Reg.SYS_RUN_STAT_run_req] s t := by
  have hsteady : (s.pinNoted l).runEval = (s.pinNoted l).setB Reg.SYS_RUN_STAT_run_req (s.bit Reg.SYS_RUN_STAT_run_req) :=
    runEval_of_steady ((runLevel_of_command (s := s.pinNoted l) hsrc).trans hreq.symm)
  have hready : Readies [Reg.SYS_RUN_STAT_run_req] s (s.pinNoted l).runEval := by
    rw [hsteady]
    exact ((Readies.refl _ s).updSys rfl rfl).acts ((Acts.refl _ _).setB _ List.mem_cons_self)
  have hst' : (s.pinNoted l).runEval.st = s.st := hready.getF (by decide)
  have hsys : (s.pinNoted l).runEval.sys = (s.pinNoted l).sys := by rw [hsteady, setB_sys]
  have hexec : exec (.enRunFilter l) s = (s.pinNoted l).runEval.done := by
    have hseen : (s.pinNoted l).runEval.wakeSeen (s.bit Reg.SYS_WAKE_EN_en_run) Reg.SYS_WAKE_SRC_en_run = (s.pinNoted l).runEval :=
      wakeSeen_of_awake (by rw [hsys]; exact hsleep) (by rw [hst', hsys]; exact hst) _ _
    have hrow : exec (.enRunFilter l) s = (if l then (s.pinNoted l).runEval.wakeSeen (s.bit Reg.SYS_WAKE_EN_en_run)
        Reg.SYS_WAKE_SRC_en_run else (s.pinNoted l).runEval).done := if_pos hlive
    rw [hrow, hseen, ite_self]
  refine ⟨_, hexec.trans (done_quiet _ (hready.ready hs (by decide)).2), by rw [hsys]; rfl, by rw [hsys]; rfl, ?_, hready.undisturbed.frame⟩
  rw [hsteady]
  exact bit_setB_same _ _ _ (by decide) hs.1.1

/-- A running device that takes the request from the command, and whose run_req holds 2, which its one bit cannot (R64). -/
def overlongRunReq : State :=
  { State.reset with
    sys := { State.reset.sys with stage := .done }
    fields := [(Reg.SYS_STATE_state.key, stRUN), (Reg.SYS_RUN_CFG_run_src.key, 1), (Reg.SYS_RUN_STAT_run_req.key, 2),
      (Reg.SYS_RUN_STAT_cmd_run.key, 1)] }

theorem enRunFilter_overlongRunReq :
    (match exec (.enRunFilter false) overlongRunReq with
      | .next t => t.getF Reg.SYS_RUN_STAT_run_req
      | _ => 2) = 1 := by
  decide +kernel

/-- Refutes O45: its first part lets the row change no register, also where run_req holds a number beyond its one bit; the row
stores the bit anew. With run_req among the fields it stores the part is true (`enRunFilter_of_command`). -/
theorem not_runRequest : ¬ Obligations.RunRequest := by
  unfold Obligations.RunRequest
  rintro ⟨hcommand, -⟩
  obtain ⟨t, ht, -, -, hkept, -⟩ := hcommand false overlongRunReq (by decide) rfl rfl (.inl (by decide)) rfl rfl
  have h := enRunFilter_overlongRunReq
  rw [ht] at h
  exact absurd ((hkept Reg.SYS_RUN_STAT_run_req List.not_mem_nil).symm.trans h) (by decide)

/-! SYS.STOP. -/

/-- The fields that SYS.STOP stores where the request comes from the pin. -/
def stopFields : List Fld := [Reg.SYS_RUN_STAT_cmd_run, Reg.SYS_RUN_STAT_run_req]

def State.stopNoted (s : State) : State := (s.setB Reg.SYS_RUN_STAT_cmd_run false).runEval

/-- With the request taken from the pin, clearing cmd_run leaves the level of the request (R89). -/
theorem stopNoted_of_pin {s : State} (hsrc : s.getF Reg.SYS_RUN_CFG_run_src = 0) (hreq : s.bit Reg.SYS_RUN_STAT_run_req = s.sys.pinReq) :
    s.stopNoted = (s.setB Reg.SYS_RUN_STAT_cmd_run false).setB Reg.SYS_RUN_STAT_run_req (s.bit Reg.SYS_RUN_STAT_run_req) := by
  have hbit : (s.setB Reg.SYS_RUN_STAT_cmd_run false).bit Reg.SYS_RUN_STAT_run_req = s.bit Reg.SYS_RUN_STAT_run_req :=
    bit_setB_ne _ _ _ _ (by decide)
  have hlevel : (s.setB Reg.SYS_RUN_STAT_cmd_run false).runLevel = s.sys.pinReq :=
    runLevel_of_pin ((getF_setB_ne _ _ _ _ (by decide)).trans hsrc)
  exact (runEval_of_steady (hlevel.trans (hreq.symm.trans hbit.symm))).trans (by rw [hbit])

theorem stopNoted_acts {s : State} (hsrc : s.getF Reg.SYS_RUN_CFG_run_src = 0) (hreq : s.bit Reg.SYS_RUN_STAT_run_req = s.sys.pinReq) :
    Acts stopFields s s.stopNoted := by
  rw [stopNoted_of_pin hsrc hreq]
  exact ((Acts.refl _ s).setB _ List.mem_cons_self).setB _ (List.mem_cons_of_mem _ List.mem_cons_self)

/-- The fields of an answer are none of the listed ones, and a row that only acts shows nothing of the answer. -/
theorem Acts.beforeAnswer {l : List Fld} {s u : State} (h : Acts l s u) (hring : Reg.MBX_RESP_PROD_prod.key ∉ l.map Fld.key) :
    BeforeAnswer l s u := by
  have honly := h.only
  refine ⟨h.kept, h.getF hring, ?_, h.win, honly.sbBuf, h.logNext, honly.time, honly.pending, honly.mram, honly.nv⟩
  unfold OnlyActs at honly
  rw [honly]

theorem cmdStop_of_turn {p : Port} {tag : BitVec 6} {c : Taken} {s : State} (ht : s.turn p tag c 0x0113 []) :
    s.cmdStop c = s.stopNoted.respond c sOK 0 [] := by
  obtain ⟨-, -, hpayload, hadmits⟩ := ht
  exact guarded_passed (by simp [State.bare, hadmits, Taken.badLen, hpayload]) _

/-- The fifth part of O28, with run_req among what is stored: its level stays. -/
theorem sysStop_of_pin {p : Port} {tag : BitVec 6} {c : Taken} {s : State} (hs : s.ready) (ht : s.turn p tag c 0x0113 [])
    (hsrc : s.getF Reg.SYS_RUN_CFG_run_src = 0) (hreq : s.bit Reg.SYS_RUN_STAT_run_req = s.sys.pinReq) :
    Completes (.sysStop p tag) s fun t => t.bit Reg.SYS_RUN_STAT_cmd_run = false
      ∧ t.bit Reg.SYS_RUN_STAT_run_req = s.bit Reg.SYS_RUN_STAT_run_req ∧ RepliedOk stopFields [] c s t := by
  have hacts := stopNoted_acts hsrc hreq
  have hready := hacts.readies.ready hs (by decide)
  have hbefore := hacts.beforeAnswer (by decide)
  have hans := respond_answers (status := sOK) (payload := []) hready.1 (fits_zero c) (by decide) (port_of_turn ht).2
  have hexec : exec (.sysStop p tag) s = (s.stopNoted.respond c sOK 0 []).done :=
    (runCmd_of_turn (mine := (· == 0x0113)) ht rfl State.cmdStop).trans (by rw [cmdStop_of_turn ht])
  have hshown : ∀ f ∈ stopFields, (s.stopNoted.respond c sOK 0 []).bit f = s.stopNoted.bit f := by
    intro f hf
    unfold State.bit
    rw [hans.frame.1 f (by revert f; decide)]
  refine ⟨_, hexec.trans (hans.done hready.2), ?_, ?_, hans.replied_from hbefore, hans.frame_from hbefore,
    hans.mram.trans hbefore.mram, by rw [hans.otp, hacts.only.otp], hans.nv.trans hbefore.nv⟩
  · rw [hshown _ (by decide), stopNoted_of_pin hsrc hreq, bit_setB_ne _ _ _ _ (by decide)]
    exact bit_setB_same _ _ _ (by decide) hs.1.1
  · rw [hshown _ (by decide), stopNoted_of_pin hsrc hreq]
    exact bit_setB_same _ _ _ (by decide) (setF_fields_wf _ _ _ hs.1.1)

/-- SYS.STOP of the host, posted in the tick before. -/
def stopPosted : Taken :=
  { port := .host, tag := 0, opcode := 0x0113, force := false, ptr := false, rptr := false, raddr := 0, rcap := 0, cookie := 0,
    payload := [], stamp := 0, auth := 0x7FFF }

/-- A running device that takes the request from the pin, which is asserted; SYS.STOP is the only command in progress, and run_req
holds 2, which its one bit cannot (R64). -/
def overlongStopTaken : State :=
  { State.reset with
    sys := { State.reset.sys with stage := .done, pinReq := true }
    time := 1
    mbx := { State.reset.mbx with taken := [stopPosted] }
    fields := [(Reg.SYS_STATE_state.key, stRUN), (Reg.SYS_RUN_STAT_run_req.key, 2), (Reg.MBX_STAT_ready.key, 1)] }

theorem overlongStopTaken_turn : overlongStopTaken.turn .host 0 stopPosted 0x0113 [] := by
  refine ⟨⟨rfl, rfl, rfl, by decide, by decide +kernel, ?_, ?_⟩, rfl, rfl, rfl⟩
  · exact fun h => absurd h (by decide)
  · exact fun h => absurd h (by decide)

theorem sysStop_overlongStopTaken :
    (match exec (.sysStop .host 0) overlongStopTaken with
      | .next t => t.getF Reg.SYS_RUN_STAT_run_req
      | _ => 2) = 1 := by
  decide +kernel

/-- Refutes O28: its fifth part lets SYS.STOP change no register but cmd_run and those of its answer, also where run_req holds a
number beyond its one bit; the command stores the bit anew. With run_req among the fields it stores the part is true
(`sysStop_of_pin`). -/
theorem not_sysCommands : ¬ Obligations.SysCommands := by
  unfold Obligations.SysCommands
  rintro ⟨-, -, -, -, hstop, -⟩
  obtain ⟨t, ht, -, -, ⟨hkept, -⟩, -⟩ := hstop .host 0 stopPosted overlongStopTaken (by decide) overlongStopTaken_turn rfl rfl
  have h := sysStop_overlongStopTaken
  rw [ht] at h
  exact absurd ((hkept Reg.SYS_RUN_STAT_run_req (by decide)).symm.trans h) (by decide)

end Sys2Proof.Machine
end

section
/-!
PROOFS. SAFE that completes while a slewed return runs.
-/

namespace Sys2Proof.Machine

/-- SAFE whose table is over, entered from a hold-up that returns by a slewed close (R191); ISW is not kept and its close is not
ordered yet, and the front end has no set of coefficients for REV. -/
def safeInReturn : State :=
  { State.reset with
    sys := { State.reset.sys with stage := .done }
    seq := { State.reset.seq with ended := true }
    path := { State.reset.path with slewed := true }
    fields := [(Reg.SYS_STATE_state.key, stSAFE), (Reg.SYS_RUN_STAT_safe.key, 1), (Reg.SEQ_STAT_table.key, 3),
      (Reg.SEQ_KEEP1_isw.key, 0), (Reg.PATH_STAT_mode.key, pRETURN)] }

/-- Clearing isw_en takes the path back to HOLD (R185, R192), where REV cannot start: FE at L3, whose class is then unacknowledged. -/
theorem seqTableComplete_safeInReturn :
    (match exec .seqTableComplete safeInReturn with
      | .next t => t.getF Reg.FLT_UNACK_unack
      | _ => 0) = 2 ^ cFE := by
  decide +kernel

/-- Refutes O47: its last part says that the shutdown after SAFE leaves FLT_UNACK as it was, also where it clears isw_en in a slewed
return; the path then orders REV again, and an order without coefficients is an event at L3 (R164). -/
theorem not_tablesEnd : ¬ Obligations.TablesEnd := by
  unfold Obligations.TablesEnd
  rintro ⟨-, -, -, hsafe⟩
  obtain ⟨t, ht, -, -, -, -, -, -, -, -, ⟨hkept, -⟩⟩ := hsafe safeInReturn (by decide) rfl rfl rfl rfl rfl rfl
  have h := seqTableComplete_safeInReturn
  rw [ht] at h
  exact absurd ((hkept Reg.FLT_UNACK_unack (by decide) (by decide)).symm.trans h) (by decide)

end Sys2Proof.Machine
end

section
/-!
PROOFS. BOOT that completes with RUN as the state beneath.
-/

namespace Sys2Proof.Machine

/-- The cores of slot A have started, and the state beneath SAFE, IBEX and ACTIVATE is RUN, as no start of BOOT leaves it (R93). -/
def bootInRun : State :=
  { State.reset with
    sys := { State.reset.sys with stage := .cores false false, run := true }
    fields := [(Reg.FE_CTRL_direct_loop.key, 1)] }

theorem bootComplete_bootInRun :
    (match exec .bootComplete bootInRun with
      | .next t => t.st
      | _ => stSTANDBY) = stRUN := by
  decide +kernel

/-- Refutes O13: its last part asks that no flag of SAFE, IBEX or ACTIVATE is set, but not that the state beneath them is STANDBY;
where it is RUN, BOOT completes into RUN (R85). -/
theorem not_bootSlots : ¬ Obligations.BootSlots := by
  unfold Obligations.BootSlots
  rintro ⟨-, -, -, -, hboot⟩
  obtain ⟨t, ht, hst, -⟩ := hboot false false bootInRun (by decide) rfl rfl rfl (by decide) rfl rfl rfl rfl rfl (by decide) rfl rfl rfl
    rfl rfl rfl rfl
  have h := bootComplete_bootInRun
  rw [ht] at h
  exact absurd (hst.symm.trans h) (by decide)

end Sys2Proof.Machine
end

section
/-!
PROOFS. FAWN entry while more bytes than a record has wait to be written.
-/

namespace Sys2Proof.Machine

/-- Bytes that are 0 leave an empty memory empty. -/
theorem memWrite_zeros (n : Nat) : ∀ (a : Nat) (l : List Byte), memWrite a (List.replicate n 0 ++ l) [] = memWrite (a + n) l [] := by
  induction n with
  | zero => exact fun _ _ => rfl
  | succ n ih =>
    intro a l
    rw [List.replicate_succ, List.cons_append]
    calc memWrite a (0 :: (List.replicate n 0 ++ l)) [] = memWrite (a + 1) (List.replicate n 0 ++ l) [] := rfl
      _ = memWrite (a + (n + 1)) l [] := by rw [ih, Nat.add_assoc, Nat.add_comm 1]

/-- FAWN entry once the learned record has been written (R95, steps 4 to 6). -/
def State.fawnAfterSave (s : State) (ship : Bool) : State :=
  let s := ((State.endCopies 17 s).log 0x07 0 []).abandon (List.range 16)
  let s := s.outputsOff.setMany fawnFields
  let s := s.updGauge fun g => { g with fawnThr := s.restThreshold, intMax := 0, secSum := 0, secN := 0 }
  let s := s.updSys fun y =>
    { y with sleep := none, ship := if ship then .latched else y.ship, fawnSince := s.time, fawnQ0 := s.chargeQ, fawnQ := 0, hbDue := none,
             ctlAlive := false, gaugeAlive := false }
  (s.setState stFAWN).batfet

theorem enterFawn_of_gaugeAlive {s : State} (h : s.sys.gaugeAlive = true) (ship : Bool) :
    s.enterFawn ship = ((s.endSave.startSave 6).endSave).fawnAfterSave ship := by
  unfold State.enterFawn State.saveNow
  rw [if_pos h, if_pos h]
  rfl

/-- 2,049 bytes, of which only the last is not 0: one more than lie between bank B and the end of the record's area (R231). -/
def overlongRecord : List Byte := List.replicate 0x800 0 ++ [1]

/-- A FAWN entry in STANDBY while a record write of that many bytes is in progress; VKEEP_LOW lets no other write start. -/
def overlongSave : State :=
  { State.reset with
    sys := { State.reset.sys with stage := .done, gaugeAlive := true, vkeepLow := true, sleep := some ⟨false, [], none⟩ }
    gauge := { State.reset.gauge with writing := some ⟨true, 0, overlongRecord⟩ }
    fields := [(Reg.SYS_STATE_state.key, stSTANDBY)] }

/-- The same state once the bytes stand in MRAM. -/
def overlongSaved : State :=
  (({ overlongSave with mram := [(mGAUGE + 0x1000, 1)] } : State).updGauge fun g => { g with writing := none, waiting := none }).setMany
    [(Reg.GAUGE_STORE_cause, 0), (Reg.GAUGE_STORE_pending, 0)]

theorem endSave_overlongSave : overlongSave.endSave = overlongSaved.storeStat := by
  have hwrite : overlongSave.mramWrite (bankAddr true) overlongRecord = { overlongSave with mram := [(mGAUGE + 0x1000, 1)] } := by
    unfold State.mramWrite overlongRecord
    rw [show overlongSave.mram = [] from rfl, memWrite_zeros]
    rfl
  show (((overlongSave.mramWrite (bankAddr true) overlongRecord).updGauge _).setMany _).storeStat = _
  rw [hwrite]
  rfl

theorem fawnEntryComplete_overlongSave :
    (match exec .fawnEntryComplete overlongSave with
      | .next t => memGet (mGAUGE + 0x1000) t.mram
      | _ => 0) = 1 := by
  show memGet (mGAUGE + 0x1000) (overlongSave.enterFawn false).settle.mram = 1
  rw [enterFawn_of_gaugeAlive rfl, endSave_overlongSave]
  decide +kernel

/-- Refutes O53: its sixth part lets FAWN entry write MRAM only where the learned record's banks stand, but does not ask that the
write it completes has no more bytes than a record (R232); one of 2,049 bytes reaches the area behind. -/
theorem not_sleepAndWake : ¬ Obligations.SleepAndWake := by
  unfold Obligations.SleepAndWake
  rintro ⟨-, -, -, -, -, hfawn, -⟩
  obtain ⟨t, ht, -, -, -, -, -, -, -, -, -, -, -, -, -, hmram, -⟩ :=
    hfawn ⟨false, [], none⟩ overlongSave (by decide) rfl (by decide) rfl rfl
  have h := fawnEntryComplete_overlongSave
  rw [ht] at h
  exact absurd ((hmram _ (.inr le_rfl)).symm.trans h) (by decide)

end Sys2Proof.Machine
end

section
/-!
PROOFS. SAFE entered where the register file lists a field at its reset value.
-/

namespace Sys2Proof.Machine

/-- A running device with a pack, whose register file lists SYS_RUN_STAT.act_deferred with the value it resets to. -/
def listedDeferred : State :=
  { State.reset with
    sys := { State.reset.sys with stage := .done }
    fields := [(Reg.SYS_STATE_state.key, stRUN), (Reg.SYS_RUN_STAT_act_deferred.key, 0), (Reg.PATH_STAT_batt_present.key, 1)] }

/-- The place of that bit, read as a field that resets to 1. -/
def deferredSet : Fld := { Reg.SYS_RUN_STAT_act_deferred with rst := 1 }

/-- The entry to SAFE clears the bit, which takes it off the file. -/
theorem deepDischargeCutoff_listedDeferred :
    (match exec .deepDischargeCutoff listedDeferred with
      | .next t => t.getF deferredSet
      | _ => 0) = 1 := by
  decide +kernel

/-- Refutes O54: its first part keeps every field outside its list, whatever the field resets to, and the list lacks
SYS_RUN_STAT.act_deferred, which the entry to SAFE clears (R87). A file that lists the bit at 0 loses the entry, so the place
no longer reads 0 as a field that resets to 1. -/
theorem not_safeAndLatch : ¬ Obligations.SafeAndLatch := by
  unfold Obligations.SafeAndLatch
  rintro ⟨hcutoff, -⟩
  obtain ⟨t, ht, -, -, -, -, -, -, -, -, ⟨hkept, -⟩⟩ := hcutoff listedDeferred (by decide) rfl rfl rfl rfl rfl rfl rfl rfl rfl rfl rfl
  have h := deepDischargeCutoff_listedDeferred
  rw [ht] at h
  exact absurd ((hkept deferredSet (by decide) (by decide)).symm.trans h) (by decide)

end Sys2Proof.Machine
end

section
/-!
PROOFS. The enable of one rail, and the regime of another.
-/

namespace Sys2Proof.Machine

/-- Rail 0 is off and may start. Rail 1 is ON and has shed to one phase (R129); phase 15 is in service again, but RAIL1_STAT2.n_service
still counts phase 14 alone, and RAIL1_STAT.regime shows full operation. -/
def servicePending : State :=
  { State.reset with
    sys := { State.reset.sys with stage := .done, ctlAlive := true }
    fields := [(Reg.SYS_STATE_state.key, stRUN),
      ((Reg.RAIL_GROUP_valid 0).key, 1), ((Reg.RAIL_FI_fi 0).key, 1),
      ((Reg.RAIL_GROUP_first 1).key, 14), ((Reg.RAIL_GROUP_last 1).key, 15), ((Reg.RAIL_GROUP_valid 1).key, 1),
      ((Reg.RAIL_STAT_n_active 1).key, 1), ((Reg.RAIL_STAT_state 1).key, rON), ((Reg.RAIL_STAT2_n_service 1).key, 1)] }

/-- The write brings rail 1's count to 2, and with it the regime to shed. -/
theorem railEnSet_servicePending :
    (match exec (.railEnSet .control 0) servicePending with
      | .next t => t.getF (Reg.RAIL_STAT_regime 1)
      | _ => 0) = 1 := by
  decide +kernel

/-- Refutes O35: its first part lets the write change n_service of every rail (`groupFields`), but not RAILk_STAT.regime, which follows
from n_service (R129): where another rail's count was not up to date, the write changes that rail's regime. -/
theorem not_enableWrites : ¬ Obligations.EnableWrites := by
  unfold Obligations.EnableWrites
  rintro ⟨hset, -⟩
  obtain ⟨t, ht, -, -, -, -, hkept, -⟩ := hset .control 0 servicePending (by decide) (by decide) (by decide) rfl rfl rfl (by decide) rfl
    (by decide)
  have h := railEnSet_servicePending
  rw [ht] at h
  exact absurd ((hkept (Reg.RAIL_STAT_regime 1) (by decide)).symm.trans h) (by decide)

end Sys2Proof.Machine
end

section
/-!
PROOFS. The end of a rail's ramp.
-/

namespace Sys2Proof.Machine

/-- Rail 0 ramps towards 4096, which the 12 bits of RAIL0_VSET.vset cannot hold (R64). -/
def overlongRamp : State :=
  { State.reset with
    fields := [((Reg.RAIL_VSET_vset 0).key, 4096), ((Reg.RAIL_STAT_state 0).key, rRAMP)]
    rails := [{ start := .checked }] }

theorem railRampComplete_overlongRamp :
    (match exec (.railRampComplete 0) overlongRamp with
      | .next t => t.getF (Reg.RAIL_TGT_v_tgt 0)
      | _ => 4096) = 0 := by
  decide +kernel

/-- A rail that enters ON from its ramp sets its target and its state. -/
theorem railOn_of_ramp {s : State} {k : Nat} (h : s.railState k = rRAMP) :
    s.railOn k = ((s.setF (Reg.RAIL_TGT_v_tgt k) (s.getF (Reg.RAIL_VSET_vset k))).setF (Reg.RAIL_STAT_state k) rON).updRail k fun r =>
      { r with start := .idle } := by
  have hwas : (s.setF (Reg.RAIL_TGT_v_tgt k) (s.getF (Reg.RAIL_VSET_vset k))).railState k = rRAMP :=
    (getF_setF_ne _ _ _ _ (by simp only [Fld.key]; omega)).trans h
  simp [State.railOn, State.setRailState, hwas]

/-- The sixth part of O37 with the premise it lacks. -/
theorem railRampComplete_at_setpoint {k : Fin 8} {s : State} (hs : s.ready) (hst : s.railState k = rRAMP)
    (hstart : (s.rail k).start = .ramp ∨ (s.rail k).start = .checked)
    (hfit : s.getF (Reg.RAIL_VSET_vset k) < 2 ^ (Reg.RAIL_VSET_vset k).w) :
    Completes (.railRampComplete k) s fun t => t.railState k = rON ∧ t.getF (Reg.RAIL_TGT_v_tgt k) = s.getF (Reg.RAIL_VSET_vset k)
      ∧ Frame [Reg.RAIL_STAT_state k, Reg.RAIL_TGT_v_tgt k] s t := by
  have hacts : Acts [Reg.RAIL_STAT_state k, Reg.RAIL_TGT_v_tgt k] s (s.railOn k) := by
    rw [railOn_of_ramp hst]
    exact (((Acts.refl _ s).setF _ (by simp)).setF _ (by simp)).updRail k _
  have hexec : exec (.railRampComplete k) s = (s.railOn k).done := if_pos (by simpa [hst] using hstart)
  have hkey : Reg.SYS_RUN_STAT_act_deferred.key ∉ [Reg.RAIL_STAT_state k, Reg.RAIL_TGT_v_tgt k].map Fld.key := by
    simp [Fld.key]
    omega
  refine ⟨_, hexec.trans (done_quiet _ (hacts.readies.ready hs hkey).2), ?_, ?_, hacts.undisturbed.frame⟩ <;>
    rw [railOn_of_ramp hst]
  · exact getF_setF_same _ _ _ (setF_fields_wf _ _ _ hs.1.1)
  · exact (getF_setF_ne _ _ _ _ (by simp only [Fld.key]; omega)).trans
      ((getF_setF_same _ _ _ hs.1.1).trans (Nat.mod_eq_of_lt hfit))

/-- Refutes O37: its sixth part speaks of every canonical register file, also of one that holds a number beyond its field's width;
V_tgt is cut to its 12 bits. For a setpoint that its field can hold the part is true (`railRampComplete_at_setpoint`). -/
theorem not_railStart : ¬ Obligations.RailStart := by
  unfold Obligations.RailStart
  rintro ⟨-, -, -, -, -, hramp, -⟩
  obtain ⟨t, ht, -, htgt, -⟩ := hramp 0 overlongRamp (by decide) rfl (.inr rfl)
  have h := railRampComplete_overlongRamp
  rw [ht] at h
  exact absurd (htgt.symm.trans h) (by decide)

end Sys2Proof.Machine
end

section
/-!
PROOFS. What locks a rail off: a start that fails, and the end of the over-voltage clamp (R120, R127, R145, R147); and the event of
pulses at the peak limit (R143, R144).
-/

namespace Sys2Proof.Machine

/-! What the end of an event leaves of the rails' work and of the lasting causes. -/

theorem snapAsked_onlyRecords (s : State) (p : Ev × Nat) : OnlyRecords s (s.snapAsked p) := by
  unfold State.snapAsked State.wantSnap
  split
  · split <;> rfl
  · rfl

theorem pinned_onlyRecords (s : State) (n : Nat) : OnlyRecords s (s.pinned n) := by
  unfold State.pinned State.assertFaultN State.followPin
  split
  · split
    · exact ((OnlyRecords.refl s).setMany _).updFlt _
    · exact (((OnlyRecords.refl s).setMany _).updFlt _).setB _ _
  · exact OnlyRecords.refl s

theorem concluded_onlyRecords (s : State) (e : Ev) : OnlyRecords s (s.concluded e) := by
  obtain ⟨d, hrec⟩ := recordEv_eq (s.pinned e.lvl) e
  unfold State.concluded
  rw [hrec]
  exact (((pinned_onlyRecords s _).trans (snapAsked_onlyRecords _ _)).log _ _ _).sampleSnap

theorem OnlyRecords.rails {s t : State} (h : OnlyRecords s t) : t.rails = s.rails := by
  unfold OnlyRecords at h
  rw [h]

theorem snapAsked_flt (s : State) (p : Ev × Nat) : (s.snapAsked p).flt = s.flt := by
  unfold State.snapAsked State.wantSnap
  split
  · split <;> rfl
  · rfl

theorem sampleSnap_flt (s : State) : s.sampleSnap.flt = s.flt := by
  unfold State.sampleSnap
  split
  · split <;> rfl
  · rfl

theorem followPin_flt (s : State) : s.followPin.flt = s.flt := by
  unfold State.followPin
  split <;> rfl

theorem pinned_causes (s : State) (n : Nat) : (s.pinned n).flt.causes = s.flt.causes := by
  unfold State.pinned State.assertFaultN
  split
  · rw [followPin_flt, updFlt_flt, setMany_flt]
  · rfl

theorem concluded_causes (s : State) (e : Ev) : (s.concluded e).flt.causes = s.flt.causes := by
  obtain ⟨d, hrec⟩ := recordEv_eq (s.pinned e.lvl) e
  unfold State.concluded
  rw [sampleSnap_flt, hrec, log_flt, snapAsked_flt, pinned_causes]

theorem unacked_flt (s : State) (e : Ev) (n : Nat) : (s.unacked e n).flt = s.flt := by
  unfold State.unacked
  split
  · exact setBitOf_flt _ _ _ _
  · rfl

theorem asked_flt (s : State) (n : Nat) : (s.asked n).flt = s.flt := by
  unfold State.asked
  split
  · exact request_flt _ _
  · rfl

theorem firstNoted_causes (s : State) (e : Ev) : (s.firstNoted e).flt.causes = s.flt.causes := by
  obtain ⟨-, -, -, -, hcauses⟩ := latchFirst_log ((s.statusSet e).setB Reg.HOST_INT_STAT_flt true) e (s.effective e)
  exact hcauses

theorem classified_causes (s : State) (e : Ev) : (s.classified e).flt.causes = s.flt.causes := by
  rcases Nat.eq_zero_or_pos (s.effective e) with h | h
  · rw [classified_of_zero h, asked_flt]
    rfl
  · rw [classified_of_pos h, asked_flt, unacked_flt, firstNoted_causes]

/-- An event below L2 leaves the lasting causes as its row left them. -/
theorem Waits.done_low_causes {e : Ev} {s : State} (h : Waits e s) (hl : e.lvl < 2) :
    ∃ t, s.done = .next t ∧ EventDone [] e s t ∧ t.flt.causes = s.flt.causes := by
  obtain ⟨t, hdone, hev⟩ := h.done_low hl
  have hact : Acts [] (s.classified e) ((s.classified e).acted (e, e.lvl)) := by
    rw [acted_low _ _ hl]
    exact Acts.refl _ _
  refine ⟨t, hdone, hev, ?_⟩
  have ht : t = s.settle := (Host.Outcome.next.inj hdone).symm
  rw [ht, h.settle_eq hact (by simp), concluded_causes, acted_low _ _ hl, classified_causes]

/-! The work of a rail that is locked off. -/

theorem rail_updRail (s : State) (k : Nat) (g : RailSt → RailSt) :
    (s.updRail k g).rail k = if k < s.rails.length then g (s.rail k) else {} := by
  unfold State.rail
  rw [updRail_rails, List.getD_eq_getElem?_getD, List.getD_eq_getElem?_getD, List.getElem?_modify_eq]
  split
  next h => simp [h]
  next h => simp [h]

theorem stepChatter_rails (s : State) (c : Nat) : (s.stepChatter c).rails = s.rails := by
  unfold State.stepChatter
  dsimp only
  split <;> rfl

theorem count_rails (s : State) (f : Fld) : (s.count f).rails = s.rails := by
  unfold State.count
  split <;> rfl

theorem pgFall_rails (s : State) (c : Nat) : (s.pgFall c).rails = s.rails := by
  unfold State.pgFall
  split
  · rw [stepChatter_rails, updMon_rails, count_rails, setB_rails]
  · rfl

theorem disarmLo_rails (s : State) (c : Nat) : (s.disarmLo c).rails = s.rails := rfl

theorem disarmHi_rails (s : State) (c : Nat) : (s.disarmHi c).rails = s.rails := rfl

theorem setRailState_rails (s : State) (k v : Nat) : (s.setRailState k v).rails = s.rails := by
  unfold State.setRailState
  dsimp only
  split <;> split
  · rw [disarmHi_rails, disarmLo_rails, pgFall_rails, setF_rails]
  · rw [disarmHi_rails, setF_rails]
  · rw [disarmLo_rails, pgFall_rails, setF_rails]
  · rw [setF_rails]

theorem railLock_waitCoeff (s : State) (k : Nat) : ((s.railLock k).rail k).waitCoeff = false := by
  have hrail : (s.railLock k).rail k = (s.railQuiet k).rail k := by
    unfold State.railLock State.rail
    rw [setRailState_rails]
  rw [hrail, State.railQuiet, rail_updRail]
  split <;> rfl

/-! An event at L3 of a rail's own source. -/

/-- An event of RAILV or RAILI at L3 on rail k, in no group. -/
structure RailEvent (e : Ev) (k : Nat) (s : State) : Prop where
  lvl : e.lvl = 3
  cls : e.cls = cRAILV ∨ e.cls = cRAILI
  src : e.src = k
  rail : k < 8
  ungrouped : s.groupOf k = 0

theorem railLock_groupOf (s : State) {k : Nat} (hk : k < 8) : (s.railLock k).groupOf k = s.groupOf k :=
  groupOf_congr (fun f hf _ hl => (railLock_acts s k).getF
    (not_mem_of_not_ofOutputs (railOffFields_ofOutputs hk) (.inl (by unfold Fld.key; omega)))) (by omega)

theorem RailEvent.actL3_eq {e : Ev} {k : Nat} {s : State} (h : RailEvent e k s) : s.actL3 e = s.railLock k := by
  obtain ⟨-, hcls, rfl, hk, hg⟩ := h
  have h14 : e.src < 14 := by omega
  have hentries : s.l3Entries e.cls e.src = [e.src] := by
    rcases hcls with h | h <;> simp [State.l3Entries, h, h14]
  have hlock : s.lockEntry e.src = s.railLock e.src := by simp [State.lockEntry, entryOut, hk]
  have hothers : e.cls ≠ cFE ∧ e.cls ≠ cCLK ∧ e.cls ≠ cCHG := by
    rcases hcls with h | h <;> rw [h] <;> decide
  obtain ⟨hfe, hclk, hchg⟩ := hothers
  have hrest : s.actL3 e = (s.lockEntry e.src).groupOff [e.src] := by
    simp [State.actL3, hentries, hfe, hclk, hchg, State.each]
  rw [hrest, hlock, groupOff_of_ungrouped ((railLock_groupOf s hk).trans hg)]

theorem actL2_rails (s : State) (e : Ev) : (s.actL2 e).rails = s.rails := by
  unfold State.actL2
  split
  · exact setB_rails _ _ _
  · rfl

/-- The row's end locks the rail off (again, where the row has done so itself), and drops its wait for coefficients. -/
theorem Waits.done_railEvent {e : Ev} {k : Nat} {s : State} (h : Waits e s) (hr : RailEvent e k s) :
    ∃ t, s.done = .next t ∧ t.railState k = rLOCKED ∧ (t.rail k).waitCoeff = false
      ∧ EventDone (s.railOffFields k ++ derateOf e.cls e.src) e s t := by
  have hk := hr.rail
  have hc : RailEvent e k (s.classified e) := { hr with ungrouped := (h.classified_groupOf (by omega)).trans hr.ungrouped }
  have hacted : (s.classified e).acted (e, e.lvl) = ((s.classified e).railLock k).actL2 e := by
    rw [hr.lvl, acted_three, hc.actL3_eq]
  have hlock := railLock_acts (s.classified e) k
  have hderate := actL2_acts ((s.classified e).railLock k) e
  rw [railOffFields_congr (h.classified_phasesOf hk)] at hlock
  have hact : Acts (s.railOffFields k ++ derateOf e.cls e.src) (s.classified e) ((s.classified e).acted (e, e.lvl)) := by
    rw [hacted]
    exact (hlock.mono (List.subset_append_left _ _)).trans (hderate.mono (List.subset_append_right _ _))
  have hout : ∀ f ∈ s.railOffFields k ++ derateOf e.cls e.src, f.ofOutputs := by
    intro f hf
    rcases List.mem_append.mp hf with hf | hf
    · exact railOffFields_ofOutputs hk f hf
    · exact derateOf_ofOutputs _ _ f hf
  obtain ⟨t, hdone, hev⟩ := h.done hact (markFields_not_mem hout)
  refine ⟨t, hdone, ?_, ?_, hev⟩
  · have hstate : (Reg.RAIL_STAT_state k).key ∉ (derateOf e.cls e.src).map Fld.key := by
      unfold derateOf
      split <;> simp [Fld.key]
      omega
    have hkept := hev.acted _ (pinFields_not_mem (f := Reg.RAIL_STAT_state k)
      ⟨by simp only; omega, by simp only; omega, by simp only; omega⟩)
    rw [hacted, hderate.getF hstate] at hkept
    exact hkept.trans (railLock_railState (h.classified.wf h.canonical.1) hk)
  · have hrails : t.rails = ((s.classified e).railLock k).rails := by
      rw [(Host.Outcome.next.inj hdone).symm, h.settle_eq hact (markFields_not_mem hout), (concluded_onlyRecords _ _).rails, hacted,
        actL2_rails]
    have hrail : t.rail k = ((s.classified e).railLock k).rail k := congrArg (fun r => r.getD k {}) hrails
    rw [hrail]
    exact railLock_waitCoeff _ k

/-! What locking a rail off leaves of the rail's own registers. -/

/-- What ends with a rail's switching, beside the fields of its phases. -/
def railEnds (k : Nat) : List Fld :=
  [Reg.RAIL_STAT_state k, Reg.RAIL_STAT_pulse_skip k, Reg.RAIL_STAT_announce k, Reg.RAIL_DYN_ilim_active k, Reg.RAIL_DYN_inhibit k,
   Reg.RAIL_DYN_ann_offset k, Reg.RAIL_TGT_v_tgt k, Reg.MON_CH_STAT_pg k, Reg.MON_CH_STAT_chat k, Reg.RAIL_STAT_n_active k,
   Reg.RAIL_STAT_regime k, Reg.RAIL_DYN_ramp_out k]

theorem not_mem_railOffFields {s : State} {k : Nat} {f : Fld} (hf : f.key ∉ (railEnds k).map Fld.key) (hlo : 0x110000 ≤ f.key) :
    f.key ∉ (s.railOffFields k).map Fld.key := by
  intro hm
  obtain ⟨g, hg, he⟩ := List.mem_map.mp hm
  have hsplit : g ∈ railEnds k ∨ ∃ n ∈ s.phasesOf k, g = Reg.POL_PH_STAT_switching n ∨ g = Reg.POL_PH_STAT_de n := by
    simpa [State.railOffFields, State.phaseFields, railEnds, or_assoc] using hg
  rcases hsplit with hg | ⟨n, hn, hg⟩
  · exact hf (he ▸ List.mem_map_of_mem hg)
  · have hn := phasesOf_lt hn
    rcases hg with rfl | rfl <;> simp only [Fld.key] at he hlo <;> omega

theorem rangeFields_not_mem {s : State} {k : Nat} {f : Fld} (hf : f ∈ rangeFields k) : f.key ∉ (s.railOffFields k).map Fld.key := by
  simp only [rangeFields, List.mem_cons, List.not_mem_nil, or_false] at hf
  rcases hf with rfl | rfl | rfl <;>
    refine not_mem_railOffFields ?_ (by simp only [Fld.key]; omega) <;> simp [railEnds, Fld.key] <;> omega

theorem senseOpen_not_mem (s : State) (k : Nat) : (Reg.RAIL_STAT_sense_open k).key ∉ (s.railOffFields k).map Fld.key := by
  refine not_mem_railOffFields ?_ (by simp only [Fld.key]; omega)
  simp [railEnds, Fld.key]
  omega

theorem ovclamp_not_mem (s : State) (k : Nat) : (Reg.RAIL_DYN_ovclamp k).key ∉ (s.railOffFields k).map Fld.key := by
  refine not_mem_railOffFields ?_ (by simp only [Fld.key]; omega)
  simp [railEnds, Fld.key]
  omega

/-! A row that locks rail k off and raises an event at L3 on the rail's own source. -/

/-- What such a row may have changed before its end. -/
def State.lockFields (s : State) (k : Nat) : List Fld := Reg.RAIL_STAT_sense_open k :: s.railOffFields k

theorem phasesOf_of_lockFields {s u : State} {k : Nat} (h : Acts (s.lockFields k) s u) : u.phasesOf k = s.phasesOf k := by
  refine phasesOf_congr fun f hf => h.getF ?_
  rw [State.lockFields, List.map_cons, List.mem_cons, not_or]
  refine ⟨?_, rangeFields_not_mem hf⟩
  simp only [rangeFields, List.mem_cons, List.not_mem_nil, or_false] at hf
  rcases hf with rfl | rfl | rfl <;> simp only [Fld.key] <;> omega

section
variable {s u : State} {k : Nat} (hk : k < 8) (h : Acts (s.lockFields k) s u)

include hk

theorem lockFields_ofOutputs : ∀ f ∈ s.lockFields k, f.ofOutputs := by
  intro f hf
  rcases List.mem_cons.mp hf with rfl | hf
  · refine ⟨?_, ?_, ?_⟩ <;> simp only <;> omega
  · exact railOffFields_ofOutputs hk f hf

include h

theorem getF_of_lockFields {f : Fld} (hf : f.key < 0x100000) : u.getF f = s.getF f :=
  h.getF (not_mem_of_not_ofOutputs (lockFields_ofOutputs hk) (.inl hf))

/-- The row's end: the rail is locked off, its event is classified, and sense_open stays as the row left it. -/
theorem raised_locks {e : Ev} (hs : s.ready) (hr : s.romUp = true) (hl : e.lvl = 3) (hcls : e.cls = cRAILV ∨ e.cls = cRAILI)
    (hsrc : e.src = k) (hf : s.fresh e.cls) (hg : s.groupOf k = 0) :
    ∃ t, (u.raise e).done = .next t ∧ t.railState k = rLOCKED ∧ (t.rail k).waitCoeff = false ∧ Noted e.cls k 3 t
      ∧ t.bit (Reg.RAIL_STAT_sense_open k) = u.bit (Reg.RAIL_STAT_sense_open k)
      ∧ ∀ m, Undisturbed m s u → FrameLog (m ++ s.railOffFields k ++ lowFields e.cls k) 1 (evCode e.cls k 3) s t := by
  have hready : u.ready :=
    h.readies.ready hs (not_mem_of_not_ofOutputs (lockFields_ofOutputs hk) (.inl (by decide)))
  have hup : u.romUp = true :=
    (h.readies.romUp (not_mem_of_not_ofOutputs (lockFields_ofOutputs hk) (.inl (by decide)))).trans hr
  have hfresh : u.fresh e.cls := by
    unfold State.fresh
    rwa [getF_of_lockFields hk h (by decide)]
  have hgroup : u.groupOf k = 0 :=
    (groupOf_congr (fun f hf _ hlo => getF_of_lockFields hk h (by unfold Fld.key; omega)) (by omega)).trans hg
  have hcls16 : e.cls < 16 := by rcases hcls with h | h <;> rw [h] <;> decide
  have hwaits := waits_raise hready hup (effective_of_fresh hfresh) ⟨by omega, hcls16, by omega⟩
  have hevent : RailEvent e k (u.raise e) := ⟨hl, hcls, hsrc, hk, by rw [raise_eq hup]; exact hgroup⟩
  obtain ⟨t, hdone, hstate, hwait, hev⟩ := hwaits.done_railEvent hevent
  have hphases := phasesOf_of_lockFields h
  have hrail : (u.raise e).railOffFields k = s.railOffFields k := by
    rw [raise_eq hup]
    exact railOffFields_congr hphases
  rw [hrail] at hev
  have hnoted := hev.noted (by omega)
  rw [hsrc, hl] at hnoted
  refine ⟨t, hdone, hstate, hwait, hnoted, ?_, fun m hm => ?_⟩
  · have hsense : (Reg.RAIL_STAT_sense_open k).key
        ∉ (s.railOffFields k ++ derateOf e.cls e.src ++ classFields e.lvl ++ pinFields).map Fld.key := by
      simp only [List.map_append, List.mem_append, not_or]
      refine ⟨⟨⟨senseOpen_not_mem s k, ?_⟩, ?_⟩, ?_⟩
      · unfold derateOf
        split <;> simp [Fld.key]
        omega
      · exact classFields_not_mem _ (by simp only; omega) (by simp only; omega) (by simp only; omega)
      · exact pinFields_not_mem ⟨by simp only; omega, by simp only; omega, by simp only; omega⟩
    unfold State.bit
    rw [hev.kept _ hsense, raise_eq hup, updFlt_getF]
  · have hframe := hev.frameLog_locks (hm.raise e)
    rwa [hsrc, hl] at hframe

end

/-! The rows. -/

theorem railLock_lockFields (s : State) (k : Nat) : Acts (s.lockFields k) s (s.railLock k) :=
  (railLock_acts s k).mono fun _ hf => List.mem_cons_of_mem _ hf

/-- The event of a rail that is locked off at its start (R120, R127), and of one whose soft start fails (R145). -/
def refusedEv (k : Nat) : Ev := { cls := cRAILV, src := k, lvl := 3, cause := 4 }
def softstartEv (k : Nat) : Ev := { cls := cRAILI, src := k, lvl := 3, cause := 2 }

theorem railSenseCheck_open {k : Fin 8} {vpb : Nat} {s : State} (hs : s.ready) (hr : s.romUp = true) (hst : s.railState k = rRAMP)
    (hstart : (s.rail k).start = .sense) (hf : s.fresh cRAILV) (hg : s.groupOf k = 0) :
    Completes (.railSenseCheck k true vpb) s fun t => t.railState k = rLOCKED ∧ t.bit (Reg.RAIL_STAT_sense_open k) = true
      ∧ Noted cRAILV k 3 t
      ∧ FrameLog (Reg.RAIL_STAT_sense_open k :: s.railOffFields k ++ lowFields cRAILV k) 1 (evCode cRAILV k 3) s t := by
  have hacts : Acts (s.lockFields k) s ((s.railLock k).setB (Reg.RAIL_STAT_sense_open k) true) :=
    (railLock_lockFields s k).setB true List.mem_cons_self
  have hexec : exec (.railSenseCheck k true vpb) s
      = (((s.railLock k).setB (Reg.RAIL_STAT_sense_open k) true).raise (refusedEv k)).done := if_pos (by simp [hst, hstart])
  obtain ⟨t, hdone, hstate, -, hnoted, hsense, hframe⟩ :=
    raised_locks (e := refusedEv k) k.isLt hacts hs hr rfl (.inl rfl) rfl hf hg
  refine ⟨t, hexec.trans hdone, hstate, ?_, hnoted, (hframe _ hacts.undisturbed).mono ?_⟩
  · exact hsense.trans (bit_setB_same _ _ _ Nat.one_pos ((railLock_acts s k).wf hs.1.1))
  · simp [State.lockFields, refusedEv]

theorem railCoeffTimeout_locks {k : Fin 8} {s : State} (hs : s.ready) (hr : s.romUp = true) (hw : (s.rail k).waitCoeff = true)
    (hf : s.fresh cRAILV) (hg : s.groupOf k = 0) :
    Completes (.railCoeffTimeout k) s fun t => t.railState k = rLOCKED ∧ (t.rail k).waitCoeff = false ∧ Noted cRAILV k 3 t
      ∧ FrameLog (s.railOffFields k ++ lowFields cRAILV k) 1 (evCode cRAILV k 3) s t := by
  have hexec : exec (.railCoeffTimeout k) s = ((s.railLock k).raise (refusedEv k)).done := if_pos hw
  obtain ⟨t, hdone, hstate, hwait, hnoted, -, hframe⟩ :=
    raised_locks (e := refusedEv k) k.isLt (railLock_lockFields s k) hs hr rfl (.inl rfl) rfl hf hg
  refine ⟨t, hexec.trans hdone, hstate, hwait, hnoted, (hframe _ (railLock_acts s k).undisturbed).mono ?_⟩
  simp [refusedEv]

theorem railSoftstartCheck_locks {k : Fin 8} {v : Nat} {s : State} (hs : s.ready) (hr : s.romUp = true) (hst : s.railState k = rRAMP)
    (hstart : (s.rail k).start = .ramp) (hv : 5 * v < s.getF (Reg.RAIL_VSET_vset k))
    (hlast : s.getF (Reg.RAIL_STAT2_retry_cnt k) = s.getF (Reg.RAIL_PROT_retries k)) (hf : s.fresh cRAILI) (hg : s.groupOf k = 0) :
    Completes (.railSoftstartCheck k v) s fun t => t.railState k = rLOCKED ∧ Noted cRAILI k 3 t
      ∧ FrameLog (s.railOffFields k ++ lowFields cRAILI k) 1 (evCode cRAILI k 3) s t := by
  have hexec : exec (.railSoftstartCheck k v) s = ((s.railLock k).raise (softstartEv k)).done :=
    (if_pos (by simp [hst, hstart])).trans ((if_neg (by omega)).trans (if_pos hlast))
  obtain ⟨t, hdone, hstate, -, hnoted, -, hframe⟩ :=
    raised_locks (e := softstartEv k) k.isLt (railLock_lockFields s k) hs hr rfl (.inr rfl) rfl hf hg
  refine ⟨t, hexec.trans hdone, hstate, hnoted, (hframe _ (railLock_acts s k).undisturbed).mono ?_⟩
  simp [softstartEv]

/-- The event of pulses at the peak limit (R144). -/
def ilimEv (k : Nat) : Ev := { cls := cRAILI, src := k, lvl := 1, cause := 1 }

theorem railIlimSustained_notes {k : Fin 8} {mA mV : Nat} {s : State} (hs : s.ready) (hr : s.romUp = true) (hst : s.railState k = rON)
    (hlim : s.railLimit k mV ≤ (mA : Rat) / 1000) (hnew : s.present cRAILI k 1 = false) :
    Completes (.railIlimSustained ⟨k, mA, mV⟩) s fun t => t.bit (Reg.RAIL_DYN_ilim_active k) = true ∧ t.present cRAILI k 1 = true
      ∧ Noted cRAILI k 1 t ∧ FrameLog (Reg.RAIL_DYN_ilim_active k :: noteFields) 1 (evCode cRAILI k 1) s t := by
  have hk := k.isLt
  have hexec : exec (.railIlimSustained ⟨k, mA, mV⟩) s
      = ((s.setB (Reg.RAIL_DYN_ilim_active k) true).raiseLasting (ilimEv k)).done := if_pos (by simp [hst, hlim])
  have hset : Acts [Reg.RAIL_DYN_ilim_active k] s (s.setB (Reg.RAIL_DYN_ilim_active k) true) := (Acts.refl _ s).setB true (by simp)
  have hready : (s.setB (Reg.RAIL_DYN_ilim_active k) true).ready := hs.setB true (by simp only [Fld.key]; omega)
  have hup : (s.setB (Reg.RAIL_DYN_ilim_active k) true).romUp = true := romUp_setB true hr (by simp only [Fld.key]; omega)
  have hlvl : (ilimEv k).lvl = 1 := rfl
  have hin : (ilimEv k).inRange := ⟨by omega, by show 1 < 16; omega, by show k.val < 128; omega⟩
  have hwaits := waits_raiseLasting (e := ilimEv k) hready hnew hup (effective_of_low _ (by omega)) hin
  have hraise := raiseLasting_eq (e := ilimEv k) (v := s.setB (Reg.RAIL_DYN_ilim_active k) true) hnew hup
  obtain ⟨t, hdone, hev, hcauses⟩ := hwaits.done_low_causes (by omega)
  refine ⟨t, hexec.trans hdone, ?_, ?_, hev.noted (by omega), hev.frameLog_low (by omega) (hset.undisturbed.raiseLasting _)⟩
  · have hkey : (Reg.RAIL_DYN_ilim_active k).key ∉ ([] ++ classFields (ilimEv k).lvl ++ pinFields).map Fld.key := by
      rw [List.nil_append, List.map_append, List.mem_append, not_or]
      exact ⟨classFields_not_mem _ (by simp only; omega) (by simp only; omega) (by simp only; omega),
        pinFields_not_mem ⟨by simp only; omega, by simp only; omega, by simp only; omega⟩⟩
    unfold State.bit
    rw [hev.kept _ hkey, hraise, updFlt_getF]
    exact bit_setB_same s _ true Nat.one_pos hs.1.1
  · rw [State.present, hcauses, hraise, updFlt_flt]
    simp [ilimEv]

theorem railIlimSustained_below {k : Fin 8} {mA mV : Nat} {s : State} (hlim : (mA : Rat) / 1000 < s.railLimit k mV) :
    exec (.railIlimSustained ⟨k, mA, mV⟩) s = .next s := if_neg (by simp [hlim])

theorem railClampEnd_locks {k : Fin 8} {s : State} (hs : s.ready) (hc : s.bit (Reg.RAIL_DYN_ovclamp k) = true) :
    Completes (.railClampEnd k) s fun t => t.bit (Reg.RAIL_DYN_ovclamp k) = false ∧ t.railState k = rLOCKED
      ∧ Frame (Reg.RAIL_DYN_ovclamp k :: s.railOffFields k) s t := by
  have hk := k.isLt
  have hexec : exec (.railClampEnd k) s = ((s.setB (Reg.RAIL_DYN_ovclamp k) false).railLock k).done := if_pos hc
  have hset : Acts (Reg.RAIL_DYN_ovclamp k :: s.railOffFields k) s (s.setB (Reg.RAIL_DYN_ovclamp k) false) :=
    (Acts.refl _ s).setB false List.mem_cons_self
  have hphases : (s.setB (Reg.RAIL_DYN_ovclamp k) false).phasesOf k = s.phasesOf k := by
    refine phasesOf_congr fun f hf => getF_setB_ne _ _ _ _ ?_
    simp only [rangeFields, List.mem_cons, List.not_mem_nil, or_false] at hf
    rcases hf with rfl | rfl | rfl <;> simp only [Fld.key] <;> omega
  have hlock := railLock_acts (s.setB (Reg.RAIL_DYN_ovclamp k) false) k
  have hwf : Cells.wf (s.setB (Reg.RAIL_DYN_ovclamp k) false).fields = true := setF_fields_wf _ _ _ hs.1.1
  rw [railOffFields_congr hphases] at hlock
  have hall := hset.trans (hlock.mono fun _ hf => List.mem_cons_of_mem _ hf)
  have hout : ∀ f ∈ Reg.RAIL_DYN_ovclamp k :: s.railOffFields k, f.ofOutputs := by
    intro f hf
    rcases List.mem_cons.mp hf with rfl | hf
    · refine ⟨?_, ?_, ?_⟩ <;> simp only <;> omega
    · exact railOffFields_ofOutputs hk f hf
  have hready := hall.readies.ready hs (not_mem_of_not_ofOutputs hout (.inl (by decide)))
  refine ⟨_, hexec.trans (done_quiet _ hready.2), ?_, railLock_railState hwf hk, hall.undisturbed.frame⟩
  exact (hlock.bit (ovclamp_not_mem s k)).trans (bit_setB_same _ _ _ Nat.one_pos hs.1.1)

/-- Settles O38: a start that fails locks the rail off and raises its event, whose own action locks it off again (`raised_locks`);
the peak limit's event at L1 acts on nothing, and the clamp's end raises none. -/
theorem railLocks : Obligations.RailLocks := by
  unfold Obligations.RailLocks
  refine ⟨?_, ?_, ?_, ?_, ?_, ?_⟩
  · intro k vpb s hs hr hst hstart hf hg
    exact railSenseCheck_open hs hr hst hstart hf hg
  · intro k s hs hr hw hf hg
    exact railCoeffTimeout_locks hs hr hw hf hg
  · intro k v s hs hr hst hstart hv hlast hf hg
    exact railSoftstartCheck_locks hs hr hst hstart hv hlast hf hg
  · intro k mA mV s hs hr hst hlim hnew
    exact railIlimSustained_notes hs hr hst hlim hnew
  · intro k mA mV s _ hlim
    exact ⟨s, railIlimSustained_below hlim, rfl, (Undisturbed.refl [] s).frame⟩
  · intro k s hs hc
    exact railClampEnd_locks hs hc

end Sys2Proof.Machine
end

section
/-!
PROOFS. The derivation of coefficients: four values staged together and committed at once where nothing runs (R76, R78, R116-R118,
R163, R164).
-/

namespace Sys2Proof.Machine

/-! What a derivation changes before its commit. -/

/-- Nothing but the listed fields, staged values, and the work of rails and of the front end. -/
structure Derives (l : List Fld) (s u : State) : Prop where
  kept : Kept l s u
  only : u = { s with fields := u.fields, staged := u.staged, rails := u.rails, fe := u.fe }
  wf : Cells.wf s.fields = true → Cells.wf u.fields = true

section
variable {l m : List Fld} {s u v : State}

theorem Derives.refl (l : List Fld) (s : State) : Derives l s s := ⟨Kept.refl l s, rfl, id⟩

theorem Derives.trans (h : Derives l s u) (k : Derives l u v) : Derives l s v := by
  refine ⟨h.kept.trans k.kept, ?_, k.wf ∘ h.wf⟩
  have hv := k.only
  rw [h.only] at hv
  exact hv

theorem Derives.mono (h : Derives l s u) (hm : l ⊆ m) : Derives m s u :=
  { h with kept := h.kept.mono fun _ hf => List.mem_map_of_mem (hm hf) }

theorem Derives.getF (h : Derives l s u) {f : Fld} (hf : f.key ∉ l.map Fld.key) : u.getF f = s.getF f := h.kept f hf

theorem Derives.bit (h : Derives l s u) {f : Fld} (hf : f.key ∉ l.map Fld.key) : u.bit f = s.bit f := by
  unfold State.bit
  rw [h.getF hf]

theorem Derives.setF (h : Derives l s u) {f : Fld} (n : Nat) (hf : f ∈ l) : Derives l s (u.setF f n) :=
  h.trans ⟨(Kept.refl l u).setF f n (List.mem_map_of_mem hf), rfl, setF_fields_wf u f n⟩

theorem Derives.setMany (h : Derives l s u) {x : List (Fld × Nat)} (hx : ∀ p ∈ x, p.1 ∈ l) : Derives l s (u.setMany x) := by
  induction x generalizing u with
  | nil => exact h
  | cons p x ih => exact ih (h.setF p.2 (hx p List.mem_cons_self)) fun q hq => hx q (List.mem_cons_of_mem _ hq)

/-- A change of what is staged, or of the work of rails and the front end. -/
theorem Derives.inner (h : Derives l s u) (hf : v.fields = u.fields)
    (ho : v = { u with fields := v.fields, staged := v.staged, rails := v.rails, fe := v.fe }) : Derives l s v :=
  h.trans ⟨(Kept.refl l u).of_fields hf, ho, fun w => hf ▸ w⟩

theorem Derives.updRail (h : Derives l s u) (k : Nat) (g : RailSt → RailSt) : Derives l s (u.updRail k g) := h.inner rfl rfl

theorem Derives.updFe (h : Derives l s u) (g : FeSt → FeSt) : Derives l s (u.updFe g) := h.inner rfl rfl

theorem Derives.stage (h : Derives l s u) {i : Instance} (f : Fld) (n : Nat) (hi : pendingF i ∈ l) : Derives l s (u.stage i f n) :=
  Derives.setF (u := { u with staged := stageSet f (n % 2 ^ f.w) u.staged }) (h.inner rfl rfl) _ hi

/-- Everything that is staged becomes live, and the pending flag clears. -/
def State.flushed (s : State) (i : Instance) : State := ({ s with staged := [] }.setMany s.staged).setB (pendingF i) false

theorem flushed_derives (s : State) (i : Instance) : Derives (pendingF i :: s.staged.map (·.1)) s (s.flushed i) :=
  Derives.setF (Derives.setMany (u := { s with staged := [] }) ((Derives.refl _ s).inner rfl rfl)
    fun _ hp => List.mem_cons_of_mem _ (List.mem_map_of_mem hp)) _ List.mem_cons_self

theorem flushed_staged (s : State) (i : Instance) : (s.flushed i).staged = [] := by
  unfold State.flushed
  rw [setB_staged, setMany_staged]

theorem flushed_rails (s : State) (i : Instance) : (s.flushed i).rails = s.rails := by
  unfold State.flushed
  rw [setB_rails, setMany_rails]

theorem getF_flushed {i : Instance} {p : Fld × Nat} (hw : Cells.wf s.fields = true) (hd : ((s.staged.map (·.1)).map Fld.key).Nodup)
    (hp : p ∈ s.staged) (hne : p.1.key ≠ (pendingF i).key) : (s.flushed i).getF p.1 = p.2 % 2 ^ p.1.w := by
  unfold State.flushed
  rw [getF_setB_ne _ _ _ _ hne]
  exact getF_setMany_mem (s := { s with staged := [] }) hw (by simpa [Function.comp_def] using hd) hp

theorem bit_log (s : State) (kind code : Nat) (d : List Byte) (f : Fld) : (s.log kind code d).bit f = s.bit f := rfl

/-- A commit that starts nothing but changes of the listed fields, and raises no event: the row ends with one entry of kind 3. -/
theorem Derives.committed {code : Nat} {d : List Byte} (h : Derives l s u) (hs : s.ready) (hu : u.staged = []) (hc : code < 65536)
    (hv : Acts l (u.log 3 code d) v) (hl : Reg.SYS_RUN_STAT_act_deferred.key ∉ l.map Fld.key) :
    v.done = .next v ∧ v.staged = [] ∧ FrameLog l 3 code s v := by
  obtain ⟨hcanon, hevs, hdefer, hlive⟩ := hs
  have honly := h.only
  have hcanon' : u.canonical := by
    obtain ⟨hf, hw, hlatch, hwin, hsb, hmram, -⟩ := hcanon
    refine ⟨h.wf hf, ?_, ?_, ?_, ?_, ?_, by rw [hu]; rfl⟩ <;> rw [honly] <;> assumption
  have hstores : StoresKept s u := by
    rw [honly]
    exact ⟨fun _ => rfl, fun _ => rfl, rfl, rfl, rfl, rfl⟩
  have hlogged := log_logged u 3 code d hcanon' (by decide) hc
  have hkept : Kept l s v := (h.kept.of_fields (log_fields _ _ _ _)).trans hv.kept
  refine ⟨done_quiet v ⟨?_, ?_, ?_⟩, ?_, hkept, ?_, ?_⟩
  · rw [hv.evs, log_flt, honly]
    exact hevs
  · unfold State.bit at *
    rwa [hkept _ hl]
  · rw [hv.only.age, log_age, honly]
    exact hlive
  · rw [hv.only.staged, log_staged, hu]
  · exact (hstores.trans ⟨fun _ => rfl, fun _ => rfl, rfl, rfl, rfl, rfl⟩ : StoresKept s (u.log 3 code d)).trans hv.only.storesKept
  · refine (hlogged.before hv.win hv.logNext).after ?_ ?_ <;> rw [honly]

end

/-! The commit of a block that does not run. -/

/-- The block has no boundary to wait for, is not held, and all that is staged lies in it. -/
structure CommitsAll (i : Instance) (u : State) : Prop where
  stopped : u.instRuns i = false
  notHeld : u.bit (holdF i) = false
  waits : u.bit (pendingF i) = true
  inside : ∀ f ∈ u.staged.map (·.1), inInst i f = true

section
variable {l m : List Fld} {s u : State} {i : Instance}

theorem CommitsAll.eq (h : CommitsAll i u) :
    ∃ d, u.commitIdle i = ((u.flushed i).log 3 ((instRange i).1 / 16) d).afterCommit u i (u.staged.map (·.1)) := by
  have hin : ∀ p ∈ u.staged, inInst i p.1 = true := fun p hp => h.inside p.1 (List.mem_map_of_mem hp)
  have hmine : (u.staged.filter fun p => inInst i p.1) = u.staged := List.filter_eq_self.mpr hin
  have hrest : (u.staged.filter fun p => !inInst i p.1) = [] := List.filter_eq_nil_iff.mpr fun p hp => by simp [hin p hp]
  unfold State.commitIdle State.commit
  rw [if_neg (by simp [h.stopped]), if_neg (by simp [h.notHeld, h.waits])]
  dsimp only
  rw [hmine, hrest]
  exact ⟨_, rfl⟩

/-- What the commit starts in the block changes only the fields `m`. -/
def StartsOnly (m : List Fld) (i : Instance) (u : State) : Prop :=
  ∀ v : State, v.rails = u.rails → Acts m v (v.afterCommit u i (u.staged.map (·.1)))

theorem CommitsAll.acts (h : CommitsAll i u) (ha : StartsOnly m i u) :
    ∃ d, Acts m ((u.flushed i).log 3 ((instRange i).1 / 16) d) (u.commitIdle i) := by
  obtain ⟨d, heq⟩ := h.eq
  refine ⟨d, ?_⟩
  rw [heq]
  exact ha _ (by rw [log_rails, flushed_rails])

theorem CommitsAll.getF_live (h : CommitsAll i u) (ha : StartsOnly m i u) (hw : Cells.wf u.fields = true)
    (hd : ((u.staged.map (·.1)).map Fld.key).Nodup) {p : Fld × Nat} (hp : p ∈ u.staged)
    (hne : p.1.key ∉ (pendingF i :: m).map Fld.key) :
    (u.commitIdle i).getF p.1 = p.2 % 2 ^ p.1.w := by
  obtain ⟨d, hact⟩ := h.acts ha
  have hpend : p.1.key ≠ (pendingF i).key := fun e => hne (by simp [e])
  have hm : p.1.key ∉ m.map Fld.key := fun hin => hne (List.mem_cons_of_mem _ hin)
  rw [hact.getF hm, getF_log, getF_flushed hw hd hp hpend]

theorem CommitsAll.bit_kept (h : CommitsAll i u) (ha : StartsOnly m i u) {f : Fld}
    (hf : f.key ∉ (pendingF i :: (u.staged.map (·.1) ++ m)).map Fld.key) : (u.commitIdle i).bit f = u.bit f := by
  obtain ⟨d, hact⟩ := h.acts ha
  have hflush : f.key ∉ (pendingF i :: u.staged.map (·.1)).map Fld.key := fun hin => hf (by
    simp only [List.map_cons, List.map_append, List.mem_cons, List.mem_append] at hin ⊢
    tauto)
  have hm : f.key ∉ m.map Fld.key := fun hin => hf (by simp [hin])
  rw [hact.bit hm, bit_log, (flushed_derives u i).bit hflush]

/-- A derivation ends with its commit, one entry of kind 3. -/
theorem CommitsAll.done (h : CommitsAll i u) (ha : StartsOnly m i u) (hu : Derives l s u) (hs : s.ready)
    (hl : pendingF i :: (u.staged.map (·.1) ++ m) ⊆ l) (hdefer : Reg.SYS_RUN_STAT_act_deferred.key ∉ l.map Fld.key)
    (hcode : (instRange i).1 / 16 < 65536) :
    (u.commitIdle i).done = .next (u.commitIdle i) ∧ (u.commitIdle i).staged = []
      ∧ FrameLog l 3 ((instRange i).1 / 16) s (u.commitIdle i) := by
  obtain ⟨d, hact⟩ := h.acts ha
  have hflush : Derives l s (u.flushed i) := hu.trans ((flushed_derives u i).mono fun f hf => hl (by
    simp only [List.mem_cons, List.mem_append] at hf ⊢
    tauto))
  exact hflush.committed hs (flushed_staged u i) hcode (hact.mono fun f hf => hl (by simp [hf])) hdefer

end

/-! Rounding a whole number. -/

theorem roundQ_natCast (n : Nat) : roundQ (n : Rat) = n := by
  simp [roundQ]

theorem regQ_natCast {n : Nat} (h : n ≤ 65535) : regQ (n : Rat) = n := by
  unfold regQ
  rw [roundQ_natCast]
  omega

theorem clampFc_le (fc lo hi : Rat) : (clampFc fc lo hi).1 ≤ hi := by
  unfold clampFc
  split
  · exact le_refl _
  next hlo =>
    split
    · exact not_lt.mp hlo
    next =>
      split
      · exact le_refl _
      next hhi => exact not_lt.mp hhi

/-! A rail. -/

/-- The coefficients of rail k, in the order of their addresses. -/
def railCoeffFields (k : Nat) : List Fld := [Reg.RAIL_KP_kp k, Reg.RAIL_FI_fi k, Reg.RAIL_FZ_fz k, Reg.RAIL_FP_fp k]

/-- What RAILk_LOOP_STAT shows of a derivation. -/
def railShownFields (k : Nat) : List Fld :=
  [Reg.RAIL_LOOP_STAT_stale k, Reg.RAIL_LOOP_STAT_fc_clamped k, Reg.RAIL_LOOP_STAT_infeasible k, Reg.RAIL_LOOP_STAT_pm_ach k]

/-- A derivation of rail k is shown: stale clears, and the other fields of its status take these values. -/
def State.railShown (s : State) (k c x pm : Nat) : State :=
  (s.setMany [(Reg.RAIL_LOOP_STAT_stale k, 0), (Reg.RAIL_LOOP_STAT_fc_clamped k, c), (Reg.RAIL_LOOP_STAT_infeasible k, x),
    (Reg.RAIL_LOOP_STAT_pm_ach k, pm)]).updRail k fun r => { r with direct := false }

/-- The four coefficients are staged. -/
def State.railStaged (s : State) (k kp fi fz fp : Nat) : State :=
  let i := Instance.rail (Fin.ofNat 8 k)
  (((s.stage i (Reg.RAIL_KP_kp k) kp).stage i (Reg.RAIL_FI_fi k) fi).stage i (Reg.RAIL_FP_fp k) fp).stage i (Reg.RAIL_FZ_fz k) fz

/-- The crossover that rail k's registers ask for, in kHz (R117). -/
def State.railFc (s : State) (k : Nat) : Rat :=
  (clampFc (if s.getF (Reg.RAIL_LOOP_fc k) = 0 then (s.railKhz k : Rat) / 10 else s.getF (Reg.RAIL_LOOP_fc k)) 5
    (min ((s.railKhz k : Rat) / 5) 200)).1

theorem deriveRail_eq {s : State} {k : Nat} (hn : (s.servicePhases k).length ≠ 0) (hd : s.bit (Reg.RAIL_CTRL_direct_loop k) = false)
    (hc : s.bit Reg.SYS_STATE_ctl_lost = false) :
    ∃ c x pm kp fz fp, s.deriveRail k
      = ((s.railShown k c x pm).railStaged k kp (regQ (s.railFc k * 1000 / 10 / 10)) fz fp).commitIdle (.rail (Fin.ofNat 8 k)) := by
  unfold State.deriveRail
  dsimp only
  rw [if_neg (by simp [hn, hd, hc])]
  exact ⟨_, _, _, _, _, _, rfl⟩

/-- The integrator frequency in its unit of 10 Hz is the crossover in kHz times 10. -/
theorem regQ_railFc {s : State} {k fi : Nat} (h : (fi : Rat) = 10 * s.railFc k) :
    regQ (s.railFc k * 1000 / 10 / 10) = fi ∧ fi ≤ 2000 := by
  have hle : s.railFc k ≤ 200 := (clampFc_le _ _ _).trans (min_le_right _ _)
  have hfi : fi ≤ 2000 := by
    have hrat : (fi : Rat) ≤ 2000 := by linarith
    exact_mod_cast hrat
  have hunit : s.railFc k * 1000 / 10 / 10 = fi := by
    rw [h]
    ring
  rw [hunit]
  exact ⟨regQ_natCast (by omega), hfi⟩

theorem railStaged_staged {s : State} (hs : s.staged = []) (k kp fi fz fp : Nat) :
    (s.railStaged k kp fi fz fp).staged = [(Reg.RAIL_KP_kp k, kp % 2 ^ 16), (Reg.RAIL_FI_fi k, fi % 2 ^ 16),
      (Reg.RAIL_FZ_fz k, fz % 2 ^ 16), (Reg.RAIL_FP_fp k, fp % 2 ^ 16)] := by
  simp [State.railStaged, State.stage, hs, stageSet, Fld.key]

theorem railStaged_rails (s : State) (k kp fi fz fp : Nat) : (s.railStaged k kp fi fz fp).rails = s.rails := rfl

theorem railShown_derives (s : State) (k c x pm : Nat) : Derives (railShownFields k) s (s.railShown k c x pm) :=
  ((Derives.refl _ s).setMany (by simp [railShownFields])).updRail k _

theorem railStaged_derives (s : State) (k kp fi fz fp : Nat) :
    Derives [pendingF (.rail (Fin.ofNat 8 k))] s (s.railStaged k kp fi fz fp) :=
  ((((Derives.refl _ s).stage _ _ (by simp)).stage _ _ (by simp)).stage _ _ (by simp)).stage _ _ (by simp)

theorem railShown_notStale {s : State} (hw : Cells.wf s.fields = true) (k c x pm : Nat) :
    (s.railShown k c x pm).bit (Reg.RAIL_LOOP_STAT_stale k) = false :=
  bit_setMany_mem (l := [(Reg.RAIL_LOOP_STAT_stale k, 0), (Reg.RAIL_LOOP_STAT_fc_clamped k, c), (Reg.RAIL_LOOP_STAT_infeasible k, x),
    (Reg.RAIL_LOOP_STAT_pm_ach k, pm)]) hw (by simp [Fld.key]) (by simp) (by simp)

theorem railShown_waitCoeff {s : State} {k : Nat} (h : (s.rail k).waitCoeff = false) (c x pm : Nat) :
    ((s.railShown k c x pm).rail k).waitCoeff = false := by
  have hr : ((s.setMany [(Reg.RAIL_LOOP_STAT_stale k, 0), (Reg.RAIL_LOOP_STAT_fc_clamped k, c), (Reg.RAIL_LOOP_STAT_infeasible k, x),
    (Reg.RAIL_LOOP_STAT_pm_ach k, pm)]).rail k).waitCoeff = false := by
    unfold State.rail
    rwa [setMany_rails]
  unfold State.railShown
  rw [rail_updRail]
  split
  · exact hr
  · rfl

theorem railStaged_pending {s : State} (hw : Cells.wf s.fields = true) (k kp fi fz fp : Nat) :
    (s.railStaged k kp fi fz fp).bit (pendingF (.rail (Fin.ofNat 8 k))) = true :=
  bit_setB_same _ _ _ (by simp [pendingF]) ((((((Derives.refl [pendingF (.rail (Fin.ofNat 8 k))] s).stage _ _ (by simp)).stage _ _
    (by simp)).stage _ _ (by simp))).wf hw)

/-- Rail k has derived: its coefficients are staged, among them this integrator frequency, and its status shows the derivation. -/
structure RailPrepared (k : Fin 8) (fi : Nat) (s u : State) : Prop where
  derives : Derives (pendingF (.rail k) :: railShownFields k) s u
  names : u.staged.map (·.1) = railCoeffFields k
  integrator : (Reg.RAIL_FI_fi k, fi) ∈ u.staged
  waits : u.bit (pendingF (.rail k)) = true
  notStale : u.bit (Reg.RAIL_LOOP_STAT_stale k) = false
  waitCoeff : (s.rail k).waitCoeff = false → (u.rail k).waitCoeff = false

theorem deriveRail_prepared {k : Fin 8} {s : State} (hw : Cells.wf s.fields = true) (hst : s.staged = [])
    (hn : (s.servicePhases k).length ≠ 0) (hd : s.bit (Reg.RAIL_CTRL_direct_loop k) = false) (hc : s.bit Reg.SYS_STATE_ctl_lost = false) :
    ∃ u, RailPrepared k (regQ (s.railFc k * 1000 / 10 / 10) % 2 ^ 16) s u ∧ s.deriveRail k = u.commitIdle (.rail k) := by
  have hk : Fin.ofNat 8 (k : Nat) = k := Fin.ext (Nat.mod_eq_of_lt k.isLt)
  obtain ⟨c, x, pm, kp, fz, fp, heq⟩ := deriveRail_eq hn hd hc
  rw [hk] at heq
  have hshown := railShown_derives s k c x pm
  have hstage := hk ▸ railStaged_derives (s.railShown k c x pm) k kp (regQ (s.railFc k * 1000 / 10 / 10)) fz fp
  have hpend := railStaged_pending (hshown.wf hw) k kp (regQ (s.railFc k * 1000 / 10 / 10)) fz fp
  rw [hk] at hpend
  have hempty : (s.railShown k c x pm).staged = [] := by rw [State.railShown, updRail_staged, setMany_staged, hst]
  have hstaged := railStaged_staged hempty k kp (regQ (s.railFc k * 1000 / 10 / 10)) fz fp
  refine ⟨_, ⟨(hshown.mono (by simp)).trans (hstage.mono (by simp)), ?_, ?_, ?_, ?_, fun hwait => ?_⟩, heq⟩
  · rw [hstaged]
    rfl
  · rw [hstaged]
    exact List.mem_cons_of_mem _ List.mem_cons_self
  · exact hpend
  · rw [hstage.bit]
    · exact railShown_notStale hw k c x pm
    · simp [pendingF, commitAddr, instRange, Fld.key]
      omega
  · unfold State.rail
    rw [railStaged_rails]
    exact railShown_waitCoeff hwait c x pm

/-- Some field of the first list is one of the second. -/
def meets (fs l : List Fld) : Bool := fs.any fun f => l.any fun g => g.key == f.key

/-- New coefficients show whose they are, and start no rail that does not wait for them (R119, R127). -/
theorem afterCommit_railCoeffs {s b : State} {k : Fin 8} (hw : (s.rail k).waitCoeff = false) :
    s.afterCommit b (.rail k) (railCoeffFields k) = s.setB (Reg.RAIL_LOOP_STAT_src k) (s.rail k).direct := by
  have hvset : meets (railCoeffFields k) [Reg.RAIL_VSET_vset k] = false := by
    simp [meets, railCoeffFields, Fld.key]
  have hloop : meets (railCoeffFields k) [Reg.RAIL_C_c_uf k, Reg.RAIL_ESR_esr k, Reg.RAIL_LOOP_fc k, Reg.RAIL_LOOP_pm k] = false := by
    simp [meets, railCoeffFields, Fld.key]
    omega
  have hmax : meets (railCoeffFields k) [Reg.RAIL_LIGHT_max_n k] = false := by
    simp [meets, railCoeffFields, Fld.key]
    omega
  have hcoeff : meets (railCoeffFields k) (railCoeffFields k) = true := by
    simp [meets, railCoeffFields]
  have hw' : ((s.setB (Reg.RAIL_LOOP_STAT_src k) (s.rail k).direct).rail k).waitCoeff = false := hw
  unfold meets at hvset hloop hmax hcoeff
  unfold railCoeffFields at *
  unfold State.afterCommit
  simp only [hvset, hloop, hmax, hcoeff, hw', Bool.false_and, Bool.false_eq_true, ↓reduceIte]

/-- What the derivation of rail k changes. -/
def railDerivedFields (k : Fin 8) : List Fld :=
  [Reg.RAIL_KP_kp k, Reg.RAIL_FI_fi k, Reg.RAIL_FZ_fz k, Reg.RAIL_FP_fp k, Reg.RAIL_LOOP_STAT_stale k, Reg.RAIL_LOOP_STAT_fc_clamped k,
    Reg.RAIL_LOOP_STAT_infeasible k, Reg.RAIL_LOOP_STAT_pm_ach k, Reg.RAIL_LOOP_STAT_src k, pendingF (.rail k)]

/-- The derivation of a stopped rail. -/
theorem deriveRail_stopped {k : Fin 8} {fi : Nat} {s : State} (hs : s.ready) (hd : s.bit (Reg.RAIL_CTRL_direct_loop k) = false)
    (hc : s.bit Reg.SYS_STATE_ctl_lost = false) (hn : (s.servicePhases k).length ≠ 0) (hstop : s.railStopped k = true)
    (hst : s.staged = []) (hhold : s.bit (holdF (.rail k)) = false) (hwait : (s.rail k).waitCoeff = false)
    (hfi : (fi : Rat) = 10 * s.railFc k) :
    ∃ t, (s.deriveRail k).done = .next t ∧ t.getF (Reg.RAIL_FI_fi k) = fi ∧ t.bit (Reg.RAIL_LOOP_STAT_stale k) = false
      ∧ t.staged = [] ∧ FrameLog (railDerivedFields k) 3 (0x1100 + 0x10 * k) s t := by
  have hwf : Cells.wf s.fields = true := hs.1.1
  obtain ⟨u, hu, heq⟩ := deriveRail_prepared hwf hst hn hd hc
  obtain ⟨hreg, hle⟩ := regQ_railFc hfi
  have hcommits : CommitsAll (.rail k) u := by
    refine ⟨?_, ?_, hu.waits, ?_⟩
    · have hstate : u.railState k = s.railState k := hu.derives.getF (by
        simp [railShownFields, pendingF, commitAddr, instRange, Fld.key]
        omega)
      unfold State.railStopped at hstop
      simp [State.instRuns, State.railStopped, hstate, hstop]
    · rw [hu.derives.bit (by
        simp [railShownFields, pendingF, holdF, commitAddr, instRange, Fld.key]
        omega), hhold]
    · rw [hu.names]
      simp [railCoeffFields, inInst_iff, instRange]
      omega
  have hstarts : StartsOnly [Reg.RAIL_LOOP_STAT_src k] (.rail k) u := fun v hv => by
    rw [hu.names, afterCommit_railCoeffs]
    · exact (Acts.refl _ v).setB _ (by simp)
    · unfold State.rail
      rw [hv]
      exact hu.waitCoeff hwait
  have hcode : (instRange (.rail k)).1 / 16 = 0x1100 + 0x10 * k := by
    simp [instRange]
    omega
  have hshown : pendingF (.rail k) :: railShownFields k ⊆ railDerivedFields k := by simp [railShownFields, railDerivedFields]
  have hlive : pendingF (.rail k) :: (u.staged.map (·.1) ++ [Reg.RAIL_LOOP_STAT_src k]) ⊆ railDerivedFields k := by
    rw [hu.names]
    simp [railCoeffFields, railDerivedFields]
  have hdefer : Reg.SYS_RUN_STAT_act_deferred.key ∉ (railDerivedFields k).map Fld.key := by
    simp [railDerivedFields, pendingF, commitAddr, instRange, Fld.key]
    omega
  obtain ⟨hdone, hempty, hframe⟩ := hcommits.done hstarts (hu.derives.mono hshown) hs hlive hdefer (by omega)
  rw [hcode] at hframe
  refine ⟨u.commitIdle (.rail k), by rw [heq, hdone], ?_, ?_, hempty, hframe⟩
  · have hlive : (u.commitIdle (.rail k)).getF (Reg.RAIL_FI_fi k) = fi % 2 ^ 16 % 2 ^ 16 :=
      hcommits.getF_live hstarts (hu.derives.wf hwf) (by rw [hu.names]; simp [railCoeffFields, Fld.key]) (hreg ▸ hu.integrator) (by
        simp [pendingF, commitAddr, instRange, Fld.key]
        omega)
    omega
  · rw [hcommits.bit_kept hstarts, hu.notStale]
    rw [hu.names]
    simp [railCoeffFields, pendingF, commitAddr, instRange, Fld.key]
    omega

/-! The front end. -/

/-- The coefficients of set f, in the order of their addresses. -/
def feCoeffFields (f : Nat) : List Fld := [Reg.FE_KP_kp f, Reg.FE_FI_fi f, Reg.FE_FZ_fz f, Reg.FE_FP_fp f]

/-- What FEf_LOOP_STAT shows of a derivation. -/
def feShownFields (f : Nat) : List Fld :=
  [Reg.FE_LOOP_STAT_stale f, Reg.FE_LOOP_STAT_fc_clamped f, Reg.FE_LOOP_STAT_infeasible f, Reg.FE_LOOP_STAT_pm_ach f]

/-- A derivation of set f is shown: stale clears, and the other fields of its status take these values. -/
def State.feShown (s : State) (f c x pm : Nat) : State :=
  (s.setMany [(Reg.FE_LOOP_STAT_stale f, 0), (Reg.FE_LOOP_STAT_fc_clamped f, c), (Reg.FE_LOOP_STAT_infeasible f, x),
    (Reg.FE_LOOP_STAT_pm_ach f, pm)]).updFe fun y => { y with direct := false }

/-- The four coefficients of set f are staged. -/
def State.feStaged (s : State) (f kp fi fz fp : Nat) : State :=
  (((s.stage .fe (Reg.FE_KP_kp f) kp).stage .fe (Reg.FE_FI_fi f) fi).stage .fe (Reg.FE_FP_fp f) fp).stage .fe (Reg.FE_FZ_fz f) fz

theorem deriveFe_eq {s : State} {f : Nat} (hn : s.feService ≠ 0) :
    ∃ c x pm kp fi fz fp, s.deriveFe f = (s.feShown f c x pm).feStaged f kp fi fz fp := by
  unfold State.deriveFe
  dsimp only
  rw [if_neg hn]
  exact ⟨_, _, _, _, _, _, _, rfl⟩

theorem feShown_derives (s : State) (f c x pm : Nat) : Derives (feShownFields f) s (s.feShown f c x pm) :=
  ((Derives.refl _ s).setMany (by simp [feShownFields])).updFe _

theorem feStaged_derives (s : State) (f kp fi fz fp : Nat) : Derives [pendingF .fe] s (s.feStaged f kp fi fz fp) :=
  ((((Derives.refl _ s).stage _ _ (by simp)).stage _ _ (by simp)).stage _ _ (by simp)).stage _ _ (by simp)

theorem feShown_notStale {s : State} (hw : Cells.wf s.fields = true) (f c x pm : Nat) :
    (s.feShown f c x pm).bit (Reg.FE_LOOP_STAT_stale f) = false :=
  bit_setMany_mem (l := [(Reg.FE_LOOP_STAT_stale f, 0), (Reg.FE_LOOP_STAT_fc_clamped f, c), (Reg.FE_LOOP_STAT_infeasible f, x),
    (Reg.FE_LOOP_STAT_pm_ach f, pm)]) hw (by simp [Fld.key]) (by simp) (by simp)

theorem feStaged_pending {s : State} (hw : Cells.wf s.fields = true) (f kp fi fz fp : Nat) :
    (s.feStaged f kp fi fz fp).bit (pendingF .fe) = true :=
  bit_setB_same _ _ _ (by simp [pendingF])
    ((((Derives.refl [pendingF .fe] s).stage _ _ (by simp)).stage _ _ (by simp)).stage _ _ (by simp) |>.wf hw)

/-- The names of what is staged, in the order of their addresses. -/
def stagedName (f : Fld) : List Fld → List Fld
  | [] => [f]
  | g :: r => if g.key < f.key then g :: stagedName f r else if g.key = f.key then f :: r else f :: g :: r

theorem stageSet_names (f : Fld) (v : Nat) (l : List (Fld × Nat)) : (stageSet f v l).map (·.1) = stagedName f (l.map (·.1)) := by
  induction l with
  | nil => rfl
  | cons p l ih =>
    simp only [stageSet, stagedName, List.map_cons]
    split
    · rw [List.map_cons, ih]
    · split <;> rfl

theorem feStaged_names (s : State) (f kp fi fz fp : Nat) :
    (s.feStaged f kp fi fz fp).staged.map (·.1)
      = stagedName (Reg.FE_FZ_fz f) (stagedName (Reg.FE_FP_fp f) (stagedName (Reg.FE_FI_fi f) (stagedName (Reg.FE_KP_kp f)
        (s.staged.map (·.1))))) := by
  simp only [State.feStaged, State.stage, setB_staged, stageSet_names]

/-- One set has derived. -/
structure FePrepared (f : Nat) (s u : State) : Prop where
  derives : Derives (pendingF .fe :: feShownFields f) s u
  names : u.staged.map (·.1) = stagedName (Reg.FE_FZ_fz f) (stagedName (Reg.FE_FP_fp f) (stagedName (Reg.FE_FI_fi f)
    (stagedName (Reg.FE_KP_kp f) (s.staged.map (·.1)))))
  waits : u.bit (pendingF .fe) = true
  notStale : u.bit (Reg.FE_LOOP_STAT_stale f) = false

theorem deriveFe_prepared {s : State} {f : Nat} (hw : Cells.wf s.fields = true) (hn : s.feService ≠ 0) :
    FePrepared f s (s.deriveFe f) := by
  obtain ⟨c, x, pm, kp, fi, fz, fp, heq⟩ := deriveFe_eq (f := f) hn
  rw [heq]
  have hshown := feShown_derives s f c x pm
  have hstage := feStaged_derives (s.feShown f c x pm) f kp fi fz fp
  refine ⟨(hshown.mono (by simp)).trans (hstage.mono (by simp)), ?_, feStaged_pending (hshown.wf hw) f kp fi fz fp, ?_⟩
  · rw [feStaged_names, State.feShown, updFe_staged, setMany_staged]
  · rw [hstage.bit, feShown_notStale hw]
    simp [pendingF, commitAddr, instRange, Fld.key]
    omega

/-- New coefficients show whose they are (R119, R163). -/
theorem afterCommit_feCoeffs (s b : State) :
    Acts [Reg.FE_LOOP_STAT_src 0, Reg.FE_LOOP_STAT_src 1] s (s.afterCommit b .fe (feCoeffFields 0 ++ feCoeffFields 1)) := by
  have hloop : meets (feCoeffFields 0 ++ feCoeffFields 1) [Reg.FE_L_l, Reg.FE_C_c_vhb, Reg.FE_C_c_sys, Reg.FE_LOOP_fc, Reg.FE_LOOP_pm,
      Reg.FE_IIN_iin, Reg.FE_REV_VHB_vhb, Reg.FE_REV_LIM_idis, Reg.FE_REV_LIM_plim] = false := by decide
  have hslope : meets (feCoeffFields 0 ++ feCoeffFields 1) [Reg.FE_L_l, Reg.FE_SLOPE_k_slope] = false := by decide
  unfold meets at hloop hslope
  unfold State.afterCommit
  simp only [hloop, hslope, Bool.false_and, Bool.false_eq_true, ↓reduceIte]
  refine (Acts.refl _ s).each fun f hf u => ?_
  split
  · exact (Acts.refl _ u).setB _ (by
      simp at hf ⊢
      omega)
  · exact Acts.refl _ u

/-- Both sets have derived. -/
structure FrontPrepared (s u : State) : Prop where
  derives : Derives (pendingF .fe :: (feShownFields 0 ++ feShownFields 1)) s u
  names : u.staged.map (·.1) = feCoeffFields 0 ++ feCoeffFields 1
  waits : u.bit (pendingF .fe) = true
  notStale : ∀ f ∈ [0, 1], u.bit (Reg.FE_LOOP_STAT_stale f) = false

theorem deriveFe_deriveFe_prepared {s : State} (hw : Cells.wf s.fields = true) (hn : s.feService ≠ 0) (hst : s.staged = []) :
    FrontPrepared s ((s.deriveFe 0).deriveFe 1) := by
  have h0 := deriveFe_prepared (f := 0) hw hn
  have hn' : (s.deriveFe 0).feService ≠ 0 := by
    unfold State.feService at hn ⊢
    rwa [h0.derives.getF (by decide)]
  have h1 := deriveFe_prepared (f := 1) (h0.derives.wf hw) hn'
  refine ⟨(h0.derives.mono (by simp)).trans (h1.derives.mono (by simp)), ?_, h1.waits, ?_⟩
  · rw [h1.names, h0.names, hst]
    decide
  · intro f hf
    obtain rfl | rfl : f = 0 ∨ f = 1 := by simpa using hf
    · rw [h1.derives.bit (by decide), h0.notStale]
    · exact h1.notStale

/-- What the front end's derivation changes. -/
def feDerivedFields : List Fld :=
  pendingF .fe :: [0, 1].flatMap fun f => [Reg.FE_KP_kp f, Reg.FE_FI_fi f, Reg.FE_FZ_fz f, Reg.FE_FP_fp f, Reg.FE_LOOP_STAT_stale f,
    Reg.FE_LOOP_STAT_fc_clamped f, Reg.FE_LOOP_STAT_infeasible f, Reg.FE_LOOP_STAT_pm_ach f, Reg.FE_LOOP_STAT_src f]

/-- The derivation of the stopped front end. -/
theorem deriveFront_stopped {s : State} (hs : s.ready) (hd : s.bit Reg.FE_CTRL_direct_loop = false)
    (hc : s.bit Reg.SYS_STATE_ctl_lost = false) (hstop : s.feStopped = true) (hn : s.feService ≠ 0) (hst : s.staged = [])
    (hhold : s.bit (holdF .fe) = false) :
    ∃ t, s.deriveFront.done = .next t ∧ (∀ f ∈ [0, 1], t.bit (Reg.FE_LOOP_STAT_stale f) = false) ∧ t.staged = []
      ∧ FrameLog feDerivedFields 3 0x1400 s t := by
  have hwf : Cells.wf s.fields = true := hs.1.1
  have hu := deriveFe_deriveFe_prepared hwf hn hst
  have heq : s.deriveFront = ((s.deriveFe 0).deriveFe 1).commitIdle .fe := by
    unfold State.deriveFront
    rw [if_neg (by simp [hd, hc])]
  generalize (s.deriveFe 0).deriveFe 1 = u at hu heq
  have hcommits : CommitsAll .fe u := by
    refine ⟨?_, ?_, hu.waits, ?_⟩
    · have hstate : u.feState = s.feState := hu.derives.getF (by decide)
      unfold State.feStopped State.feIn at hstop
      unfold State.instRuns State.feIn
      rw [hstate]
      obtain hoff | hlocked : s.feState = feOFF ∨ s.feState = feLOCKED := by simpa using hstop
      · rw [hoff]
        rfl
      · rw [hlocked]
        rfl
    · rw [hu.derives.bit (by decide), hhold]
    · rw [hu.names]
      decide
  have hstarts : StartsOnly [Reg.FE_LOOP_STAT_src 0, Reg.FE_LOOP_STAT_src 1] .fe u := fun v _ => by
    rw [hu.names]
    exact afterCommit_feCoeffs v u
  obtain ⟨hdone, hempty, hframe⟩ := hcommits.done (l := feDerivedFields) hstarts (hu.derives.mono (by decide)) hs
    (by rw [hu.names]; decide) (by decide) (by decide)
  refine ⟨u.commitIdle .fe, by rw [heq, hdone], fun f hf => ?_, hempty, hframe⟩
  rw [hcommits.bit_kept hstarts, hu.notStale f hf]
  rw [hu.names]
  obtain rfl | rfl : f = 0 ∨ f = 1 := by simpa using hf
  · decide
  · decide

/-! The two rows. -/

theorem exec_loopDerivation (k : Fin 8) (s : State) : exec (.loopDerivation k) s = (s.deriveRail k).done := rfl

theorem exec_feDerivation (s : State) : exec .feDerivation s = s.deriveFront.done := rfl

theorem deriveRail_direct {s : State} {k : Nat} (h : s.bit (Reg.RAIL_CTRL_direct_loop k) = true) : s.deriveRail k = s := by
  unfold State.deriveRail
  exact if_pos (by simp [h])

theorem deriveFront_direct {s : State} (h : s.bit Reg.FE_CTRL_direct_loop = true) : s.deriveFront = s := by
  unfold State.deriveFront
  exact if_pos (by simp [h])

/-- Settles O40: the values are staged in a stopped block, so that one commit makes them all live (`CommitsAll.done`); in
direct-loop mode nothing is derived. -/
theorem loopDerivations : Obligations.LoopDerivations := by
  unfold Obligations.LoopDerivations Completes
  refine ⟨fun k fi s hs hd hc hn hstop hst hhold hwait hfi => ?_, fun k s hs hd => ?_, fun s hs hd hc hstop hn hst hhold => ?_,
    fun s hs hd => ?_⟩
  · obtain ⟨t, hdone, hlive, hstale, hempty, hframe⟩ := deriveRail_stopped hs hd hc hn hstop hst hhold hwait hfi
    exact ⟨t, hdone, hlive, hstale, hempty, hframe⟩
  · rw [exec_loopDerivation, deriveRail_direct hd]
    exact ⟨s, done_quiet s hs.2, rfl, (Undisturbed.refl [] s).frame⟩
  · obtain ⟨t, hdone, hstale, hempty, hframe⟩ := deriveFront_stopped hs hd hc hstop hn hst hhold
    exact ⟨t, hdone, hstale 0 (by simp), hstale 1 (by simp), hempty, hframe⟩
  · rw [exec_feDerivation, deriveFront_direct hd]
    exact ⟨s, done_quiet s hs.2, rfl, (Undisturbed.refl [] s).frame⟩

end Sys2Proof.Machine
end

section
/-!
PROOFS. A comparator copy that retires at a trip which locks its output off.
-/

namespace Sys2Proof.Machine

/-- LDO 0 is ON at its setpoint. Copy 0 of the above-side comparator of its channel has disagreed with the vote three times within 24 h. -/
def disagreedCopy : State :=
  { State.reset with
    sys := { State.reset.sys with stage := .done }
    fields := [(Reg.SYS_STATE_state.key, stRUN), ((Reg.LDO_STAT_state 0).key, lON)]
    ldos := { target := 1800 } :: List.replicate 5 {}
    age := { State.reset.age with disagreed := List.replicate 3 (8, true, 0, 0) } }

/-- The trip is RAILV at L3, whose action locks the LDO off (R283); that disarms the above side and frees its comparator (R258). -/
theorem comparatorTrip_disagreedCopy :
    (match exec (.comparatorTrip 8 true ⟨0x7FFF, some 0⟩) disagreedCopy with
      | .next t => t.tripped 8 true
      | _ => true) = false := by
  decide +kernel

/-- Refutes O43: its tenth part says that the comparator stands tripped after a trip that retires a copy, also where the channel is an
output's; the fault then locks the output off, and a comparator of a window that is not armed stands free. -/
theorem not_supervision : ¬ Obligations.Supervision := by
  unfold Obligations.Supervision
  rintro ⟨-, -, -, -, -, -, -, -, -, hcopy, -⟩
  obtain ⟨t, ht, -, htrip⟩ := hcopy 8 true 0 0x7FFF disagreedCopy (by decide) rfl (by decide) (by decide) rfl (by decide) (by decide)
  have h := comparatorTrip_disagreedCopy
  rw [ht] at h
  exact absurd (htrip.symm.trans h) (by decide)

end Sys2Proof.Machine
end

section
/-!
PROOFS. A scan round whose VHB lets the front end start, where it has no coefficients.
-/

namespace Sys2Proof.Machine

/-- The front end is ordered into FWD and waits for VHB (R166), in direct-loop mode with no coefficients written (R164); no snapshot
and no stream is pending. -/
def fwdWithoutCoefficients : State :=
  { State.reset with
    sys := { State.reset.sys with stage := .done }
    fields := [(Reg.SYS_STATE_state.key, stRUN), (Reg.FE_CTRL_fwd_en.key, 1), (Reg.FE_CTRL_direct_loop.key, 1),
      (Reg.PATH_STAT_mode.key, pBUS), (Reg.PATH_STAT_isw_closed.key, 1)] }

/-- VHB reads 10 V and every other channel reads invalid; every sensor of a die reads 250 C, beyond what R148 takes. -/
def vhbRises : ScanRound :=
  ⟨(List.replicate 128 0x8000).set 34 5000, List.replicate 16 0, List.replicate 4 (List.replicate 4 1000), ⟨0, 0, 0, 0, 0, 0⟩⟩

/-- The start is refused with FE at L3 (R164), whose snapshot the same round takes (R308): its format, 1, stands in the ring (R310,
R311). -/
theorem scanRoundEnd_vhbRises :
    (match exec (.scanRoundEnd vhbRises) fwdWithoutCoefficients with
      | .next t => memGet 0x70004 t.win
      | _ => 0) = 1 := by
  decide +kernel

/-- The snapshot ring lies above every slot of the log. -/
theorem logSlot_below_snapshots (q : Nat) : logSlot q + 32 ≤ 0x70004 := by
  unfold logSlot
  omega

/-- Refutes O44: it asks that no snapshot is pending before the round, but not that the round brings no event of L3; where VHB rises to
a start of the front end without coefficients it does, and the round writes the event's snapshot. -/
theorem not_roundEnd : ¬ Obligations.RoundEnd := by
  unfold Obligations.RoundEnd
  intro hround
  obtain ⟨t, ht, -, -, -, -, hwin⟩ :=
    hround vhbRises fwdWithoutCoefficients (by decide) (by decide +kernel) rfl (by decide) rfl rfl rfl (by decide)
  have h := scanRoundEnd_vhbRises
  rw [ht] at h
  have hkept : memGet 0x70004 t.win = memGet 0x70004 fwdWithoutCoefficients.win := hwin _ fun q _ _ => .inr (logSlot_below_snapshots q)
  exact absurd (hkept.symm.trans h) (by decide)

end Sys2Proof.Machine
end

section
/-!
PROOFS. What a change of the charger's phase and of the front end's state leaves (R165, R166, R182, R196, R198).
-/

namespace Sys2Proof.Machine

/-! More of what a row may do before its end. -/

section
variable {l m : List Fld} {s u v : State}

/-- A change of the work of the front end, the path and the charger, or of the free choices, that no register shows. -/
theorem Readies.idle (h : Readies m s u) (hv : v = { u with fe := v.fe, path := v.path, chg := v.chg, free := v.free }) :
    Readies m s v := by
  rw [hv]
  exact h.trans ⟨(Undisturbed.refl m u).inner rfl (.refl u) rfl rfl, id, rfl, rfl, rfl, rfl⟩

theorem Readies.updFe (h : Readies m s u) (g : FeSt → FeSt) : Readies m s (u.updFe g) := h.idle rfl
theorem Readies.updPath (h : Readies m s u) (g : PathSt → PathSt) : Readies m s (u.updPath g) := h.idle rfl
theorem Readies.updChg (h : Readies m s u) (g : ChgSt → ChgSt) : Readies m s (u.updChg g) := h.idle rfl
theorem Readies.draw (h : Readies m s u) : Readies m s u.draw := h.idle rfl

theorem Readies.setF (h : Readies m s u) {f : Fld} (n : Nat) (hf : f ∈ m) : Readies m s (u.setF f n) := h.acts ((Acts.refl m u).setF n hf)
theorem Readies.setB (h : Readies m s u) {f : Fld} (b : Bool) (hf : f ∈ m) : Readies m s (u.setB f b) := h.setF b.toNat hf

theorem Readies.setMany (h : Readies m s u) {x : List (Fld × Nat)} (fs : List Fld) (hx : x.map Prod.fst = fs) (hf : fs ⊆ m) :
    Readies m s (u.setMany x) := by
  subst hx
  exact h.acts ((Acts.refl m u).setMany fun _ hp => hf (List.mem_map_of_mem hp))

theorem Readies.endCause (h : Readies m s u) (cls src cause : Nat) : Readies m s (u.endCause cls src cause) :=
  h.acts ((Acts.refl m u).endCause cls src cause)

theorem Readies.ite {c : Prop} [Decidable c] (hu : Readies m s u) (hv : Readies m s v) : Readies m s (if c then u else v) := by
  split <;> assumption

theorem Readies.wf (h : Readies m s u) (hs : s.canonical) : Cells.wf u.fields = true := (h.canonical hs).1

/-- A row that ends quietly: its answer is the state it has reached. -/
theorem Readies.completes {i : Instr} {P : State → Prop} (h : Readies m s u) (hs : s.ready) (hexec : exec i s = u.done)
    (hm : Reg.SYS_RUN_STAT_act_deferred.key ∉ m.map Fld.key) (hP : P u) : Completes i s P :=
  ⟨u, hexec.trans (done_quiet u (h.ready hs hm).2), hP⟩

end

/-! The charger. -/

section
variable {s u : State}

theorem Readies.batfet (h : Readies chgFields s u) : Readies chgFields s u.batfet := h.setF _ (by decide)

theorem Readies.retarget (h : Readies chgFields s u) : Readies chgFields s u.retarget := (h.setF _ (by decide)).setF _ (by decide)

theorem Readies.fePick (h : Readies chgFields s u) : Readies chgFields s u.fePick := (h.setF _ (by decide)).draw

theorem setChgPhase_readies (s : State) (p : Nat) : Readies chgFields s (s.setChgPhase p) := by
  unfold State.setChgPhase
  split
  · exact .refl _ s
  · extract_lets phased done balanced targeted
    have hphased : Readies chgFields s phased :=
      (Readies.refl _ s).setMany [Reg.CHG_STAT_phase, Reg.CHG_STAT_phase_evt, Reg.HOST_INT_STAT_chg] rfl (by decide)
    have hdone : Readies chgFields s done := .ite (hphased.setB _ (by decide)) hphased
    have hbalanced : Readies chgFields s balanced := .ite hdone ((hdone.setB _ (by decide)).updChg _)
    have htargeted : Readies chgFields s targeted := hbalanced.batfet.retarget
    exact .ite htargeted.fePick htargeted

theorem chgEval_readies (s : State) : Readies chgFields s s.chgEval :=
  .ite (setChgPhase_readies s _) (.ite (setChgPhase_readies s _) (.refl _ s))

theorem setPath_readies (s : State) (n : Nat) : Readies (Reg.PATH_STAT_mode :: chgFields) s (s.setPath n) :=
  ((Readies.refl _ s).setF n List.mem_cons_self).trans ((chgEval_readies _).mono (List.subset_cons_self _ _))

theorem setChgPhase_fe (s : State) (p : Nat) : (s.setChgPhase p).fe = s.fe := by
  simp [State.setChgPhase, State.batfet, State.retarget, State.fePick, State.draw, apply_ite State.fe]

theorem chgEval_fe (s : State) : s.chgEval.fe = s.fe := by
  simp [State.chgEval, setChgPhase_fe, apply_ite State.fe]

end

/-! A new state of the front end. -/

/-- Switching starts or ends with the new state v. -/
def State.feSwitched (s : State) (v : Nat) : State :=
  let s := (s.setF Reg.FE_STAT_state v).updFe fun f => { f with
    rampOut := false, inhibit := f.inhibit && v != feOFF && v != feLOCKED, revHold := v = feREV, ovStop := false, tLast := none,
    startTgt := if v = feFWD_START then some (s.mv2 33).toNat else none }
  let s := if v = feREV then s else s.updPath fun p => { p with revTgt := none }
  if v = feOFF || v = feLOCKED || v = feCHANGE then
    ((s.setMany [(Reg.FE_STAT_n_active, 0), (Reg.FE_STAT_loop, 0), (Reg.FE_STAT_de, 0), (Reg.FE_STAT_ilim_active, 0)]).endCause
      cFE 0 0).endCause cFE 1 0
  else (s.setMany [(Reg.FE_STAT_n_active, s.feService), (Reg.FE_STAT_de, (decide (v = feFWD_START)).toNat)]).fePick

/-- The rest of a change of state: the targets, the phases out of service, the slope and the charger. -/
def State.feSettled (s : State) (v : Nat) : State :=
  let s := s.retarget.fePhases
  (if v = feOFF || v = feLOCKED || v = feCHANGE then s else s.feSlope).chgEval

theorem setFe_eq (s : State) (v : Nat) : s.setFe v = (s.feSwitched v).feSettled v := rfl

/-- What shows that switching starts or ends. -/
def switchFields : List Fld := [Reg.FE_STAT_n_active, Reg.FE_STAT_loop, Reg.FE_STAT_de, Reg.FE_STAT_ilim_active]

/-- What the rest of a change of state changes. -/
def settleFields : List Fld := [Reg.FE_STAT_ph_out, Reg.FE_LOOP_STAT_stale 0, Reg.FE_LOOP_STAT_stale 1] ++ chgFields

theorem feSwitched_readies (s : State) (v : Nat) : Readies switchFields (s.setF Reg.FE_STAT_state v) (s.feSwitched v) := by
  unfold State.feSwitched
  extract_lets entered pathed
  have hpathed : Readies switchFields (s.setF Reg.FE_STAT_state v) pathed :=
    have hentered : Readies switchFields (s.setF Reg.FE_STAT_state v) entered := (Readies.refl _ _).updFe _
    .ite hentered (hentered.updPath _)
  refine .ite (((hpathed.setMany switchFields rfl ?_).endCause _ _ _).endCause _ _ _)
    (((hpathed.setMany [Reg.FE_STAT_n_active, Reg.FE_STAT_de] rfl ?_).setF _ ?_).draw)
  all_goals decide

theorem fePhases_readies (s : State) : Readies settleFields s s.fePhases := by
  unfold State.fePhases
  extract_lets out keep out'
  have hout : Readies settleFields s out' := (Readies.refl _ s).setF _ (by decide)
  exact .ite (.refl _ s) (.ite hout (hout.setMany [Reg.FE_LOOP_STAT_stale 0, Reg.FE_LOOP_STAT_stale 1] rfl (by decide)))

theorem feSlope_readies (l : List Fld) (s : State) : Readies l s s.feSlope := by
  unfold State.feSlope
  exact (Readies.refl l s).updFe _

theorem feSettled_readies (s : State) (v : Nat) : Readies settleFields s (s.feSettled v) := by
  unfold State.feSettled
  extract_lets phased
  have hcharger {u w : State} (h : Readies chgFields u w) : Readies settleFields u w := h.mono (List.subset_append_right _ _)
  have hphased : Readies settleFields s phased := (hcharger (Readies.refl _ s).retarget).trans (fePhases_readies _)
  exact (Readies.ite hphased (hphased.trans (feSlope_readies _ _))).trans (hcharger (chgEval_readies _))

/-- Beside the state itself, what follows from it in the front end and the charger. -/
def feWorkFields : List Fld := switchFields ++ settleFields

theorem setFe_after (s : State) (v : Nat) : Readies feWorkFields (s.setF Reg.FE_STAT_state v) (s.setFe v) := by
  rw [setFe_eq]
  exact ((feSwitched_readies s v).mono (List.subset_append_left _ _)).trans
    ((feSettled_readies _ v).mono (List.subset_append_right _ _))

theorem setFe_readies (s : State) (v : Nat) : Readies (feFields ++ chgFields) s (s.setFe v) :=
  ((Readies.refl _ s).setF v (by decide)).trans ((setFe_after s v).mono (by decide))

theorem setFe_feState {s : State} (hs : s.canonical) {v : Nat} (hv : v < 8) : (s.setFe v).feState = v :=
  ((setFe_after s v).getF (by decide)).trans ((getF_setF_same _ _ _ hs.1).trans (Nat.mod_eq_of_lt hv))

/-- A stopped front end switches no phase. -/
theorem setFe_nActive {s : State} (hs : s.canonical) {v : Nat} (hv : v = feOFF ∨ v = feLOCKED ∨ v = feCHANGE) :
    (s.setFe v).getF Reg.FE_STAT_n_active = 0 := by
  have hstopped : (decide (v = feOFF) || decide (v = feLOCKED) || decide (v = feCHANGE)) = true := by simpa [or_assoc] using hv
  rw [setFe_eq, (feSettled_readies _ v).getF (by decide)]
  unfold State.feSwitched
  extract_lets entered pathed
  have hpathed : Cells.wf pathed.fields = true := by
    have hfields : pathed.fields = (s.setF Reg.FE_STAT_state v).fields := by
      unfold pathed
      split <;> rfl
    rw [hfields]
    exact setF_fields_wf _ _ _ hs.1
  rw [if_pos hstopped]
  exact getF_setMany_mem (l := [(Reg.FE_STAT_n_active, 0), (Reg.FE_STAT_loop, 0), (Reg.FE_STAT_de, 0), (Reg.FE_STAT_ilim_active, 0)])
    (p := (Reg.FE_STAT_n_active, 0)) hpathed (by decide) List.mem_cons_self

/-! What a change of state keeps of the front end's and the collector's work. -/

theorem fePhases_fe (s : State) : s.fePhases.fe = s.fe := by
  simp [State.fePhases, apply_ite State.fe]

/-- The bits that locked the front end off, and the order of a REV start. -/
def FeSt.orders (f : FeSt) : List Fld × Bool := (f.lockBits, f.revOrdered)

theorem setFe_orders (s : State) (v : Nat) : (s.setFe v).fe.orders = s.fe.orders := by
  have hsettled (u : State) : (u.feSettled v).fe.orders = u.fe.orders := by
    have hbefore : u.retarget.fePhases.fe = u.fe := fePhases_fe _
    unfold State.feSettled
    rw [chgEval_fe]
    split
    · rw [hbefore]
    · rw [← hbefore]
      rfl
  rw [setFe_eq, hsettled]
  unfold State.feSwitched
  dsimp only
  split <;> split <;> simp [State.fePick, State.draw, State.endCause, FeSt.orders]

theorem setFe_stats (s : State) (v : Nat) : (s.setFe v).flt.stats = s.flt.stats := by
  simp [State.setFe, State.endCause, apply_ite State.flt, apply_ite Flt.stats]

end Sys2Proof.Machine
end

section
/-!
PROOFS. What the path does before a row's end, with the entries it logs (R186, R187, R193, R304, R307).
-/

namespace Sys2Proof.Machine

/-- A row has changed only the listed fields so far and logged entries, and neither the events that wait nor what decides whether
the ROM runs. -/
structure Logs (m : List Fld) (s u : State) : Prop where
  kept : Kept m s u
  stores : StoresKept s u
  grows : LogGrows s u
  canonical : s.canonical → u.canonical
  evs : u.flt.evs = s.flt.evs
  tests : u.age.live = s.age.live
  live : u.live = s.live
  stage : u.sys.stage = s.sys.stage

section
variable {l m : List Fld} {s u v : State}

theorem Readies.logs (h : Readies m s u) : Logs m s u := by
  obtain ⟨⟨hkept, hstores, hwin, hnext⟩, hc, he, ht, hl, hst⟩ := h
  exact ⟨hkept, hstores, ⟨le_of_eq hnext.symm, fun a _ => by rw [hwin]⟩, hc, he, ht, hl, hst⟩

theorem Logs.refl (m : List Fld) (s : State) : Logs m s s := (Readies.refl m s).logs

theorem Logs.trans (h : Logs m s u) (k : Logs m u v) : Logs m s v :=
  ⟨h.kept.trans k.kept, h.stores.trans k.stores, h.grows.trans k.grows, k.canonical ∘ h.canonical, k.evs.trans h.evs,
    k.tests.trans h.tests, k.live.trans h.live, k.stage.trans h.stage⟩

theorem Logs.mono (h : Logs l s u) (hl : l ⊆ m) : Logs m s u := { h with kept := h.kept.mono fun _ hf => List.mem_map_of_mem (hl hf) }

theorem Logs.readies (h : Logs m s u) (k : Readies m u v) : Logs m s v := h.trans k.logs

theorem Logs.log (h : Logs m s u) (kind code : Nat) (d : List Byte) : Logs m s (u.log kind code d) :=
  h.trans ⟨(Kept.refl m u).of_fields rfl, .refl u, .log u _ _ _, log_canonical u _ _ _, rfl, rfl, rfl, rfl⟩

theorem Logs.pathLog (h : Logs m s u) (cause : Nat) : Logs m s (u.pathLog cause) := h.log _ _ _

theorem Logs.ite {c : Prop} [Decidable c] (hu : Logs m s u) (hv : Logs m s v) : Logs m s (if c then u else v) := by
  split <;> assumption

theorem Logs.getF (h : Logs m s u) {f : Fld} (hf : f.key ∉ m.map Fld.key) : u.getF f = s.getF f := h.kept f hf

theorem Logs.bit (h : Logs m s u) {f : Fld} (hf : f.key ∉ m.map Fld.key) : u.bit f = s.bit f := by
  unfold State.bit
  rw [h.getF hf]

theorem Logs.ready (h : Logs m s u) (hs : s.ready) (hm : Reg.SYS_RUN_STAT_act_deferred.key ∉ m.map Fld.key) : u.ready := by
  obtain ⟨hc, hev, hdefer, hlive⟩ := hs
  exact ⟨h.canonical hc, h.evs.trans hev, (h.bit hm).trans hdefer, h.tests.trans hlive⟩

end

section
variable (s : State)

theorem setState_logs (n : Nat) : Logs stateFields s (s.setState n) := by
  unfold State.setState
  split
  · exact .refl _ s
  · extract_lets old entered
    have hentered : Acts stateFields s entered := ((Acts.refl _ s).setF _ (by decide)).setF _ (by decide)
    have hnoted := (hentered.setB (f := Reg.HOST_INT_STAT_state) true (by decide)).request rqSTATE (by decide)
    exact hnoted.readies.logs.log _ _ _

theorem endIbex_logs : Logs ibexFields s s.endIbex := by
  have hshown (u : State) : Logs ibexFields u u.refresh := .ite ((setState_logs u _).mono (by decide)) (.refl _ u)
  exact .ite (((Readies.refl _ s).setB _ (by decide)).updPath _ |>.logs.trans (hshown _)) (.refl _ s)

/-- What the opening of ISW changes. -/
def iswFields : List Fld := Reg.PATH_STAT_isw_closed :: feFields ++ chgFields

theorem openIsw_readies : Readies iswFields s s.openIsw := by
  have hopened : Readies iswFields s ((s.setB Reg.PATH_STAT_isw_closed false).updPath fun p => { p with closing := none, held := false }) :=
    ((Readies.refl _ s).setB _ (by decide)).updPath _
  exact .ite (hopened.trans ((setFe_readies _ _).mono (by decide))) hopened

end

/-! The start of a hand-over (R187). -/

section
variable {s : State}

theorem feRev_readies (h : s.getF (Reg.FE_FI_fi 1) ≠ 0) : Readies (Reg.FE_STAT_region :: feFields ++ chgFields) s s.feRev := by
  unfold State.feRev
  rw [if_neg h]
  exact ((Readies.refl _ s).setF _ (by decide)).trans ((setFe_readies _ _).mono (by decide))

/-- What a hand-over into hold-up changes before ISW opens. -/
def handoverFields : List Fld := Reg.PATH_STAT_vbus_qual :: Reg.PATH_STAT_mode :: chgFields

/-- The mode of a hand-over, before it is counted. -/
def State.handoverBegun (s : State) : State := (s.setB Reg.PATH_STAT_vbus_qual false).setPath pHANDOVER

theorem handoverBegun_readies (s : State) : Readies handoverFields s s.handoverBegun :=
  ((Readies.refl _ s).setB _ (by decide)).trans ((setPath_readies _ _).mono (by decide))

/-- A hand-over into hold-up leaves a count that stands at its highest value, or beyond it (R189). -/
theorem handover_full_count {c : Nat} (hhold : s.holdsUp = true) (hfi : s.getF (Reg.FE_FI_fi 1) ≠ 0)
    (hfull : 2 ^ Reg.PATH_EVT_handovers.w ≤ s.getF Reg.PATH_EVT_handovers + 1) :
    Logs (handoverFields ++ Reg.FE_STAT_region :: iswFields) s (s.handover c) := by
  have hbegun := handoverBegun_readies s
  have hcount : s.handoverBegun.count Reg.PATH_EVT_handovers = s.handoverBegun := if_neg (by rw [hbegun.getF (by decide)]; omega)
  have hopened : Logs (handoverFields ++ Reg.FE_STAT_region :: iswFields) s (s.handoverBegun.pathLog c).openIsw :=
    ((hbegun.logs.pathLog c).mono (by decide)).readies ((openIsw_readies _).mono (by decide))
  have hfi' : (s.handoverBegun.pathLog c).openIsw.getF (Reg.FE_FI_fi 1) ≠ 0 := by
    rwa [hopened.getF (by decide)]
  have hsteps : s.handover c = if (s.handoverBegun.pathLog c).openIsw.feState = feCHANGE then
      (s.handoverBegun.pathLog c).openIsw.updFe fun f => { f with revOrdered := true } else (s.handoverBegun.pathLog c).openIsw.feRev := by
    rw [← hcount]
    exact if_pos hhold
  rw [hsteps]
  exact .ite (hopened.readies ((Readies.refl _ _).updFe _)) (hopened.readies ((feRev_readies hfi').mono (by decide)))

end

/-! A count of hand-overs beyond its field's width. -/

/-- A running device with a pack and hold-up enabled, in BUS; PATH_EVT.handovers holds 256, which its 8 bits cannot hold (R64). -/
def overlongHandovers : State :=
  { State.reset with
    sys := { State.reset.sys with stage := .done }
    fields := [(Reg.SYS_STATE_state.key, stRUN), ((Reg.FE_FI_fi 1).key, 1), (Reg.PATH_CTRL_ibex_en.key, 1), (Reg.PATH_STAT_mode.key, pBUS),
      (Reg.PATH_STAT_batt_present.key, 1), (Reg.PATH_EVT_handovers.key, 256)] }

/-- The loss of VBUS counts no further hand-over. -/
theorem vbusLoss_overlongHandovers {t : State} (h : exec (.vbusLoss (.opening .underVoltage)) overlongHandovers = .next t) :
    t.getF Reg.PATH_EVT_handovers = 256 := by
  have hlost : Readies [Reg.PATH_STAT_vbus_qual] overlongHandovers (overlongHandovers.setB Reg.PATH_STAT_vbus_qual false) :=
    (Readies.refl _ _).setB _ (by decide)
  have hexec : exec (.vbusLoss (.opening .underVoltage)) overlongHandovers
      = ((overlongHandovers.setB Reg.PATH_STAT_vbus_qual false).handover (openingBit .underVoltage)).done := rfl
  have hlogs := handover_full_count (s := overlongHandovers.setB Reg.PATH_STAT_vbus_qual false) (c := openingBit .underVoltage)
    (by decide) (by decide) (by decide)
  have hready := hlogs.ready (hlost.ready (by decide) (by decide)) (by decide)
  rw [hexec, done_quiet _ hready.2] at h
  obtain rfl := Host.Outcome.next.inj h
  exact (hlogs.getF (by decide)).trans (by decide)

/-- Refutes O50: its fourth part speaks of every canonical register file, also of one that holds a number beyond its field's width;
PATH_EVT.handovers then stays at that number, and not at the field's highest value. -/
theorem not_powerPath : ¬ Obligations.PowerPath := by
  unfold Obligations.PowerPath
  rintro ⟨-, -, -, hloss, -⟩
  obtain ⟨t, ht, -, -, -, -, hcount, -⟩ := hloss (.opening .underVoltage) overlongHandovers (by decide) rfl (by decide) (by decide) rfl
    (by decide) (by decide) (by decide)
  exact absurd (hcount.symm.trans (vbusLoss_overlongHandovers ht)) (by decide)

end Sys2Proof.Machine
end

section
/-!
PROOFS. An enable bit whose field holds a number beyond its one bit (R64).
-/

namespace Sys2Proof.Machine

/-- A running device with the L5 latch set; FE_CTRL.fwd_en holds 2, which its one bit cannot hold (R64). -/
def overlongEnable : State :=
  { State.reset with
    sys := { State.reset.sys with stage := .done, ctlAlive := true }
    fields := [(Reg.SYS_STATE_state.key, stRUN), (Reg.FLT_LATCH_latched.key, 1), (Reg.FE_CTRL_fwd_en.key, 2)] }

/-- Merged with the written 1 the field reads 3, so the write counts as none that sets the bit and nothing refuses it. -/
theorem feFwdEnSet_overlongEnable :
    (match exec (.feFwdEnSet .control) overlongEnable with
      | .next t => (t.acc .control).err
      | _ => BitVec.ofNat 16 (2 ^ Reg.REG_ERR_limit.lo)) = 0 := by
  decide +kernel

/-- Refutes O36: its eighth part speaks of every canonical register file, also of one that holds a number beyond its field's width;
such a write of fwd_en is not refused under the L5 latch (R286), and REG_ERR stays clear. -/
theorem not_powerEnables : ¬ Obligations.PowerEnables := by
  unfold Obligations.PowerEnables
  rintro ⟨-, -, -, -, -, -, -, hrefused, -⟩
  obtain ⟨t, ht, herr, -⟩ := hrefused .control overlongEnable (by decide) (by decide) (by decide)
  have h := feFwdEnSet_overlongEnable
  rw [ht] at h
  exact absurd (herr.symm.trans h) (by decide)

end Sys2Proof.Machine
end

section
/-!
PROOFS. What locks the front end off: the end of a row whose event acts on the front end (R166, R283).
-/

namespace Sys2Proof.Machine

/-! The end of a row whose event's action reaches beyond the outputs. -/

/-- An action leaves what decides how its row ends, and sets no status. -/
structure Reacts (l : List Fld) (s t : State) : Prop where
  readies : Readies l s t
  stats : t.flt.stats = s.flt.stats

/-- What the row's end makes of its event. -/
structure Reacted (l : List Fld) (e : Ev) (s t : State) : Prop where
  kept : Kept (l ++ classFields e.lvl ++ pinFields) s t
  stores : StoresKept s t
  noted : Noted e.cls e.src e.lvl t
  logged : LoggedOne 1 (evCode e.cls e.src e.lvl) s t
  actedKept : Kept pinFields ((s.classified e).acted (e, e.lvl)) t
  actedOnly : OnlyRecords ((s.classified e).acted (e, e.lvl)) t

section
variable {l m : List Fld} {e : Ev} {s t u : State}

/-- A row that raised one event, which keeps its own level, ends with it classified, acted on and recorded. -/
theorem Waits.done_reacts (h : Waits e s) (hl : 1 ≤ e.lvl) (hact : Reacts l (s.classified e) ((s.classified e).acted (e, e.lvl)))
    (hmark : ∀ f ∈ markFields, f.key ∉ l.map Fld.key) : ∃ t, s.done = .next t ∧ Reacted l e s t := by
  have hclass := h.classified
  obtain ⟨hready, hstats⟩ := hact
  have hend := concluded_concludes e (hready.canonical (hclass.canonical h.canonical)) h.lvl h.cls h.src
  have hpos : 1 ≤ s.effective e := h.own ▸ hl
  have hmarked {f : Fld} (hf : f ∈ markFields) (hp : f.key ∉ pinFields.map Fld.key) :
      (((s.classified e).acted (e, e.lvl)).concluded e).getF f = (s.classified e).getF f :=
    (hend.kept f hp).trans (hready.getF (hmark f hf))
  have hevs : (((s.classified e).acted (e, e.lvl)).concluded e).flt.evs = [] := by
    rw [hend.evs, hready.evs, hclass.evs]
    rfl
  have hquiet : (((s.classified e).acted (e, e.lvl)).concluded e).quiet := by
    refine ⟨hevs, ?_, ?_⟩
    · rw [State.bit, hmarked (by decide) (by decide), hclass.getF]
      · exact h.deferred
      · unfold classFields
        split <;> decide
    · rw [hend.only.age, hready.tests, hclass.only.age]
      exact h.live
  have hsettle : s.settle = ((s.classified e).acted (e, e.lvl)).concluded e := by
    rw [← settle_quiet _ hquiet]
    unfold State.settle
    rw [drain_of_event h.evs h.own h.lvl hevs 7, drain_of_no_event hevs 8]
  have hset : Kept (l ++ classFields e.lvl ++ pinFields) s (s.statusSet e) := (Kept.refl _ s).of_fields rfl
  refine ⟨_, congrArg Host.Outcome.next hsettle, ?_, ?_, ⟨?_, ?_, fun h2 => ?_⟩, ?_, hend.kept, concluded_onlyRecords _ _⟩
  · refine hset.trans (((hclass.mono ?_).kept.trans (hready.mono ?_).undisturbed.kept).trans (hend.kept.mono ?_))
    · exact fun _ hf => List.mem_append_left _ (List.mem_append_right _ hf)
    · exact fun _ hf => List.mem_append_left _ (List.mem_append_left _ hf)
    · exact fun _ hf => List.mem_map_of_mem (List.mem_append_right _ hf)
  · have hset : StoresKept s (s.statusSet e) := .refl s
    exact ((hset.trans hclass.only.storesKept).trans hready.undisturbed.stores).trans hend.only.storesKept
  · have hat := statusSet_statusAt hpos
    rw [h.own] at hat
    unfold State.statusAt at *
    rwa [hend.stats, hstats, hclass.stats]
  · rw [← classified_int h.canonical.1 hpos, State.bit, State.bit, hmarked (by decide) (by decide)]
  · rw [hmarked (by decide) (by decide)]
    exact classified_unack h.canonical.1 (h.own ▸ h2) h.cls
  · exact (hend.logged.after hready.undisturbed.win hready.undisturbed.logNext).after hclass.win hclass.logNext

end

/-! Locking the front end off. -/

theorem OnlyActs.fe {s t : State} (h : OnlyActs s t) : t.fe = s.fe := by
  unfold OnlyActs at h
  rw [h]

theorem OnlyRecords.fe {s t : State} (h : OnlyRecords s t) : t.fe = s.fe := h.onlyActs.fe

/-- The path is in one of the modes of a hold-up. -/
def State.inHold (s : State) : Bool := [pHANDOVER, pHOLD, pRETURN].contains s.pathMode

section
variable {bits : List Fld} {s : State}

theorem setFe_inHold (s : State) (v : Nat) : (s.setFe v).inHold = s.inHold := by
  have hmode : (s.setFe v).pathMode = s.pathMode := (setFe_readies s v).getF (by decide)
  rw [State.inHold, hmode, State.inHold]

/-- Outside a hold-up the front end alone is locked off. -/
theorem feLock_outside_hold (hh : s.inHold = false) (bits : List Fld) :
    s.feLock bits = if s.service then (s.setFe feLOCKED).updFe fun f =>
      { f with lockBits := f.lockBits ++ bits.filter (fun b => !f.lockBits.contains b), revOrdered := false } else s := by
  have hlocked : (s.setFe feLOCKED).inHold = false := (setFe_inHold s _).trans hh
  unfold State.inHold at hlocked
  unfold State.feLock
  cases s.service
  · rfl
  · simp only [Bool.not_true, Bool.false_eq_true, ↓reduceIte]
    exact if_neg (by simpa [State.pathMode, Bool.eq_false_iff] using hlocked)

theorem feLock_reacts (hh : s.inHold = false) : Reacts (feFields ++ chgFields) s (s.feLock bits) := by
  rw [feLock_outside_hold hh]
  split
  · exact ⟨(setFe_readies s _).updFe _, by rw [updFe_flt, setFe_stats]⟩
  · exact ⟨.refl _ s, rfl⟩

theorem feLock_feState (hs : s.canonical) (hh : s.inHold = false) (hl : s.service = true ∨ s.feState = feLOCKED) :
    (s.feLock bits).feState = feLOCKED := by
  rw [feLock_outside_hold hh]
  split
  next => exact (updFe_getF _ _ _).trans (setFe_feState hs (by decide))
  next hservice => exact hl.resolve_left hservice

theorem setFe_lockBits (s : State) (v : Nat) : (s.setFe v).fe.lockBits = s.fe.lockBits := congrArg Prod.fst (setFe_orders s v)

theorem setFe_revOrdered (s : State) (v : Nat) : (s.setFe v).fe.revOrdered = s.fe.revOrdered := congrArg Prod.snd (setFe_orders s v)

/-- A lock adds its bits to those that locked the front end off before. -/
theorem mem_feLock_lockBits (hh : s.inHold = false) {f : Fld} (hf : f ∈ s.fe.lockBits ∨ s.service = true ∧ f ∈ bits) :
    f ∈ (s.feLock bits).fe.lockBits := by
  rw [feLock_outside_hold hh]
  split
  next =>
    simp only [updFe_fe, setFe_lockBits, List.mem_append, List.mem_filter]
    by_cases hold : f ∈ s.fe.lockBits
    · exact .inl hold
    · exact .inr ⟨(hf.resolve_left hold).2, by simpa using hold⟩
  next hservice => exact hf.resolve_right fun h => hservice h.1

end

/-! An event of the front end at L3. -/

/-- An event of the front end (R171). -/
def feEv (src lvl cause : Nat) : Ev := { cls := cFE, src := src, lvl := lvl, cause := cause }

/-- The event of this cause that locks the front end off. -/
abbrev tripEv (cause : Nat) : Ev := feEv 2 3 cause

/-- What the end of a row that trips the front end may change. -/
def tripFields : List Fld := feFields ++ chgFields ++ judgedFields

theorem actL3_front (s : State) (cause : Nat) : s.actL3 (tripEv cause) = s.feLock (feBits (tripEv cause)) := by
  simp [State.actL3, State.l3Entries, feEv, State.each, State.groupOff]

theorem acted_front (s : State) (cause : Nat) : s.acted (tripEv cause, 3) = s.feLock (feBits (tripEv cause)) := by
  rw [acted_three, actL3_front]
  exact if_neg (by simp [feEv])

/-- A front end that the row has locked off, outside a hold-up, stays locked off by the event's own action. -/
structure LockedOff (s : State) : Prop where
  ready : s.ready
  up : s.romUp = true
  fresh : s.fresh cFE
  closed : s.inHold = false
  locked : s.feState = feLOCKED

theorem LockedOff.trips {s : State} (h : LockedOff s) (cause : Nat) :
    ∃ t, ((s.endCause cFE 2 cause).raiseLasting (tripEv cause)).done = .next t ∧ t.feState = feLOCKED
      ∧ (∀ f ∈ s.fe.lockBits, f ∈ t.fe.lockBits) ∧ Noted cFE 2 3 t ∧ Kept tripFields s t ∧ StoresKept s t
      ∧ LoggedOne 1 (evCode cFE 2 3) s t := by
  have hended : Readies [] s (s.endCause cFE 2 cause) := (Readies.refl _ s).endCause _ _ _
  have hready := hended.ready h.ready (by decide)
  have hup : (s.endCause cFE 2 cause).romUp = true := (hended.romUp (by decide)).trans h.up
  have hgone : (s.endCause cFE 2 cause).present cFE 2 cause = false := by simp [State.present, State.endCause]
  have hwaits := waits_raiseLasting (e := tripEv cause) hready hgone hup (effective_of_fresh h.fresh)
    ⟨(by decide : 3 ≤ 5), (by decide : cFE < 16), (by decide : 2 < 128)⟩
  have hraised := raiseLasting_eq (e := tripEv cause) hgone hup
  generalize (s.endCause cFE 2 cause).raiseLasting (tripEv cause) = u at hwaits hraised ⊢
  have hfields : u.fields = s.fields := by rw [hraised]; rfl
  have hclass := hwaits.classified
  have hclassf {f : Fld} (hf : f.key ∉ judgedFields.map Fld.key) : (u.classified (tripEv cause)).getF f = s.getF f := by
    have hset : ((u.statusSet (tripEv cause)).getF f) = s.getF f := by
      unfold State.getF State.statusSet
      rw [updFlt_fields, hfields]
    have hsub : classFields (tripEv cause).lvl ⊆ judgedFields := fun _ hg => classFields_judged _ (List.mem_append_left _ hg)
    exact (hclass.getF fun hm => hf (List.map_subset _ hsub hm)).trans hset
  have hclosed : (u.classified (tripEv cause)).inHold = false := by
    rw [State.inHold, State.pathMode, hclassf (by decide)]
    exact h.closed
  have hlocked : (u.classified (tripEv cause)).feState = feLOCKED := (hclassf (by decide)).trans h.locked
  have hacted : (u.classified (tripEv cause)).acted (tripEv cause, (tripEv cause).lvl)
      = (u.classified (tripEv cause)).feLock (feBits (tripEv cause)) := acted_front _ _
  obtain ⟨t, hdone, hr⟩ :=
    hwaits.done_reacts (l := feFields ++ chgFields) (by decide : 1 ≤ 3) (hacted ▸ feLock_reacts hclosed) (by decide)
  obtain ⟨hkept, hstores, hnoted, hlogged, htf, hto⟩ := hr
  rw [hacted] at htf hto
  refine ⟨t, hdone, ?_, fun f hf => ?_, hnoted, ?_, ?_, ?_⟩
  · exact (htf _ (by decide)).trans (feLock_feState (hclass.canonical hwaits.canonical) hclosed (.inr hlocked))
  · have hfe : (u.classified (tripEv cause)).fe = s.fe := by
      rw [hclass.only.fe, hraised]
      rfl
    rw [hto.fe]
    exact mem_feLock_lockBits hclosed (.inl (hfe ▸ hf))
  · refine ((Kept.refl _ s).of_fields hfields).trans (hkept.mono fun f hf => List.mem_map_of_mem ?_)
    rw [List.append_assoc] at hf
    rcases List.mem_append.mp hf with hf | hf
    · exact List.mem_append_left _ hf
    · exact List.mem_append_right _ (classFields_judged _ hf)
  · have hs : StoresKept s u := by
      rw [hraised]
      exact .refl s
    exact hs.trans hstores
  · refine hlogged.after ?_ ?_ <;> rw [hraised] <;> rfl

end Sys2Proof.Machine
end

section
/-!
PROOFS. The rows of the front end that raise no event (R158, R166, R170, R171).
-/

namespace Sys2Proof.Machine

section
variable {s : State}

/-! Changes of state. -/

/-- What a start changes: the region beside the front end and the charger. -/
def startFields : List Fld := Reg.FE_STAT_region :: feFields ++ chgFields

theorem feTryStart_disabled (h : s.bit Reg.FE_CTRL_fwd_en = false) : s.feTryStart = s := if_neg (by simp [h])

theorem feRev_enters (hs : s.canonical) (h : s.getF (Reg.FE_FI_fi 1) ≠ 0) :
    s.feRev.feState = feREV ∧ s.feRev.fe.revOrdered = s.fe.revOrdered := by
  unfold State.feRev
  rw [if_neg h]
  exact ⟨setFe_feState (setF_canonical _ _ _ hs) (by decide), setFe_revOrdered _ _⟩

theorem startRegion_lt (target vin : Int) : startRegion target vin < 2 ^ Reg.FE_STAT_region.w := by
  unfold startRegion
  split_ifs <;> decide

theorem nextRegion_lt (r : Nat) (target : Rat) (vin : Nat) : nextRegion r target vin < 2 ^ Reg.FE_STAT_region.w := by
  unfold nextRegion
  split <;> split_ifs <;> decide

theorem feStartRampDone_enters (hs : s.ready) (h : s.feState = feFWD_START) :
    Completes .feStartRampDone s fun t => t.feState = feFWD ∧ Frame (feFields ++ chgFields) s t := by
  have hset := setFe_readies s feFWD
  exact hset.completes hs (if_pos h) (by decide) ⟨setFe_feState hs.1 (by decide), hset.undisturbed.frame⟩

theorem feStopRampDone_stops (hs : s.ready) (h : s.feState = feSTOPPING) (hoff : s.bit Reg.FE_CTRL_fwd_en = false) :
    Completes .feStopRampDone s fun t => t.feState = feOFF ∧ t.getF Reg.FE_STAT_n_active = 0 ∧ Frame (feFields ++ chgFields) s t := by
  have hset := setFe_readies s feOFF
  have hexec : exec .feStopRampDone s = (s.setFe feOFF).done :=
    (if_pos h).trans (congrArg State.done (feTryStart_disabled ((hset.bit (by decide)).trans hoff)))
  exact hset.completes hs hexec (by decide)
    ⟨setFe_feState hs.1 (by decide), setFe_nActive hs.1 (.inl rfl), hset.undisturbed.frame⟩

theorem feChangeDone_reverses (hs : s.ready) (h : s.feState = feCHANGE) (hord : s.fe.revOrdered = true)
    (hfi : s.getF (Reg.FE_FI_fi 1) ≠ 0) :
    Completes .feChangeDone s fun t => t.feState = feREV ∧ t.fe.revOrdered = false ∧ Frame startFields s t := by
  have hordered : Readies startFields s (s.updFe fun f => { f with revOrdered := false }) := (Readies.refl _ s).updFe _
  have hall : Readies startFields s (s.updFe fun f => { f with revOrdered := false }).feRev := hordered.trans (feRev_readies hfi)
  have hexec : exec .feChangeDone s = (s.updFe fun f => { f with revOrdered := false }).feRev.done := (if_pos h).trans (if_pos hord)
  obtain ⟨hstate, horder⟩ := feRev_enters (hordered.canonical hs.1) hfi
  exact hall.completes hs hexec (by decide) ⟨hstate, horder, hall.undisturbed.frame⟩

theorem feChangeDone_forwards (hs : s.ready) (h : s.feState = feCHANGE) (hord : s.fe.revOrdered = false)
    (hisw : s.bit Reg.PATH_STAT_isw_closed = true) (hen : s.bit Reg.FE_CTRL_fwd_en = true) (hfi : s.getF (Reg.FE_FI_fi 0) ≠ 0)
    (hmode : s.pathMode ≠ pRETURN) :
    Completes .feChangeDone s fun t => t.feState = feFWD ∧ t.getF Reg.FE_STAT_region = startRegion s.chargerVsys (s.mv2 34 / 10)
      ∧ Frame startFields s t := by
  have hforward : s.feForward = (s.setF Reg.FE_STAT_region (startRegion s.chargerVsys (s.mv2 34 / 10))).setFe feFWD :=
    (if_neg (by simp [hen])).trans (if_neg hfi)
  have hset := setFe_readies (s.setF Reg.FE_STAT_region (startRegion s.chargerVsys (s.mv2 34 / 10))) feFWD
  have hall : Readies startFields s s.feForward :=
    hforward ▸ ((Readies.refl _ s).setF _ (by decide)).trans (hset.mono (by decide))
  have hstays : s.feForward.pathMode ≠ pRETURN := by
    rw [State.pathMode, hall.getF (by decide)]
    exact hmode
  have hexec : exec .feChangeDone s = s.feForward.done :=
    (if_pos h).trans ((if_neg (by simp [hord])).trans ((if_pos hisw).trans (congrArg State.done (if_neg hstays))))
  refine hall.completes hs hexec (by decide) ⟨?_, ?_, hall.undisturbed.frame⟩
  · rw [hforward]
    exact setFe_feState (setF_canonical _ _ _ hs.1) (by decide)
  · rw [hforward, hset.getF (by decide), getF_setF_same _ _ _ hs.1.1]
    exact Nat.mod_eq_of_lt (startRegion_lt _ _)

theorem feChangeDone_stops (hs : s.ready) (h : s.feState = feCHANGE) (hord : s.fe.revOrdered = false)
    (hisw : s.bit Reg.PATH_STAT_isw_closed = false) :
    Completes .feChangeDone s fun t => t.feState = feOFF ∧ Frame (feFields ++ chgFields) s t := by
  have hset := setFe_readies s feOFF
  have hexec : exec .feChangeDone s = (s.setFe feOFF).done :=
    (if_pos h).trans ((if_neg (by simp [hord])).trans (if_neg (by simp [hisw])))
  exact hset.completes hs hexec (by decide) ⟨setFe_feState hs.1 (by decide), hset.undisturbed.frame⟩

theorem feUnlock_frees (hs : s.ready) (h : s.feState = feLOCKED) (hclear : (s.fe.lockBits.all fun f => !s.bit f) = true)
    (hoff : s.bit Reg.FE_CTRL_fwd_en = false) :
    Completes .feUnlock s fun t => t.feState = feOFF ∧ t.fe.lockBits = [] ∧ Frame (feFields ++ chgFields) s t := by
  have hfreed : Readies (feFields ++ chgFields) s (s.updFe fun f => { f with lockBits := [] }) := (Readies.refl _ s).updFe _
  have hexec : exec .feUnlock s = ((s.updFe fun f => { f with lockBits := [] }).setFe feOFF).feTryStart.done :=
    if_pos (by simpa [h] using hclear)
  have hfree : (s.updFe fun f => { f with lockBits := [] }).fe.lockBits = [] := rfl
  generalize (s.updFe fun f => { f with lockBits := [] }) = u at hfreed hexec hfree
  have hset : Readies (feFields ++ chgFields) s (u.setFe feOFF) := hfreed.trans (setFe_readies _ _)
  rw [feTryStart_disabled ((hset.bit (by decide)).trans hoff)] at hexec
  exact hset.completes hs hexec (by decide)
    ⟨setFe_feState (hfreed.canonical hs.1) (by decide), (setFe_lockBits _ _).trans hfree, hset.undisturbed.frame⟩

/-! The region, the skipping in REV and the load step. -/

theorem commit_of_none_pending {i : Instance} (h : s.bit (pendingF i) = false) : s.commit i = s := if_pos (by simp [h])

theorem feRegionChange_follows (vin : Nat) (hs : s.ready) (h : s.feSwitches = true) (hnone : s.bit (pendingF .fe) = false) :
    Completes (.feRegionChange vin) s fun t => t.getF Reg.FE_STAT_region = nextRegion (s.getF Reg.FE_STAT_region) s.feTarget vin
      ∧ Frame [Reg.FE_STAT_region] s t := by
  have hexec : exec (.feRegionChange vin) s
      = (s.setF Reg.FE_STAT_region (nextRegion (s.getF Reg.FE_STAT_region) s.feTarget vin)).feSlope.done := by
    refine (if_pos h).trans ?_
    rw [commit_of_none_pending hnone]
  have hset : Readies [Reg.FE_STAT_region] s
      (s.setF Reg.FE_STAT_region (nextRegion (s.getF Reg.FE_STAT_region) s.feTarget vin)).feSlope :=
    ((Readies.refl _ s).setF _ (by decide)).trans (feSlope_readies _ _)
  refine hset.completes hs hexec (by decide) ⟨?_, hset.undisturbed.frame⟩
  exact ((feSlope_readies [] _).getF (by decide)).trans
    ((getF_setF_same _ _ _ hs.1.1).trans (Nat.mod_eq_of_lt (nextRegion_lt _ _ _)))

theorem feService_lt (s : State) : s.feService < 2 ^ Reg.FE_STAT_n_active.w := by
  show s.feService < 4
  unfold State.feService
  omega

theorem feVhbOvRelease_resumes (hs : s.ready) (h : s.fe.ovStop = true) :
    Completes .feVhbOvRelease s fun t => t.getF Reg.FE_STAT_n_active = s.feService ∧ t.fe.ovStop = false ∧ t.present cFE 2 2 = false
      ∧ Frame [Reg.FE_STAT_n_active] s t := by
  have hexec : exec .feVhbOvRelease s
      = (((s.endCause cFE 2 2).setF Reg.FE_STAT_n_active s.feService).updFe fun f => { f with ovStop := false }).done :=
    congrArg State.done (if_pos h)
  have hset : Readies [Reg.FE_STAT_n_active] s
      (((s.endCause cFE 2 2).setF Reg.FE_STAT_n_active s.feService).updFe fun f => { f with ovStop := false }) :=
    (((Readies.refl _ s).endCause _ _ _).setF _ (by decide)).updFe _
  refine hset.completes hs hexec (by decide) ⟨?_, rfl, ?_, hset.undisturbed.frame⟩
  · exact (getF_setF_same (s.endCause cFE 2 2) _ _ hs.1.1).trans (Nat.mod_eq_of_lt (feService_lt s))
  · simp [State.present, State.endCause]

/-- What shows that every phase in service switches. -/
def State.allIn (s : State) : List (Fld × Nat) :=
  [(Reg.FE_STAT_n_active, s.feService), (Reg.FE_STAT_de, (decide (s.feState = feFWD_START)).toNat)]

theorem allIn_nodup (s : State) : (s.allIn.map fun p => p.1.key).Nodup := by
  have hkeys : ([Reg.FE_STAT_n_active, Reg.FE_STAT_de].map Fld.key).Nodup := by decide
  exact hkeys

theorem feAddAll_eq (h : s.feSwitches = true) (hov : s.fe.ovStop = false) :
    s.feAddAll = (s.setMany s.allIn).updFe fun f => { f with rampOut := false } := by
  unfold State.feSwitches at h
  exact if_pos (by simp [h, hov])

/-- What a load step shows and holds before the phases come in. -/
def State.stepHeld (s : State) (byError : Bool) : State :=
  (if byError then s.setF Reg.FE_STAT_loop (if s.feState = feREV then 6 else 1) else s).updFe fun f => { f with inhibit := true }

theorem stepHeld_readies (s : State) (e : Bool) : Readies (if e then [Reg.FE_STAT_loop] else []) s (s.stepHeld e) := by
  cases e
  · exact (Readies.refl _ s).updFe _
  · exact ((Readies.refl _ s).setF _ (by decide)).updFe _

theorem feStepInhibitStart_holds (e : Bool) (hs : s.ready) (h : s.feSwitches = true) (hov : s.fe.ovStop = false) :
    Completes (.feStepInhibitStart e) s fun t => t.fe.inhibit = true ∧ t.getF Reg.FE_STAT_n_active = s.feService
      ∧ t.bit Reg.FE_STAT_de = decide (s.feState = feFWD_START)
      ∧ Frame ((if e then [Reg.FE_STAT_loop] else []) ++ [Reg.FE_STAT_n_active, Reg.FE_STAT_de]) s t := by
  have hexec : exec (.feStepInhibitStart e) s = (s.stepHeld e).feAddAll.done := by
    refine (if_pos (by simp [h])).trans ?_
    simp [State.stepHeld, h]
  have hheld := stepHeld_readies s e
  have hfe : (s.stepHeld e).fe = { s.fe with inhibit := true } := by cases e <;> rfl
  generalize s.stepHeld e = u at hexec hheld hfe
  have hkept {f : Fld} (hf : f.key ≠ Reg.FE_STAT_loop.key) : u.getF f = s.getF f := hheld.getF (by cases e <;> simp [hf])
  have hstate : u.feState = s.feState := hkept (by decide)
  have hservice : u.feService = s.feService := by
    unfold State.feService
    rw [hkept (by decide)]
  have hswitches : u.feSwitches = true := by rwa [State.feSwitches, State.feIn, hstate]
  have hin : u.allIn = s.allIn := by rw [State.allIn, hservice, hstate, State.allIn]
  rw [feAddAll_eq hswitches (by rw [hfe]; exact hov), hin] at hexec
  have hall := (((hheld.mono (List.subset_append_left _ [Reg.FE_STAT_n_active, Reg.FE_STAT_de])).setMany (x := s.allIn)
    [Reg.FE_STAT_n_active, Reg.FE_STAT_de] rfl (List.subset_append_right _ _)).updFe fun f => { f with rampOut := false })
  refine hall.completes hs hexec (by cases e <;> decide) ⟨?_, ?_, ?_, hall.undisturbed.frame⟩
  · simp [hfe]
  · exact (getF_setMany_mem (p := (Reg.FE_STAT_n_active, s.feService)) (hheld.wf hs.1) (allIn_nodup s) List.mem_cons_self).trans
      (Nat.mod_eq_of_lt (feService_lt s))
  · exact bit_setMany_mem (hheld.wf hs.1) (allIn_nodup s) Nat.one_pos (by simp [State.allIn])

theorem feStepInhibitEnd_ends (hs : s.ready) : Completes .feStepInhibitEnd s fun t => t.fe.inhibit = false ∧ Frame [] s t := by
  have hset : Readies [] s (s.updFe fun f => { f with inhibit := false }) := (Readies.refl _ s).updFe _
  exact hset.completes hs rfl (by decide) ⟨rfl, hset.undisturbed.frame⟩

theorem feRevHoldEnd_ends (hs : s.ready) : Completes .feRevHoldEnd s fun t => t.fe.revHold = false ∧ Frame [] s t := by
  have hset : Readies [] s (s.updFe fun f => { f with revHold := false }) := (Readies.refl _ s).updFe _
  exact hset.completes hs rfl (by decide) ⟨rfl, hset.undisturbed.frame⟩

end

end Sys2Proof.Machine
end

section
/-!
PROOFS. The events of the front end at L1 and L2: the peak limit, the skipped turn-on, VHB over-voltage and an open phase (R168, R171).
-/

namespace Sys2Proof.Machine

section
variable {m : List Fld} {s u : State}

theorem feEv_inRange {src lvl : Nat} (cause : Nat) (hsrc : src < 128) (hl : lvl ≤ 5) :
    (feEv src lvl cause).inRange := ⟨hl, (by decide : cFE < 16), hsrc⟩

/-- No rail is derated by the front end. -/
theorem feEv_derate (src lvl cause : Nat) : derateOf (feEv src lvl cause).cls (feEv src lvl cause).src = [] := rfl

/-- A lasting cause of the front end that raises L1 ends the row; what the row set before stays. -/
theorem feCause_notes {src cause : Nat} (hu : Readies m s u) (hs : s.ready) (hm : Reg.SYS_RUN_STAT_act_deferred.key ∉ m.map Fld.key)
    (hup : u.romUp = true) (hnew : s.present cFE src cause = false) (hcauses : u.flt.causes = s.flt.causes) (hsrc : src < 128) :
    ∃ t, (u.raiseLasting (feEv src 1 cause)).done = .next t ∧ Noted cFE src 1 t ∧ t.fe = u.fe
      ∧ (∀ f : Fld, f.key ∉ noteFields.map Fld.key → t.getF f = u.getF f) ∧ FrameLog (m ++ noteFields) 1 (evCode cFE src 1) s t := by
  have hgone : u.present cFE src cause = false := by rwa [State.present, hcauses]
  have hwaits := waits_raiseLasting (e := feEv src 1 cause) (hu.ready hs hm) hgone hup (effective_of_low _ (by decide : 1 < 2))
    (feEv_inRange cause hsrc (by decide))
  have hraise := raiseLasting_eq (e := feEv src 1 cause) hgone hup
  have hframe := hu.undisturbed.raiseLasting (feEv src 1 cause)
  generalize u.raiseLasting (feEv src 1 cause) = v at hwaits hraise hframe ⊢
  obtain ⟨t, hdone, hev⟩ := hwaits.done_low (by decide : 1 < 2)
  refine ⟨t, hdone, hev.noted (by decide : 1 ≤ 1), ?_, fun f hf => ?_, hev.frameLog_low (by decide : 1 < 2) hframe⟩
  · rw [hev.only.fe, hraise]
    rfl
  · rw [hev.kept f fun hm => hf (List.map_subset _ (classFields_low (by decide : 1 < 2)) hm), hraise]
    rfl

/-! The rows. -/

theorem feVhbOv_skips (hs : s.ready) (hr : s.romUp = true) (hrev : s.feState = feREV) (hov : s.fe.ovStop = false)
    (hnew : s.present cFE 2 2 = false) :
    Completes (.feVhbOv false) s fun t => t.feState = feREV ∧ t.bit Reg.FE_FLT_vhb_ov = true ∧ t.getF Reg.FE_STAT_n_active = 0
      ∧ t.fe.ovStop = true ∧ Noted cFE 2 1 t
      ∧ FrameLog ([Reg.FE_FLT_vhb_ov, Reg.FE_STAT_n_active] ++ noteFields) 1 (evCode cFE 2 1) s t := by
  have hexec : exec (.feVhbOv false) s
      = (((s.setMany [(Reg.FE_FLT_vhb_ov, 1), (Reg.FE_STAT_n_active, 0)]).updFe fun f => { f with ovStop := true }).raiseLasting
          (feEv 2 1 2)).done := if_pos (by simp [hrev, hov])
  have hset : Readies [Reg.FE_FLT_vhb_ov, Reg.FE_STAT_n_active] s
      ((s.setMany [(Reg.FE_FLT_vhb_ov, 1), (Reg.FE_STAT_n_active, 0)]).updFe fun f => { f with ovStop := true }) :=
    ((Readies.refl _ s).setMany [Reg.FE_FLT_vhb_ov, Reg.FE_STAT_n_active] rfl (List.Subset.refl _)).updFe _
  obtain ⟨t, hdone, hnoted, hfe, hkept, hframe⟩ :=
    feCause_notes hset hs (by decide) ((hset.romUp (by decide)).trans hr) hnew rfl (by decide)
  refine ⟨t, hexec.trans hdone, ?_, ?_, ?_, congrArg FeSt.ovStop hfe, hnoted, hframe⟩
  · exact (hkept _ (by decide)).trans ((hset.getF (by decide)).trans hrev)
  · rw [State.bit, hkept _ (by decide)]
    exact bit_setMany_mem (b := true) hs.1.1 (by decide) Nat.one_pos List.mem_cons_self
  · exact (hkept _ (by decide)).trans (getF_setMany_mem (p := (Reg.FE_STAT_n_active, 0)) hs.1.1 (by decide) (by simp))

theorem feBootstrapUv_notes {p : Fin 2} (hs : s.ready) (hr : s.romUp = true) (h : s.feSwitches = true) (hnew : s.present cFE p 3 = false) :
    Completes (.feBootstrapUv p true) s fun t => t.bit Reg.FE_FLT_bs_uv = true ∧ Noted cFE p 1 t
      ∧ FrameLog (Reg.FE_FLT_bs_uv :: noteFields) 1 (evCode cFE p 1) s t := by
  have hexec : exec (.feBootstrapUv p true) s = ((s.setB Reg.FE_FLT_bs_uv true).raiseLasting (feEv p 1 3)).done := if_pos (by simp [h])
  have hset : Readies [Reg.FE_FLT_bs_uv] s (s.setB Reg.FE_FLT_bs_uv true) := (Readies.refl _ s).setB _ (by decide)
  obtain ⟨t, hdone, hnoted, -, hkept, hframe⟩ :=
    feCause_notes hset hs (by decide) (romUp_setB true hr (by decide)) hnew rfl (by omega)
  refine ⟨t, hexec.trans hdone, ?_, hnoted, hframe⟩
  rw [State.bit, hkept _ (by decide)]
  exact bit_setB_same s _ true Nat.one_pos hs.1.1

theorem feIlimSustained_notes {p : Fin 2} {mA mV : Nat} (hs : s.ready) (hr : s.romUp = true) (h : s.feSwitches = true)
    (hlim : s.feLimit mV ≤ (mA : Rat) / 1000) (hnew : s.present cFE p 0 = false) :
    Completes (.feIlimSustained ⟨p, mA, mV⟩) s fun t => t.bit Reg.FE_STAT_ilim_active = true ∧ t.bit Reg.FE_FLT_ilim_sust = true
      ∧ Noted cFE p 1 t ∧ FrameLog ([Reg.FE_STAT_ilim_active, Reg.FE_FLT_ilim_sust] ++ noteFields) 1 (evCode cFE p 1) s t := by
  have hexec : exec (.feIlimSustained ⟨p, mA, mV⟩) s
      = ((s.setMany [(Reg.FE_STAT_ilim_active, 1), (Reg.FE_FLT_ilim_sust, 1)]).raiseLasting (feEv p 1 0)).done :=
    if_pos (by simp [h, hlim])
  have hset : Readies [Reg.FE_STAT_ilim_active, Reg.FE_FLT_ilim_sust] s
      (s.setMany [(Reg.FE_STAT_ilim_active, 1), (Reg.FE_FLT_ilim_sust, 1)]) :=
    (Readies.refl _ s).setMany _ rfl (List.Subset.refl _)
  have hbit {f : Fld} (hf : (f, true.toNat) ∈ [(Reg.FE_STAT_ilim_active, 1), (Reg.FE_FLT_ilim_sust, 1)]) (hw : 0 < f.w) :
      (s.setMany [(Reg.FE_STAT_ilim_active, 1), (Reg.FE_FLT_ilim_sust, 1)]).bit f = true :=
    bit_setMany_mem hs.1.1 (by decide) hw hf
  obtain ⟨t, hdone, hnoted, -, hkept, hframe⟩ :=
    feCause_notes hset hs (by decide) ((hset.romUp (by decide)).trans hr) hnew rfl (by omega)
  refine ⟨t, hexec.trans hdone, ?_, ?_, hnoted, hframe⟩
  · rw [State.bit, hkept _ (by decide)]
    exact hbit (by simp) Nat.one_pos
  · rw [State.bit, hkept _ (by decide)]
    exact hbit (by simp) Nat.one_pos

/-! An open phase (R171). -/

/-- The bit of an open phase. -/
abbrev openBit (p : Fin 2) : Fld := if p.val = 0 then Reg.FE_FLT_ph0_open else Reg.FE_FLT_ph1_open

/-- What an open phase changes before its event. -/
def openFields (p : Fin 2) : List Fld :=
  [Reg.FE_STAT_ph_out, Reg.FE_STAT_n_active, Reg.FE_LOOP_STAT_stale 0, Reg.FE_LOOP_STAT_stale 1, openBit p]

/-- The phase leaves service, with its bit. -/
def State.phaseOut (s : State) (p : Fin 2) : State := (s.setBitOf Reg.FE_STAT_ph_out p true).setB (openBit p) true

/-- The other phase switches on alone, with both sets of coefficients to be derived again (R164). -/
def State.phaseAlone (s : State) : State :=
  let s := (s.setF Reg.FE_STAT_n_active s.feService).updFe fun f => { f with rampOut := false }
  if s.bit Reg.FE_CTRL_direct_loop then s else s.setMany [(Reg.FE_LOOP_STAT_stale 0, 1), (Reg.FE_LOOP_STAT_stale 1, 1)]

theorem phaseOut_readies (s : State) (p : Fin 2) : Readies (openFields p) s (s.phaseOut p) :=
  ((Acts.refl _ s).setBitOf (f := Reg.FE_STAT_ph_out) p true (by simp [openFields])).setB true (by simp [openFields]) |>.readies

theorem phaseAlone_after (s : State) :
    Readies [Reg.FE_LOOP_STAT_stale 0, Reg.FE_LOOP_STAT_stale 1] (s.setF Reg.FE_STAT_n_active s.feService) s.phaseAlone := by
  have halone := (Readies.refl [Reg.FE_LOOP_STAT_stale 0, Reg.FE_LOOP_STAT_stale 1] (s.setF Reg.FE_STAT_n_active s.feService)).updFe
    fun f => { f with rampOut := false }
  exact .ite halone (halone.setMany _ rfl (List.Subset.refl _))

/-- What changes where one phase switches alone. -/
def aloneFields : List Fld := [Reg.FE_STAT_n_active, Reg.FE_LOOP_STAT_stale 0, Reg.FE_LOOP_STAT_stale 1]

theorem phaseAlone_readies (s : State) : Readies aloneFields s s.phaseAlone :=
  ((Readies.refl _ s).setF _ (by decide)).trans ((phaseAlone_after s).mono (by decide))

theorem phaseAlone_nActive (hs : s.canonical) : s.phaseAlone.getF Reg.FE_STAT_n_active = s.feService :=
  ((phaseAlone_after s).getF (by decide)).trans ((getF_setF_same _ _ _ hs.1).trans (Nat.mod_eq_of_lt (feService_lt s)))

/-- What holds of both bits holds of the phase's bit. -/
theorem openBit_of_both {P : Fld → Prop} (h0 : P Reg.FE_FLT_ph0_open) (h1 : P Reg.FE_FLT_ph1_open) (p : Fin 2) : P (openBit p) := by
  unfold openBit
  split <;> assumption

theorem openFields_not_mem {f : Fld} (hf : ∀ b ∈ [Reg.FE_FLT_ph0_open, Reg.FE_FLT_ph1_open],
    f.key ∉ [Reg.FE_STAT_ph_out, Reg.FE_STAT_n_active, Reg.FE_LOOP_STAT_stale 0, Reg.FE_LOOP_STAT_stale 1, b].map Fld.key) (p : Fin 2) :
    f.key ∉ (openFields p).map Fld.key :=
  openBit_of_both (P := fun b => f.key ∉ List.map Fld.key [_, _, _, _, b]) (hf _ (by simp)) (hf _ (by simp)) p

theorem phaseOut_bitOf (hs : s.canonical) (hall : s.getF Reg.FE_STAT_ph_out = 0) (p : Fin 2) {j : Nat} (hj : j < 2) :
    bitOf ((s.phaseOut p).getF Reg.FE_STAT_ph_out) j = decide (p.val = j) := by
  unfold State.phaseOut
  rw [getF_setB_ne _ _ _ _ (openBit_of_both (P := fun f => Reg.FE_STAT_ph_out.key ≠ f.key) (by decide) (by decide) p),
    bitOf_setBitOf _ _ _ _ hj hs.1, hall]
  simp [bitOf]

theorem phaseOut_feService (hs : s.canonical) (hall : s.getF Reg.FE_STAT_ph_out = 0) (p : Fin 2) : (s.phaseOut p).feService = 1 := by
  unfold State.feService
  rw [phaseOut_bitOf hs hall p (by decide), phaseOut_bitOf hs hall p (by decide)]
  revert p
  decide

theorem phaseOut_fe (s : State) (p : Fin 2) : (s.phaseOut p).fe = s.fe :=
  ((Acts.refl [Reg.FE_STAT_ph_out] s).setBitOf p true List.mem_cons_self).only.fe

theorem phaseOut_bit (hs : s.canonical) (p : Fin 2) : (s.phaseOut p).bit (openBit p) = true :=
  bit_setB_same _ _ true (openBit_of_both (P := fun f => 0 < f.w) (by decide) (by decide) p)
    (((Acts.refl [Reg.FE_STAT_ph_out] s).setBitOf p true List.mem_cons_self).wf hs.1)

theorem feOpenPhase_exec (p : Fin 2) (hs : s.canonical) (h : s.feSwitches = true) (hall : s.getF Reg.FE_STAT_ph_out = 0)
    (hov : s.fe.ovStop = false) : exec (.feOpenPhase p) s = ((s.phaseOut p).phaseAlone.raise (feEv p 2 5)).done := by
  have hskip : (if (s.phaseOut p).fe.ovStop then 0 else (s.phaseOut p).feService) = (s.phaseOut p).feService :=
    if_neg (by simp [phaseOut_fe, hov])
  have hone : ¬(s.phaseOut p).feService = 0 := by simp [phaseOut_feService hs hall p]
  refine (if_pos (by simp [h, hall, bitOf])).trans ((if_neg hone).trans ?_)
  unfold State.phaseAlone
  rw [← hskip]
  rfl

theorem feOpenPhase_leaves {p : Fin 2} (hs : s.ready) (hr : s.romUp = true) (h : s.feSwitches = true)
    (hall : s.getF Reg.FE_STAT_ph_out = 0) (hov : s.fe.ovStop = false) (hf : s.fresh cFE) :
    Completes (.feOpenPhase p) s fun t => bitOf (t.getF Reg.FE_STAT_ph_out) p = true ∧ t.getF Reg.FE_STAT_n_active = 1 ∧ Noted cFE p 2 t
      ∧ t.bit (openBit p) = true ∧ FrameLog (openFields p ++ judgedFields) 1 (evCode cFE p 2) s t := by
  have hset : Readies (openFields p) s (s.phaseOut p).phaseAlone :=
    (phaseOut_readies s p).trans ((phaseAlone_readies _).mono (by simp [aloneFields, openFields]))
  have hkept := phaseAlone_readies (s.phaseOut p)
  have hout : bitOf ((s.phaseOut p).phaseAlone.getF Reg.FE_STAT_ph_out) p = true := by
    rw [hkept.getF (by decide), phaseOut_bitOf hs.1 hall p p.isLt]
    simp
  have hactive : (s.phaseOut p).phaseAlone.getF Reg.FE_STAT_n_active = 1 :=
    (phaseAlone_nActive ((phaseOut_readies s p).canonical hs.1)).trans (phaseOut_feService hs.1 hall p)
  have hbit : (s.phaseOut p).phaseAlone.bit (openBit p) = true :=
    (hkept.bit (openBit_of_both (P := fun f => f.key ∉ aloneFields.map Fld.key) (by decide) (by decide) p)).trans (phaseOut_bit hs.1 p)
  have hup : (s.phaseOut p).phaseAlone.romUp = true := (hset.romUp (openFields_not_mem (by decide) p)).trans hr
  have hfresh : (s.phaseOut p).phaseAlone.fresh cFE := by
    rw [State.fresh, hset.getF (openFields_not_mem (by decide) p)]
    exact hf
  have hwaits := waits_raise (e := feEv p 2 5) (hset.ready hs (openFields_not_mem (by decide) p)) hup (effective_of_fresh hfresh)
    (feEv_inRange 5 (by omega) (by decide))
  have hraised (f : Fld) : ((s.phaseOut p).phaseAlone.raise (feEv p 2 5)).getF f = (s.phaseOut p).phaseAlone.getF f := by
    rw [raise_eq hup]
    rfl
  obtain ⟨t, hdone, hev⟩ := hwaits.done_two rfl (by simp [feEv_derate])
  have hkept {f : Fld} (hf : f.key ∉ judgedFields.map Fld.key) : t.getF f = (s.phaseOut p).phaseAlone.getF f := by
    refine (hev.kept f fun hm => hf ?_).trans (hraised f)
    rw [feEv_derate] at hm
    exact List.map_subset _ (classFields_judged _) hm
  refine ⟨t, (feOpenPhase_exec p hs.1 h hall hov).trans hdone, ?_, ?_, hev.noted (by decide : 1 ≤ 2), ?_, ?_⟩
  · rw [hkept (by decide)]
    exact hout
  · rw [hkept (by decide)]
    exact hactive
  · rw [State.bit, hkept (openBit_of_both (P := fun f => f.key ∉ judgedFields.map Fld.key) (by decide) (by decide) p)]
    exact hbit
  · have hframe := hev.frameLog_judged (hset.undisturbed.raise (feEv p 2 5))
    rwa [feEv_derate] at hframe

end

end Sys2Proof.Machine
end

section
/-!
PROOFS. The events that lock the front end off at L3, outside a hold-up and in it (R166, R171, R186, R193, R283).
-/

namespace Sys2Proof.Machine

/-! A trip outside a hold-up. -/

/-- What a trip rests on besides the fields it changes. -/
def tripReads : List Fld := [Reg.SYS_STATE_state, Reg.SYS_RUN_STAT_act_deferred, Reg.PATH_STAT_mode]

section
variable {s : State} {b : Fld}

/-- The bit of a trip, which nothing else of the row reads or writes. -/
structure TripBit (b : Fld) : Prop where
  apart : b.key ∉ (tripReads ++ tripFields).map Fld.key
  bit : 0 < b.w

theorem TripBit.getF (h : TripBit b) {f : Fld} (hf : f ∈ tripReads ++ tripFields) : (s.setB b true).getF f = s.getF f :=
  getF_setB_ne _ _ _ _ fun he => h.apart (he ▸ List.mem_map_of_mem hf)

theorem TripBit.feStopped (h : TripBit b) : (s.setB b true).feStopped = s.feStopped := by
  rw [State.feStopped, State.feIn, State.feState, h.getF (by decide), State.feStopped, State.feIn, State.feState]

theorem TripBit.service (h : TripBit b) : (s.setB b true).service = s.service := by
  rw [State.service, State.stIn, State.st, h.getF (by decide), State.service, State.stIn, State.st]

theorem TripBit.inHold (h : TripBit b) : (s.setB b true).inHold = s.inHold := by
  rw [State.inHold, State.pathMode, h.getF (by decide), State.inHold, State.pathMode]

theorem feTrip_outside_hold (hb : TripBit b) (cause : Nat) (hs : s.ready) (hr : s.romUp = true) (hsv : s.service = true)
    (hrun : s.feStopped = false) (hh : s.inHold = false) (hf : s.fresh cFE) :
    ∃ t, (s.feTrip b cause).done = .next t ∧ t.feState = feLOCKED ∧ t.fe.lockBits.contains b = true ∧ t.bit b = true ∧ Noted cFE 2 3 t
      ∧ FrameLog (b :: feFields ++ chgFields ++ judgedFields) 1 (evCode cFE 2 3) s t := by
  have hset : Readies [b] s (s.setB b true) := (Readies.refl _ s).setB true List.mem_cons_self
  have hready : (s.setB b true).ready := hs.setB true fun he => hb.apart (he ▸ List.mem_map_of_mem (by decide))
  have hclosed : (s.setB b true).inHold = false := hb.inHold.trans hh
  have hservice : (s.setB b true).service = true := hb.service.trans hsv
  have hreact := (feLock_reacts (bits := [b]) hclosed).readies
  have htrip : s.feTrip b cause = (((s.setB b true).feLock [b]).endCause cFE 2 cause).raiseLasting (tripEv cause) := by
    unfold State.feTrip
    simp only [hb.feStopped, hrun]
    rfl
  have hlocked : LockedOff ((s.setB b true).feLock [b]) := by
    refine ⟨hreact.ready hready (by decide), ?_, ?_, ?_, feLock_feState hready.1 hclosed (.inl hservice)⟩
    · exact (hreact.romUp (by decide)).trans (romUp_setB true hr fun he => hb.apart (he ▸ List.mem_map_of_mem (by decide)))
    · rw [State.fresh, hreact.getF (by decide), hb.getF (by decide)]
      exact hf
    · rw [State.inHold, State.pathMode, hreact.getF (by decide)]
      exact hclosed
  have hbits : b ∈ ((s.setB b true).feLock [b]).fe.lockBits := mem_feLock_lockBits hclosed (.inr ⟨hservice, List.mem_singleton.mpr rfl⟩)
  obtain ⟨t, hdone, hstate, hkeeps, hnoted, hkept, hstores, hlogged⟩ := hlocked.trips cause
  have hall := hset.undisturbed.stores.trans (hreact.undisturbed.stores.trans hstores)
  refine ⟨t, htrip ▸ hdone, hstate, by simpa using hkeeps b hbits, ?_, hnoted, ?_, hall, ?_⟩
  · have hbit : (s.setB b true).bit b = true := bit_setB_same _ _ _ hb.bit hs.1.1
    have hout : b.key ∉ tripFields.map Fld.key := fun hm => hb.apart (by rw [List.map_append]; exact List.mem_append_right _ hm)
    rw [State.bit, hkept b hout, hreact.getF fun hm => hout (by rw [tripFields, List.map_append]; exact List.mem_append_left _ hm)]
    exact hbit
  · refine (hset.undisturbed.kept.mono ?_).trans ((hreact.undisturbed.kept.mono ?_).trans (hkept.mono ?_))
    · exact fun _ hm => List.mem_map_of_mem (by simpa using .inl (List.mem_singleton.mp hm))
    · exact fun _ hm => List.mem_map_of_mem (List.mem_cons_of_mem _ (List.mem_append_left _ hm))
    · exact fun _ hm => List.mem_map_of_mem (List.mem_cons_of_mem _ hm)
  · exact (hlogged.after hreact.undisturbed.win hreact.undisturbed.logNext).after hset.undisturbed.win hset.undisturbed.logNext

theorem feVsysOv_locks (hs : s.ready) (hr : s.romUp = true) (hsv : s.service = true) (hnew : s.present cFE 2 1 = false)
    (hrun : s.feStopped = false) (hh : s.inHold = false) (hf : s.fresh cFE) :
    Completes .feVsysOv s fun t => t.feState = feLOCKED ∧ t.fe.lockBits.contains Reg.FE_FLT_vsys_ov = true
      ∧ t.bit Reg.FE_FLT_vsys_ov = true ∧ Noted cFE 2 3 t
      ∧ FrameLog (Reg.FE_FLT_vsys_ov :: feFields ++ chgFields ++ judgedFields) 1 (evCode cFE 2 3) s t := by
  obtain ⟨t, hdone, hends⟩ := feTrip_outside_hold (b := Reg.FE_FLT_vsys_ov) ⟨by decide, Nat.one_pos⟩ 1 hs hr hsv hrun hh hf
  have hexec : exec .feVsysOv s = (s.feTrip Reg.FE_FLT_vsys_ov 1).done := if_pos (by simp [hr, hnew])
  exact ⟨t, hexec.trans hdone, hends⟩

theorem feVdrvUv_locks (hs : s.ready) (hr : s.romUp = true) (hsv : s.service = true) (hnew : s.present cFE 2 4 = false)
    (hrun : s.feStopped = false) (hh : s.inHold = false) (hf : s.fresh cFE) :
    Completes .feVdrvUv s fun t => t.feState = feLOCKED ∧ t.bit Reg.FE_FLT_vdrv_uv = true ∧ Noted cFE 2 3 t
      ∧ FrameLog (Reg.FE_FLT_vdrv_uv :: feFields ++ chgFields ++ judgedFields) 1 (evCode cFE 2 3) s t := by
  obtain ⟨t, hdone, hstate, -, hends⟩ := feTrip_outside_hold (b := Reg.FE_FLT_vdrv_uv) ⟨by decide, Nat.one_pos⟩ 4 hs hr hsv hrun hh hf
  have hexec : exec .feVdrvUv s = (s.feTrip Reg.FE_FLT_vdrv_uv 4).done := if_pos (by simp [hr, hnew])
  exact ⟨t, hexec.trans hdone, hstate, hends⟩

end

end Sys2Proof.Machine
end

section
/-!
PROOFS. The third VHB over-voltage in a hold-up locks the front end off and ends the hold-up (R166, R171, R186, R193).
-/

namespace Sys2Proof.Machine

section
variable {s : State}

/-! The end of a hold-up. -/

theorem tryClose_readies (s : State) : Readies [] s s.tryClose := by
  have hordered : Readies [] s s.orderClose := .ite ((Readies.refl _ s).updPath _) (.refl _ s)
  exact .ite hordered (.refl _ s)

theorem shown_lt (s : State) : s.shown < 2 ^ Reg.SYS_STATE_state.w := by
  unfold State.shown
  split_ifs <;> decide

theorem shown_ne_fawn (s : State) : s.shown ≠ stFAWN := by
  unfold State.shown
  split_ifs <;> decide

theorem refresh_logs (s : State) : Logs stateFields s s.refresh := .ite (setState_logs s _) (.refl _ s)

theorem refresh_st_ne_fawn (hs : s.canonical) (h : s.st ≠ stFAWN) : s.refresh.st ≠ stFAWN := by
  unfold State.refresh
  split
  · rw [setState_st hs.1 (shown_lt s)]
    exact shown_ne_fawn s
  · exact h

/-- The end of a hold-up leaves FAWN to the rows that enter it. -/
theorem endIbex_st_ne_fawn (hs : s.canonical) (h : s.st ≠ stFAWN) : s.endIbex.st ≠ stFAWN := by
  unfold State.endIbex
  split
  · exact refresh_st_ne_fawn (setF_canonical _ _ _ hs) (by rw [State.st, updPath_getF, getF_setB_ne _ _ _ _ (by decide)]; exact h)
  · exact h

theorem endIbex_ibex (hs : s.canonical) : s.endIbex.bit Reg.SYS_RUN_STAT_ibex = false := by
  unfold State.endIbex
  split
  · exact ((refresh_logs _).bit (by decide)).trans (bit_setB_same s _ false Nat.one_pos hs.1)
  next h => simpa using h

/-! The path once the front end is locked off in a hold-up. -/

/-- The front end is locked off, with the bits that lock it. -/
def State.feHeldOff (s : State) (bits : List Fld) : State :=
  (s.setFe feLOCKED).updFe fun f => { f with lockBits := f.lockBits ++ bits.filter (fun b => !f.lockBits.contains b), revOrdered := false }

/-- ISW is open and the path in OPEN. -/
def State.pathLost (s : State) : State :=
  ((if s.bit Reg.PATH_STAT_isw_closed then s.openIsw.pathLog 0x20 else s.openIsw).setPath pOPEN).updPath fun p => { p with slewed := false }

theorem feLock_in_hold (hsv : s.service = true) (hmode : s.pathMode = pHOLD) (bits : List Fld) :
    s.feLock bits = (s.feHeldOff bits).pathLost.endIbex.tryClose := by
  have hheld : (s.feHeldOff bits).pathMode = pHOLD :=
    (updFe_getF _ _ _).trans (((setFe_readies s feLOCKED).getF (by decide)).trans hmode)
  have hlock : s.feLock bits = if [pHANDOVER, pHOLD, pRETURN].contains (s.feHeldOff bits).pathMode then
      (if (s.feHeldOff bits).pathMode = pHANDOVER then (s.feHeldOff bits).setB Reg.PATH_STAT_dwell true else
        s.feHeldOff bits).pathLost.endIbex.tryClose else s.feHeldOff bits := if_neg (by simp [hsv])
  rw [hlock, hheld, if_pos (by decide), if_neg (by decide)]

/-- What the path's end in OPEN changes. -/
def lostFields : List Fld := Reg.PATH_STAT_mode :: iswFields

/-- What was logged or not before the path enters OPEN. -/
theorem openIsw_logged (s : State) :
    Logs iswFields s (if s.bit Reg.PATH_STAT_isw_closed then s.openIsw.pathLog 0x20 else s.openIsw) :=
  .ite ((openIsw_readies s).logs.pathLog _) (openIsw_readies s).logs

theorem openIsw_logged_getF (s : State) (f : Fld) :
    (if s.bit Reg.PATH_STAT_isw_closed then s.openIsw.pathLog 0x20 else s.openIsw).getF f = s.openIsw.getF f := by
  split <;> rfl

theorem pathLost_logs (s : State) : Logs lostFields s s.pathLost :=
  ((openIsw_logged s).mono (by decide)).readies (((setPath_readies _ _).updPath _).mono (by decide))

/-- With the front end stopped, ISW opens alone. -/
theorem openIsw_of_locked (h : s.feState = feLOCKED) :
    s.openIsw = (s.setB Reg.PATH_STAT_isw_closed false).updPath fun p => { p with closing := none, held := false } := by
  refine if_neg ?_
  rw [State.feIn, State.feState, updPath_getF, getF_setB_ne _ _ _ _ (by decide)]
  simp [show s.getF Reg.FE_STAT_state = feLOCKED from h]

/-- Beyond the charger, the path's end in OPEN leaves what the opening of ISW left. -/
theorem pathLost_getF (h : s.feState = feLOCKED) {f : Fld} (hf : f.key ∉ (Reg.PATH_STAT_mode :: chgFields).map Fld.key) :
    s.pathLost.getF f = (s.setB Reg.PATH_STAT_isw_closed false).getF f := by
  refine ((((setPath_readies _ _).updPath _).getF hf).trans (openIsw_logged_getF s f)).trans ?_
  rw [openIsw_of_locked h, updPath_getF]

theorem pathLost_feState (h : s.feState = feLOCKED) : s.pathLost.feState = feLOCKED :=
  (pathLost_getF h (by decide)).trans ((getF_setB_ne _ _ _ _ (by decide)).trans h)

theorem pathLost_isw (hs : s.canonical) (h : s.feState = feLOCKED) : s.pathLost.bit Reg.PATH_STAT_isw_closed = false := by
  rw [State.bit, pathLost_getF h (by decide)]
  exact bit_setB_same s _ false Nat.one_pos hs.1

theorem setPath_pathMode (hs : s.canonical) {n : Nat} (hn : n < 2 ^ Reg.PATH_STAT_mode.w) : (s.setPath n).pathMode = n :=
  ((chgEval_readies _).getF (by decide)).trans ((getF_setF_same _ _ _ hs.1).trans (Nat.mod_eq_of_lt hn))

theorem pathLost_pathMode (hs : s.canonical) : s.pathLost.pathMode = pOPEN :=
  (updPath_getF _ _ _).trans (setPath_pathMode ((openIsw_logged s).canonical hs) (by decide))

/-! The trip. -/

/-- What the end of a hold-up by a lock changes. -/
def endFields : List Fld := ibexFields ++ lostFields

/-- The front end is locked off and the hold-up has ended in OPEN. -/
structure HoldEnded (s t : State) : Prop where
  logs : Logs endFields s t
  locked : t.feState = feLOCKED
  path : t.pathMode = pOPEN
  isw : t.bit Reg.PATH_STAT_isw_closed = false
  ibex : t.bit Reg.SYS_RUN_STAT_ibex = false
  awake : t.st ≠ stFAWN

theorem feLock_ends_hold (hs : s.canonical) (hsv : s.service = true) (hmode : s.pathMode = pHOLD) (hst : s.st ≠ stFAWN) (bits : List Fld) :
    HoldEnded s (s.feLock bits) := by
  have hheld : Readies (feFields ++ chgFields) s (s.feHeldOff bits) := (setFe_readies s feLOCKED).updFe _
  have hlocked : (s.feHeldOff bits).feState = feLOCKED := (updFe_getF _ _ _).trans (setFe_feState hs (by decide))
  rw [feLock_in_hold hsv hmode]
  generalize s.feHeldOff bits = a at hheld hlocked ⊢
  have hlost := pathLost_logs a
  have hca := hheld.canonical hs
  have hcl := hlost.canonical hca
  have hend := endIbex_logs a.pathLost
  have hclose := tryClose_readies a.pathLost.endIbex
  have hlater {f : Fld} (hf : f.key ∉ ibexFields.map Fld.key) : a.pathLost.endIbex.tryClose.getF f = a.pathLost.getF f :=
    (hclose.getF (by simp)).trans (hend.getF hf)
  have hawake : a.pathLost.st ≠ stFAWN := by
    rw [State.st, hlost.getF (by decide), hheld.getF (by decide)]
    exact hst
  refine ⟨?_, (hlater (by decide)).trans (pathLost_feState hlocked), (hlater (by decide)).trans (pathLost_pathMode hca), ?_, ?_, ?_⟩
  · exact (((hheld.logs.mono (by decide)).trans (hlost.mono (by decide))).trans (hend.mono (by decide))).readies
      (hclose.mono (List.nil_subset _))
  · rw [State.bit, hlater (by decide)]
    exact pathLost_isw hca hlocked
  · exact (hclose.bit (by simp)).trans (endIbex_ibex hcl)
  · rw [State.st, hclose.getF (by simp)]
    exact endIbex_st_ne_fawn hcl hawake

theorem LoggedOne.frameWide {m : List Fld} {kind code : Nat} {u t : State} (h : Logs m s u) (hk : Kept m u t) (hst : StoresKept u t)
    (hlog : LoggedOne kind code u t) : FrameWide [] m s t :=
  ⟨(h.kept.trans hk).keptBut fun _ hf => .inr (List.mem_map_of_mem hf), h.stores.trans hst, h.grows.trans hlog.logGrows⟩

/-- What the third VHB over-voltage in a hold-up changes. -/
def vhbFields : List Fld :=
  [Reg.FE_FLT_vhb_ov, Reg.PATH_STAT_mode, Reg.PATH_STAT_isw_closed, Reg.SYS_RUN_STAT_ibex] ++ stateFields ++ feFields ++ chgFields
    ++ judgedFields

theorem feVhbOv_ends_hold (hs : s.ready) (hr : s.romUp = true) (hrev : s.feState = feREV) (hov : s.fe.ovStop = false)
    (hmode : s.pathMode = pHOLD) (hst : s.st = stIBEX) (hf : s.fresh cFE) :
    Completes (.feVhbOv true) s fun t => t.feState = feLOCKED ∧ t.bit Reg.FE_FLT_vhb_ov = true ∧ t.pathMode = pOPEN
      ∧ t.bit Reg.SYS_RUN_STAT_ibex = false ∧ Noted cFE 2 3 t ∧ t.bit Reg.PATH_STAT_isw_closed = false ∧ FrameWide [] vhbFields s t := by
  have hset : Readies [Reg.FE_FLT_vhb_ov] s (s.setB Reg.FE_FLT_vhb_ov true) := (Readies.refl _ s).setB true List.mem_cons_self
  have hbit : (s.setB Reg.FE_FLT_vhb_ov true).bit Reg.FE_FLT_vhb_ov = true := bit_setB_same s _ true Nat.one_pos hs.1.1
  have hready : (s.setB Reg.FE_FLT_vhb_ov true).ready := hset.ready hs (by decide)
  have hup : (s.setB Reg.FE_FLT_vhb_ov true).romUp = true := romUp_setB true hr (by decide)
  have hstate : (s.setB Reg.FE_FLT_vhb_ov true).st = stIBEX := (hset.getF (by decide)).trans hst
  have hrev' : (s.setB Reg.FE_FLT_vhb_ov true).feState = feREV := (hset.getF (by decide)).trans hrev
  have hexec : exec (.feVhbOv true) s = ((((s.setB Reg.FE_FLT_vhb_ov true).feLock [Reg.FE_FLT_vhb_ov]).endCause cFE 2 2).raiseLasting
      (tripEv 2)).done := by
    have hrun : (s.setB Reg.FE_FLT_vhb_ov true).feStopped = false := by simp [State.feStopped, State.feIn, hrev']
    have htrip : exec (.feVhbOv true) s = (s.feTrip Reg.FE_FLT_vhb_ov 2).done := (if_pos (by simp [hrev, hov])).trans rfl
    rw [htrip, State.feTrip]
    simp only [hrun]
    rfl
  have hended := feLock_ends_hold hready.1 (by simp [State.service, State.stIn, hstate]) ((hset.getF (by decide)).trans hmode)
    (by rw [hstate]; decide) [Reg.FE_FLT_vhb_ov]
  have hfresh : (s.setB Reg.FE_FLT_vhb_ov true).fresh cFE := by
    rw [State.fresh, hset.getF (by decide)]
    exact hf
  generalize s.setB Reg.FE_FLT_vhb_ov true = u at hset hbit hready hup hexec hended hfresh
  generalize u.feLock [Reg.FE_FLT_vhb_ov] = v at hexec hended
  obtain ⟨hlogs, hlocked, hpath, hisw, hibex, hawake⟩ := hended
  have hoff : LockedOff v := by
    refine ⟨hlogs.ready hready (by decide), ?_, ?_, by simp [State.inHold, hpath], hlocked⟩
    · simp only [State.romUp, hlogs.live, hlogs.stage, Bool.and_eq_true, bne_iff_ne] at hup ⊢
      exact ⟨⟨hup.1.1, hawake⟩, hup.2⟩
    · rw [State.fresh, hlogs.getF (by decide)]
      exact hfresh
  obtain ⟨t, hdone, hstate, -, hnoted, hkept, hstores, hlogged⟩ := hoff.trips 2
  have hends {f : Fld} (hf : f.key ∉ tripFields.map Fld.key) : t.bit f = v.bit f := by rw [State.bit, hkept f hf, State.bit]
  refine ⟨t, hexec.trans hdone, hstate, ?_, (hkept _ (by decide)).trans hpath, ?_, hnoted, ?_, ?_⟩
  · rw [hends (by decide), hlogs.bit (by decide)]
    exact hbit
  · exact (hends (by decide)).trans hibex
  · exact (hends (by decide)).trans hisw
  · have hsub : endFields ⊆ vhbFields := by decide
    exact hlogged.frameWide ((hset.logs.mono (by decide)).trans (hlogs.mono hsub))
      (hkept.mono fun _ hm => List.mem_map_of_mem ((by decide : tripFields ⊆ vhbFields) hm)) hstores

end

end Sys2Proof.Machine
end

section
/-!
PROOFS. The front end.
-/

namespace Sys2Proof.Machine

/-- Settles O49: the rows without an event complete on what they set; a lasting cause at L1 and an open phase at L2 act on nothing
else; and an event of L3 finds the front end locked off already by its own row, so that its action only adds the same lock. -/
theorem frontEnd : Obligations.FrontEnd := by
  unfold Obligations.FrontEnd
  refine ⟨?_, ?_, ?_, ?_, ?_, ?_, ?_, ?_, ?_, ?_, ?_, ?_, ?_, ?_, ?_, ?_, ?_, ?_⟩
  · intro s hs h
    exact feStartRampDone_enters hs h
  · intro s hs h hoff
    exact feStopRampDone_stops hs h hoff
  · intro s hs h hord hfi
    exact feChangeDone_reverses hs h hord hfi
  · intro s hs h hord hisw hen hfi hmode
    exact feChangeDone_forwards hs h hord hisw hen hfi hmode
  · intro s hs h hord hisw
    exact feChangeDone_stops hs h hord hisw
  · intro vin s hs h hnone
    exact feRegionChange_follows vin hs h hnone
  · intro s hs hr hsv hnew hrun hmode hf
    exact feVsysOv_locks hs hr hsv hnew hrun hmode hf
  · intro s hs hr hsv hnew hrun hmode hf
    exact feVdrvUv_locks hs hr hsv hnew hrun hmode hf
  · intro s hs hr hrev hov hnew
    exact feVhbOv_skips hs hr hrev hov hnew
  · intro s hs hr hrev hov hmode _ hst hf
    exact feVhbOv_ends_hold hs hr hrev hov hmode hst hf
  · intro s hs h
    exact feVhbOvRelease_resumes hs h
  · intro p s hs hr h hnew
    exact feBootstrapUv_notes hs hr h hnew
  · intro p s hs hr h hall hov hf
    exact feOpenPhase_leaves hs hr h hall hov hf
  · intro p mA mV s hs hr h hlim hnew
    exact feIlimSustained_notes hs hr h hlim hnew
  · intro e s hs h hov
    exact feStepInhibitStart_holds e hs h hov
  · intro s hs
    exact feStepInhibitEnd_ends hs
  · intro s hs
    exact feRevHoldEnd_ends hs
  · intro s hs h hclear hoff
    exact feUnlock_frees hs h hclear hoff

end Sys2Proof.Machine
end

section
/-!
PROOFS. What a change of the charger's phase shows, and what decides whether a phase lasts (R197-R199, R202, R203, R205).
-/

namespace Sys2Proof.Machine

section
variable {m : List Fld} {s u : State} {p : Nat}

/-! The phase entered. -/

/-- The new phase with its event and interrupt. -/
def State.phaseShown (s : State) (p : Nat) : State :=
  s.setMany [(Reg.CHG_STAT_phase, p), (Reg.CHG_STAT_phase_evt, 1), (Reg.HOST_INT_STAT_chg, 1)]

/-- The new phase before BATFET and the targets follow it: DONE has its event, and outside TOPOFF no cell bleeds. -/
def State.phaseBegun (s : State) (p : Nat) : State :=
  let s := s.phaseShown p
  let s := if p = gDONE then s.setB Reg.CHG_STAT_done_evt true else s
  if p = gTOPOFF then s else (s.setB Reg.CHG_STAT_balancing false).updChg fun c => { c with bleeding := [] }

/-- What follows a phase: BATFET, the targets and the selector. -/
def targetFields : List Fld := [Reg.PATH_STAT_bf_mode, Reg.CHG_TGT_i_tgt, Reg.FE_VSYS_TGT_tgt, Reg.FE_STAT_loop]

theorem setChgPhase_after (h : s.chgPhase ≠ p) : Readies targetFields (s.phaseBegun p) (s.setChgPhase p) := by
  have hfollow : Readies targetFields (s.phaseBegun p) (s.phaseBegun p).batfet.retarget :=
    (((Readies.refl _ _).setF _ (by decide)).setF _ (by decide)).setF _ (by decide)
  rw [State.setChgPhase, if_neg h]
  exact .ite (hfollow.setF _ (by decide)).draw hfollow

theorem phaseBegun_readies (s : State) (p : Nat) :
    Readies [Reg.CHG_STAT_done_evt, Reg.CHG_STAT_balancing] (s.phaseShown p) (s.phaseBegun p) := by
  unfold State.phaseBegun
  extract_lets shown marked
  have hmarked : Readies [Reg.CHG_STAT_done_evt, Reg.CHG_STAT_balancing] shown marked :=
    .ite ((Readies.refl _ _).setB _ (by decide)) (.refl _ _)
  exact .ite hmarked ((hmarked.setB _ (by decide)).updChg _)

theorem setChgPhase_shows (h : s.chgPhase ≠ p) {f : Fld}
    (hf : f.key ∉ (targetFields ++ [Reg.CHG_STAT_done_evt, Reg.CHG_STAT_balancing]).map Fld.key) :
    (s.setChgPhase p).getF f = (s.phaseShown p).getF f := by
  rw [List.map_append, List.mem_append, not_or] at hf
  exact ((setChgPhase_after h).getF hf.1).trans ((phaseBegun_readies s p).getF hf.2)

theorem phaseShown_nodup (p : Nat) :
    ([(Reg.CHG_STAT_phase, p), (Reg.CHG_STAT_phase_evt, 1), (Reg.HOST_INT_STAT_chg, 1)].map fun q => q.1.key).Nodup := by
  have hkeys : ([Reg.CHG_STAT_phase, Reg.CHG_STAT_phase_evt, Reg.HOST_INT_STAT_chg].map Fld.key).Nodup := by decide
  exact hkeys

theorem setChgPhase_chgPhase (hs : s.canonical) (h : s.chgPhase ≠ p) (hp : p < 2 ^ Reg.CHG_STAT_phase.w) :
    (s.setChgPhase p).chgPhase = p :=
  (setChgPhase_shows h (by decide)).trans
    ((getF_setMany_mem (p := (Reg.CHG_STAT_phase, p)) hs.1 (phaseShown_nodup p) List.mem_cons_self).trans (Nat.mod_eq_of_lt hp))

theorem setChgPhase_phaseEvt (hs : s.canonical) (h : s.chgPhase ≠ p) : (s.setChgPhase p).bit Reg.CHG_STAT_phase_evt = true := by
  rw [State.bit, setChgPhase_shows h (by decide)]
  exact bit_setMany_mem (b := true) hs.1 (phaseShown_nodup p) Nat.one_pos (by simp)

theorem phaseShown_canonical (hs : s.canonical) (p : Nat) : (s.phaseShown p).canonical := setMany_canonical _ s hs

theorem setChgPhase_doneEvt (hs : s.canonical) (h : s.chgPhase ≠ gDONE) : (s.setChgPhase gDONE).bit Reg.CHG_STAT_done_evt = true :=
  ((setChgPhase_after h).bit (by decide)).trans
    ((bit_setB_ne _ _ _ _ (by decide)).trans (bit_setB_same _ _ true Nat.one_pos (phaseShown_canonical hs gDONE).1))

/-- The sinks are off outside TOPOFF (R202). -/
theorem setChgPhase_balancing (hs : s.canonical) (h : s.chgPhase ≠ p) (hp : p ≠ gTOPOFF) :
    (s.setChgPhase p).bit Reg.CHG_STAT_balancing = false := by
  have hmarked : Cells.wf (if p = gDONE then (s.phaseShown p).setB Reg.CHG_STAT_done_evt true else s.phaseShown p).fields = true := by
    split
    · exact setF_fields_wf _ _ _ (phaseShown_canonical hs p).1
    · exact (phaseShown_canonical hs p).1
  rw [(setChgPhase_after h).bit (by decide)]
  unfold State.phaseBegun
  dsimp only
  rw [if_neg hp]
  exact bit_setB_same _ _ false Nat.one_pos hmarked

theorem setChgPhase_sys (s : State) (p : Nat) : (s.setChgPhase p).sys = s.sys := (setChgPhase_roams s p).sys

theorem setChgPhase_gauge (s : State) (p : Nat) : (s.setChgPhase p).gauge = s.gauge := by
  simp [State.setChgPhase, State.batfet, State.retarget, State.fePick, State.draw, apply_ite State.gauge]

theorem setChgPhase_sbBuf (s : State) (p : Nat) : (s.setChgPhase p).sbBuf = s.sbBuf := by
  simp [State.setChgPhase, State.batfet, State.retarget, State.fePick, State.draw, apply_ite State.sbBuf]

/-! What holds a phase. -/

/-- What the suspend reasons beside the temperature are read from (R199). -/
def standingReads : List Fld := [Reg.PATH_STAT_mode, Reg.FE_STAT_state, Reg.SYS_STATE_state]

/-- Of the suspend reasons only the temperature has a bit of its own. -/
theorem Kept.suspended_eq (h : Kept m s u) (hm : ∀ f ∈ standingReads, f.key ∉ m.map Fld.key) :
    u.suspended = (s.suspSource || s.suspIbex || s.suspSafe || u.bit Reg.CHG_STAT_susp_temp) := by
  have hmode : u.pathMode = s.pathMode := h _ (hm _ (by decide))
  have hfe : u.feState = s.feState := h _ (hm _ (by decide))
  have hst : u.st = s.st := h _ (hm _ (by decide))
  have hsource : u.suspSource = s.suspSource := by rw [State.suspSource, State.feIn, hmode, hfe, State.suspSource, State.feIn]
  have hibex : u.suspIbex = s.suspIbex := by rw [State.suspIbex, hmode, State.suspIbex]
  have hsafe : u.suspSafe = s.suspSafe := by rw [State.suspSafe, hst, State.suspSafe]
  rw [State.suspended, hsource, hibex, hsafe]

theorem Kept.suspended (h : Kept m s u) (hm : ∀ f ∈ Reg.CHG_STAT_susp_temp :: standingReads, f.key ∉ m.map Fld.key) :
    u.suspended = s.suspended := by
  have htemp : u.bit Reg.CHG_STAT_susp_temp = s.bit Reg.CHG_STAT_susp_temp := by rw [State.bit, h _ (hm _ List.mem_cons_self), State.bit]
  rw [h.suspended_eq fun f hf => hm f (List.mem_cons_of_mem _ hf), htemp, State.suspended]

theorem chgBarred_congr (hflt : u.flt = s.flt) (hcut : u.getF Reg.PATH_FLT_cutoff = s.getF Reg.PATH_FLT_cutoff) :
    u.chgBarred = s.chgBarred := by
  simp only [State.chgBarred, State.causeOn, State.bit, hflt, hcut]

theorem chgEval_idle (hb : s.chgBarred = false) (hr : s.suspended = false) : s.chgEval = s := by
  simp [State.chgEval, hb, hr]

theorem chgEval_suspends (hin : s.chgIn [gQUAL, gPRE, gCC, gCV, gTOPOFF] = true) (hb : s.chgBarred = false) (hr : s.suspended = true) :
    s.chgEval = s.setChgPhase gSUSPEND := by
  simp [State.chgEval, hin, hb, hr]

/-- A new phase that no cause bars and no reason suspends stays. -/
theorem setChgPhase_lasts (hb : s.chgBarred = false) (hr : s.suspended = false) : (s.setChgPhase p).chgEval = s.setChgPhase p := by
  have hset := setChgPhase_readies s p
  exact chgEval_idle ((chgBarred_congr (setChgPhase_flt s p) (hset.getF (by decide))).trans hb)
    ((hset.undisturbed.kept.suspended (by decide)).trans hr)

theorem chgPhase_ne_of_chgIn {l : List Nat} (h : s.chgIn l = true) (hp : p ∉ l) : s.chgPhase ≠ p :=
  fun he => hp (he ▸ List.contains_iff_mem.mp h)

end

end Sys2Proof.Machine
end

section
/-!
PROOFS. The start of a write of the learned record (R231, R232).
-/

namespace Sys2Proof.Machine

section
variable {l m : List Fld} {s u t : State}

/-- The registers that show the record's banks. -/
def bankFields : List Fld := [Reg.GAUGE_STORE_a_valid, Reg.GAUGE_STORE_b_valid, Reg.GAUGE_STORE_newest]

/-- A write of the record has started with this cause, and the row has done nothing else. -/
structure SaveStarted (cause : Nat) (s t : State) : Prop where
  frame : FrameSave [] bankFields s t
  evs : t.flt.evs = s.flt.evs
  tests : t.age.live = s.age.live
  writing : (t.gauge.writing.map (·.cause)) = some cause

theorem SaveStarted.getF {cause : Nat} (h : SaveStarted cause s t) {f : Fld} (hf : f.key ∉ bankFields.map Fld.key) :
    t.getF f = s.getF f := h.frame.1 f List.not_mem_nil hf

theorem SaveStarted.quiet {cause : Nat} (h : SaveStarted cause s t) (hs : s.quiet) : t.quiet := by
  obtain ⟨hev, hdefer, hlive⟩ := hs
  refine ⟨h.evs.trans hev, ?_, h.tests.trans hlive⟩
  rwa [State.bit, h.getF (by decide)]

/-- The commit word of either bank stands within the record's area. -/
theorem commitWord_apart (b : Bool) {a : Nat} (h : a < mGAUGE ∨ mGAUGE + 0x1000 ≤ a) :
    a < bankAddr b + 0x7C ∨ bankAddr b + 0x7C + (leBytes 4 0).length ≤ a := by
  rw [leBytes_length]
  unfold bankAddr
  split <;> omega

theorem mramWrite_nvKept (s : State) (a : Nat) (bs : List Byte) : NvKept s (s.mramWrite a bs) :=
  ⟨rfl, fun _ hx => List.mem_of_mem_filter hx⟩

theorem putSave_starts (cause : Nat) (body : List Byte) (h : s.sys.vkeepLow = false) : SaveStarted cause s (s.putSave cause body) := by
  unfold State.putSave
  rw [if_neg (by simp [h])]
  extract_lets b q
  have hcleared : ∀ a, (a < mGAUGE ∨ mGAUGE + 0x1000 ≤ a) →
      memGet a (s.mramWrite (bankAddr b + 0x7C) (leBytes 4 0)).mram = memGet a s.mram :=
    fun a ha => memGet_memWrite_out _ _ _ _ (commitWord_apart b ha)
  have hnv := mramWrite_nvKept s (bankAddr b + 0x7C) (leBytes 4 0)
  have hshown := storeStat_acts ((s.mramWrite (bankAddr b + 0x7C) (leBytes 4 0)).updGauge fun g =>
    { g with writing := some ⟨b, cause, sealRecord q body⟩ })
  have honly := hshown.only
  refine ⟨⟨?_, ?_, ?_, ?_, ?_, ?_, ?_, ?_⟩, hshown.evs, ?_, ?_⟩
  · exact hshown.kept.keptBut fun _ hf => .inr (List.mem_map_of_mem hf)
  · rw [honly.mram]
    exact hcleared
  · exact honly.sbBuf
  · rw [honly.otp]
    rfl
  · unfold NvKept
    rw [honly.nv]
    exact hnv
  · exact honly.time
  · exact honly.pending
  · exact ⟨le_of_eq hshown.logNext.symm, fun a _ => by rw [hshown.win]; rfl⟩
  · rw [honly.age]
    rfl
  · rw [State.storeStat, setMany_gauge]
    rfl

theorem requestSave_starts (cause : Nat) (ha : s.sys.gaugeAlive = true) (hw : s.gauge.writing = none) (hv : s.sys.vkeepLow = false) :
    SaveStarted cause s (s.requestSave cause) := by
  have hsave : s.requestSave cause
      = (s.updGauge fun g => { g with idTag := s.getF Reg.GAUGE_PACK_tag }).putSave cause
          ((s.updGauge fun g => { g with idTag := s.getF Reg.GAUGE_PACK_tag }).recordBody cause) :=
    (if_pos ha).trans (if_neg (by simp [hw]))
  obtain ⟨hframe, hevs, htests, hwriting⟩ := putSave_starts (s := s.updGauge fun g => { g with idTag := s.getF Reg.GAUGE_PACK_tag })
    cause ((s.updGauge fun g => { g with idTag := s.getF Reg.GAUGE_PACK_tag }).recordBody cause) hv
  rw [hsave]
  exact ⟨hframe, hevs, htests, hwriting⟩

/-- A row that changed registers before it started the write. -/
theorem Readies.frameSave (h : Readies l s u) (hsb : u.sbBuf = s.sbBuf) (k : FrameSave [] m u t) : FrameSave [] (m ++ l) s t := by
  have hkept := h.undisturbed.kept
  obtain ⟨hmram, -, hotp, hnv, htime, hpend⟩ := h.undisturbed.stores
  obtain ⟨kkept, kmram, ksb, kotp, knv, ktime, kpend, kgrows⟩ := k
  refine ⟨?_, fun a ha => (kmram a ha).trans (hmram a), ksb.trans hsb, kotp.trans hotp, ?_, ktime.trans htime, kpend.trans hpend,
    h.logs.grows.trans kgrows⟩
  · refine (hkept.keptBut fun _ hf => .inr ?_).trans (kkept.mono (List.Subset.refl _) fun _ hf => .inr ?_)
    · exact List.mem_map_of_mem (List.mem_append_right _ hf)
    · exact List.mem_map_of_mem (List.mem_append_left _ hf)
  · rwa [NvKept, ← hnv]

end

end Sys2Proof.Machine
end

section
/-!
PROOFS. The rows of the charger that raise no event (R198-R200, R202, R231).
-/

namespace Sys2Proof.Machine

section
variable {s : State} {p : Nat}

/-! From phase to phase. -/

theorem chgStep_goes {i : Instr} {go : State → State} (hexec : exec i s = s.chgStep p go) (h : s.chgPhase = p)
    (hr : s.suspended = false) (hc : s.causeOn cCHG 0 = false) : exec i s = (go s).done :=
  hexec.trans (if_pos (by simp [h, hr, hc]))

/-- A row that only changes the phase. -/
theorem enters_phase {i : Instr} {q : Nat} (hexec : exec i s = (s.setChgPhase q).done) (hs : s.ready) (hne : s.chgPhase ≠ q)
    (hq : q < 2 ^ Reg.CHG_STAT_phase.w) :
    Completes i s fun t => t.chgPhase = q ∧ t.bit Reg.CHG_STAT_phase_evt = true ∧ Frame chgFields s t := by
  have hset := setChgPhase_readies s q
  exact hset.completes hs hexec (by decide)
    ⟨setChgPhase_chgPhase hs.1 hne hq, setChgPhase_phaseEvt hs.1 hne, hset.undisturbed.frame⟩

theorem chgQualDone_enters (cell : Nat) (hs : s.ready) (h : s.chgPhase = gQUAL) (hr : s.suspended = false)
    (hc : s.causeOn cCHG 0 = false) :
    Completes (.chgQualDone cell) s fun t => t.chgPhase = (if cell < s.getF Reg.CHG_VPRE_vpre then gPRE else gCC)
      ∧ t.bit Reg.CHG_STAT_phase_evt = true ∧ Frame chgFields s t := by
  have hexec : exec (.chgQualDone cell) s = (s.setChgPhase (if cell < s.getF Reg.CHG_VPRE_vpre then gPRE else gCC)).done :=
    chgStep_goes (go := fun t => t.setChgPhase (if cell < t.getF Reg.CHG_VPRE_vpre then gPRE else gCC)) rfl h hr hc
  refine enters_phase hexec hs ?_ ?_
  · rw [h]
    split <;> decide
  · split <;> decide

theorem chgPreToCc_enters (hs : s.ready) (h : s.chgPhase = gPRE) (hr : s.suspended = false) (hc : s.causeOn cCHG 0 = false) :
    Completes .chgPreToCc s fun t => t.chgPhase = gCC ∧ Frame chgFields s t := by
  have hexec : exec .chgPreToCc s = (s.setChgPhase gCC).done := chgStep_goes (go := fun t => t.setChgPhase gCC) rfl h hr hc
  obtain ⟨t, ht, hphase, -, hframe⟩ := enters_phase hexec hs (ne_of_eq_of_ne h (by decide)) (by decide)
  exact ⟨t, ht, hphase, hframe⟩

theorem chgCcToCv_enters (hs : s.ready) (h : s.chgPhase = gCC) (hr : s.suspended = false) (hc : s.causeOn cCHG 0 = false) :
    Completes .chgCcToCv s fun t => t.chgPhase = gCV ∧ Frame chgFields s t := by
  have hexec : exec .chgCcToCv s = (s.setChgPhase gCV).done := chgStep_goes (go := fun t => t.setChgPhase gCV) rfl h hr hc
  obtain ⟨t, ht, hphase, -, hframe⟩ := enters_phase hexec hs (ne_of_eq_of_ne h (by decide)) (by decide)
  exact ⟨t, ht, hphase, hframe⟩

theorem chgTopoffToDone_ends (hs : s.ready) (h : s.chgPhase = gTOPOFF) (hr : s.suspended = false) (hc : s.causeOn cCHG 0 = false) :
    Completes .chgTopoffToDone s fun t => t.chgPhase = gDONE ∧ t.bit Reg.CHG_STAT_done_evt = true
      ∧ t.bit Reg.CHG_STAT_balancing = false ∧ Frame chgFields s t := by
  have hne : s.chgPhase ≠ gDONE := by
    rw [h]
    decide
  have hset := setChgPhase_readies s gDONE
  have hexec : exec .chgTopoffToDone s = (s.setChgPhase gDONE).done :=
    chgStep_goes (go := fun t => t.setChgPhase gDONE) rfl h hr hc
  exact hset.completes hs hexec (by decide)
    ⟨setChgPhase_chgPhase hs.1 hne (by decide), setChgPhase_doneEvt hs.1 hne, setChgPhase_balancing hs.1 hne (by decide),
      hset.undisturbed.frame⟩

theorem chgRecharge_qualifies (hs : s.ready) (h : s.chgPhase = gDONE) (hr : s.suspended = false) (hb : s.chgBarred = false) :
    Completes (.chgRecharge true) s fun t => t.chgPhase = gQUAL ∧ t.bit Reg.CHG_STAT_rech_evt = true
      ∧ Frame (Reg.CHG_STAT_rech_evt :: chgFields) s t := by
  have hexec : exec (.chgRecharge true) s
      = ((s.setMany [(Reg.CHG_STAT_rech_evt, 1), (Reg.HOST_INT_STAT_chg, 1)]).setChgPhase gQUAL).chgEval.done := if_pos (by simp [h])
  have hset : Readies [Reg.CHG_STAT_rech_evt, Reg.HOST_INT_STAT_chg] s
      (s.setMany [(Reg.CHG_STAT_rech_evt, 1), (Reg.HOST_INT_STAT_chg, 1)]) :=
    (Readies.refl _ s).setMany _ rfl (List.Subset.refl _)
  have hbit : (s.setMany [(Reg.CHG_STAT_rech_evt, 1), (Reg.HOST_INT_STAT_chg, 1)]).bit Reg.CHG_STAT_rech_evt = true :=
    bit_setMany_mem (b := true) hs.1.1 (by decide) Nat.one_pos List.mem_cons_self
  have hflt : (s.setMany [(Reg.CHG_STAT_rech_evt, 1), (Reg.HOST_INT_STAT_chg, 1)]).flt = s.flt := setMany_flt _ _
  generalize s.setMany [(Reg.CHG_STAT_rech_evt, 1), (Reg.HOST_INT_STAT_chg, 1)] = u at hexec hset hbit hflt
  have hne : u.chgPhase ≠ gQUAL := by
    rw [State.chgPhase, hset.getF (by decide), show s.getF Reg.CHG_STAT_phase = gDONE from h]
    decide
  rw [setChgPhase_lasts ((chgBarred_congr hflt (hset.getF (by decide))).trans hb)
    ((hset.undisturbed.kept.suspended (by decide)).trans hr)] at hexec
  have hphase := setChgPhase_readies u gQUAL
  have hall : Readies (Reg.CHG_STAT_rech_evt :: chgFields) s (u.setChgPhase gQUAL) :=
    (hset.mono (by decide)).trans (hphase.mono (List.subset_cons_self _ _))
  exact hall.completes hs hexec (by decide)
    ⟨setChgPhase_chgPhase (hset.canonical hs.1) hne (by decide), (hphase.bit (by decide)).trans hbit, hall.undisturbed.frame⟩

theorem chgFaultRecover_qualifies (hs : s.ready) (h : s.chgPhase = gFAULT)
    (hclear : ([Reg.CHG_FLT_ov, Reg.CHG_FLT_ot, Reg.CHG_FLT_timer, Reg.CHG_FLT_pack_uv, Reg.CHG_FLT_removed].all fun f => !s.bit f) = true)
    (hc : s.causeOn cCHG 0 = false) (hcut : s.bit Reg.PATH_FLT_cutoff = false) (hr : s.suspended = false) :
    Completes .chgFaultRecover s fun t => t.chgPhase = gQUAL ∧ Frame chgFields s t := by
  have hexec : exec .chgFaultRecover s = (s.setChgPhase gQUAL).chgEval.done :=
    if_pos (by rw [hclear]; simp [h, hc, hcut])
  rw [setChgPhase_lasts (by simp [State.chgBarred, hc, hcut]) hr] at hexec
  have hset := setChgPhase_readies s gQUAL
  exact hset.completes hs hexec (by decide) ⟨setChgPhase_chgPhase hs.1 (h ▸ by decide) (by decide), hset.undisturbed.frame⟩

/-! Suspending. -/

theorem chgSuspend_suspends (temp : Bool) (hs : s.ready) (hin : s.chgIn [gQUAL, gPRE, gCC, gCV, gTOPOFF] = true)
    (hr : temp = true ∨ s.suspended = true) (hb : s.chgBarred = false) :
    Completes (.chgSuspend temp) s fun t => t.chgPhase = gSUSPEND ∧ (temp = true → t.bit Reg.CHG_STAT_susp_temp = true)
      ∧ Frame (Reg.CHG_STAT_susp_temp :: chgFields) s t := by
  have hexec : exec (.chgSuspend temp) s = (if temp then s.setB Reg.CHG_STAT_susp_temp true else s).chgEval.done := rfl
  have hset : Readies [Reg.CHG_STAT_susp_temp] s (if temp then s.setB Reg.CHG_STAT_susp_temp true else s) :=
    .ite ((Readies.refl _ s).setB _ List.mem_cons_self) (.refl _ s)
  have hflt : (if temp then s.setB Reg.CHG_STAT_susp_temp true else s).flt = s.flt := by split <;> rfl
  have hbit (ht : temp = true) : (if temp then s.setB Reg.CHG_STAT_susp_temp true else s).bit Reg.CHG_STAT_susp_temp = true := by
    rw [if_pos ht]
    exact bit_setB_same s _ true Nat.one_pos hs.1.1
  have hreason : (if temp then s.setB Reg.CHG_STAT_susp_temp true else s).suspended = true := by
    by_cases ht : temp = true
    · rw [State.suspended, hbit ht, Bool.or_true]
    · rw [if_neg ht]
      exact hr.resolve_left ht
  generalize (if temp then s.setB Reg.CHG_STAT_susp_temp true else s) = u at hexec hset hflt hbit hreason
  have hphase : u.chgPhase = s.chgPhase := hset.getF (by decide)
  have hinu : u.chgIn [gQUAL, gPRE, gCC, gCV, gTOPOFF] = true := by rwa [State.chgIn, hphase]
  rw [chgEval_suspends hinu ((chgBarred_congr hflt (hset.getF (by decide))).trans hb) hreason] at hexec
  have hsuspend := setChgPhase_readies u gSUSPEND
  have hall : Readies (Reg.CHG_STAT_susp_temp :: chgFields) s (u.setChgPhase gSUSPEND) :=
    (hset.mono (by decide)).trans (hsuspend.mono (List.subset_cons_self _ _))
  exact hall.completes hs hexec (by decide)
    ⟨setChgPhase_chgPhase (hset.canonical hs.1) (chgPhase_ne_of_chgIn hinu (by decide)) (by decide),
      fun ht => (hsuspend.bit (by decide)).trans (hbit ht), hall.undisturbed.frame⟩

theorem chgSuspendEnd_qualifies (hs : s.ready) (h : s.chgPhase = gSUSPEND) (hsource : s.suspSource = false) (hibex : s.suspIbex = false)
    (hsafe : s.suspSafe = false) (hb : s.chgBarred = false) :
    Completes .chgSuspendEnd s fun t => t.chgPhase = gQUAL ∧ t.bit Reg.CHG_STAT_susp_temp = false
      ∧ Frame (Reg.CHG_STAT_susp_temp :: chgFields) s t := by
  have hset : Readies [Reg.CHG_STAT_susp_temp] s (s.setB Reg.CHG_STAT_susp_temp false) := (Readies.refl _ s).setB _ List.mem_cons_self
  have hbit : (s.setB Reg.CHG_STAT_susp_temp false).bit Reg.CHG_STAT_susp_temp = false := bit_setB_same s _ false Nat.one_pos hs.1.1
  have hends : (s.setB Reg.CHG_STAT_susp_temp false).suspended = false := by
    rw [hset.undisturbed.kept.suspended_eq (by decide), hsource, hibex, hsafe, hbit]
    rfl
  have hc : s.causeOn cCHG 0 = false := by
    simp only [State.chgBarred, Bool.or_eq_false_iff] at hb
    exact hb.1
  have hexec : exec .chgSuspendEnd s = ((s.setB Reg.CHG_STAT_susp_temp false).setChgPhase gQUAL).done := if_pos (by simp [h, hends, hc])
  have hne : (s.setB Reg.CHG_STAT_susp_temp false).chgPhase ≠ gQUAL := by
    rw [State.chgPhase, hset.getF (by decide), show s.getF Reg.CHG_STAT_phase = gSUSPEND from h]
    decide
  generalize s.setB Reg.CHG_STAT_susp_temp false = u at hset hbit hexec hne
  have hphase := setChgPhase_readies u gQUAL
  have hall : Readies (Reg.CHG_STAT_susp_temp :: chgFields) s (u.setChgPhase gQUAL) :=
    (hset.mono (by decide)).trans (hphase.mono (List.subset_cons_self _ _))
  exact hall.completes hs hexec (by decide)
    ⟨setChgPhase_chgPhase (hset.canonical hs.1) hne (by decide), (hphase.bit (by decide)).trans hbit, hall.undisturbed.frame⟩

/-! Bleeding. -/

theorem balanceWindow_bleeds (v : List Int) (hs : s.ready) (h : s.chgPhase = gTOPOFF) (hen : s.bit Reg.CHG_CTRL_bal_en = true)
    (hv : (List.range s.cells).mapM (fun k => s.chan (28 + k)) = some v) :
    Completes (.balanceWindow true) s fun t => t.chg.bleeding = bleeders (s.getF Reg.CHG_TOPOFF_bal_delta) s.chg.bleeding v
      ∧ t.bit Reg.CHG_STAT_balancing = !(bleeders (s.getF Reg.CHG_TOPOFF_bal_delta) s.chg.bleeding v).isEmpty
      ∧ Frame [Reg.CHG_STAT_balancing] s t := by
  have hexec : exec (.balanceWindow true) s
      = ((s.updChg fun c => { c with bleeding := bleeders (s.getF Reg.CHG_TOPOFF_bal_delta) s.chg.bleeding v }).setB
          Reg.CHG_STAT_balancing (!(bleeders (s.getF Reg.CHG_TOPOFF_bal_delta) s.chg.bleeding v).isEmpty)).done := by
    refine (if_pos h).trans ((if_pos (by simp [hen])).trans ?_)
    rw [hv]
  have hset : Readies [Reg.CHG_STAT_balancing] s
      ((s.updChg fun c => { c with bleeding := bleeders (s.getF Reg.CHG_TOPOFF_bal_delta) s.chg.bleeding v }).setB
          Reg.CHG_STAT_balancing (!(bleeders (s.getF Reg.CHG_TOPOFF_bal_delta) s.chg.bleeding v).isEmpty)) :=
    ((Readies.refl _ s).updChg _).setB _ List.mem_cons_self
  exact hset.completes hs hexec (by decide) ⟨rfl, bit_setB_same _ _ _ Nat.one_pos hs.1.1, hset.undisturbed.frame⟩

theorem balanceWindow_stops (hs : s.ready) (h : s.chgPhase = gTOPOFF) :
    Completes (.balanceWindow false) s fun t => t.bit Reg.CHG_STAT_balancing = false ∧ Frame [Reg.CHG_STAT_balancing] s t := by
  have hset : Readies [Reg.CHG_STAT_balancing] s (s.setB Reg.CHG_STAT_balancing false) := (Readies.refl _ s).setB _ List.mem_cons_self
  exact hset.completes hs (if_pos h) (by decide) ⟨bit_setB_same _ _ _ Nat.one_pos hs.1.1, hset.undisturbed.frame⟩

/-! The end of CV, with its save of the learned record (R231). -/

theorem chgCvToTopoff_saves (hs : s.ready) (h : s.chgPhase = gCV) (hr : s.suspended = false) (hc : s.causeOn cCHG 0 = false)
    (htime : s.getF Reg.CHG_TOPOFF_t_topoff ≠ 0) (ha : s.sys.gaugeAlive = true) (hw : s.gauge.writing = none)
    (hv : s.sys.vkeepLow = false) :
    Completes .chgCvToTopoff s fun t => t.chgPhase = gTOPOFF ∧ (t.gauge.writing.map (·.cause)) = some 2
      ∧ FrameSave [] (bankFields ++ chgFields) s t := by
  have hne : s.chgPhase ≠ gTOPOFF := by
    rw [h]
    decide
  have hset := setChgPhase_readies s gTOPOFF
  have hsave : SaveStarted 2 (s.setChgPhase gTOPOFF) ((s.setChgPhase gTOPOFF).requestSave 2) :=
    requestSave_starts 2 (by rw [setChgPhase_sys]; exact ha) (by rw [setChgPhase_gauge]; exact hw) (by rw [setChgPhase_sys]; exact hv)
  have htopoff : ((s.setChgPhase gTOPOFF).requestSave 2).getF Reg.CHG_TOPOFF_t_topoff ≠ 0 := by
    rw [hsave.getF (by decide), hset.getF (by decide)]
    exact htime
  have hexec : exec .chgCvToTopoff s = ((s.setChgPhase gTOPOFF).requestSave 2).done :=
    (chgStep_goes (go := fun t => if ((t.setChgPhase gTOPOFF).requestSave 2).getF Reg.CHG_TOPOFF_t_topoff = 0
      then ((t.setChgPhase gTOPOFF).requestSave 2).setChgPhase gDONE else (t.setChgPhase gTOPOFF).requestSave 2) rfl h hr hc).trans
      (congrArg State.done (if_neg htopoff))
  refine ⟨_, hexec.trans (done_quiet _ (hsave.quiet (hset.ready hs (by decide)).2)), ?_, hsave.writing,
    hset.frameSave (setChgPhase_sbBuf _ _) hsave.frame⟩
  exact (hsave.getF (by decide)).trans (setChgPhase_chgPhase hs.1 hne (by decide))

end

end Sys2Proof.Machine
end

section
/-!
PROOFS. The charger's faults: their event finds the charger in FAULT already (R198, R201, R203, R280, R283).
-/

namespace Sys2Proof.Machine

section
variable {s : State} {b : Fld} {cause lvl : Nat}

/-- An event of the charger (R203). -/
def chgEv (cause lvl : Nat) : Ev := { cls := cCHG, src := 0, lvl := lvl, cause := cause }

/-- The L3 action on the charger takes it to FAULT, where it stands. -/
theorem actL3_charger (h : s.chgPhase = gFAULT) : s.actL3 (chgEv cause lvl) = s := by
  simp [State.actL3, State.l3Entries, chgEv, State.each, State.groupOff, State.chgToFault, State.chgIn, h]

theorem acted_charger (h : s.chgPhase = gFAULT) (hl : lvl ≤ 3) : s.acted (chgEv cause lvl, lvl) = s := by
  have h2 (u : State) : u.actL2 (chgEv cause lvl) = u := if_neg (by simp [chgEv])
  have h4 : lvl ≠ 4 := by omega
  have h5 : lvl ≠ 5 := by omega
  simp [State.acted, h2, h4, h5, actL3_charger h]

/-- The charger in FAULT with the bit of its cause, which nothing else of the row reads or writes. -/
def State.chgFailed (s : State) (b : Fld) : State := (s.setB b true).chgToFault

theorem chgFailed_readies (s : State) (b : Fld) : Readies (b :: chgFields) s (s.chgFailed b) := by
  have hset : Readies (b :: chgFields) s (s.setB b true) := (Readies.refl _ s).setB true List.mem_cons_self
  exact .ite (hset.trans ((setChgPhase_readies _ _).mono (List.subset_cons_self _ _))) hset

theorem chgFailed_eq (hb : TripBit b) (hin : s.chgIn [gQUAL, gPRE, gCC, gCV, gTOPOFF, gSUSPEND] = true) :
    s.chgFailed b = (s.setB b true).setChgPhase gFAULT :=
  if_pos (by rwa [State.chgIn, State.chgPhase, hb.getF (by decide)])

theorem chgFailed_chgPhase (hb : TripBit b) (hs : s.canonical) (hin : s.chgIn [gQUAL, gPRE, gCC, gCV, gTOPOFF, gSUSPEND] = true) :
    (s.chgFailed b).chgPhase = gFAULT := by
  rw [chgFailed_eq hb hin]
  refine setChgPhase_chgPhase (setF_canonical _ _ _ hs) ?_ (by decide)
  rw [State.chgPhase, hb.getF (by decide)]
  exact chgPhase_ne_of_chgIn hin (by decide)

theorem chgFailed_bit (hb : TripBit b) (hs : s.canonical) : (s.chgFailed b).bit b = true := by
  have hset : (s.setB b true).bit b = true := bit_setB_same s b true hb.bit hs.1
  have hapart : b.key ∉ chgFields.map Fld.key := fun hm => hb.apart (List.map_subset _ (by decide) hm)
  unfold State.chgFailed State.chgToFault
  split
  · exact ((setChgPhase_readies _ _).bit hapart).trans hset
  · exact hset

theorem chgFailed_flt (s : State) (b : Fld) : (s.chgFailed b).flt = s.flt := by
  simp [State.chgFailed, State.chgToFault, apply_ite State.flt]

/-- What else the row reads stands apart from what it changes before its event. -/
theorem TripBit.outside (hb : TripBit b) {f : Fld} (hf : f ∈ tripReads ++ tripFields) (hc : f.key ∉ chgFields.map Fld.key) :
    f.key ∉ (b :: chgFields).map Fld.key := by
  rw [List.map_cons, List.mem_cons, not_or]
  exact ⟨fun he => hb.apart (he ▸ List.mem_map_of_mem hf), hc⟩

/-- A fault of the charger at L1, or of an acknowledged class, ends with the charger in FAULT, its bit and its event. -/
theorem chgFail_faults (hb : TripBit b) (hs : s.ready) (hr : s.romUp = true)
    (hin : s.chgIn [gQUAL, gPRE, gCC, gCV, gTOPOFF, gSUSPEND] = true) (hnew : s.present cCHG 0 cause = false) (h1 : 1 ≤ lvl)
    (h3 : lvl ≤ 3) (hf : lvl < 2 ∨ s.fresh cCHG) :
    ∃ t, (s.chgFail b cause lvl).done = .next t ∧ t.chgPhase = gFAULT ∧ t.bit b = true ∧ Noted cCHG 0 lvl t
      ∧ FrameLog (b :: chgFields ++ (classFields lvl ++ pinFields)) 1 (evCode cCHG 0 lvl) s t := by
  have hset := chgFailed_readies s b
  have hready : (s.chgFailed b).ready := hset.ready hs (hb.outside (by decide) (by decide))
  have hup : (s.chgFailed b).romUp = true := (hset.romUp (hb.outside (by decide) (by decide))).trans hr
  have hgone : (s.chgFailed b).present cCHG 0 cause = false := by rwa [State.present, chgFailed_flt]
  have hown : (s.chgFailed b).effective (chgEv cause lvl) = lvl := by
    rcases hf with hlow | hfresh
    · exact effective_of_low _ hlow
    · refine effective_of_fresh ?_
      rw [State.fresh, hset.getF (hb.outside (by decide) (by decide))]
      exact hfresh
  have hwaits : Waits (chgEv cause lvl) ((s.chgFailed b).raiseLasting (chgEv cause lvl)) :=
    waits_raiseLasting hready hgone hup hown ⟨h3.trans (by decide), (by decide : cCHG < 16), (by decide : 0 < 128)⟩
  have hframe := hset.undisturbed.raiseLasting (chgEv cause lvl)
  have hsame (f : Fld) : ((s.chgFailed b).raiseLasting (chgEv cause lvl)).getF f = (s.chgFailed b).getF f := by
    rw [raiseLasting_eq hgone hup, updFlt_getF]
  show ∃ t, ((s.chgFailed b).raiseLasting (chgEv cause lvl)).done = .next t ∧ _
  generalize (s.chgFailed b).raiseLasting (chgEv cause lvl) = v at hwaits hframe hsame ⊢
  have hclass : Kept judgedFields v (v.classified (chgEv cause lvl)) :=
    hwaits.classified.kept.mono fun _ hm => List.mem_map_of_mem (classFields_judged lvl (List.mem_append_left _ hm))
  have hfault : (v.classified (chgEv cause lvl)).chgPhase = gFAULT :=
    (hclass _ (by decide)).trans ((hsame _).trans (chgFailed_chgPhase hb hs.1 hin))
  have hacts : Acts [] (v.classified (chgEv cause lvl)) ((v.classified (chgEv cause lvl)).acted (chgEv cause lvl, lvl)) := by
    rw [acted_charger hfault h3]
    exact .refl _ _
  obtain ⟨t, hdone, hev⟩ := hwaits.done hacts (by simp)
  have hkept {f : Fld} (hm : f.key ∉ judgedFields.map Fld.key) : t.getF f = (s.chgFailed b).getF f :=
    (hev.kept f fun hc => hm (List.map_subset _ (classFields_judged lvl) hc)).trans (hsame f)
  refine ⟨t, hdone, (hkept (by decide)).trans (chgFailed_chgPhase hb hs.1 hin), ?_, hev.noted h1, hev.frameLog hframe⟩
  rw [State.bit, hkept fun hm => hb.apart (List.map_subset _ (by decide) hm)]
  exact chgFailed_bit hb hs.1

/-! The rows. -/

/-- The bit, the number and the level of a cause (R203). -/
def faultBit : ChgCause → Fld
  | .ov => Reg.CHG_FLT_ov
  | .ot => Reg.CHG_FLT_ot
  | .packUv => Reg.CHG_FLT_pack_uv

def faultNumber : ChgCause → Nat
  | .ov => 0
  | .ot => 1
  | .packUv => 3

def faultLevel : ChgCause → Nat
  | .ov => 3
  | .ot => 2
  | .packUv => 1

theorem faultBit_apart (c : ChgCause) : TripBit (faultBit c) := by
  cases c <;> exact ⟨by decide, Nat.one_pos⟩

theorem chgFault_faults (c : ChgCause) (hs : s.ready) (hr : s.romUp = true)
    (hin : s.chgIn [gQUAL, gPRE, gCC, gCV, gTOPOFF, gSUSPEND] = true) (hov : c = .ov → s.getF Reg.PATH_STAT_bf_mode = 2)
    (huv : c = .packUv → s.chgIn [gQUAL, gPRE] = true) (hnew : s.present cCHG 0 (faultNumber c) = false) (hf : s.fresh cCHG) :
    Completes (.chgFault c) s fun t => t.chgPhase = gFAULT ∧ t.bit (faultBit c) = true ∧ Noted cCHG 0 (faultLevel c) t
      ∧ FrameLog (faultBit c :: chgFields ++ judgedFields) 1 (evCode cCHG 0 (faultLevel c)) s t := by
  have hexec : exec (.chgFault c) s = (s.chgFail (faultBit c) (faultNumber c) (faultLevel c)).done := by
    refine (if_neg (by simp [hr])).trans ?_
    cases c with
    | ov => exact if_pos (hov rfl)
    | ot => rfl
    | packUv => exact if_pos (huv rfl)
  obtain ⟨t, hdone, hphase, hbit, hnoted, hframe⟩ :=
    chgFail_faults (lvl := faultLevel c) (faultBit_apart c) hs hr hin hnew (by cases c <;> decide) (by cases c <;> decide) (.inr hf)
  refine ⟨t, hexec.trans hdone, hphase, hbit, hnoted, hframe.mono (List.append_subset.mpr ⟨List.subset_append_left _ _, ?_⟩)⟩
  exact fun _ hm => List.mem_append_right _ (classFields_judged _ hm)

theorem chgSafetyTimerExpiry_faults (hs : s.ready) (hr : s.romUp = true) (hin : s.chgIn [gPRE, gCC, gCV] = true)
    (hnew : s.present cCHG 0 2 = false) :
    Completes .chgSafetyTimerExpiry s fun t => t.chgPhase = gFAULT ∧ t.bit Reg.CHG_FLT_timer = true ∧ Noted cCHG 0 1 t
      ∧ FrameLog (Reg.CHG_FLT_timer :: chgFields ++ noteFields) 1 (evCode cCHG 0 1) s t := by
  have hactive : s.chgIn [gQUAL, gPRE, gCC, gCV, gTOPOFF, gSUSPEND] = true :=
    List.contains_iff_mem.mpr ((by decide : [gPRE, gCC, gCV] ⊆ [gQUAL, gPRE, gCC, gCV, gTOPOFF, gSUSPEND]) (List.contains_iff_mem.mp hin))
  obtain ⟨t, hdone, hphase, hbit, hnoted, hframe⟩ := chgFail_faults (b := Reg.CHG_FLT_timer) (cause := 2) (lvl := 1)
    ⟨by decide, Nat.one_pos⟩ hs hr hactive hnew (by decide) (by decide) (.inl (by decide))
  have hexec : exec .chgSafetyTimerExpiry s = (s.chgFail Reg.CHG_FLT_timer 2 1).done := if_pos hin
  refine ⟨t, hexec.trans hdone, hphase, hbit, hnoted, hframe.mono (List.append_subset.mpr ⟨List.subset_append_left _ _, ?_⟩)⟩
  exact fun _ hm => List.mem_append_right _ (classFields_low (by decide) hm)

end

end Sys2Proof.Machine
end

section
/-!
PROOFS. The charger.
-/

namespace Sys2Proof.Machine

/-- Settles O51: the rows without an event complete on the phase they enter, which no cause bars and no reason suspends; a fault finds
the charger in FAULT by its own row, so that the action of its event up to L3 changes nothing. -/
theorem charger : Obligations.Charger := by
  unfold Obligations.Charger
  refine ⟨?_, ?_, ?_, ?_, ?_, ?_, ?_, ?_, ?_, ?_, ?_, ?_, ?_⟩
  · intro cell s hs h hr hc
    exact chgQualDone_enters cell hs h hr hc
  · intro s hs h hr hc
    exact chgPreToCc_enters hs h hr hc
  · intro s hs h hr hc
    exact chgCcToCv_enters hs h hr hc
  · intro s hs h hr hc htime ha hw hv
    exact chgCvToTopoff_saves hs h hr hc htime ha hw hv
  · intro s hs h hr hc
    exact chgTopoffToDone_ends hs h hr hc
  · intro s hs h hr hb
    exact chgRecharge_qualifies hs h hr hb
  · intro temp s hs hin hr hb
    exact chgSuspend_suspends temp hs hin hr hb
  · intro s hs h hsource hibex hsafe hb
    exact chgSuspendEnd_qualifies hs h hsource hibex hsafe hb
  · intro c s hs hr hin hov huv hnew hf
    cases c with
    | ov => exact chgFault_faults .ov hs hr hin hov huv hnew hf
    | ot => exact chgFault_faults .ot hs hr hin hov huv hnew hf
    | packUv => exact chgFault_faults .packUv hs hr hin hov huv hnew hf
  · intro s hs hr hin hnew
    exact chgSafetyTimerExpiry_faults hs hr hin hnew
  · intro s hs h hov hot htimer huv hremoved hc hcut hr
    exact chgFaultRecover_qualifies hs h (by simp [hov, hot, htimer, huv, hremoved]) hc hcut hr
  · intro v s hs h hen hv
    exact balanceWindow_bleeds v hs h hen hv
  · intro s hs h
    exact balanceWindow_stops hs h

end Sys2Proof.Machine
end

section
/-!
PROOFS. The removal of the battery in a hand-over (R187, R206, R207, R228).
-/

namespace Sys2Proof.Machine

/-- A running device in a hand-over: ISW has opened, and the front end supplies VHB from the battery in REV before the mode is HOLD
(R187). -/
def handingOver : State :=
  { State.reset with
    sys := { State.reset.sys with stage := .done, run := true }
    fields := [(Reg.SYS_STATE_state.key, stRUN), (Reg.FE_STAT_state.key, feREV), (Reg.PATH_STAT_mode.key, pHANDOVER),
      (Reg.PATH_STAT_batt_present.key, 1), (Reg.PATH_STAT_bf_mode.key, 1)] }

/-- Without the battery REV ends at once, while the hand-over goes on. -/
theorem batteryPresenceLoss_handingOver :
    (match exec .batteryPresenceLoss handingOver with
      | .next t => t.feState
      | _ => feREV) = feOFF := by
  decide +kernel

/-- Refutes O52: its fifth part keeps every field of the front end when presence falls, and excludes HOLD and RETURN but not the
hand-over before them; there the front end runs in REV and stops with the pack, so FE_STAT.state changes. -/
theorem not_batteryAndGauge : ¬ Obligations.BatteryAndGauge := by
  unfold Obligations.BatteryAndGauge
  rintro ⟨-, -, -, -, hloss, -⟩
  obtain ⟨t, ht, -, -, -, hkept, -⟩ := hloss handingOver (by decide) rfl (by decide) rfl (by decide) (by decide) (by decide)
  have h := batteryPresenceLoss_handingOver
  rw [ht] at h
  exact absurd ((hkept Reg.FE_STAT_state (by decide) (by decide)).symm.trans h) (by decide)

end Sys2Proof.Machine
end

section
/-!
PROOFS. ENABLE where the boot stage is the dead hold.
-/

namespace Sys2Proof.Machine

/-- ENABLE of LDO 0 by the host, posted in the tick before. -/
def enableLdoPosted : Taken :=
  { port := .host, tag := 0, opcode := 0x0803, force := false, ptr := false, rptr := false, raddr := 0, rcap := 0, cookie := 0,
    payload := [1, 0, 0, 0], stamp := 0, auth := 0x7FFF }

/-- A device that shows STANDBY while its boot stage is the dead hold of R92, in which no output may start; ENABLE of LDO 0 is the only
command in progress. The dead hold itself shows BOOT. -/
def deadInStandby : State :=
  { State.reset with
    sys := { State.reset.sys with stage := .dead }
    time := 1
    mbx := { State.reset.mbx with taken := [enableLdoPosted] }
    fields := [(Reg.SYS_STATE_state.key, stSTANDBY), (Reg.MBX_STAT_ready.key, 1)] }

theorem deadInStandby_turn : deadInStandby.turn .host 0 enableLdoPosted 0x0803 (leBytes 2 (2 ^ 0) ++ [0, 0]) := by
  refine ⟨⟨rfl, rfl, rfl, by decide, by decide +kernel, ?_, ?_⟩, rfl, rfl, rfl⟩
  · exact fun h => absurd h (by decide)
  · exact fun h => absurd h (by decide)

/-- The enable is set, but the LDO stays off. -/
theorem enable_deadInStandby :
    (match exec (.enable .host 0) deadInStandby with
      | .next t => t.ldoState 0
      | _ => lRAMP) = lOFF := by
  decide +kernel

/-- Refutes O27: its first part asks what the ENABLE needs of the mailbox and of SYS_STATE.state, but not that the boot stage is another
than the dead hold, in which no output starts (R92); there the LDO stays off. -/
theorem not_enableCommands : ¬ Obligations.EnableCommands := by
  unfold Obligations.EnableCommands
  rintro ⟨henable, -, -⟩
  obtain ⟨t, ht, -, hramp, -⟩ :=
    henable .host 0 0 enableLdoPosted deadInStandby (by decide) deadInStandby_turn rfl rfl (by decide) rfl rfl
  have h := enable_deadInStandby
  rw [ht] at h
  exact absurd (hramp.symm.trans h) (by decide)

end Sys2Proof.Machine
end

section
/-!
PROOFS. A new state of an LDO or of an ISO channel: what it changes, and what it leaves of the events that wait (R243-R246, R253,
R254).
-/

namespace Sys2Proof.Machine

section
variable {l m : List Fld} {s t u : State}

/-! Actions that reach beyond the registers. -/

theorem Reacts.refl (l : List Fld) (s : State) : Reacts l s s := ⟨.refl l s, rfl⟩

theorem Reacts.trans (h : Reacts l s t) (k : Reacts l t u) : Reacts l s u := ⟨h.readies.trans k.readies, k.stats.trans h.stats⟩

theorem Reacts.mono (h : Reacts l s t) (hl : l ⊆ m) : Reacts m s t := { h with readies := h.readies.mono hl }

theorem Acts.reacts (h : Acts l s t) : Reacts l s t := ⟨h.readies, h.stats⟩

/-- A change of the LDOs' work or of the start queue, which no register shows. -/
theorem Reacts.unshown (h : Reacts l s t) (hu : u = { t with ldos := u.ldos, isoQueue := u.isoQueue }) : Reacts l s u := by
  refine h.trans ?_
  rw [hu]
  exact ⟨⟨(Undisturbed.refl l t).inner rfl (.refl t) rfl rfl, id, rfl, rfl, rfl, rfl⟩, rfl⟩

theorem Reacts.each (h : Reacts l s t) {xs : List Nat} {g : Nat → State → State} (hg : ∀ x ∈ xs, ∀ u, Reacts l u (g x u)) :
    Reacts l s (t.each xs g) := by
  induction xs generalizing t with
  | nil => exact h
  | cons x xs ih => exact ih (h.trans (hg x List.mem_cons_self t)) fun y hy => hg y (List.mem_cons_of_mem _ hy)

theorem Reacts.getF (h : Reacts l s t) {f : Fld} (hf : f.key ∉ l.map Fld.key) : t.getF f = s.getF f := h.readies.getF hf

theorem Reacts.groupOf (h : Reacts l s t) (hl : ∀ f ∈ l, f.ofOutputs) {e : Nat} (he : e < 40) : t.groupOf e = s.groupOf e :=
  groupOf_congr (fun f hf _ hlo => h.getF (not_mem_of_not_ofOutputs hl (.inl (by unfold Fld.key; omega)))) he

/-! LDOs. -/

theorem ldoFields_ofOutputs {n : Nat} (hn : n < 6) : ∀ f ∈ ldoFields n, f.ofOutputs := by
  intro f hf
  simp only [ldoFields, List.mem_cons, List.not_mem_nil, or_false] at hf
  rcases hf with rfl | rfl | rfl | rfl | rfl
  all_goals refine ⟨?_, ?_, ?_⟩ <;> simp only <;> omega

/-- An LDO that was not ON takes a state other than LOCKED_OFF without any other change. -/
theorem setLdoState_of_not_on {n v : Nat} (hs : s.ldoState n ≠ lON) (hv : v ≠ lLOCKED) :
    s.setLdoState n v = s.setF (Reg.LDO_STAT_state n) v := by
  simp [State.setLdoState, hs, hv]

/-- The pass device of LDO n turns off into state v, with the rest of its work as g leaves it. -/
def State.ldoEnds (s : State) (n v : Nat) (g : LdoSt → LdoSt) : State :=
  ((s.setLdoState n v).setMany [(Reg.LDO_STAT_dropout n, 0), (Reg.LDO_STAT_ilim n, 0)]).updLdo n g

theorem ldoEnds_reacts (s : State) (n v : Nat) (g : LdoSt → LdoSt) : Reacts (ldoFields n) s (s.ldoEnds n v g) := by
  have hstate : Acts (ldoFields n) s (s.setLdoState n v) :=
    ((Acts.refl _ s).setF v (by simp [ldoFields])).trans ((setLdoState_acts s n v).mono (by simp [ldoFields, pgFields]))
  have hbits := hstate.setMany (x := [(Reg.LDO_STAT_dropout n, 0), (Reg.LDO_STAT_ilim n, 0)]) (by simp [ldoFields])
  exact hbits.reacts.unshown rfl

theorem ldoEnds_ldoState (hw : Cells.wf s.fields = true) {n v : Nat} (hn : n < 6) (hv : v < 4) (g : LdoSt → LdoSt) :
    (s.ldoEnds n v g).ldoState n = v := by
  have hbits : (s.ldoEnds n v g).ldoState n = (s.setLdoState n v).ldoState n :=
    getF_setMany_ne _ _ _ (by simp [Fld.key])
  have hpg : (Reg.LDO_STAT_state n).key ∉ (pgFields (8 + n)).map Fld.key := by
    simp only [pgFields, List.map_cons, List.map_nil, List.mem_cons, List.not_mem_nil, or_false, Fld.key]
    omega
  exact hbits.trans (((setLdoState_acts s n v).getF hpg).trans ((getF_setF_same _ _ _ hw).trans (Nat.mod_eq_of_lt hv)))

theorem ldoLock_reacts (s : State) (n : Nat) : Reacts (ldoFields n) s (s.ldoLock n) := ldoEnds_reacts s n lLOCKED _

theorem ldoLock_ldoState (hw : Cells.wf s.fields = true) {n : Nat} (hn : n < 6) : (s.ldoLock n).ldoState n = lLOCKED :=
  ldoEnds_ldoState hw hn (by decide) _

theorem ldoToOff_reacts (s : State) (n : Nat) : Reacts (ldoFields n) s (s.ldoToOff n) := ldoEnds_reacts s n lOFF _

/-- What clearing the enable of an LDO may change. -/
def ldoOffed (n : Nat) : List Fld := Reg.LDO_CTRL_en n :: ldoFields n

theorem ldoOffed_ofOutputs {n : Nat} (hn : n < 6) : ∀ f ∈ ldoOffed n, f.ofOutputs := by
  intro f hf
  rcases List.mem_cons.mp hf with rfl | hf
  · refine ⟨?_, ?_, ?_⟩ <;> simp only <;> omega
  · exact ldoFields_ofOutputs hn f hf

/-- An LDO whose enable is cleared stops at once, unless it is off or locked off. -/
theorem enOff_ldo_reacts (s : State) (n : Nat) : Reacts (ldoOffed n) s (s.enOff (.ldo n)) := by
  have hclear : Acts (ldoOffed n) s (s.setB (Reg.LDO_CTRL_en n) false) := (Acts.refl _ s).setB false (by simp [ldoOffed])
  show Reacts _ s ((s.setB (Reg.LDO_CTRL_en n) false).ldoStop n)
  unfold State.ldoStop
  split
  · exact hclear.reacts
  · exact hclear.reacts.trans ((ldoToOff_reacts _ n).mono (List.subset_cons_self _ _))

theorem enOff_ldo_bit (hw : Cells.wf s.fields = true) {n : Nat} (hn : n < 6) :
    (s.enOff (.ldo n)).bit (Reg.LDO_CTRL_en n) = false := by
  have hclear : (s.setB (Reg.LDO_CTRL_en n) false).bit (Reg.LDO_CTRL_en n) = false := bit_setB_same _ _ _ Nat.one_pos hw
  show ((s.setB (Reg.LDO_CTRL_en n) false).ldoStop n).bit _ = false
  unfold State.ldoStop
  split
  · exact hclear
  · refine ((ldoToOff_reacts _ n).readies.bit ?_).trans hclear
    simp only [ldoFields, List.map_cons, List.map_nil, List.mem_cons, List.not_mem_nil, or_false, Fld.key]
    omega

theorem enOff_ldo_ldoState (hw : Cells.wf s.fields = true) {n : Nat} (hn : n < 6) (hl : s.ldoState n ≠ lLOCKED) :
    (s.enOff (.ldo n)).ldoState n = lOFF := by
  have hstate : (s.setB (Reg.LDO_CTRL_en n) false).ldoState n = s.ldoState n := getF_setB_ne _ _ _ _ (by simp only [Fld.key]; omega)
  show ((s.setB (Reg.LDO_CTRL_en n) false).ldoStop n).ldoState n = lOFF
  unfold State.ldoStop
  split
  next h => simpa [hstate, hl] using h
  next => exact ldoEnds_ldoState (setF_fields_wf _ _ _ hw) hn (by decide) _

/-! ISO channels. -/

theorem isoFields_ofOutputs {n : Nat} (hn : n < 12) : ∀ f ∈ isoFields n, f.ofOutputs := by
  intro f hf
  simp only [isoFields, List.mem_cons, List.not_mem_nil, or_false] at hf
  rcases hf with rfl | rfl
  all_goals refine ⟨?_, ?_, ?_⟩ <;> simp only <;> omega

theorem setIsoState_reacts (s : State) (n v : Nat) : Reacts [Reg.ISO_STAT_state n] s (s.setIsoState n v) := by
  unfold State.setIsoState
  extract_lets set q queued
  have hqueued : Reacts [Reg.ISO_STAT_state n] s queued := ((Acts.refl _ s).setF v List.mem_cons_self).reacts.unshown rfl
  clear_value queued
  split
  · exact hqueued
  next c hc =>
    extract_lets low
    have hlow : Reacts [Reg.ISO_STAT_state n] s low := by
      unfold low
      split
      · exact hqueued
      · exact hqueued.trans ((disarmLo_acts _ queued c).endCause _ _ _).reacts
    clear_value low
    split
    · exact hlow
    · exact hlow.trans (((disarmHi_acts _ low c).endCause _ _ _).endCause _ _ _).reacts

theorem setIsoState_isoFields (s : State) (n v : Nat) : Reacts (isoFields n) s (s.setIsoState n v) :=
  (setIsoState_reacts s n v).mono (by simp [isoFields])

/-- A channel stands in the start queue while it waits, behind those that waited before (R243). -/
theorem setIsoState_isoQueue (s : State) (n v : Nat) :
    (s.setIsoState n v).isoQueue = if v = iWAIT then s.isoQueue.filter (· != n) ++ [n] else s.isoQueue.filter (· != n) := by
  unfold State.setIsoState
  dsimp only
  split
  · rfl
  · split <;> split <;> rfl

/-- No lasting cause has begun. -/
def NoneBegun (s t : State) : Prop := t.flt.causes ⊆ s.flt.causes

theorem NoneBegun.refl (s : State) : NoneBegun s s := List.Subset.refl _

theorem NoneBegun.trans (h : NoneBegun s t) (k : NoneBegun t u) : NoneBegun s u := List.Subset.trans k h

theorem NoneBegun.endCause (h : NoneBegun s t) (cls src cause : Nat) : NoneBegun s (t.endCause cls src cause) :=
  List.Subset.trans (List.filter_subset_self _) h

theorem NoneBegun.disarmLo (h : NoneBegun s t) (c : Nat) : NoneBegun s (t.disarmLo c) := (h.endCause cRAILV c 0).endCause cRAILV c 2

theorem NoneBegun.disarmHi (h : NoneBegun s t) (c : Nat) : NoneBegun s (t.disarmHi c) := (h.endCause cRAILV c 1).endCause cRAILV c 3

theorem NoneBegun.present (h : NoneBegun s t) {cls src cause : Nat} (hs : s.present cls src cause = false) :
    t.present cls src cause = false := by
  unfold State.present at *
  rw [List.contains_eq_mem, decide_eq_false_iff_not] at *
  exact fun hmem => hs (h hmem)

/-- A new state of a channel ends causes of its monitor (log entry 10). -/
theorem setIsoState_noneBegun (s : State) (n v : Nat) : NoneBegun s (s.setIsoState n v) := by
  unfold State.setIsoState
  extract_lets set q queued
  have hqueued : NoneBegun s queued := .refl s
  clear_value queued
  split
  · exact hqueued
  next c hc =>
    extract_lets low
    have hlow : NoneBegun s low := by
      unfold low
      split
      · exact hqueued
      · exact (hqueued.disarmLo c).endCause _ _ _
    clear_value low
    split
    · exact hlow
    · exact ((hlow.disarmHi c).endCause _ _ _).endCause _ _ _

/-! Several channels in turn. -/

/-- Each channel of a list takes state v. -/
def State.isoAll (s : State) (xs : List Nat) (v : Nat) : State := s.each xs fun n t => t.setIsoState n v

theorem isoAll_cons (s : State) (x v : Nat) (xs : List Nat) : s.isoAll (x :: xs) v = (s.setIsoState x v).isoAll xs v := rfl

theorem isoAll_reacts (s : State) (xs : List Nat) (v : Nat) : Reacts (xs.flatMap isoFields) s (s.isoAll xs v) :=
  (Reacts.refl _ s).each fun x hx u => (setIsoState_isoFields u x v).mono fun _ hf => List.mem_flatMap.mpr ⟨x, hx, hf⟩

theorem isoAll_ofOutputs {xs : List Nat} (hx : ∀ x ∈ xs, x < 12) : ∀ f ∈ xs.flatMap isoFields, f.ofOutputs := by
  intro f hf
  obtain ⟨x, hmem, hf⟩ := List.mem_flatMap.mp hf
  exact isoFields_ofOutputs (hx x hmem) f hf

theorem isoAll_isoState {xs : List Nat} {n v : Nat} (hv : v < 8) (hn : n ∈ xs) (hs : s.canonical) :
    (s.isoAll xs v).isoState n = v := by
  induction xs generalizing s with
  | nil => cases hn
  | cons x xs ih =>
    rw [isoAll_cons]
    by_cases hmem : n ∈ xs
    · exact ih hmem ((setIsoState_reacts s x v).readies.canonical hs)
    · obtain rfl : n = x := (List.mem_cons.mp hn).resolve_right hmem
      refine ((isoAll_reacts _ xs v).getF fun hkey => ?_).trans (setIsoState_isoState hs.1 n hv)
      obtain ⟨f, hf, he⟩ := List.mem_map.mp hkey
      obtain ⟨y, hy, hf⟩ := List.mem_flatMap.mp hf
      have hne : n ≠ y := fun h => hmem (h ▸ hy)
      simp only [isoFields, List.mem_cons, List.not_mem_nil, or_false] at hf
      rcases hf with rfl | rfl <;> simp only [Fld.key] at he <;> omega

/-- Channels that did not wait join the start queue in the order of the list (R244). -/
theorem isoAll_wait_isoQueue {xs : List Nat} (hd : xs.Nodup) (hq : ∀ x ∈ xs, x ∉ s.isoQueue) :
    (s.isoAll xs iWAIT).isoQueue = s.isoQueue ++ xs := by
  induction xs generalizing s with
  | nil => simp [State.isoAll, State.each]
  | cons x xs ih =>
    obtain ⟨hx, hd⟩ := List.nodup_cons.mp hd
    have hqueue : (s.setIsoState x iWAIT).isoQueue = s.isoQueue ++ [x] := by
      have hkeep : s.isoQueue.filter (· != x) = s.isoQueue :=
        List.filter_eq_self.mpr fun y hy => bne_iff_ne.mpr fun h => hq x List.mem_cons_self (h ▸ hy)
      rw [setIsoState_isoQueue, if_pos rfl, hkeep]
    rw [isoAll_cons, ih hd, hqueue, List.append_assoc, List.singleton_append]
    intro y hy
    rw [hqueue, List.mem_append, List.mem_singleton, not_or]
    exact ⟨hq y (List.mem_cons_of_mem _ hy), fun h => hx (h ▸ hy)⟩

theorem isoAll_noneBegun (s : State) (xs : List Nat) (v : Nat) : NoneBegun s (s.isoAll xs v) := by
  induction xs generalizing s with
  | nil => exact .refl s
  | cons x xs ih => exact (setIsoState_noneBegun s x v).trans (ih _)

theorem isoIn_lt {xs : List Nat} {n : Nat} (h : n ∈ s.isoIn xs) : n < 12 := List.mem_range.mp (List.mem_of_mem_filter h)

end

end Sys2Proof.Machine
end

section
/-!
PROOFS. The end of a row whose event locks an LDO or an ISO channel off (R246, R254, R283, R284).
-/

namespace Sys2Proof.Machine

section
variable {l m : List Fld} {e : Ev} {s t u : State}

theorem Reacted.frameLog (h : Reacted l e u t) (hu : Undisturbed m s u) :
    FrameLog (m ++ (l ++ judgedFields)) 1 (evCode e.cls e.src e.lvl) s t := by
  refine ⟨(hu.kept.mono ?_).trans (h.kept.mono ?_), hu.stores.trans h.stores, h.logged.after hu.win hu.logNext⟩
  · exact fun f hf => List.mem_map_of_mem (List.mem_append_left _ hf)
  · intro f hf
    refine List.mem_map_of_mem (List.mem_append_right _ ?_)
    rw [List.append_assoc] at hf
    rcases List.mem_append.mp hf with hf | hf
    · exact List.mem_append_left _ hf
    · exact List.mem_append_right _ (classFields_judged _ hf)

theorem raise_getF (s : State) (e : Ev) (f : Fld) : (s.raise e).getF f = s.getF f := by
  unfold State.raise
  split <;> rfl

/-- The state on which the action of an event works that this row has raised. -/
def State.struck (s : State) (e : Ev) : State := (s.raise e).classified e

/-- A row has changed fields of outputs, and raises an event at L3 that keeps its level. -/
structure Strikes (m : List Fld) (e : Ev) (s u : State) : Prop where
  readies : Readies m s u
  outputs : ∀ f ∈ m, f.ofOutputs
  ready : s.ready
  up : s.romUp = true
  fresh : s.fresh e.cls
  lvl : e.lvl = 3
  cls : e.cls < 16
  src : e.src < 128

theorem Strikes.waits (h : Strikes m e s u) : Waits e (u.raise e) := by
  obtain ⟨hu, hm, hs, hr, hf, hl, hc, hsrc⟩ := h
  have hout {f : Fld} (hkey : f.key < 0x100000) : u.getF f = s.getF f := hu.getF (not_mem_of_not_ofOutputs hm (.inl hkey))
  have hready : u.ready := hu.ready hs (not_mem_of_not_ofOutputs hm (.inl (by decide)))
  have hup : u.romUp = true := (hu.romUp (not_mem_of_not_ofOutputs hm (.inl (by decide)))).trans hr
  have hfresh : u.fresh e.cls := by
    unfold State.fresh
    rwa [hout (by decide)]
  exact waits_raise hready hup (effective_of_fresh hfresh) ⟨by omega, hc, hsrc⟩

theorem Strikes.canonical (h : Strikes m e s u) : (u.struck e).canonical := h.waits.classified.canonical h.waits.canonical

/-- Classification reaches no field of the outputs. -/
theorem Strikes.getF (h : Strikes m e s u) {f : Fld} (hf : f.ofOutputs) : (u.struck e).getF f = u.getF f := by
  obtain ⟨hlo, hhi, hb⟩ := hf
  exact (h.waits.classified.getF (classFields_not_mem _ (by omega) hhi hb)).trans (raise_getF u e f)

/-- Nor their groups, which the row has left too. -/
theorem Strikes.groupOf (h : Strikes m e s u) {k : Nat} (hk : k < 40) : (u.struck e).groupOf k = s.groupOf k := by
  refine (h.waits.classified_groupOf hk).trans (groupOf_congr (fun f hf _ hlo => (raise_getF u e f).trans (h.readies.getF ?_)) hk)
  exact not_mem_of_not_ofOutputs h.outputs (.inl (by unfold Fld.key; omega))

/-- The row ends with its event acted on and recorded. -/
theorem Strikes.done (h : Strikes m e s u) (hl : ∀ f ∈ l, f.ofOutputs) {v : State} (hact : (u.struck e).acted (e, 3) = v)
    (hv : Reacts l (u.struck e) v) :
    ∃ t, (u.raise e).done = .next t ∧ (∀ f : Fld, f.ofOutputs → t.getF f = v.getF f) ∧ Noted e.cls e.src 3 t
      ∧ FrameLog (m ++ (l ++ judgedFields)) 1 (evCode e.cls e.src 3) s t := by
  subst hact
  have hlvl := h.lvl
  obtain ⟨t, hdone, hend⟩ := h.waits.done_reacts (l := l) (by omega) (by rwa [hlvl]) (markFields_not_mem hl)
  have hnoted := hend.noted
  have hframe := hend.frameLog (h.readies.undisturbed.raise e)
  have hkept := hend.actedKept
  rw [hlvl] at hnoted hframe hkept
  exact ⟨t, hdone, fun f hf => hkept f (pinFields_not_mem hf), hnoted, hframe⟩

/-! An ISO channel. -/

/-- An event of ISO channel n at L3 (R246). -/
def isoEv (n cause : Nat) : Ev := { cls := cISO, src := n, lvl := 3, cause := cause }

theorem acted_iso {n : Nat} (hn : n < 12) (cause : Nat) (hg : s.groupOf (14 + n) = 0) :
    s.acted (isoEv n cause, 3) = s.setIsoState n iLOCKED := by
  have hlock : s.lockEntry (14 + n) = s.setIsoState n iLOCKED := by
    have hout : entryOut (14 + n) = some (.iso n) := by
      unfold entryOut
      rw [if_neg (by omega), if_neg (by omega), if_pos (by omega), Nat.add_sub_cancel_left]
    simp [State.lockEntry, hout]
  have hgroup : (s.setIsoState n iLOCKED).groupOf (14 + n) = 0 :=
    ((setIsoState_isoFields s n _).groupOf (isoFields_ofOutputs hn) (by omega)).trans hg
  have h3 : s.actL3 (isoEv n cause) = (s.lockEntry (14 + n)).groupOff [14 + n] := by
    simp [State.actL3, State.l3Entries, isoEv, hn, State.each]
  rw [acted_three, h3, hlock, groupOff_of_ungrouped hgroup]
  exact if_neg (by simp [isoEv])

/-! An LDO. -/

/-- The event of an LDO at its current limit (R254). -/
def ldoEv (n : Nat) : Ev := { cls := cRAILI, src := 8 + n, lvl := 3, cause := 0 }

theorem entryOut_ldo {n : Nat} (hn : n < 6) : entryOut (8 + n) = some (.ldo n) := by
  unfold entryOut
  rw [if_neg (by omega), if_pos (by omega), Nat.add_sub_cancel_left]

theorem acted_ldo {n : Nat} (hn : n < 6) : s.acted (ldoEv n, 3) = (s.ldoLock n).groupOff [8 + n] := by
  have hlock : s.lockEntry (8 + n) = s.ldoLock n := by simp [State.lockEntry, entryOut_ldo hn]
  have h14 : 8 + n < 14 := by omega
  have h3 : s.actL3 (ldoEv n) = (s.lockEntry (8 + n)).groupOff [8 + n] := by
    simp [State.actL3, State.l3Entries, ldoEv, h14, State.each]
  rw [acted_three, h3, hlock]
  exact if_neg (by simp [ldoEv])

/-- Of a group with two LDOs the one that failed stays locked off, and the other loses its enable. -/
theorem groupOff_pair {n m : Nat} (hm : m < 6) (hne : n ≠ m) (hg : s.groupOf (8 + n) ≠ 0)
    (hpair : ∀ e < 26, s.groupOf e = s.groupOf (8 + n) ↔ e = 8 + n ∨ e = 8 + m) :
    s.groupOff [8 + n] = s.enOff (.ldo m) := by
  have hothers : ((List.range 26).filter fun e => !([8 + n].contains e) && [s.groupOf (8 + n)].contains (s.groupOf e)) = [8 + m] := by
    have hone : ∀ k < 26, (List.range 26).filter (· == k) = [k] := by decide
    rw [← hone (8 + m) (by omega)]
    refine List.filter_congr fun e he => ?_
    have hiff := hpair e (List.mem_range.mp he)
    rw [Bool.eq_iff_iff]
    simp only [List.contains_eq_mem, List.mem_singleton, Bool.and_eq_true, Bool.not_eq_true', decide_eq_false_iff_not,
      decide_eq_true_eq, beq_iff_eq, hiff]
    omega
  have hgroups : ([8 + n].map s.groupOf).filter (· != 0) = [s.groupOf (8 + n)] := by simp [hg]
  unfold State.groupOff
  simp only [hgroups, hothers, each_singleton, entryOut_ldo hm]

end

end Sys2Proof.Machine
end

section
/-!
PROOFS. The rows of the isolated channels (R242-R246, R249).
-/

namespace Sys2Proof.Machine

section
variable {n : Fin 12} {s : State}

/-! Rows that raise no event. -/

theorem isoQueueStart_starts {rest : List Nat} (hs : s.ready) (hq : s.isoQueue = n.val :: rest) :
    Completes .isoQueueStart s fun t => t.isoState n = iSS ∧ t.isoQueue = rest.filter (fun j => j != n.val) ∧ Frame (isoFields n) s t := by
  have hset := setIsoState_isoFields s n iSS
  have hexec : exec .isoQueueStart s = (s.setIsoState n iSS).done := by
    show execIsoQueueStart s = _
    unfold execIsoQueueStart
    rw [hq]
  refine hset.readies.completes hs hexec (not_mem_of_not_ofOutputs (isoFields_ofOutputs n.isLt) (.inl (by decide)))
    ⟨setIsoState_isoState hs.1.1 n (by decide), ?_, hset.readies.undisturbed.frame⟩
  rw [setIsoState_isoQueue, if_neg (by decide), hq]
  simp

/-- Power-good of early outputs shows in SYS_BOOT_STAT.early_up alone (R411). -/
theorem earlyPg_readies (s : State) : Readies [Reg.SYS_BOOT_STAT_early_up] s s.earlyPg := by
  unfold State.earlyPg
  split
  · exact .refl _ s
  · extract_lets new good
    have hgood : Readies [Reg.SYS_BOOT_STAT_early_up] s good := (Readies.refl _ s).updSys rfl rfl
    exact .ite (.refl _ s) (.ite (hgood.setB true List.mem_cons_self) hgood)

theorem isoSoftstartDone_ends (hs : s.ready) (hst : s.isoState n = iSS) :
    Completes (.isoSoftstartDone n) s fun t => t.isoState n = iON ∧ Frame [Reg.ISO_STAT_state n, Reg.SYS_BOOT_STAT_early_up] s t := by
  have hpg := earlyPg_readies (s.setIsoState n iON)
  have hall : Readies [Reg.ISO_STAT_state n, Reg.SYS_BOOT_STAT_early_up] s (s.setIsoState n iON).earlyPg :=
    ((setIsoState_reacts s n iON).readies.mono (by simp)).trans (hpg.mono (by simp))
  refine hall.completes hs (if_pos hst) ?_ ⟨?_, hall.undisturbed.frame⟩
  · simp only [List.map_cons, List.map_nil, List.mem_cons, List.not_mem_nil, or_false, Fld.key]
    omega
  · refine (hpg.getF ?_).trans (setIsoState_isoState hs.1.1 n (by decide))
    simp only [List.map_cons, List.map_nil, List.mem_singleton, Fld.key]
    omega

theorem isopwrRestored_queues (hs : s.ready) (hq : (s.isoQueue.all fun n => s.isoState n == iWAIT) = true) :
    Completes .isopwrRestored s fun t => t.isoQueue = s.isoQueue ++ s.isoIn [iPAUSED] ∧ t.present cISO 12 0 = false
      ∧ ((s.isoIn [iPAUSED]).all fun n => t.isoState n == iWAIT) = true ∧ Frame ((s.isoIn [iPAUSED]).flatMap isoFields) s t := by
  have hended : Reacts ((s.isoIn [iPAUSED]).flatMap isoFields) s (s.endCause cISO 12 0) := ((Acts.refl _ s).endCause _ _ _).reacts
  have hall := hended.trans (isoAll_reacts (s.endCause cISO 12 0) (s.isoIn [iPAUSED]) iWAIT)
  have hexec : exec .isopwrRestored s = ((s.endCause cISO 12 0).isoAll (s.isoIn [iPAUSED]) iWAIT).done := rfl
  refine hall.readies.completes hs hexec (not_mem_of_not_ofOutputs (isoAll_ofOutputs fun _ => isoIn_lt) (.inl (by decide)))
    ⟨?_, ?_, ?_, hall.readies.undisturbed.frame⟩
  · refine isoAll_wait_isoQueue (List.nodup_range.filter _) fun x hx hmem => ?_
    have hpaused : s.isoState x = iPAUSED := by simpa [State.isoIn] using (List.mem_filter.mp hx).2
    have hwait := List.all_eq_true.mp hq x hmem
    simp [hpaused] at hwait
  · exact (isoAll_noneBegun _ _ _).present (present_endCause s cISO 12 0)
  · exact List.all_eq_true.mpr fun x hx => beq_iff_eq.mpr (isoAll_isoState (by decide) hx (hended.readies.canonical hs.1))

theorem isoUnlock_frees (hs : s.ready) (hst : s.isoState n = iLOCKED) (hen : s.bit (Reg.ISO_CTRL_en n) = false)
    (hclear : s.statusLvl cISO n = none) : Completes (.isoUnlock n) s fun t => t.isoState n = iOFF ∧ Frame (isoFields n) s t := by
  have hset := setIsoState_isoFields s n iOFF
  have hexec : exec (.isoUnlock n) s = (s.setIsoState n iOFF).done :=
    congrArg State.done (if_pos (by simp [hst, hen, hclear]))
  exact hset.readies.completes hs hexec (not_mem_of_not_ofOutputs (isoFields_ofOutputs n.isLt) (.inl (by decide)))
    ⟨setIsoState_isoState hs.1.1 n (by decide), hset.readies.undisturbed.frame⟩

/-! The fall of ISOPWR. -/

/-- The event of ISOPWR below its threshold (R244). -/
def isopwrEv : Ev := { cls := cISO, src := 12, lvl := 1, cause := 0 }

theorem isopwrUndervoltage_pauses (hs : s.ready) (hr : s.romUp = true) (hnew : s.present cISO 12 0 = false) :
    Completes .isopwrUndervoltage s fun t => ((s.isoIn [iWAIT, iSS, iON]).all fun n => t.isoState n == iPAUSED) = true ∧ Noted cISO 12 1 t
      ∧ t.present cISO 12 0 = true
      ∧ FrameLog ((s.isoIn [iWAIT, iSS, iON]).flatMap isoFields ++ noteFields) 1 (evCode cISO 12 1) s t := by
  have hpause := isoAll_reacts s (s.isoIn [iWAIT, iSS, iON]) iPAUSED
  have hlt : ∀ x ∈ s.isoIn [iWAIT, iSS, iON], x < 12 := fun _ => isoIn_lt
  have hstate {x : Nat} (hx : x ∈ s.isoIn [iWAIT, iSS, iON]) : (s.isoAll (s.isoIn [iWAIT, iSS, iON]) iPAUSED).isoState x = iPAUSED :=
    isoAll_isoState (by decide) hx hs.1
  have hgone : (s.isoAll (s.isoIn [iWAIT, iSS, iON]) iPAUSED).present cISO 12 0 = false := (isoAll_noneBegun _ _ _).present hnew
  have hexec : exec .isopwrUndervoltage s = ((s.isoAll (s.isoIn [iWAIT, iSS, iON]) iPAUSED).raiseLasting isopwrEv).done := rfl
  generalize s.isoAll (s.isoIn [iWAIT, iSS, iON]) iPAUSED = u at hpause hstate hgone hexec
  have hout := isoAll_ofOutputs hlt
  have hready : u.ready := hpause.readies.ready hs (not_mem_of_not_ofOutputs hout (.inl (by decide)))
  have hup : u.romUp = true := (hpause.readies.romUp (not_mem_of_not_ofOutputs hout (.inl (by decide)))).trans hr
  have hwaits := waits_raiseLasting (e := isopwrEv) hready hgone hup (effective_of_low u (by decide)) ⟨by decide, by decide, by decide⟩
  have hraise := raiseLasting_eq (e := isopwrEv) (v := u) hgone hup
  obtain ⟨t, hdone, hev, hcauses⟩ := hwaits.done_low_causes (by decide)
  refine ⟨t, hexec.trans hdone, List.all_eq_true.mpr fun x hx => beq_iff_eq.mpr ?_, hev.noted (by decide), ?_,
    hev.frameLog_low (by decide) (hpause.readies.undisturbed.raiseLasting isopwrEv)⟩
  · have hx12 := hlt x hx
    have hkey : (Reg.ISO_STAT_state x).key ∉ ([] ++ classFields isopwrEv.lvl ++ pinFields).map Fld.key := by
      rw [List.nil_append, List.map_append, List.mem_append, not_or]
      exact ⟨classFields_not_mem _ (by simp only; omega) (by simp only; omega) (by simp only; omega),
        pinFields_not_mem ⟨by simp only; omega, by simp only; omega, by simp only; omega⟩⟩
    refine (hev.kept _ hkey).trans ?_
    rw [hraise, updFlt_getF]
    exact hstate hx
  · rw [State.present, hcauses, hraise, updFlt_flt]
    simp [isopwrEv]

/-! Supervision. -/

/-- A channel in ON that fails is locked off by its row, and again by the action of its event. -/
theorem isoTrip_locks {i : Instr} {b : Fld} {cause : Nat} (hs : s.ready) (hr : s.romUp = true) (hst : s.isoState n = iON)
    (hf : s.fresh cISO) (hg : s.groupOf (14 + n) = 0) (hb : b.addr = 0x18018 + 0x80 * n.val ∧ b.lo < 16 ∧ 0 < b.w)
    (hexec : exec i s = (s.isoTrip n b cause).done) :
    Completes i s fun t => t.isoState n = iLOCKED ∧ t.bit b = true ∧ Noted cISO n 3 t
      ∧ FrameLog (b :: isoFields n ++ judgedFields) 1 (evCode cISO n 3) s t := by
  have hn := n.isLt
  obtain ⟨haddr, hlo, hw⟩ := hb
  have hbout : b.ofOutputs := ⟨by omega, by omega, hlo⟩
  have hstout : (Reg.ISO_STAT_state n).ofOutputs := ⟨by simp only; omega, by simp only; omega, by simp only; omega⟩
  have hbkey : b.key ∉ (isoFields n).map Fld.key := by
    simp only [isoFields, List.map_cons, List.map_nil, List.mem_cons, List.not_mem_nil, or_false, Fld.key]
    omega
  have hset := setIsoState_isoFields s n iLOCKED
  have hrow : Readies (b :: isoFields n) s ((s.setIsoState n iLOCKED).setB b true) :=
    (hset.readies.mono (List.subset_cons_self _ _)).setB true List.mem_cons_self
  have hbit : ((s.setIsoState n iLOCKED).setB b true).bit b = true := bit_setB_same _ _ _ hw (hset.readies.canonical hs.1).1
  have htrip : s.isoTrip n b cause = ((s.setIsoState n iLOCKED).setB b true).raise (isoEv n cause) := if_pos hst
  generalize (s.setIsoState n iLOCKED).setB b true = u at hrow hbit htrip
  have hstrikes : Strikes (b :: isoFields n) (isoEv n cause) s u :=
    ⟨hrow, List.forall_mem_cons.mpr ⟨hbout, isoFields_ofOutputs hn⟩, hs, hr, hf, rfl, (by decide : cISO < 16), (by omega : n.val < 128)⟩
  have hlock := setIsoState_isoFields (u.struck (isoEv n cause)) n iLOCKED
  obtain ⟨t, hdone, hkept, hnoted, hframe⟩ := hstrikes.done (isoFields_ofOutputs hn)
    (acted_iso hn cause ((hstrikes.groupOf (by omega)).trans hg)) hlock
  refine ⟨t, by rw [hexec, htrip, hdone], (hkept _ hstout).trans (setIsoState_isoState hstrikes.canonical.1 n (by decide)), ?_, hnoted,
    hframe.mono ?_⟩
  · unfold State.bit at *
    rwa [hkept b hbout, hlock.getF hbkey, hstrikes.getF hbout]
  · refine List.append_subset.mpr ⟨List.subset_append_left _ _, List.append_subset.mpr ⟨?_, List.subset_append_right _ _⟩⟩
    exact fun _ hf => List.mem_append_left _ (List.mem_cons_of_mem _ hf)

theorem isoOpenWinding_locks (sideB : Bool) (hs : s.ready) (hr : s.romUp = true) (hst : s.isoState n = iON) (hf : s.fresh cISO)
    (hg : s.groupOf (14 + n) = 0) :
    Completes (.isoOpenWinding n sideB) s fun t => t.isoState n = iLOCKED
      ∧ t.bit (if sideB then Reg.ISO_FLT_open_b n else Reg.ISO_FLT_open_a n) = true ∧ Noted cISO n 3 t
      ∧ FrameLog ((if sideB then Reg.ISO_FLT_open_b n else Reg.ISO_FLT_open_a n) :: isoFields n ++ judgedFields) 1
          (evCode cISO n 3) s t := by
  cases sideB with
  | false => exact isoTrip_locks (cause := 2) hs hr hst hf hg ⟨rfl, by simp, by simp⟩ rfl
  | true => exact isoTrip_locks (cause := 3) hs hr hst hf hg ⟨rfl, by simp, by simp⟩ rfl

end

/-- Settles O41: a new state of a channel changes that field alone (`setIsoState_reacts`), moves it in the start queue
(`setIsoState_isoQueue`) and begins no cause; a supervision event locks its channel off a second time and acts on nothing else
(`isoTrip_locks`). -/
theorem isoRows : Obligations.IsoRows := by
  unfold Obligations.IsoRows
  refine ⟨?_, ?_, ?_, ?_, ?_, ?_, ?_, ?_⟩
  · intro n rest s hs hq
    exact isoQueueStart_starts hs hq
  · intro n s hs hst
    exact isoSoftstartDone_ends hs hst
  · intro s hs hr hnew
    exact isopwrUndervoltage_pauses hs hr hnew
  · intro s hs hq
    exact isopwrRestored_queues hs hq
  · intro n s hs hr hst hf hg
    exact isoTrip_locks (cause := 0) hs hr hst hf hg ⟨rfl, by simp, by simp⟩ rfl
  · intro n s hs hr hst hf hg
    exact isoTrip_locks (cause := 1) hs hr hst hf hg ⟨rfl, by simp, by simp⟩ rfl
  · intro n b s hs hr hst hf hg
    exact isoOpenWinding_locks b hs hr hst hf hg
  · intro n s hs hst hen hclear
    exact isoUnlock_frees hs hst hen hclear

end Sys2Proof.Machine
end

section
/-!
PROOFS. The rows of the linear regulators (R253, R254, R284).
-/

namespace Sys2Proof.Machine

section
variable {n : Fin 6} {s : State}

theorem ldo_updLdo (s : State) {k : Nat} (hk : k < s.ldos.length) (g : LdoSt → LdoSt) : (s.updLdo k g).ldo k = g (s.ldo k) := by
  simp [State.ldo, State.updLdo, hk]

/-! Rows that raise no event. -/

theorem ldoRampDone_ends (hs : s.ready) (hst : s.ldoState n = lRAMP) (hlen : n.val < s.ldos.length) :
    Completes (.ldoRampDone n) s fun t => t.ldoState n = lON ∧ (t.ldo n).target = s.getF (Reg.LDO_VSET_vset n)
      ∧ Frame [Reg.LDO_STAT_state n] s t := by
  have hon : s.setLdoState n lON = s.setF (Reg.LDO_STAT_state n) lON := setLdoState_of_not_on (by simp [hst]) (by decide)
  have hset : Acts [Reg.LDO_STAT_state n] s (s.setF (Reg.LDO_STAT_state n) lON) := (Acts.refl _ s).setF lON List.mem_cons_self
  have hall : Reacts [Reg.LDO_STAT_state n] s
      ((s.setF (Reg.LDO_STAT_state n) lON).updLdo n fun l => { l with target := s.getF (Reg.LDO_VSET_vset n) }) :=
    hset.reacts.unshown rfl
  have hexec : exec (.ldoRampDone n) s
      = ((s.setF (Reg.LDO_STAT_state n) lON).updLdo n fun l => { l with target := s.getF (Reg.LDO_VSET_vset n) }).done :=
    (if_pos hst).trans (by rw [hon])
  refine hall.readies.completes hs hexec ?_ ⟨?_, ?_, hall.readies.undisturbed.frame⟩
  · simp only [List.map_cons, List.map_nil, List.mem_singleton, Fld.key]
    omega
  · exact getF_setF_same s _ _ hs.1.1
  · rw [ldo_updLdo (s.setF (Reg.LDO_STAT_state n) lON) hlen]

theorem ldoUnlock_frees (hs : s.ready) (hst : s.ldoState n = lLOCKED) (hen : s.bit (Reg.LDO_CTRL_en n) = false)
    (hi : s.statusAt cRAILI (8 + n) 3 = false) (hv : s.statusAt cRAILV (8 + n) 3 = false) :
    Completes (.ldoUnlock n) s fun t => t.ldoState n = lOFF ∧ Frame (ldoFields n) s t := by
  have hoff := ldoToOff_reacts s n
  have hexec : exec (.ldoUnlock n) s = (s.ldoToOff n).done := congrArg State.done (if_pos (by simp [hst, hen, hi, hv]))
  exact hoff.readies.completes hs hexec (not_mem_of_not_ofOutputs (ldoFields_ofOutputs n.isLt) (.inl (by decide)))
    ⟨ldoToOff_ldoState hs.1.1 n.isLt, hoff.readies.undisturbed.frame⟩

/-! The current limit. -/

theorem exec_ldoCurrentLimit (hst : s.ldoState n = lRAMP ∨ s.ldoState n = lON) :
    exec (.ldoCurrentLimit n) s = ((s.ldoLock n).raise (ldoEv n)).done :=
  if_neg (by rcases hst with h | h <;> simp [h])

theorem ldoLock_strikes (hs : s.ready) (hr : s.romUp = true) (hf : s.fresh cRAILI) : Strikes (ldoFields n) (ldoEv n) s (s.ldoLock n) :=
  ⟨(ldoLock_reacts s n).readies, ldoFields_ofOutputs n.isLt, hs, hr, hf, rfl, (by decide : cRAILI < 16), (by omega : 8 + n.val < 128)⟩

theorem ldoState_ofOutputs {k : Nat} (hk : k < 6) : (Reg.LDO_STAT_state k).ofOutputs :=
  ⟨by simp only; omega, by simp only; omega, by simp only; omega⟩

/-- An LDO of no group is locked off alone. -/
theorem ldoCurrentLimit_locks (hs : s.ready) (hr : s.romUp = true) (hst : s.ldoState n = lRAMP ∨ s.ldoState n = lON)
    (hf : s.fresh cRAILI) (hg : s.groupOf (8 + n) = 0) :
    Completes (.ldoCurrentLimit n) s fun t => t.ldoState n = lLOCKED ∧ Noted cRAILI (8 + n) 3 t
      ∧ FrameLog (ldoFields n ++ judgedFields) 1 (evCode cRAILI (8 + n) 3) s t := by
  have hn := n.isLt
  have hstrikes := ldoLock_strikes (n := n) hs hr hf
  have hlock := ldoLock_reacts ((s.ldoLock n).struck (ldoEv n)) n
  have hgroup := (hlock.groupOf (ldoFields_ofOutputs hn) (by omega)).trans ((hstrikes.groupOf (k := 8 + n.val) (by omega)).trans hg)
  obtain ⟨t, hdone, hkept, hnoted, hframe⟩ :=
    hstrikes.done (ldoFields_ofOutputs hn) ((acted_ldo hn).trans (groupOff_of_ungrouped hgroup)) hlock
  refine ⟨t, (exec_ldoCurrentLimit hst).trans hdone, ?_, hnoted, hframe.mono ?_⟩
  · exact (hkept _ (ldoState_ofOutputs hn)).trans (ldoLock_ldoState hstrikes.canonical.1 hn)
  · exact List.append_subset.mpr ⟨List.subset_append_left _ _, List.Subset.refl _⟩

/-- The fields of one LDO are none of another's. -/
theorem ldoState_not_mem_ldoOffed {j k : Nat} (hne : j ≠ k) :
    (Reg.LDO_STAT_state j).key ∉ (ldoOffed k).map Fld.key := by
  simp only [ldoOffed, ldoFields, List.map_cons, List.map_nil, List.mem_cons, List.not_mem_nil, or_false, Fld.key]
  omega

/-- A group that no other output shares has these two members. -/
theorem groupOf_pair_iff {j k e : Nat} (hjk : s.groupOf (8 + k) = s.groupOf (8 + j))
    (honly : ((List.range 26).all fun e => e == 8 + j || e == 8 + k || s.groupOf e != s.groupOf (8 + j)) = true) (he : e < 26) :
    s.groupOf e = s.groupOf (8 + j) ↔ e = 8 + j ∨ e = 8 + k := by
  refine ⟨fun h => ?_, ?_⟩
  · simpa [h] using List.all_eq_true.mp honly e (List.mem_range.mpr he)
  · rintro (rfl | rfl)
    · rfl
    · exact hjk

/-- The other LDO of a group loses its enable with it. -/
theorem ldoCurrentLimit_locks_group {m : Fin 6} (hs : s.ready) (hr : s.romUp = true)
    (hst : s.ldoState n = lRAMP ∨ s.ldoState n = lON) (hne : n ≠ m) (hg : s.groupOf (8 + n) ≠ 0)
    (hm : s.groupOf (8 + m) = s.groupOf (8 + n)) (hf : s.fresh cRAILI)
    (honly : ((List.range 26).all fun e => e == 8 + n.val || e == 8 + m.val || s.groupOf e != s.groupOf (8 + n)) = true)
    (hml : s.ldoState m ≠ lLOCKED) :
    Completes (.ldoCurrentLimit n) s fun t => t.ldoState n = lLOCKED ∧ t.bit (Reg.LDO_CTRL_en m) = false ∧ t.ldoState m = lOFF
      ∧ FrameLog (Reg.LDO_CTRL_en m :: ldoFields m ++ ldoFields n ++ judgedFields) 1 (evCode cRAILI (8 + n) 3) s t := by
  have hn6 := n.isLt
  have hm6 := m.isLt
  have hne' : n.val ≠ m.val := fun h => hne (Fin.ext h)
  have hstrikes := ldoLock_strikes (n := n) hs hr hf
  have hlock := ldoLock_reacts ((s.ldoLock n).struck (ldoEv n)) n
  have hlocked := ldoLock_ldoState hstrikes.canonical.1 hn6
  have hgroups {e : Nat} (he : e < 40) : (((s.ldoLock n).struck (ldoEv n)).ldoLock n).groupOf e = s.groupOf e :=
    (hlock.groupOf (ldoFields_ofOutputs hn6) he).trans (hstrikes.groupOf he)
  have hother : (((s.ldoLock n).struck (ldoEv n)).ldoLock n).ldoState m = s.ldoState m := by
    have hkey : (Reg.LDO_STAT_state m).key ∉ (ldoFields n).map Fld.key := fun h =>
      ldoState_not_mem_ldoOffed hne'.symm (List.mem_cons_of_mem _ h)
    exact (hlock.getF hkey).trans ((hstrikes.getF (ldoState_ofOutputs hm6)).trans ((ldoLock_reacts s n).getF hkey))
  have hacted := acted_ldo (s := (s.ldoLock n).struck (ldoEv n)) hn6
  have hwf : Cells.wf (((s.ldoLock n).struck (ldoEv n)).ldoLock n).fields = true := (hlock.readies.canonical hstrikes.canonical).1
  generalize ((s.ldoLock n).struck (ldoEv n)).ldoLock n = v at hlock hlocked hgroups hother hacted hwf
  have hpair : ∀ e < 26, v.groupOf e = v.groupOf (8 + n) ↔ e = 8 + n.val ∨ e = 8 + m.val := by
    intro e he
    rw [hgroups (by omega), hgroups (by omega)]
    exact groupOf_pair_iff hm honly he
  rw [groupOff_pair hm6 hne' (by rwa [hgroups (by omega)]) hpair] at hacted
  have hoff := enOff_ldo_reacts v m
  have hall : Reacts (ldoFields n ++ ldoOffed m) ((s.ldoLock n).struck (ldoEv n)) (v.enOff (.ldo m)) :=
    (hlock.mono (List.subset_append_left _ _)).trans (hoff.mono (List.subset_append_right _ _))
  have hout : ∀ f ∈ ldoFields n ++ ldoOffed m, f.ofOutputs := List.forall_mem_append.mpr ⟨ldoFields_ofOutputs hn6, ldoOffed_ofOutputs hm6⟩
  obtain ⟨t, hdone, hkept, -, hframe⟩ := hstrikes.done hout hacted hall
  refine ⟨t, (exec_ldoCurrentLimit hst).trans hdone, ?_, ?_, ?_, hframe.mono ?_⟩
  · exact (hkept _ (ldoState_ofOutputs hn6)).trans ((hoff.getF (ldoState_not_mem_ldoOffed hne')).trans hlocked)
  · have hbit := enOff_ldo_bit hwf hm6
    unfold State.bit at *
    rwa [hkept _ (ldoOffed_ofOutputs hm6 _ List.mem_cons_self)]
  · exact (hkept _ (ldoState_ofOutputs hm6)).trans (enOff_ldo_ldoState hwf hm6 (by rwa [hother]))
  · intro f hf
    simp only [ldoOffed, List.mem_append, List.mem_cons] at hf ⊢
    tauto

end

/-- Settles O42: a current limit locks its LDO off in its row, and again in the action of its event, which then clears the enable of
the other LDO of a group (`groupOff_pair`); the other rows change the LDO's own fields alone. -/
theorem ldoRows : Obligations.LdoRows := by
  unfold Obligations.LdoRows
  refine ⟨?_, ?_, ?_, ?_⟩
  · intro n s hs hst hlen
    exact ldoRampDone_ends hs hst hlen
  · intro n s hs hr hst hf hg
    exact ldoCurrentLimit_locks hs hr hst hf hg
  · intro n m s hs hr hst hne hg hm hf honly hml
    exact ldoCurrentLimit_locks_group hs hr hst hne hg hm hf honly hml
  · intro n s hs hst hen hi hv
    exact ldoUnlock_frees hs hst hen hi hv

end Sys2Proof.Machine
end
